-- ==== Sys2Proof/Word.lean ====
section
/-! DEFINITION. The word types of the module and their plainest arithmetic. -/

namespace Sys2Proof

/-- A byte of memory, of a flit, of a frame. -/
abbrev Byte := BitVec 8

/-- An FP32 word (Table 03.2, row FP32), as its bits. -/
abbrev F32 := BitVec 32

/-- A scalar register's 64 bits. -/
abbrev Word64 := BitVec 64

end Sys2Proof
end

