-- ==== Sys2Proof/Syntax.lean ====
section
/-! DEFINITION. The commands of the module: one constructor of `Instr` per row of the spec's table.
The table gives no row an encoding, so a row's operands are what its rule needs from outside the block:
which part it concerns (a `Fin`, so that a part that does not exist cannot be named) and what that part saw. -/

namespace Sys2Proof

/-- The fields of an instruction word (Table 04.2). OPC is named by the command's constructor; where it names no opcode of Table
04.7, a reserved one, it stands in `opc` and the instruction raises 0x01 whatever the constructor (R65, R72). The reserved fields
stand here because R65 tests them. -/
structure PenWord where
  opc : Option (BitVec 8) := none
  imm : BitVec 64 := 0
  rsv63 : BitVec 8 := 0
  mod : BitVec 8 := 0
  rsv47 : BitVec 2 := 0
  sat : Bool := false
  sr : Bool := false
  rsv43 : BitVec 4 := 0
  cnd : BitVec 4 := 0
  ck : BitVec 2 := 0
  c : BitVec 5 := 0
  bk : BitVec 2 := 0
  b : BitVec 5 := 0
  ak : BitVec 2 := 0
  a : BitVec 5 := 0
  dk : BitVec 2 := 0
  d : BitVec 5 := 0
deriving DecidableEq, Repr

/-- A tick beacon's payload fields (Table 02.2); `rsv` gathers its reserved bits. -/
structure Beacon where
  membd : Nat
  schd : Nat
  chgIn : Nat
  nextLand : Nat
  land : Nat
  nextPeriod : Nat
  period : Nat
  epoch : Nat
  source : Nat
  rsv : Nat := 0
  reclaim : Bool := false
  dual : Bool := false
  active : Bool := false
  role : Nat
  type : Nat := 1
deriving DecidableEq, Repr

/-- A delay probe or probe reply (Table 02.5). -/
structure Probe where
  tlaunch : Nat
  tcapt : Nat
  pid : Nat
  inf : Nat
  outf : Nat
  source : Nat
  type : Nat
deriving DecidableEq, Repr

/-- A tick-dispute notice (Table 02.6) with the envelope's source address. -/
structure Dispute where
  src : Nat
  epoch : Nat
  diff : Int
  kind : Nat
  rsv : Nat := 0
deriving DecidableEq, Repr

/-- A steering notice (Table 08.6). -/
structure Notice where
  token : Nat
  seq : Nat := 0
  reason : Nat
  toLine : Nat
  fromLine : Nat
  lane : Nat
  fiber : Nat
  type : Nat
deriving DecidableEq, Repr

/-- One ring of an OE: a modulator ring (`rx = false`) or a drop-filter ring, on a fiber, for a line (R180). -/
structure Ring where
  rx : Bool
  fiber : Fin 96
  line : Fin 18
deriving DecidableEq, Repr

/-- One control block as received (Table 09.2): `carrier` is the lane that carried it. -/
structure CtrlBlock where
  /-- Sync header (Table 09.1). -/
  header : BitVec 2 := 2
  carrier : Nat
  ctype : Nat
  lane : Nat
  row : Nat
  info : Nat := 0xFF
  rxrdy : Bool := false
  thin : Bool := false
  dlane : Nat := 0
  map : List Nat := []
deriving DecidableEq, Repr

/-- One job of a trade grant (R141): its descriptor's 64 bytes, the image check values, and the parts that travel
with it (view table, bale list, session set). -/
structure TradedJob where
  desc : List Byte
  imgcrc : Nat
  ninstr : Nat
  views : List (BitVec 256)
  bales : List (BitVec 128)
  sessions : List Nat
deriving DecidableEq, Repr

/-- A received Ethernet frame as the MAC sees it (R264, R265). -/
structure EthFrame where
  dst : Nat
  vlanTags : List Nat := []
  pcp : Nat := 0
  fcsGood : Bool := true
  length : Nat
  etherType : Nat
  fragment : Bool := false
  dstIp : Nat := 0
  protocol : Nat := 0
  udpPort : Nat := 0
deriving DecidableEq, Repr

/-- A connection request (R269, R281): `priv` is the private data after the CM header. -/
structure CmReq where
  srcQp : Nat
  srcAddr : Nat
  service : Nat
  rc : Bool := true
  altPath : Bool := false
  respRes : Nat := 16
  mtu : Nat := 4096
  retry : Nat := 7
  rnrRetry : Nat := 7
  v6 : Bool := false
  startPsn : Nat := 0
  priv : List Byte
deriving DecidableEq, Repr

/-- An RC packet for a local QP (Table 12.2). -/
structure RcPacket where
  psn : Nat
  first : Bool := true
  last : Bool := true
  ce : Bool := false
  rkey : Nat := 0
  va : Nat := 0
  dmaLen : Nat := 0
  payload : List Byte := []
deriving DecidableEq, Repr

/-- A control-port frame that an OE originates (Table 18.6): `late` when it arrives after 100 µs. -/
structure OeFrame where
  addr : Nat
  len : Nat
  tag : Nat
  rsv : Nat := 0
  opc : Nat
  data : List Byte := []
deriving DecidableEq, Repr

/-- The result of one check run on an OE (R336). -/
structure OeChecks where
  railVo : Bool := true
  railVl : Bool := true
  stepping : Nat := 0x5003
  crcGood : Bool := true
  serial : List Byte := []
  capability : BitVec 64 := 1
  /-- Slices that failed loopback or training, as (fiber, slice). -/
  badSlices : List (Fin 8 × Fin 2) := []
  controlGood : Bool := true
  /-- Rings that did not pass the optical loopback. -/
  badTx : List (Fin 8 × Fin 18) := []
  badRx : List (Fin 8 × Fin 18) := []
deriving DecidableEq, Repr

/-- What stage 5 or a tile restart finds at one tile site (R13, R327, R338). -/
structure TileChecks where
  strap : BitVec 16
  rail : Bool := true
  /-- Retired mesh slices found by loopback, in the layout of object 0x7051. -/
  badSlices : BitVec 32 := 0
  launchDelay : Nat := 0
  stepping : Nat := 0x5402
  capability : BitVec 64 := 1
  /-- Channels that failed training. -/
  badChannels : BitVec 6 := 0
  /-- Restart only: the flock domain's rail comes up; pens whose self-test does not give the test content's digest. -/
  flockRail : Bool := true
  badPens : BitVec 16 := 0
deriving DecidableEq, Repr

/-- One command: a row of the spec's table. -/
inductive Instr where
  -- treads and ticks (02)
  | tick (pathFault : BitVec 64)
  | landingOpen (late : BitVec 64)
  | batchCapGrowth (tile : Fin 64)
  | startTreads (slot : Nat)
  | stopTreads (slot : Nat)
  | tickGroupCommit (slot : Nat)
  | changeCountdownZero
  | tickLost
  | beaconReceived (fiber : Fin 96) (b : Beacon) (raw : Int) (upstream : Int)
  | delayProbePeriod
  | delayProbeReceived (fiber : Fin 96) (p : Probe)
  | probeReplyReceived (fiber : Fin 96) (p : Probe)
  | treadConfirm
  | claimInChange (asserted : Bool)
  | claimTimeout
  | tickDisputeReceived (d : Dispute)
  | reclaim
  -- pen instructions (04)
  | nop (pen : Fin 1024) (w : PenWord)
  | endJob (pen : Fin 1024) (w : PenWord)
  | br (pen : Fin 1024) (w : PenWord)
  | brc (pen : Fin 1024) (w : PenWord)
  | loop (pen : Fin 1024) (w : PenWord)
  | trap (pen : Fin 1024) (w : PenWord)
  | trd (pen : Fin 1024) (w : PenWord)
  | fence (pen : Fin 1024) (w : PenWord)
  | twait (pen : Fin 1024) (w : PenWord)
  | sli (pen : Fin 1024) (w : PenWord)
  | salu (pen : Fin 1024) (w : PenWord)
  | sld (pen : Fin 1024) (w : PenWord)
  | sst (pen : Fin 1024) (w : PenWord)
  | sfp (pen : Fin 1024) (w : PenWord)
  | vset (pen : Fin 1024) (w : PenWord)
  | vadv (pen : Fin 1024) (w : PenWord)
  | vld (pen : Fin 1024) (w : PenWord)
  | bld (pen : Fin 1024) (w : PenWord)
  | baleReadArrival (pen : Fin 1024) (slot : Fin 64) (badMoves : Nat)
  | bst (pen : Fin 1024) (w : PenWord)
  | emit (pen : Fin 1024) (w : PenWord)
  | take (pen : Fin 1024) (w : PenWord)
  | tokw (pen : Fin 1024) (w : PenWord)
  | mma (pen : Fin 1024) (w : PenWord)
  | aclr (pen : Fin 1024) (w : PenWord)
  | vop (pen : Fin 1024) (w : PenWord)
  | vfma (pen : Fin 1024) (w : PenWord)
  | vun (pen : Fin 1024) (w : PenWord)
  | vsel (pen : Fin 1024) (w : PenWord)
  | cvt (pen : Fin 1024) (w : PenWord)
  | red (pen : Fin 1024) (w : PenWord)
  | csum (pen : Fin 1024) (w : PenWord)
  | find (pen : Fin 1024) (w : PenWord)
  | osm (pen : Fin 1024) (w : PenWord)
  | topk (pen : Fin 1024) (w : PenWord)
  | gath (pen : Fin 1024) (w : PenWord)
  | scat (pen : Fin 1024) (w : PenWord)
  | rng (pen : Fin 1024) (w : PenWord)
  | rchk (pen : Fin 1024) (w : PenWord)
  | cycleBoundExpiry (pen : Fin 1024)
  | macFaultInjection (slot : Nat) (value : BitVec 32)
  -- plans, dispatch, trades (06)
  | planDoorbell (tile : Fin 64) (offset : Nat)
  | jobDispatch (pen : Fin 1024)
  | jobComplete (pen : Fin 1024)
  | inFieldTestComplete (pen : Fin 1024) (digest : Option (BitVec 32)) (reference : Option (BitVec 32))
      (third : Option (BitVec 32))
  | grantSlotBoundary (tile : Fin 64)
  | tradeIdleExpiry (pen : Fin 1024)
  | tradeRequestReceived (donor : Fin 64) (requester : Fin 64) (clkt : Nat) (commits staging records : Nat)
  | tradeGrantReceived (receiver : Fin 64) (donor : Fin 64) (jobs : List TradedJob)
  | tradeCompletionReport (donor : Fin 64) (jobId : Nat) (cls : Nat)
  -- memory (05)
  | memoryRead (pen : Fin 1024) (slot : Fin 64) (linkErrors : Nat)
  | commitWrite (tile : Fin 64) (slot : Nat) (badFetches : Nat)
  | commitWriteComplete (tile : Fin 64) (slot : Nat)
  | commitWriteTimeout (tile : Fin 64) (slot : Nat)
  | baleReadTimeout (pen : Fin 1024) (slot : Fin 64)
  | refreshRatePoll (tile : Fin 64) (report : Nat)
  | channelFailed (tile : Fin 64) (channel : Fin 6)
  | rehomingCopyComplete (tile : Fin 64) (gib : Fin 48)
  | redirectGroupCommit (slot : Nat)
  | regionMapWrite (slot : Nat) (data : List Byte)
  -- drover (07)
  | senseWindow (currents : List (Nat × Nat))
  | reinHeldLimit
  | inputReading (millivolts : Nat) (milliampsA milliampsB : Nat) (vkMilliwatts : Nat)
  | tabFault
  | tabFaultClear
  | inputOutOfRange (high : Bool)
  | inputReturn
  | powerCapWrite (slot : Nat) (value : Nat)
  | thermalUpdate
  | diodeRead (readings : List Int)
  | thermalShutdown
  | thermalReenable (slot : Nat)
  -- optics (08)
  | ringAcquisition (ring : Ring)
  | ringSweepComplete (ring : Ring) (dips : List Nat)
  | ringAcquireComplete (ring : Ring) (converged : Option Nat)
  | ringVerifyComplete (ring : Ring) (tone : Option (Fin 18))
  | ringNarrowComplete (ring : Ring) (dips : List Nat)
  | ringTrack (ring : Ring) (heat : Option Nat)
  | mpdSample (oe : Fin 12) (line : Fin 18) (reading : Nat) (lowFor100us : Bool)
  | laserDailyMean (oe : Fin 12) (line : Fin 18)
  | marginWarningExpiry (oe : Fin 12) (line : Fin 18)
  | dupReceived (fiber : Fin 96) (n : Notice)
  | steeringCompareComplete (fiber : Fin 96) (token : Nat) (seq : Nat)
  | steeringCompareTimeout (fiber : Fin 96) (token : Nat)
  | switchedReceived (fiber : Fin 96) (n : Notice)
  | refuseReceived (fiber : Fin 96) (n : Notice)
  | askReceived (fiber : Fin 96) (n : Notice)
  | dropReceived (fiber : Fin 96) (n : Notice)
  | restoreReceived (fiber : Fin 96) (n : Notice)
  | exchangeTimeout (fiber : Fin 96) (rx : Bool)
  | calibrationStepTime (k : Fin 216)
  | calibrationWindowStart
  | calibrationStepTimeout (oe : Fin 12)
  | manualMove (slot : Nat)
  | shutterClose (fiber : Fin 96)
  | shutterProbeOpen (fiber : Fin 96)
  | shutterProbeClose (fiber : Fin 96)
  -- lanes (09)
  | idleGroupReceived (fiber : Fin 96) (g : List CtrlBlock)
  | trainGroupReceived (fiber : Fin 96) (g : List CtrlBlock)
  | modeGroupReceived (fiber : Fin 96) (g : List CtrlBlock)
  | blockLockAcquired (fiber : Fin 96) (line : Fin 18)
  | blockLockLost (fiber : Fin 96) (line : Fin 18) (invalidHeaders : Nat)
  | adaptComplete (fiber : Fin 96) (line : Fin 18) (skew : Int)
  | marginMeasurement (fiber : Fin 96) (line : Fin 18) (margin : Nat)
  | fmarginTimeout (fiber : Fin 96) (line : Fin 18)
  | lossOfSignalSet (fiber : Fin 96)
  | lossOfSignalClear (fiber : Fin 96)
  | laneReturnTimeout (fiber : Fin 96) (line : Fin 18)
  | laneTrainingStart (fiber : Fin 96)
  | trainingTimeout (fiber : Fin 96)
  | prbsStart (slot : Nat)
  | prbsStop (slot : Nat)
  | injectionWord (slot : Nat) (value : BitVec 32)
  | injectionFire
  -- link layer (10)
  | flitReceived (fiber : Fin 96) (flit : List Byte) (headers : List (BitVec 2))
  | ackonlyReceived (fiber : Fin 96) (flit : List Byte) (headers : List (BitVec 2))
  | nakReceived (fiber : Fin 96) (flit : List Byte) (headers : List (BitVec 2))
  | cmarkReceived (fiber : Fin 96) (flit : List Byte) (headers : List (BitVec 2))
  | initReceived (fiber : Fin 96) (flit : List Byte) (headers : List (BitVec 2))
  | resumeReceived (fiber : Fin 96) (flit : List Byte) (headers : List (BitVec 2))
  | initResendTimer (fiber : Fin 96)
  | nakRepeat (fiber : Fin 96)
  | replayTimeout (fiber : Fin 96)
  | ackCoalesceTimeout (fiber : Fin 96)
  | ackonlyTimer (fiber : Fin 96)
  | cmarkTimer (fiber : Fin 96)
  | rowSend (fiber : Fin 96)
  | spillReadComplete (fiber : Fin 96) (entryGood : Bool)
  | creditTimeout (fiber : Fin 96)
  | linkRestore (slot : Nat) (fiber : Fin 96)
  | spillRegionWrite (slot : Nat) (fiber : Fin 96) (isSize : Bool) (value : Nat)
  | reservedMinimumWrite (slot : Nat) (cls : Fin 5) (value : Nat)
  -- gallery (11)
  | forwardingEnvelope (fiber : Fin 96) (tc : Nat) (payload : List Byte)
  | stagedScheduleWrite (slot : Nat) (data : List Byte)
  | membershipListWrite (slot : Nat) (data : List Byte)
  | buildFlight (slot : Nat)
  | flightBuildComplete (arrivalOffsets : List (Fin 96 × Int))
  | memberLost (position : Fin 256)
  | membershipUpdateReceived (inner : List Byte)
  | membershipUpdateTimeout
  -- Ethernet (12)
  | portModeWrite (slot : Nat) (port : Fin 4) (mode : Nat)
  | ethernetLinkUp (lport : Fin 16)
  | ethernetLinkDown (lport : Fin 16)
  | ethernetFrameReceived (lport : Fin 16) (f : EthFrame)
  | arpRequest (port : Option (Fin 16)) (senderIp senderMac targetIp : Nat)
  | neighbourSolicitation (lport : Fin 16) (senderIp senderMac targetIp : Nat)
  | icmpEchoRequest (port : Option (Fin 16)) (v6 : Bool) (srcIp dstIp : Nat) (data : List Byte)
  | neighbourEntryExpiry (lport : Fin 16) (ip : Nat)
  | cmReq (lport : Fin 16) (r : CmReq)
  | cmRtu (qp : Fin 65536)
  | cmDreq (qp : Fin 65536)
  | roceSendReceived (qp : Fin 65536) (p : RcPacket)
  | rdmaWriteReceived (qp : Fin 65536) (p : RcPacket)
  | rdmaReadRequest (qp : Fin 65536) (p : RcPacket) (linkError : Bool)
  | unsupportedOpcodeReceived (qp : Fin 65536) (opcode psn : Nat) (ce : Bool)
  | rcAckReceived (qp : Fin 65536) (syndrome psn : Nat) (ce : Bool)
  | localAckTimeout (qp : Fin 65536)
  | cnpReceived (qp : Fin 65536) (ce : Bool)
  | dcqcnAlphaTimer (qp : Fin 65536)
  | dcqcnRateTimer (qp : Fin 65536)
  | dcqcnByteCounter (qp : Fin 65536)
  | windowDescriptorWrite (slot : Nat) (data : List Byte)
  | pfcFrameReceived (lport : Fin 16) (mask : BitVec 8) (quanta : List Nat)
  | pfcRepeat (lport : Fin 16) (prio : Fin 8)
  | pauseWatchdogExpiry (lport : Fin 16) (prio : Fin 8)
  | pauseWatchdogResume (lport : Fin 16) (prio : Fin 8)
  | pfcMaskWrite (slot : Nat) (isHeadroom : Bool) (value : Nat)
  -- token service (13)
  | openReq (qp : Fin 65536)
  | continueReq (qp : Fin 65536)
  | closeReq (qp : Fin 65536)
  | nopRequest (qp : Fin 65536)
  | batchCut
  | admissionTimeout (session : Fin 32768)
  | idleTimeout (session : Fin 32768)
  | loadModel (slot : Nat)
  | modelLoadComplete (index : Fin 16) (badBale : Option Nat)
  | unloadModel (slot : Nat)
  | ringPoolWrite (slot : Nat) (isSize : Bool) (value : Nat)
  -- dictionary (14)
  | mopDatagram (inband : Option (Fin 16)) (full : Bool) (srcIp srcPort : Nat) (bytes : List Byte)
  | mopRead (slot index sub type offset dlen : Nat) (stagedFlag : Bool)
  | mopWrite (slot index sub type offset : Nat) (last : Bool) (data : List Byte)
  | describe (slot index sub type dlen : Nat)
  | discard (slot index sub type dlen : Nat)
  | memread (slot addr len : Nat)
  | memwrite (slot addr : Nat) (data : List Byte)
  | stagingTimeout (tickGroup : Bool)
  | assemblyTimeout (index sub : Nat)
  | readHoldTimeout (slot index sub : Nat)
  | hubForwardTimeout (slot op index sub : Nat)
  | eventLogSave
  -- bring-up (15)
  | powerOnReset
  | keeperBoot (romGood : Bool) (nvGood : Bool)
  | firmwareVerification (readable : Bool)
  | hubBringup (rails : Bool) (pll : Bool) (sram : Bool) (idle : List (Nat × Nat)) (diodes : List Int)
  | oeQualification (oe : Fin 12) (r : OeChecks)
  | tileDieToDieTest (tiles : List (Fin 64 × TileChecks))
  | memoryTraining (bad : List (Fin 64 × Fin 6))
  | penSelfTest (digests : List (Fin 1024 × BitVec 32))
  | capabilityNegotiation
  | ready
  | stageTimeout
  | railTimeout (step : Nat) (part : Nat)
  | referenceRetry (locked : Bool)
  | ethernetReferenceChange (present : Bool)
  | moduleReset (slot : Nat)
  | modrstAssert
  | modrstRelease
  | firmwareRestart
  | oeRequalification (oe : Fin 12) (r : OeChecks)
  | powerLoss
  -- test access port (15)
  | bypass (opcode : BitVec 8)
  | idcode
  | samplePreload (captured loaded : BitVec 21)
  | extest
  | clamp
  | highz
  | dtest (value : BitVec 32)
  | dstat
  | dtestComplete (result : Fin 3) (nfail first : Nat)
  -- integrity (16)
  | sliceRetired (die : Nat) (port : Nat) (tx : Bool) (slice : Fin 4)
  | tilePllUnlock (tile : Fin 64)
  | memoryControllerTimeout (tile : Fin 64)
  | shepherdWatchdogExpiry (tile : Fin 64)
  | hubWatchdogExpiry
  | keeperWatchdogExpiry
  | penFence (slot : Nat)
  | penRestore (slot : Nat)
  | tileRestart (slot : Nat) (r : TileChecks)
  | powerOff (slot : Nat)
  | allLasersOff (slot : Nat)
  | tilePowerDown (slot : Nat)
  -- SMBus (19)
  | smbusStatusRead
  | smbusAlertClear (mask : BitVec 8) (pecGood : Bool)
  | smbusAlertResponse
  -- tally (17)
  | tallySample (unit : Fin 288) (event : Nat) (value : BitVec 32)
  | tallyWindowClose (unit : Fin 288)
  | tallyConfigurationWrite (slot : Nat) (unit : Fin 288) (data : List Byte)
  | tallyClear (slot : Nat) (unit : Fin 288)
  | tallyClearAll (slot : Nat)
  -- security (18)
  | firmwareImageWrite (slot offset : Nat) (last : Bool) (data : List Byte)
  | installImage (slot : Nat)
  | installComplete (matched : Bool) (answered : Bool)
  | raiseFloor (slot : Nat)
  | keyInstall (slot : Nat) (target : Fin 8) (data : List Byte)
  | keyClear (slot : Nat) (target : Fin 8)
  | attest (slot : Nat)
  | attestationComplete
  | treeGenerationComplete
  | lifecycleTransition (slot : Nat)
  | oeControlFrame (oe : Fin 12) (f : OeFrame)
  | oeResponseTimeout (oe : Fin 12) (tag : Nat)
  -- the rest of the table
  | registerWrite (slot index sub : Nat) (value : Nat)
  | uncorrectableEccError (site : Fin 6) (unit : Nat) (address : Nat)
  | spillWriteComplete (fiber : Fin 96)
  | externalWriteComplete (writer : Nat)
  | calibrationMeasurementComplete (oe : Fin 12) (reading : Nat)
  | laserBiasRampEnd (oe : Fin 12)
  | prbsPatternLock
  | prbsPatternLockLost
  | restoreAnswerTimeout (fiber : Fin 96)
  | plcaBeaconChange (seen : Bool)
deriving DecidableEq, Repr

end Sys2Proof
end

