-- ==== Sys2Proof/Decode.lean ====
section
/-! DEFINITION. The table's encodings, of which no row has bits; and the encodings of the pens' instructions, from Tables 04.2
and 04.7, with the encoder. -/

namespace Sys2Proof

/-- The command that a word spells by the table's bits: none, since the table gives no row any bits. -/
def decodeTableWord (_nbits _w : Nat) : Option Instr := none

/-! ## Pen instructions (R65, R72) -/

/-- The fields of a 128-bit instruction word (Table 04.2), but for OPC. -/
def PenWord.ofBits (v : BitVec 128) : PenWord :=
  { imm := v.extractLsb' 64 64, rsv63 := v.extractLsb' 56 8, mod := v.extractLsb' 48 8, rsv47 := v.extractLsb' 46 2
    sat := v.getLsbD 45, sr := v.getLsbD 44, rsv43 := v.extractLsb' 40 4, cnd := v.extractLsb' 36 4
    ck := v.extractLsb' 34 2, c := v.extractLsb' 29 5, bk := v.extractLsb' 27 2, b := v.extractLsb' 22 5
    ak := v.extractLsb' 20 2, a := v.extractLsb' 15 5, dk := v.extractLsb' 13 2, d := v.extractLsb' 8 5 }

/-- The word of an opcode and fields (Table 04.2). -/
def PenWord.toBits (o : BitVec 8) (w : PenWord) : BitVec 128 :=
  w.imm ++ w.rsv63 ++ w.mod ++ w.rsv47 ++ BitVec.ofBool w.sat ++ BitVec.ofBool w.sr ++ w.rsv43 ++ w.cnd ++ w.ck ++ w.c ++ w.bk
    ++ w.b ++ w.ak ++ w.a ++ w.dk ++ w.d ++ o

/-- The instruction of an opcode (Table 04.7); none of a reserved one. -/
def penInstr (p : Fin 1024) (w : PenWord) (o : Nat) : Option Instr :=
  match o with
  | 0x00 => some (.nop p w)
  | 0x01 => some (.endJob p w)
  | 0x02 => some (.br p w)
  | 0x03 => some (.brc p w)
  | 0x04 => some (.loop p w)
  | 0x05 => some (.trap p w)
  | 0x0A => some (.trd p w)
  | 0x0B => some (.fence p w)
  | 0x0C => some (.twait p w)
  | 0x10 => some (.sli p w)
  | 0x11 => some (.salu p w)
  | 0x12 => some (.sld p w)
  | 0x13 => some (.sst p w)
  | 0x14 => some (.sfp p w)
  | 0x15 => some (.vset p w)
  | 0x16 => some (.vadv p w)
  | 0x17 => some (.vld p w)
  | 0x20 => some (.bld p w)
  | 0x21 => some (.bst p w)
  | 0x22 => some (.emit p w)
  | 0x23 => some (.take p w)
  | 0x24 => some (.tokw p w)
  | 0x30 => some (.mma p w)
  | 0x31 => some (.aclr p w)
  | 0x40 => some (.vop p w)
  | 0x41 => some (.vfma p w)
  | 0x42 => some (.vun p w)
  | 0x43 => some (.vsel p w)
  | 0x44 => some (.cvt p w)
  | 0x48 => some (.red p w)
  | 0x49 => some (.csum p w)
  | 0x4A => some (.find p w)
  | 0x4C => some (.osm p w)
  | 0x50 => some (.topk p w)
  | 0x51 => some (.gath p w)
  | 0x52 => some (.scat p w)
  | 0x58 => some (.rng p w)
  | 0x5C => some (.rchk p w)
  | _ => none

/-- The opcode, pen and fields of a pen instruction; none of any other command. -/
def Instr.penParts : Instr → Option (BitVec 8 × Fin 1024 × PenWord)
  | .nop p w => some (0x00, p, w)
  | .endJob p w => some (0x01, p, w)
  | .br p w => some (0x02, p, w)
  | .brc p w => some (0x03, p, w)
  | .loop p w => some (0x04, p, w)
  | .trap p w => some (0x05, p, w)
  | .trd p w => some (0x0A, p, w)
  | .fence p w => some (0x0B, p, w)
  | .twait p w => some (0x0C, p, w)
  | .sli p w => some (0x10, p, w)
  | .salu p w => some (0x11, p, w)
  | .sld p w => some (0x12, p, w)
  | .sst p w => some (0x13, p, w)
  | .sfp p w => some (0x14, p, w)
  | .vset p w => some (0x15, p, w)
  | .vadv p w => some (0x16, p, w)
  | .vld p w => some (0x17, p, w)
  | .bld p w => some (0x20, p, w)
  | .bst p w => some (0x21, p, w)
  | .emit p w => some (0x22, p, w)
  | .take p w => some (0x23, p, w)
  | .tokw p w => some (0x24, p, w)
  | .mma p w => some (0x30, p, w)
  | .aclr p w => some (0x31, p, w)
  | .vop p w => some (0x40, p, w)
  | .vfma p w => some (0x41, p, w)
  | .vun p w => some (0x42, p, w)
  | .vsel p w => some (0x43, p, w)
  | .cvt p w => some (0x44, p, w)
  | .red p w => some (0x48, p, w)
  | .csum p w => some (0x49, p, w)
  | .find p w => some (0x4A, p, w)
  | .osm p w => some (0x4C, p, w)
  | .topk p w => some (0x50, p, w)
  | .gath p w => some (0x51, p, w)
  | .scat p w => some (0x52, p, w)
  | .rng p w => some (0x58, p, w)
  | .rchk p w => some (0x5C, p, w)
  | _ => none

/-- What a pen makes of the 128 bits at its PC: a reserved opcode is kept in the word, and issues as no instruction of the table
would (R65). -/
def decodePenWord (p : Fin 1024) (v : BitVec 128) : Instr :=
  let w := PenWord.ofBits v
  match penInstr p w (v.toNat % 256) with
  | some i => i
  | none => .nop p { w with opc := some (v.truncate 8) }

/-- The 128 bits of a pen instruction; a reserved opcode stands where its word holds one. -/
def encodePenWord (i : Instr) : Option (BitVec 128) :=
  i.penParts.map fun e => e.2.2.toBits (e.2.2.opc.getD e.1)

end Sys2Proof
end

