-- ==== Sys2Proof/Config.lean ====
section
/-! DEFINITION. What the spec leaves open or to an implementation: free values without a body, so that nothing can be
proved of the value of any of them. -/

namespace Sys2Proof.Config

/-- The free value drawn at a counter: an undefined result (R83), a drawn seed (R293) (log entry 1). -/
opaque freeBits : Nat → BitVec 64

/-- The codes that RED leaves in its destination where that overlaps its source, by counter and element: R83 does not
define them (log entry 1). -/
opaque freeCode : Nat → Nat → BitVec 32

/-- NEG and ABS of the most negative 32-bit integer in integer mode: R77 states no result (log entry 1). -/
opaque negMin : BitVec 32 → BitVec 32

/-- Whether a peer's IP address lies on the subnet of the module's own: no object gives a prefix length (R265; log entry 133). -/
opaque sameSubnet : Nat → Nat → Bool

/-- The tokenizer of the model image at an address: UTF-8 bytes to token ids. The image's tables are opaque to the
spec (R296; log entry 2). -/
opaque tokenize : Nat → List Byte → List Nat

/-- The detokenizer: the bytes that a token id adds (R294, R296; log entry 2). -/
opaque detokenize : Nat → Nat → List Byte

/-- Predicted time in ns of a batch (session, chunk) of a model: R292 names it, the model's plan template defines it (log
entry 53). -/
opaque batchTime : Nat → List (Nat × Nat) → Nat

/-- Commits, staging and records that a batch of a model takes on a tile (R26, R292; log entry 53). -/
opaque batchUse : Nat → List (Nat × Nat) → Nat → Nat × Nat × Nat

/-- What the batcher supplies to the sampling job of a step that samples (R293). -/
structure SampleInput where
  /-- TEMP = 0: the greedy program runs. -/
  greedy : Bool
  recipT : BitVec 32
  recipR : BitVec 32
  topk : Nat
  topp : BitVec 32
  reppen : BitVec 32
  seed : Nat
  /-- The draw counter: the position of the token that is sampled. -/
  position : Nat
  session : Nat
  /-- The last token ids before it, 1,024 at most. -/
  history : List Nat
  count : Nat
deriving DecidableEq, Repr

/-- A job as the plan templates lay it out for a batch: the fields of its descriptor (Table 04.11) and its lists; `steps` are the
places in the batch whose sessions it serves. -/
structure PlanJob where
  jobId : Nat
  cycb : Nat
  energy : Nat
  entry : Nat
  nin : Nat
  nout : Nat
  seed : Nat
  prog : Nat
  mig : Bool
  scr : Bool
  gal : Bool
  home : Nat
  ncmt : Nat
  arg0 : Nat
  views : List Nat
  bales : List Nat
  steps : List Nat
  succ : List Nat
  npred : Nat
deriving DecidableEq, Repr

/-- The jobs of a tile's plan for a batch (session, chunk) and the plan's pasture offset, by the templates of the models loaded (R292,
R296; log entry 53). -/
opaque planJobs : List Nat → Nat → List (Nat × Nat) → Nat × List PlanJob

/-- Where in a tile's pasture the templates put a step's sampling inputs, and the bytes they take there: a function of those inputs
and the place of the step's jobs alone (R293, R294; log entry 53). -/
opaque sampleLayout : List Nat → Nat → List (Nat × Nat) → Nat → Nat
opaque sampleBytes : List Nat → SampleInput → List Byte

/-- The token of a step that has not committed when the next batch is cut, by counter and session (R293; log entry 53). -/
opaque flightToken : Nat → Nat → Nat

/-- Inner bytes of the envelope that carries a batch and its sampling inputs, and the batch that a member reads from inner bytes: the
plan template defines the format (R295; log entry 49). -/
opaque batchMessage : List (Nat × Nat) → List SampleInput → List Byte
opaque readBatch : List Byte → List (Nat × Nat) × List SampleInput

/-- Inner bytes of the MGMT report of a model's state: index, MODELID, state (R295; log entry 49). -/
opaque reportMessage : Nat → Nat → Nat → List Byte

/-- What the MGMT report of another member says: index, MODELID, state (R295; log entry 49). -/
opaque modelReport : List Byte → Option (Nat × Nat × Nat)

/-- Inner bytes of the MGMT envelope that carries a member's list of sessions to end, with its overflow flag (R368; log entry 49). -/
opaque suspectMessage : Bool → List (Nat × Nat) → List Byte

/-- The overflow flag, and the sessions with their earliest suspect positions, that such a list names (R368; log entry 49). -/
opaque suspectList : List Byte → Bool × List (Nat × Nat)

/-- The secret of the keeper's physically unclonable function (R385; log entry 3). -/
opaque pufKey : List Byte

/-- Melcen's service root public key, of which the fuses hold the digest (R385, R398; log entry 3). -/
opaque serviceKey : List Byte

/-- The wrapped seed and identifier of the device's signing key as the factory stored them (R387, R395; log entry 3). -/
opaque deviceSeed : List Byte
opaque deviceId : List Byte

/-- Seed and identifier of a bottom tree of the device key, by its number (R395, R397; log entry 3). -/
opaque bottomTree : List Byte → List Byte → Nat → List Byte × List Byte

/-- The randomiser of a one-time signature, by key identifier and leaf (RFC 8554; log entry 3). -/
opaque randomizer : List Byte → Nat → List Byte

/-- The digest of the in-field test of a working pen (R366, R367; log entry 4). -/
opaque testDigest : Nat → BitVec 32

/-- The sign that the sign-sign LMS of a receive lane finds for a tap at a step: the line's (R210; log entry 110). -/
opaque lmsSign : Nat → Nat → Nat → Bool

/-- The block boundary, in UI, that a receive lane finds when it declares lock at a clock (R209; log entry 110). -/
opaque blockPhase : Nat → Nat → Nat

/-- A scrambler's register when its lane leaves electrical idle at a clock: what passed it there is not given (R217; log
entry 111). -/
opaque idleScrambler : Nat → Nat → BitVec 58

/-- Whether a checked bit of a pattern lock, by draw and place, was in error (R219; log entry 42). -/
opaque lineError : Nat → Nat → Bool

/-- Relative output in 0.01 dB of a monitor reading of 0, whose logarithm R178 does not give (log entry 112). -/
opaque dbOfZero : Int

/-- Whether KV positions of a session of a model index lie in a GiB: the image's template places them (R127, R296; log entry
61). -/
opaque kvHolds : Nat → Nat → Nat → Bool

/-- Parity errors (object 0x7053) and corrected errors (0x7054) of a tile at a hub cycle, by object, subindex and clock: no command
reports them (R104, R349, R370; log entry 105). -/
opaque smallErrors : Nat → Nat → Nat → Nat

end Sys2Proof.Config
end

