-- ==== Sys2Proof/Machine/Crc.lean ====
section
/-! DEFINITION. Byte order and check codes: CRC-32C (R100), the field network's CRC-32, SHA-256 and HMAC (R319). -/

namespace Sys2Proof.Machine

/-- Bytes as a little-endian number (R3). -/
def leNat : List Byte → Nat
  | [] => 0
  | b :: t => b.toNat + 256 * leNat t

/-- The low `n` bytes of a number, little-endian (R3). -/
def leBytes : Nat → Nat → List Byte
  | 0, _ => []
  | n + 1, v => BitVec.ofNat 8 v :: leBytes n (v / 256)

/-- Bits [lo + n − 1 : lo] of a number. -/
def field (v lo n : Nat) : Nat := v / 2 ^ lo % 2 ^ n

/-- A number's bit. -/
def bit (v i : Nat) : Bool := v.testBit i

/-- Sign extension of an `n`-bit field. -/
def signed (n v : Nat) : Int := if v < 2 ^ (n - 1) then v else (v : Int) - (2 ^ n : Nat)

/-- Eight steps of a reflected CRC with polynomial `p`. -/
def crcByte (p : Nat) : Nat → Nat → Nat
  | 0, c => c
  | n + 1, c => crcByte p n (if c % 2 = 1 then (c / 2) ^^^ p else c / 2)

/-- A reflected CRC's register after the bytes. -/
def crcRun (p : Nat) : List Byte → Nat → Nat
  | [], c => c
  | b :: t, c => crcRun p t (crcByte p 8 (c ^^^ b.toNat))

/-- CRC-32C (R100). -/
def crc32c (bs : List Byte) : Nat := crcRun 0x82F63B78 bs 0xFFFFFFFF ^^^ 0xFFFFFFFF

/-! SHA-256 (FIPS 180-4), which R319 names. -/

/-- The greatest `r` below 2 to the power `n`, added to `r`, whose `k`th power is at most `x`: binary search by bits. -/
def rootBits (k x : Nat) : Nat → Nat → Nat
  | 0, r => r
  | n + 1, r => rootBits k x n (if (r + 2 ^ n) ^ k ≤ x then r + 2 ^ n else r)

/-- The first 32 bits of the fraction of the `k`th root of `p`. -/
def rootFraction (k p : Nat) : Nat := rootBits k (p * 2 ^ (32 * k)) 36 0 % 2 ^ 32

/-- The primes below a number. -/
def primesBelow (n : Nat) : List Nat :=
  (List.range n).filter fun p => decide (2 ≤ p) && (List.range p).all fun d => decide (d < 2) || decide (p % d ≠ 0)

/-- Round constants: the fractions of the cube roots of the first 64 primes. -/
def shaK : List Nat := (primesBelow 312).map (rootFraction 3)

/-- The hash's starting value: the fractions of the square roots of the first eight primes. -/
def shaInit : List Nat := (primesBelow 20).map (rootFraction 2)

/-- Rotation of a 32-bit word to the right. -/
def rotr32 (x n : Nat) : Nat := (x / 2 ^ n) ||| (x * 2 ^ (32 - n) % 2 ^ 32)

/-- The message schedule, newest word first, from the sixteen words of a block (also newest first). -/
def shaExpand : Nat → List Nat → List Nat
  | 0, w => w
  | n + 1, w =>
    let x15 := w.getD 14 0
    let x2 := w.getD 1 0
    let s0 := rotr32 x15 7 ^^^ rotr32 x15 18 ^^^ (x15 / 8)
    let s1 := rotr32 x2 17 ^^^ rotr32 x2 19 ^^^ (x2 / 1024)
    shaExpand n (((w.getD 15 0 + s0 + w.getD 6 0 + s1) % 2 ^ 32) :: w)

/-- One round on the eight working words. -/
def shaRound (h : List Nat) (k w : Nat) : List Nat :=
  match h with
  | [a, b, c, d, e, f, g, hh] =>
    let s1 := rotr32 e 6 ^^^ rotr32 e 11 ^^^ rotr32 e 25
    let ch := (e &&& f) ^^^ ((0xFFFFFFFF - e) &&& g)
    let t1 := hh + s1 + ch + k + w
    let s0 := rotr32 a 2 ^^^ rotr32 a 13 ^^^ rotr32 a 22
    let maj := (a &&& b) ^^^ (a &&& c) ^^^ (b &&& c)
    [(t1 + s0 + maj) % 2 ^ 32, a, b, c, (d + t1) % 2 ^ 32, e, f, g]
  | h => h

/-- The rounds of a block. -/
def shaRounds : List Nat → List Nat → List Nat → List Nat
  | k :: ks, w :: ws, h => shaRounds ks ws (shaRound h k w)
  | _, _, h => h

/-- Big-endian words of four bytes. -/
def beWords : List Byte → List Nat
  | a :: b :: c :: d :: t => (((a.toNat * 256 + b.toNat) * 256 + c.toNat) * 256 + d.toNat) :: beWords t
  | _ => []

/-- The bytes of a number, big-endian. -/
def beBytes (n v : Nat) : List Byte := (leBytes n v).reverse

/-- One block into the hash. -/
def shaBlock (h : List Nat) (block : List Byte) : List Nat :=
  let w := (shaExpand 48 (beWords block).reverse).reverse
  List.zipWith (fun a b => (a + b) % 2 ^ 32) h (shaRounds shaK w h)

/-- The blocks of a padded message, `n` of them. -/
def shaBlocks : Nat → List Byte → List Nat → List Nat
  | 0, _, h => h
  | n + 1, m, h => shaBlocks n (m.drop 64) (shaBlock h (m.take 64))

/-- SHA-256 of a byte string. -/
def sha256 (m : List Byte) : List Byte :=
  let z := (119 - m.length % 64) % 64
  let p := m ++ [0x80#8] ++ List.replicate z 0#8 ++ beBytes 8 (8 * m.length)
  (shaBlocks (p.length / 64) p shaInit).flatMap (beBytes 4)

/-- HMAC-SHA-256 (RFC 2104). -/
def hmac (key msg : List Byte) : List Byte :=
  let k0 := if key.length > 64 then sha256 key else key
  let k := k0 ++ List.replicate (64 - k0.length) 0#8
  sha256 (k.map (· ^^^ 0x5C#8) ++ sha256 (k.map (· ^^^ 0x36#8) ++ msg))

end Sys2Proof.Machine
end

