-- ==== Sys2Proof/Machine/Crypto.lean ====
section
/-! DEFINITION. The cryptography that R386 names: AES-256 key wrap (FIPS 197, RFC 3394) and the verification of HSS
signatures (RFC 8554). Log entry 3. -/

namespace Sys2Proof.Machine

/-! ## AES-256 (FIPS 197), on bytes as numbers -/

/-- Multiplication by x in the field of AES. -/
def aesDouble (a : Nat) : Nat := if a < 128 then 2 * a else (2 * a) ^^^ 0x11B

/-- Product of two field elements, by the bits of the first: `n` of them from the lowest. -/
def aesTimes : Nat → Nat → Nat → Nat
  | 0, _, _ => 0
  | n + 1, a, b => (if a % 2 = 1 then b else 0) ^^^ aesTimes n (a / 2) (aesDouble b)

/-- The reciprocal of a field element, 0 for 0: its 254th power, as the product of its squares' squares. -/
def aesRecip (a : Nat) : Nat := go 7 a
where
  go : Nat → Nat → Nat
    | 0, _ => 1
    | n + 1, q => let r := aesTimes 8 q q; aesTimes 8 r (go n r)

/-- Rotation of a byte to the left. -/
def rotByte (n b : Nat) : Nat := (b * 2 ^ n + b / 2 ^ (8 - n)) % 256

/-- The substitution of a byte, and its inverse. -/
def aesSub (a : Nat) : Nat := ([0, 1, 2, 3, 4].map fun n => rotByte n (aesRecip a)).foldl (· ^^^ ·) 0x63
def aesUnsub (a : Nat) : Nat := aesRecip (([1, 3, 6].map fun n => rotByte n a).foldl (· ^^^ ·) 0x05)

/-- Byte-wise exclusive or. -/
def xorList (a b : List Nat) : List Nat := a.zipWith (· ^^^ ·) b

/-- Key words of four bytes, newest first; `left` more to come after `i`. -/
def aesWords : Nat → Nat → List (List Nat) → List (List Nat)
  | 0, _, w => w
  | left + 1, i, w =>
    let last := w.headD []
    let mixed :=
      if i % 8 = 0 then xorList ((last.drop 1 ++ last.take 1).map aesSub) [2 ^ (i / 8 - 1), 0, 0, 0]
      else if i % 8 = 4 then last.map aesSub else last
    aesWords left (i + 1) (xorList (w.getD 7 []) mixed :: w)

/-- The fifteen round keys of a 32-byte key. -/
def aesKeys (key : List Nat) : List (List Nat) :=
  let first := (List.range 8).map fun i => (key.drop (4 * i)).take 4
  let w := (aesWords 52 8 first.reverse).reverse
  (List.range 15).map fun r => ((w.drop (4 * r)).take 4).flatten

/-- Byte at row r, column c of the state, which is laid out column by column; rows turn by `step` columns a row. -/
def aesShift (step : Nat) (b : List Nat) : List Nat :=
  (List.range 16).map fun i => b.getD (4 * ((i / 4 + step * (i % 4)) % 4) + i % 4) 0

/-- A column's mixing by a row of coefficients that turns with the byte. -/
def aesMix (row : List Nat) (b : List Nat) : List Nat :=
  (List.range 16).map fun i =>
    ((List.range 4).map fun k => aesTimes 8 (row.getD ((k + 4 - i % 4) % 4) 0) (b.getD (4 * (i / 4) + k) 0)).foldl (· ^^^ ·) 0

/-- One block enciphered, and deciphered, under round keys. -/
def aesEncipher (keys : List (List Nat)) (b : List Nat) : List Nat :=
  let mid := ((keys.drop 1).take 13).foldl (fun b k => xorList (aesMix [2, 3, 1, 1] (aesShift 1 (b.map aesSub))) k)
    (xorList b (keys.getD 0 []))
  xorList (aesShift 1 (mid.map aesSub)) (keys.getD 14 [])

def aesDecipher (keys : List (List Nat)) (b : List Nat) : List Nat :=
  let mid := ((keys.drop 1).take 13).reverse.foldl
    (fun b k => aesMix [14, 11, 13, 9] (xorList ((aesShift 3 b).map aesUnsub) k)) (xorList b (keys.getD 14 []))
  xorList ((aesShift 3 mid).map aesUnsub) (keys.getD 0 [])

/-! ## Key wrap (RFC 3394) of a 32-byte key under a 32-byte key -/

def byteNats (b : List Byte) : List Nat := b.map (·.toNat)
def natBytes (b : List Nat) : List Byte := b.map (BitVec.ofNat 8)

/-- The step counter in the eight bytes of the check register. -/
def stepMask (t : Nat) : List Nat := [0, 0, 0, 0, 0, 0, t / 256, t % 256]

/-- The 24 steps of wrapping, on the check register and the four registers of the key. -/
def keyWrap (kek key : List Byte) : List Byte :=
  let keys := aesKeys (byteNats kek)
  let start := (List.replicate 8 0xA6, (List.range 4).map fun i => ((byteNats key).drop (8 * i)).take 8)
  let out := (List.range 24).foldl (fun (x : List Nat × List (List Nat)) t =>
    let b := aesEncipher keys (x.1 ++ x.2.getD (t % 4) [])
    (xorList (b.take 8) (stepMask (t + 1)), x.2.set (t % 4) (b.drop 8))) start
  natBytes (out.1 ++ out.2.flatten)

/-- The key that 40 bytes wrap, or none where the check register does not come out. -/
def keyUnwrap (kek wrapped : List Byte) : Option (List Byte) :=
  let keys := aesKeys (byteNats kek)
  let b := byteNats wrapped
  let start := (b.take 8, (List.range 4).map fun i => (b.drop (8 + 8 * i)).take 8)
  let out := (List.range 24).reverse.foldl (fun (x : List Nat × List (List Nat)) t =>
    let b := aesDecipher keys (xorList x.1 (stepMask (t + 1)) ++ x.2.getD (t % 4) [])
    (b.take 8, x.2.set (t % 4) (b.drop 8))) start
  if wrapped.length = 40 ∧ out.1 = List.replicate 8 0xA6 then some (natBytes out.2.flatten) else none

/-! ## HSS (RFC 8554) with L = 2, LMS_SHA256_M32_H20 and LMOTS_SHA256_N32_W8 -/

/-- A big-endian number. -/
def beNat (b : List Byte) : Nat := leNat b.reverse

/-- Hash steps of a Winternitz chain, from digit `d` on, `n` of them. -/
def chain (head : List Byte) : Nat → Nat → List Byte → List Byte
  | 0, _, x => x
  | n + 1, d, x => chain head n (d + 1) (sha256 (head ++ beBytes 1 d ++ x))

/-- The candidate one-time public key of a signature over a message, under identifier and leaf. -/
def otsCandidate (id : List Byte) (q : Nat) (msg sig : List Byte) : List Byte :=
  let head := id ++ beBytes 4 q
  let c := (sig.drop 4).take 32
  let d := sha256 (head ++ beBytes 2 0x8181 ++ c ++ msg)
  let sum := (d.map fun b => 255 - b.toNat).sum
  let ends := ((d ++ beBytes 2 sum).zipIdx).flatMap fun e =>
    chain (head ++ beBytes 2 e.2) (255 - e.1.toNat) e.1.toNat ((sig.drop (36 + 32 * e.2)).take 32)
  sha256 (head ++ beBytes 2 0x8080 ++ ends)

/-- The root over a path: the node's number halves at each level. -/
def climb (id : List Byte) : Nat → Nat → List Byte → List Byte → List Byte
  | 0, _, _, x => x
  | n + 1, k, path, x =>
    let pair := if k % 2 = 1 then path.take 32 ++ x else x ++ path.take 32
    climb id n (k / 2) (path.drop 32) (sha256 (id ++ beBytes 4 (k / 2) ++ beBytes 2 0x8383 ++ pair))

/-- An LMS signature of 1,772 bytes over a message is good under a public key of 56 bytes. -/
def lmsVerify (key msg sig : List Byte) : Bool :=
  let id := (key.drop 8).take 16
  let q := beNat (sig.take 4)
  let ots := (sig.drop 4).take 1124
  let leaf := sha256 (id ++ beBytes 4 (2 ^ 20 + q) ++ beBytes 2 0x8282 ++ otsCandidate id q msg ots)
  key.length == 56 && sig.length == 1772 && beNat (key.take 4) == 8 && beNat ((key.drop 4).take 4) == 4
    && beNat (ots.take 4) == 4 && beNat ((sig.drop 1128).take 4) == 8 && decide (q < 2 ^ 20)
    && climb id 20 (2 ^ 20 + q) (sig.drop 1132) leaf == key.drop 24

/-- The secret start of chain i of a leaf, from the seed (RFC 8554, appendix A). -/
def otsSecret (seed id : List Byte) (q i : Nat) : List Byte :=
  sha256 (id ++ beBytes 4 q ++ beBytes 2 i ++ [0xFF#8] ++ seed)

/-- The one-time public key of a leaf. -/
def otsPublic (seed id : List Byte) (q : Nat) : List Byte :=
  let head := id ++ beBytes 4 q
  sha256 (head ++ beBytes 2 0x8080 ++ (List.range 34).flatMap fun i => chain (head ++ beBytes 2 i) 255 0 (otsSecret seed id q i))

/-- A node of the tree of a key, `n` levels above the leaves. -/
def treeNode (seed id : List Byte) : Nat → Nat → List Byte
  | 0, r => sha256 (id ++ beBytes 4 r ++ beBytes 2 0x8282 ++ otsPublic seed id (r - 2 ^ 20))
  | n + 1, r => sha256 (id ++ beBytes 4 r ++ beBytes 2 0x8383 ++ treeNode seed id n (2 * r) ++ treeNode seed id n (2 * r + 1))

/-- The LMS public key of 56 bytes. -/
def lmsPublic (seed id : List Byte) : List Byte := beBytes 4 8 ++ beBytes 4 4 ++ id ++ treeNode seed id 20 1

/-- The LMS signature of 1,772 bytes with leaf q. -/
def lmsSignature (seed id : List Byte) (q : Nat) (c msg : List Byte) : List Byte :=
  let head := id ++ beBytes 4 q
  let d := sha256 (head ++ beBytes 2 0x8181 ++ c ++ msg)
  let sum := (d.map fun b => 255 - b.toNat).sum
  let ends := ((d ++ beBytes 2 sum).zipIdx).flatMap fun e =>
    chain (head ++ beBytes 2 e.2) e.1.toNat 0 (otsSecret seed id q e.2)
  let path := (List.range 20).flatMap fun k =>
    let r := (2 ^ 20 + q) / 2 ^ k
    treeNode seed id k (if r % 2 = 1 then r - 1 else r + 1)
  beBytes 4 q ++ beBytes 4 4 ++ c ++ ends ++ beBytes 4 8 ++ path

/-- The HSS signature of 3,604 bytes with a leaf of the whole key: the top tree signs the bottom one, that the message (R386,
R397). -/
def hssSign (seed id : List Byte) (leaf : Nat) (msg : List Byte) : List Byte :=
  let n := leaf / 2 ^ 20
  let b := Config.bottomTree seed id n
  let lower := lmsPublic b.1 b.2
  beBytes 4 1 ++ lmsSignature seed id n (Config.randomizer id n) lower ++ lower
    ++ lmsSignature b.1 b.2 (leaf % 2 ^ 20) (Config.randomizer b.2 (leaf % 2 ^ 20)) msg

/-- The HSS public key of 60 bytes. -/
def hssPublic (seed id : List Byte) : List Byte := beBytes 4 2 ++ lmsPublic seed id

/-- A digest as the fuses hold it. -/
def digestBits (b : List Byte) : BitVec 256 := BitVec.ofNat 256 (leNat (sha256 b))

/-- An HSS signature of 3,604 bytes over a message is good under a public key of 60 bytes. -/
def hssVerify (key msg sig : List Byte) : Bool :=
  let lower := (sig.drop 1776).take 56
  key.length == 60 && sig.length == 3604 && beNat (key.take 4) == 2 && beNat (sig.take 4) == 1
    && lmsVerify (key.drop 4) lower ((sig.drop 4).take 1772) && lmsVerify lower msg (sig.drop 1832)

end Sys2Proof.Machine
end

