-- ==== Sys2Proof/Machine/Tab.lean ====
section
/-! DEFINITION. Sparse stores in one canonical form: a list of (key, value) pairs with strictly rising keys, no entry
equal to what its key reads as when it is not listed. Equal stores are equal lists. -/

namespace Sys2Proof.Machine

/-- A sparse store: keys strictly rise, and no entry holds its key's default. -/
abbrev Tab (α : Type) := List (Nat × α)

/-- The value at key `k`: the listed one, or the default of `k`. -/
def tabGet {α : Type} (d : Nat → α) : Tab α → Nat → α
  | [], k => d k
  | (i, v) :: t, k => if k = i then v else tabGet d t k

/-- Drop every entry of key `k`. -/
def tabDrop {α : Type} : Tab α → Nat → Tab α
  | [], _ => []
  | (i, v) :: t, k => if k = i then tabDrop t k else (i, v) :: tabDrop t k

/-- Put `v` at key `k`, keeping the keys in rising order. -/
def tabPut {α : Type} : Tab α → Nat → α → Tab α
  | [], k, v => [(k, v)]
  | (i, w) :: t, k, v =>
    if k < i then (k, v) :: (i, w) :: t
    else if k = i then (k, v) :: t
    else (i, w) :: tabPut t k v

/-- Write `v` at key `k`: the default removes the entry, any other value lists it. -/
def tabSet {α : Type} [DecidableEq α] (d : Nat → α) (t : Tab α) (k : Nat) (v : α) : Tab α :=
  if v = d k then tabDrop t k else tabPut t k v

/-- Keys above `b` only, strictly rising, no default listed. -/
def tabWfFrom {α : Type} [DecidableEq α] (d : Nat → α) : Nat → Tab α → Bool
  | _, [] => true
  | b, (i, v) :: t => decide (b ≤ i) && decide (v ≠ d i) && tabWfFrom d (i + 1) t

/-- The canonical form. -/
def tabWf {α : Type} [DecidableEq α] (d : Nat → α) (t : Tab α) : Bool := tabWfFrom d 0 t

end Sys2Proof.Machine
end

