-- ==== Sys2Proof/Machine/State.lean ====
section
/-! DEFINITION. The state of the module as plain data: every register, buffer, counter, mode and pin the spec gives it,
the queue of waiting commands, and the reasons a command can stop. INVENTORY.md names the rule of each field. -/

namespace Sys2Proof.Machine

/-- Stops of the machine. No command of this model faults. -/
inductive Fault where
  /-- Raised by nobody: kept so that the type is inhabited. Safe. -/
  | none
deriving DecidableEq, Repr

/-- Commands without a meaning. -/
inductive Refusal where
  /-- Raised by `exec` for a command whose meaning is not written yet, under the table's mnemonic. Safe. -/
  | notModelled (mnemonic : String)
deriving DecidableEq, Repr

/-! ## Shared records -/

/-- A value of a dictionary object: the bits of a numeric type, or the bytes of a STR or BLOB (R303). -/
inductive Value where
  | num (n : Nat)
  | bytes (b : List Byte)
deriving DecidableEq, Repr

/-- An event record (Table 14.8). -/
structure Event where
  code : Nat
  source : Nat
  detail : Nat
  epoch : Nat
  time : Nat
  seq : Nat
deriving DecidableEq, Repr

/-- One operation record's answer (Table 14.5). -/
structure Response where
  op : Nat
  index : Nat
  sub : Nat
  abort : Nat
  flags : Nat := 0
  type : Nat := 0
  offset : Nat := 0
  data : List Byte := []
deriving DecidableEq, Repr

/-- What an Ethernet frame of the module carries beside its payload: the IP address of the next hop (R265), VLAN id (0 untagged),
PCP, DSCP, ECT(0), UDP source port (R264, R268, R275, R277). -/
structure EthHdr where
  hop : Nat := 0
  vlan : Nat := 0
  pcp : Nat := 0
  dscp : Nat := 0
  ect : Bool := false
  srcPort : Nat := 0
deriving DecidableEq, Repr

/-- What the module sends out at its boundaries, in order. -/
inductive Out where
  | response (slot : Nat) (r : Response)
  /-- A MOP datagram to an address and a UDP port, on the field network or in-band (R279, R313). -/
  | datagram (inband : Option Nat) (ip port : Nat) (bytes : List Byte)
  | flit (fiber : Nat) (bytes : List Byte)
  | group (fiber : Nat) (ctype : Nat) (map : List Nat) (rxrdy thin : Bool) (dlane : Nat) (info : List Nat)
  /-- A row on a fiber (R202, R204): the lines that send in it, each with its 130-bit block. -/
  | row (fiber : Nat) (blocks : List (Nat × BitVec 130))
  | injected (fiber line target : Nat)
  | arpReply (lport ip mac : Nat)
  | neighbourAdvert (lport ip mac : Nat)
  | echoReply (lport ip : Nat) (data : List Byte)
  | cmRep (lport qp respRes initDepth : Nat) (priv : List Byte)
  | cmRej (lport reason : Nat) (priv : List Byte)
  | cmDrep (qp : Nat)
  | rcAck (qp psn : Nat)
  | rcNak (qp psn code : Nat)
  | rcRnr (qp psn timer : Nat)
  | readResponse (qp psn opcode : Nat) (data : List Byte)
  | frame (lport : Nat) (h : EthHdr) (payload : Out)
  /-- On the field network, by the keeper (R310). -/
  | field (payload : Out)
  | rdmaWrite (qp psn opcode rkey addr : Nat) (data : List Byte)
  | cnp (qp : Nat)
  | pfc (lport prio quanta : Nat)
  | smbus (data : List Byte)
  | tdo (bits : List Bool)
  | tileMessage (fromTile toTile kind : Nat) (args : List Nat)
  | oeRequest (oe tag opc : Nat)
deriving DecidableEq, Repr

/-! ## Pens (03, 04) -/

/-- How a job runs: planned or re-run, replay, compare-mode repetition, SCR repetition, shadow, third run
(R133, R354–R364). -/
inductive RunKind where
  | plan | replay | repetition | screp | shadow | third
deriving DecidableEq, Repr

/-- One item of a run record (R355). -/
inductive RecItem where
  | bst (slot fmt : Nat) (shape : List Nat) (crc sum : Nat)
  | emit (slot stream : Nat)
  | tokw (session token flags : Nat)
  | exc (code index : Nat)
deriving DecidableEq, Repr

/-- A job: its descriptor's fields (Table 04.11) with the lists they name, and where it stands. -/
structure Job where
  /-- Its index in its plan, and the tread that plan was for: an earlier one makes it a re-run (R133). -/
  index : Nat := 0
  planEpoch : Nat := 0
  jobId : Nat := 0
  cycb : Nat := 0
  energy : Nat := 0
  entry : Nat := 0
  nin : Nat := 0
  nout : Nat := 0
  seed : BitVec 64 := 0
  prog : Nat := 0
  mig : Bool := false
  scr : Bool := false
  gal : Bool := false
  home : Nat := 0
  ncmt : Nat := 0
  arg0 : BitVec 64 := 0
  views : List (BitVec 256) := []
  bales : List (BitVec 128) := []
  sessions : List Nat := []
  succ : List Nat := []
  npred : Nat := 0
  kind : RunKind := .plan
  pinned : Bool := false
  /-- The tile that traded it in (R141). -/
  donor : Option Nat := none
  /-- The run record it is compared with, and the pen that made it (R355). -/
  against : List RecItem := []
  againstPen : Nat := 0
deriving DecidableEq, Repr

/-- A residency entry (R78): where the bale of a slot lies. `space` 0 pen scratch, 1 module memory. -/
structure Resident where
  space : Nat
  base : Nat
  header : BitVec 512
  checked : Bool
deriving DecidableEq, Repr

/-- A bale read that BLD or TAKE waits for (R78, R116). `served` holds what the memory controller delivers. -/
structure BaleRead where
  cls : Nat
  payload : Nat
  header : Nat
  copyTo : Option Nat
  served : Option (List Byte × BitVec 512) := none
  reissued : Bool := false
  /-- Instruction index, for the report of an exception at arrival (R89), and its place in program order (R90). -/
  index : Nat := 0
  order : Nat := 0
  take : Bool := false
deriving DecidableEq, Repr

/-- A commit that a run has queued (R25). -/
inductive Commit where
  | bale (tile jobId out staging : Nat) (header payload : Nat)
  | emit (tile jobId out stream : Nat) (rerun : Bool) (header : BitVec 512) (payload : List Byte)
  | token (tile jobId session token flags : Nat)
deriving DecidableEq, Repr

/-- Why a pen's instruction has not completed (R69, R70, R75, R78, R81). -/
inductive Stall where
  | unitBusy | tick | treadInput (header : Nat) | inbound (stream seq : Nat) | readLimit | stagingSlot | pendingWrite
deriving DecidableEq, Repr

/-- How a run ended: END, or an exception with its code, instruction index and detail word (R87, R89). -/
inductive RunEnd where
  | done
  | exc (code index : Nat) (detail : BitVec 64)
deriving DecidableEq, Repr

/-- The run a pen is in. -/
structure Run where
  job : Job
  epoch : Nat
  ninstr : Nat := 65536
  stored : List Nat := []
  commitsMade : Nat := 0
  commits : List Commit := []
  record : List RecItem := []
  ended : Option RunEnd := none
  /-- Instructions issued so far; the place in that order of the exception that ended the run (R90); the accumulator of a checksum
  failure (R60). -/
  issued : Nat := 0
  endedAt : Nat := 0
  acc : Option Nat := none
  /-- Clock at dispatch, and the tile's rein time then (R146). -/
  startClock : Nat := 0
  reinStart : Nat := 0
deriving DecidableEq, Repr

/-- An accumulator's hidden checksum state (R58, R76). Lanes are lists of 32 FP32 words. -/
structure AccSide where
  rowLane : Tab F32 := []
  rowMag : Tab F32 := []
  colLane : Tab F32 := []
  colMag : Tab F32 := []
  depth : Nat := 0
  void : Bool := false
deriving DecidableEq, Repr

/-- A pen (Table 03.1). Accumulator element (i, j) of An is key 1024 n + 32 i + j of `acc`. -/
structure Pen where
  regs : Tab Word64 := []
  views : Tab (BitVec 256) := []
  acc : Tab F32 := []
  side : Tab AccSide := []
  scratch : Tab Byte := []
  satc : Nat := 0
  nanc : Nat := 0
  infc : Nat := 0
  rng : BitVec 64 := 0
  resident : Tab (Option Resident) := []
  reads : Tab (Option BaleRead) := []
  pc : Nat := 0
  run : Option Run := none
  stall : Option Stall := none
  suspect : Bool := false
  /-- Epochs of its transient faults (R358). -/
  transients : List Nat := []
  /-- Epoch of its clean point (R364). -/
  clean : Nat := 0
  /-- A sampled pen whose last sampled tread was not clean stays sampled (R362). -/
  dirty : Bool := false
  shadowsOpen : Nat := 0
  sampled : Bool := false
  mismatch : Bool := false
  /-- The reference digest made for its next test, with the epoch it is for (R366). -/
  reference : Option (Nat × BitVec 32) := none
  /-- Taint log (R368): session and earliest suspect position; and its overflow flag. -/
  taint : List (Nat × Nat) := []
  taintOver : Bool := false
  /-- Busy time of the tread, hub cycles (R146). -/
  busy : Nat := 0
deriving DecidableEq, Repr

/-! ## Tiles (01, 05, 06) -/

/-- A staged bale of the commit staging area (R110, R111). -/
structure StagedBale where
  jobId : Nat
  out : Nat
  header : Nat
  payload : Nat
  released : Bool := false
  written : Bool := false
  /-- A commit of the same landing to the same header has the greater key (R120). -/
  loser : Bool := false
  /-- The header that its destination port stores, once checked there (R103). -/
  head : Option (BitVec 512) := none
deriving DecidableEq, Repr

/-- A case of R354: the pen, the job, the first run's end and record, and what replay and repetition gave. -/
structure FaultCase where
  pen : Nat
  job : Job
  code : Nat
  index : Nat
  /-- The report's detail word and accumulator (R60, R89). -/
  detail : BitVec 64 := 0
  acc : Option Nat := none
  replayPen : Nat
  replay : Option (List RecItem × RunEnd) := none
  repetition : Option (List RecItem × RunEnd) := none
  second : Bool := false
deriving DecidableEq, Repr

/-- A cross-replay mismatch waiting for its third run (R364). -/
structure MismatchCase where
  origPen : Nat
  shadowPen : Nat
  original : List RecItem
  shadow : List RecItem
  job : Job
deriving DecidableEq, Repr

/-- What a test of a pen in FORCE decides (R356, R361, R364, R367). `kind` 0 a check failure, 1 a cross-replay mismatch,
2 a restore, 3 a disputed test. `other` is the partner or the third pen; `ran` counts the digests in, and for a disputed
test is 1 where a check failure led to it. -/
structure TestCase where
  kind : Nat
  pen : Nat
  other : Nat := 0
  epoch : Nat := 0
  own : Option (BitVec 32) := none
  ref : Option (BitVec 32) := none
  ran : Nat := 0
deriving DecidableEq, Repr

/-- An accepted tread plan (R93, R131). -/
structure Plan where
  epoch : Nat
  jobs : List Job
deriving DecidableEq, Repr

/-- A demand record (Table 06.2): energies in nJ, and by sixteenths of WORKC in µJ. -/
structure Demand where
  epoch : Nat := 0
  pens : Nat := 0
  total : Nat := 0
  largest : Nat := 0
  seg : List Nat := []
deriving DecidableEq, Repr

/-- A tile: its domains, its shepherd, its memory controller. -/
structure Tile where
  strap : BitVec 16 := 0
  /-- A restart in progress, with what it finds (R338, R361). -/
  restart : Option TileChecks := none
  tileOn : Bool := false
  flockOn : Bool := false
  stepping : Nat := 0
  launchDelay : Nat := 0
  capability : BitVec 64 := 0
  epochSeen : Nat := 0
  dispatchStopped : Bool := false
  -- shepherd
  budgetEpoch : Nat := 0
  budgetPens : BitVec 16 := 0
  budgetBatch : Nat := 4096
  plan : Option Plan := none
  held : Option Plan := none
  jobs : List Job := []
  /-- Jobs of this tread that were dropped: they run again, as their sessions are withheld (R26, R133); those of the next tread. -/
  dropped : List Job := []
  dropNext : List Job := []
  waiting : List Job := []
  deques : Tab (List Job) := []
  readyList : List Job := []
  balance : Int := 0
  grant : Nat := 0
  /-- ENERGY of trades reported since the last slot boundary (R159). -/
  tradeDelta : Int := 0
  slotNo : Nat := 0
  /-- Pens that wait for the next slot boundary (R137, R139). -/
  slotWait : BitVec 16 := 0
  /-- Header addresses of the TREAD outputs of completed jobs of the tread (R78). -/
  treadOut : List Nat := []
  withheld : List Nat := []
  /-- Sessions of refused plans, withheld in the next tread (R131). -/
  withheldNext : List Nat := []
  /-- The same, for the tread after that. -/
  withheldLater : List Nat := []
  rerun : List Job := []
  /-- Pens and session sets of the jobs completed in the tread (R368). -/
  done : List (Nat × List Nat) := []
  tests : List TestCase := []
  /-- Commits of completed jobs, each with its job's session set (R25). -/
  commits : List (List Nat × Commit) := []
  staging : Tab (Option StagedBale) := []
  /-- Jobs traded in without a report: donor, job id (R140). -/
  tradedIn : List (Nat × Nat) := []
  tradedOut : List (Nat × Job) := []
  /-- Neighbours with a trade request outstanding (R140). -/
  requested : List Nat := []
  overran : Bool := false
  shortHistory : List Bool := []
  goodRun : Nat := 0
  -- in-field test
  duePen : Option Nat := none
  deferrals : Nat := 0
  force : BitVec 16 := 0
  forceNext : BitVec 16 := 0
  excluded : BitVec 16 := 0
  -- integrity
  cases : List FaultCase := []
  mismatches : List MismatchCase := []
  taintPens : List Nat := []
  -- memory controller
  selfRefresh : Bool := false
  poisonings : List (Nat × Nat) := []
  discards : Tab Nat := []
  newlyFailed : BitVec 6 := 0
  deviceRefresh : Nat := 1
  -- rein
  rein : Bool := false
  reinAt : Nat := 0
  reinBelow : Nat := 0
  floorMw : Rat := 0
  floorSum : Rat := 0
  floorWindows : Nat := 0
  /-- Clock when rein of either kind began to hold the tile (R145). -/
  heldAt : Nat := 0
  /-- Its demand record for the next tread (R144). -/
  demand : Demand := {}
deriving DecidableEq, Repr

/-! ## Treads and ticks (02) -/

/-- A beacon of the epoch under way: sender's role, active or not, offset after path-delay correction. -/
structure Heard where
  role : Nat
  active : Bool
  offset : Int
deriving DecidableEq, Repr

/-- The tick generator, the interlock and the alignment across a flight. -/
structure TickSt where
  running : Bool := false
  stopReq : Bool := false
  /-- A tread has begun since Start treads. -/
  begun : Bool := false
  inLanding : Bool := false
  lost : Bool := false
  /-- The last tick was the module's flywheel's (R41). -/
  flywheel : Bool := false
  tickAt : Nat := 0
  /-- Clock of the tick before, of the same run of treads. -/
  prevTick : Option Nat := none
  role : Nat := 0
  /-- Object 0x2041 as applied at Start treads (R261). -/
  faddr : Nat := 0
  period : Nat := 250000
  land : Nat := 4
  /-- Values that govern from the following tick (R31). -/
  nextPeriod : Nat := 250000
  nextLand : Nat := 4
  /-- A pending change: period, landing length, remaining count (R31). -/
  change : Option (Nat × Nat × Nat) := none
  claimOut : Bool := false
  claimIn : Bool := false
  /-- CLAIM_OUT is asserted by a standby, or by a reclaiming primary, that is not active yet. -/
  claiming : Bool := false
  reclaiming : Bool := false
  reclaimSent : Bool := false
  confirmed : Bool := false
  active : Bool := false
  /-- Beacons heard for `beaconEpoch`; the active master's role, its RECLAIM, and its SCHD and MEMBD. -/
  heard : List Heard := []
  beaconEpoch : Nat := 0
  everBeacon : Bool := false
  activeRole : Nat := 1
  reclaimSeen : Bool := false
  schd : Option Nat := none
  membd : Nat := 0
  /-- Consecutive failed comparisons (R38). -/
  cmpFails : Nat := 0
  /-- Dispute notices counted: epoch, source (R39). -/
  disputes : List (Nat × Nat) := []
  claimDue : Bool := false
  /-- Probes sent: identifier, fiber, launch clock, epoch (R33). -/
  probes : List (Nat × Nat × Nat × Nat) := []
  nextPid : Nat := 0
  /-- Hop delay in use by fiber, ps; new ones for the next landing; fibers to measure again at the next tread (R34). -/
  hopDelay : Tab (Option Int) := []
  newDelay : List (Nat × Int) := []
  remeasure : List Nat := []
  reinsInTread : Nat := 0
  /-- A fault of the module's own master since the last tick (R39). -/
  ownFault : Bool := false
deriving DecidableEq, Repr

/-! ## Drover (07) -/

/-- A shutdown record (Table 07.6). -/
structure ShutdownRecord where
  epoch : Nat
  uptime : Nat
  pin : Nat
  dmax : Int
  test : Int
  node : Nat
  cause : Nat
  seq : Nat
deriving DecidableEq, Repr

/-- The drover: metering, rein, grants, clock and the thermal model. Powers in mW, temperatures in °C. -/
structure Drover where
  millivolts : Nat := 0
  tabA : Nat := 0
  tabB : Nat := 0
  vkMw : Nat := 0
  tabFault : Bool := false
  voltLimited : Bool := false
  metered : Rat := 0
  windowSum : Rat := 0
  windowCount : Nat := 0
  mean : Rat := 0
  disagree : Nat := 0
  nonTile : Rat := 0
  nonTileSum : Rat := 0
  nonTileCount : Nat := 0
  rein : Bool := false
  reinAt : Nat := 0
  reinBelow : Nat := 0
  /-- Module rein in the tread before, and at the tick that began this one (R165). -/
  reinLast : Bool := false
  reinCarried : Bool := false
  reinHeld : Bool := false
  tau : Rat := 1
  /-- Grant of tile t in segment s of the tread: key 16 t + s. -/
  grants : Tab Nat := []
  nextGrants : Tab Nat := []
  gminOnly : Bool := false
  clockNow : Rat := 0
  /-- Tile cycles up to the last change of the clock, and the hub clock of that change (R378). -/
  cyclesBefore : Rat := 0
  cyclesAt : Nat := 0
  clockNext : Rat := 0
  millivoltTile : Nat := 0
  coolTicks : Nat := 0
  belowRated : Bool := false
  /-- Power by rail in mW, summed over the windows since the last thermal update (R166). -/
  railSum : Tab Rat := []
  railWindows : Nat := 0
  /-- Sampling-point table in use (R168): 4 t + k for port k of tile t, 256 + n for the links of OE n. -/
  sampling : Tab Nat := []
  /-- The four sampling-point tables of each die-to-die receiver, one point each (R342; log entry 144). -/
  points : Tab (List Int) := []
  /-- A shutdown that the keeper is to begin: cause, node or diode (R170). -/
  shutDue : Option ShutdownRecord := none
  temps : Tab Rat := []
  newBands : Tab (Option Nat) := []
  /-- Coolant anchor T_c in °C. -/
  anchor : Rat := 0
  diff5 : Nat := 0
  diff15 : Nat := 0
  modelFailed : Bool := false
  diodes : List Int := []
  latch : Bool := false
  records : List ShutdownRecord := []
  nextRecord : Nat := 0
  latchCutBoot : Bool := false
deriving DecidableEq, Repr

/-! ## Optics and lanes (08, 09) -/

/-- A ring: the status word's fields (Table 08.5) and what its loop aims at. Shifts in GHz. -/
structure RingSt where
  heat : Nat := 0
  tone : Nat := 31
  fails : Nat := 0
  state : Nat := 0
  fsr : Nat := 3950
  expected : Nat := 2400
  aim : Nat := 0
  centre : Int := 0
  width : Nat := 0
deriving DecidableEq, Repr

/-- A block of a transmitter's stream before a lane and a row carry it (R204, R205). -/
inductive StreamBlock where
  | data (payload : BitVec 128)
  | ctrl (ctype : Nat) (map : List Nat) (rxrdy thin : Bool) (dlane : Nat)
deriving DecidableEq, Repr

/-- The taps of a receiver's equaliser, in 1/1,024 of the slicer swing: 1/512 of each tap's range (R210). -/
structure Taps where
  h1 : Int := 0
  h2 : Int := 0
  h3 : Int := 0
deriving DecidableEq, Repr

/-- A lane's receiver or transmitter on one line (Table 09.8). -/
structure LaneSt where
  state : Nat := 0
  lane : Nat := 31
  skew : Int := 0
  margin : Nat := 255
  /-- Clock when it entered electrical idle (R218). -/
  idleSince : Nat := 0
  headerErrors : Nat := 0
  lockLosses : Nat := 0
  /-- Its scrambler's or descrambler's register: the last 58 line bits (R203). -/
  scrambler : BitVec 58 := 0
  /-- Blocks of the burst out of electrical idle that it still sends (R217). -/
  burst : Nat := 0
  /-- The pattern generator's register (R219), and a bit of its next block that an injection inverts (R220). -/
  prbs : BitVec 31 := 0x7FFFFFFF
  flip : Option Nat := none
  /-- Its block boundary in UI, while it holds one (R209, R217, R218). -/
  phase : Option Nat := none
  /-- Its last 64 sync headers in lock, newest first: which were invalid (R209). -/
  headers : List Bool := []
  /-- Its taps, the clock since when they adapt, and whether they have since bring-up (R210). -/
  taps : Taps := {}
  tapsAt : Nat := 0
  adapted : Bool := false
deriving DecidableEq, Repr

/-- A steering exchange (R186–R189). `to`/`from` 255 is none. -/
structure Exchange where
  token : Nat
  lane : Nat
  fromLine : Nat
  toLine : Nat
  reason : Nat
  epoch : Nat
  compare : Bool := true
  asked : Bool := false
deriving DecidableEq, Repr

/-- A fiber pair: maps, striping, exchanges, training, shutter. -/
structure FiberSt where
  inService : Bool := false
  txMap : List Nat := [0, 1, 2, 3, 4, 5, 6, 7, 8, 9, 10, 11, 12, 13, 14, 15]
  rxMap : List Nat := [255, 255, 255, 255, 255, 255, 255, 255, 255, 255, 255, 255, 255, 255, 255, 255]
  /-- 0 full, 1 thin, 2 retired (R184). -/
  txState : Nat := 0
  rxState : Nat := 0
  shutterClosed : Bool := false
  /-- A closed shutter in its 4 ms probe (R199). -/
  probing : Bool := false
  los : Bool := false
  exchTx : Option Exchange := none
  exchRx : Option Exchange := none
  /-- Moves that wait: lane, reason, and the line it asks for or 255 (R189). -/
  moves : List (Nat × Nat × Nat) := []
  /-- ASK notices not answered yet: token, lane, reason (R186). -/
  asks : List (Nat × Nat × Nat) := []
  /-- ASK notices taken whose move waits: they are answered when its turn comes (R186). -/
  askHeld : List Notice := []
  /-- Lanes moved off a LOST ring and the line they return to, of each direction (R188). -/
  away : List (Nat × Nat) := []
  rxAway : List (Nat × Nat) := []
  nextToken : Nat := 0
  training : Bool := false
  attempts : Nat := 0
  /-- The received map has been taken, and a row that was no TRAIN row has come since training began (R216). -/
  mapTaken : Bool := false
  streaming : Bool := false
  /-- The last TRAIN row sent had RXRDY = 1. -/
  rxrdySent : Bool := false
  /-- Consecutive TRAIN rows received with RXRDY = 1. -/
  rxrdyRows : Nat := 0
  /-- The transmitter's ROW counter (R204). -/
  row : BitVec 16 := 0
  /-- Blocks of the transmit stream that no row has carried yet; a MODE group whose last block is among them: thin, lane,
  line; and the lane position of the next block received in thin striping (R204, R207). -/
  stream : List StreamBlock := []
  modeEnd : Option (Bool × Nat × Nat) := none
  rxPos : Nat := 0
  rxLossOfLock : Bool := false
  /-- Rows of discarded control groups (R206). -/
  discardRows : List Nat := []
  /-- A MODE group to send at the next group boundary: thin, lane, line (R207). -/
  modeDue : Option (Bool × Nat × Nat) := none
  /-- A DROP notice accepted for this lane. -/
  dropLane : Option Nat := none
  /-- A lane whose RESTORE waits for its answer: token, lane, line. -/
  restoring : Option (Nat × Nat × Nat) := none
deriving DecidableEq, Repr

/-- A laser of a sled (R177, R178, R194). `d` and `trend` in 0.01 dB. -/
structure LaserSt where
  /-- 0 lit, 2 faded, 3 failed, 4 off; Table 08.7 tells a lit one with a lane from a free one. -/
  state : Nat := 0
  d : Int := 0
  trend : Int := 0
  /-- Bias in 0.1 mA that it ramps from and to (R177). -/
  biasFrom : Nat := 0
  bias : Nat := 0
  check : Nat := 0
  mpd : Nat := 0
  /-- Sum and number of the relative outputs sampled since the last daily mean, and the last 30 daily means, newest first,
  in 0.01 dB (R178). -/
  dSum : Int := 0
  dCount : Nat := 0
  days : List Int := []
  /-- Fade warning reached (R193). -/
  warned : Bool := false
deriving DecidableEq, Repr

/-- A calibration step in progress (R191). -/
structure CalStep where
  line : Nat
  /-- 0 steer out, 1 laser, 2 rings, 3 steer back. -/
  phase : Nat := 0
  began : Nat := 0
  waitingWindow : Bool := false
  /-- Transmit lanes moved out, dropped, and receive lanes away: fiber, lane. -/
  moved : List (Nat × Nat) := []
  dropped : List (Nat × Nat) := []
  gone : List (Nat × Nat) := []
  /-- Receive fibers whose ASK is not answered yet. -/
  asked : List Nat := []
  /-- Rings skipped in this step: receive or not, fiber. -/
  skipped : List (Bool × Nat) := []
  /-- The laser is out: only the receive rings are acquired. -/
  noLaser : Bool := false
  discarded : Bool := false
deriving DecidableEq, Repr

/-- An optical engine: admission, calibration, the stile's record of it. -/
structure OeSt where
  voOn : Bool := false
  vlOn : Bool := false
  admitted : Bool := false
  withdrawn : Bool := false
  fibers : BitVec 8 := 0
  fail : Nat := 0
  capability : BitVec 64 := 0
  serial : List Byte := []
  ramp : Bool := false
  /-- Clock at which the bias ramp began (R177). -/
  rampAt : Nat := 0
  waveform : Nat := 0
  cal : Option CalStep := none
  flagged : List Nat := []
  displaced : List Nat := []
  violations : Nat := 0
  lastCause : Nat := 0
  violTimes : List Nat := []
  notifies : Nat := 0
  notifySecond : Nat := 0
  requests : List (Nat × Nat × Nat) := []
  mailbox : List (List Byte) := []
  /-- A re-qualification waits for the next landing (R404); it has begun (R339). -/
  requalPending : Bool := false
  requalifying : Bool := false
deriving DecidableEq, Repr

/-- The PRBS tests and the armed injection (R219, R220). -/
structure TestSt where
  /-- Tests that run: receive or not, fiber, line, configuration. -/
  running : List (Bool × Nat × Nat × Nat) := []
  /-- The receive test that the counters report: fiber, line; and the clock since when its pattern lock counts. -/
  checker : Option (Nat × Nat) := none
  /-- Draw of the line errors of the pattern lock in progress (log entry 42). -/
  lockDraw : Nat := 0
  lockAt : Option Nat := none
  injection : Option (BitVec 32) := none
  injFiber : Nat := 0
  injLine : Nat := 0
deriving DecidableEq, Repr

/-! ## Link layer (10) -/

/-- A flit held for sending: its 256 bytes before the per-hop fields are written. -/
structure QFlit where
  tc : Nat
  slot : Nat
  late : Bool := false
  payload : List Byte
  /-- Originated here outside the schedule: SLOT is written when it is launched (R224). -/
  own : Bool := false
  /-- The receive pool that holds it, by fiber (R234). -/
  pool : Option Nat := none
deriving DecidableEq, Repr

/-- A flit on its way through the crossbar (R233, R250): the clock at which its row begins, and whether its verdict
was other than good. -/
structure CutFlit where
  mark : Nat
  flit : QFlit
  stomp : Bool
deriving DecidableEq, Repr

/-- One end of a link (R222–R243). Per-class lists have five places. -/
structure LinkSt where
  /-- Table 10.5. -/
  state : Nat := 0
  direct : Bool := true
  sentStart : Bool := false
  gotStart : Bool := false
  -- transmit side
  next : Nat := 0
  oldest : Nat := 0
  /-- Entries in replay SRAM by sequence number; the `spilled` oldest lie in the spill region (R235). -/
  replay : Tab (Option QFlit) := []
  spilled : Nat := 0
  /-- The oldest entries, before the spilled ones, that were spilled into a region that has gone (R236). -/
  unreadable : Nat := 0
  spillWaiting : Nat := 0
  spillLost : Bool := false
  spillRead : Bool := false
  /-- Next sequence number of a replay in progress; start and clock of the last replay. -/
  replayAt : Option Nat := none
  lastReplay : Option (Nat × Nat) := none
  /-- Consecutive replays from the same oldest entry (R241). -/
  noProgress : Nat := 0
  queues : Tab (List QFlit) := []
  /-- S_c, F′_c, the last CCUM of each class; the peer's reserved minimums (R237, R238). -/
  sent : List Nat := [0, 0, 0, 0, 0]
  credited : List Int := [0, 0, 0, 0, 0]
  lastCcum : List Nat := [0, 0, 0, 0, 0]
  resMin : List Nat := [16, 64, 64, 512, 256]
  /-- Link-control flits that wait: LTYPE and the clock since when. -/
  lcDue : List (Nat × Nat) := []
  /-- TICK flits to send: a beacon's slot, or none for a probe; payload. -/
  tickOut : List (Option Nat × List Byte) := []
  /-- Cut-through flits for rows to come (R250). -/
  cut : List CutFlit := []
  -- receive side
  rxState : Bool := false
  expect : Nat := 0
  nakPending : Bool := false
  sinceAck : Nat := 0
  ackDue : Bool := false
  peerDirect : Bool := true
  arrivals : List Nat := [0, 0, 0, 0, 0]
  freed : List Nat := [0, 0, 0, 0, 0]
  freedSent : List Nat := [0, 0, 0, 0, 0]
  /-- Entries of the receive pool in use by class. -/
  held : List Nat := [0, 0, 0, 0, 0]
  rotate : Nat := 0
  /-- Good arrivals so far, and the counts at which one was invalid (R241). -/
  goods : Nat := 0
  invalids : List Nat := []
  breakTimes : List Nat := []
  /-- One-way delay measured, hub cycles; none until a probe has been answered (R252). -/
  measured : Option Nat := none
  /-- Flight address of the far module, from its probes (R248). -/
  peerAddr : Option Nat := none
  tickDiscarded : Bool := false
  /-- Envelopes handed to the hub control cores, whose SLOT and LATE they keep when they are sent on (R224). -/
  handed : List QFlit := []
  badInTread : Nat := 0
  replaysInTread : Nat := 0
  /-- The row of the last launch: 2^20 × epoch + row + 1. -/
  launched : Nat := 0
deriving DecidableEq, Repr

/-! ## Gallery (11) -/

/-- An inbound bale being assembled (R257): parts present, its 4,160 bytes, void mark, deposit done. -/
structure Inbound where
  parts : List Nat := []
  bytes : Tab Byte := []
  void : Bool := false
  deposited : Bool := false
deriving DecidableEq, Repr

/-- Flight control: membership updates, build, launch buffers. -/
structure Gallery where
  /-- Positions of outbound streams that hold a bale in the launch buffer: key 256 position + stream. -/
  launch : Tab Bool := []
  /-- Those of the next tread, released at this landing (R255). -/
  launchNext : Tab Bool := []
  /-- Inbound bales: key 65,536 stream + position. -/
  inbound : Tab Inbound := []
  /-- Highest update number seen or sent (R260); MEMBD and NENT of the update being assembled, and its entries. -/
  upd : Nat := 0
  updHead : Option (Nat × Nat) := none
  updEntries : Tab (List Byte) := []
  /-- A complete list that comes into force at the next landing, or at the master's next tick. -/
  newList : Option (List Byte) := none
  building : Bool := false
  quiet : Bool := false
  /-- A loaded schedule that governs from the next tick (R251). -/
  loaded : Option (List Byte) := none
deriving DecidableEq, Repr

/-! ## Ethernet and RDMA (12) -/

/-- The token service's side of a connection (R281–R285). -/
structure Conn where
  depth : Nat
  saddr : Nat
  srkey : Nat
  nrec : Nat
  parea : Nat
  base : Nat
  /-- Requests placed in the session ring, oldest first. -/
  ring : List (List Byte) := []
  partialSend : List Byte := []
  cons : Nat := 0
  rdone : Nat := 0
  written : Nat := 0
  /-- Stream records that wait, PHASE clear; the first `due` of them are past their landing (R285). -/
  queued : List (List Byte) := []
  due : Nat := 0
deriving DecidableEq, Repr

/-- What a QP answers as responder (R270, R272, R273): an acknowledgement, with whether its packet's data is complete; an RNR or
sequence NAK; the response to an RDMA READ, whose data is read when it is sent; a NAK that brings the error state. -/
inductive RcReply where
  | ack (psn : Nat) (done : Bool)
  | nak (o : Out)
  | read (p : RcPacket) (linkError : Bool)
  | fatal (psn code : Nat)
deriving DecidableEq, Repr

/-- A queue pair. `state` 0 free, 1 REP sent, 2 ready to send, 3 error. Rates in Mb/s, α a fraction. -/
structure QpSt where
  state : Nat := 0
  lport : Nat := 0
  srcQp : Nat := 0
  srcAddr : Nat := 0
  respRes : Nat := 16
  mtu : Nat := 4096
  retry : Nat := 7
  rnrRetry : Nat := 7
  retryLeft : Nat := 7
  rnrLeft : Nat := 7
  expectPsn : Nat := 0
  sendPsn : Nat := 0
  /-- An RDMA WRITE under way: R_Key, address and length of the message, bytes taken. -/
  inWrite : Option (Nat × Nat × Nat × Nat) := none
  /-- What it answers as responder, in the order of the requests: each covers the packets before it, so it waits until their data is
  complete (R273). -/
  replies : List RcReply := []
  /-- Packets sent and not acknowledged, by PSN. -/
  unacked : List (Nat × Out) := []
  rc : Rat := 0
  rt : Rat := 0
  alpha : Rat := 1
  tc : Nat := 0
  bc : Nat := 0
  lastCnp : Option Nat := none
  conn : Option Conn := none
deriving DecidableEq, Repr

/-- Priority flow control of one priority of one logical port (R275, R276). -/
structure PfcSt where
  sent : Bool := false
  paused : Bool := false
  /-- Clock at which the quanta received run out. -/
  until_ : Nat := 0
  released : Bool := false
deriving DecidableEq, Repr

/-- An external write reported complete later (R121, R273). -/
structure ExtWrite where
  id : Nat
  addr : Nat
  data : List Byte
  qp : Option Nat
  psn : Nat
deriving DecidableEq, Repr

/-- The Ethernet and RDMA blocks. -/
structure EthSt where
  qps : Tab QpSt := []
  windows : Tab (BitVec 256) := []
  neighbours : List (Nat × Nat × Nat) := []
  pfc : Tab PfcSt := []
  mopCount : Tab Nat := []
  mopSecond : Nat := 0
  writes : List ExtWrite := []
  nextWrite : Nat := 0
  /-- Frames in the receive buffers that no step has taken yet: logical port, priority, bytes (R275). -/
  buffer : List (Nat × Nat × Nat) := []
  /-- Packets held back by a pause: logical port, priority (R275). -/
  heldOut : List (Nat × Nat × Out) := []
deriving DecidableEq, Repr

/-! ## Token service (13) -/

/-- A session (R287–R294). `state` 0 QUEUED, 1 PREFILL, 2 DECODE, 3 IDLE, 4 END. -/
structure Session where
  state : Nat := 0
  qp : Nat
  model : Nat
  tag : Nat
  keep : Bool := false
  stop : List Nat := []
  seed : Nat := 0
  maxtok : Nat := 0
  temp : F32 := 0
  topp : F32 := 0
  reppen : F32 := 0
  topk : Nat := 0
  /-- Context: token ids so far. -/
  context : List Nat := []
  /-- Context length after the latest prompt, and how much of it chunks have taken (R288, R292). -/
  prompt : Nat := 0
  done : Nat := 0
  /-- KV positions reserved. -/
  reserved : Nat := 0
  /-- Tread of its last step; 0 for none since its latest prompt. -/
  lastBatch : Nat := 0
  /-- Consecutive treads in which its step was withheld (R29). -/
  withheldRun : Nat := 0
  /-- A CLOSE was taken. -/
  closing : Bool := false
  /-- Landing at which it ended or entered IDLE; token records of that landing's end and of the next one are discarded. -/
  endedAt : Option Nat := none
  /-- Bytes of an incomplete UTF-8 sequence that wait (R286). -/
  held : List Byte := []
  /-- Order in which requests were taken (R289). -/
  order : Nat := 0
  /-- Its QP has gone: it ends at the next landing without a record (R291). -/
  orphan : Bool := false
deriving DecidableEq, Repr

/-- A layer entry of a model image (Table 13.9), with the pasture offset of its resident copy, if it has one. -/
structure Layer where
  tile : Nat
  nbale : Nat
  pbase : Nat
  hbase : Nat
  mpbase : Nat
  mhbase : Nat
  resident : Option Nat := none
deriving DecidableEq, Repr

/-- A model index (R296–R299). -/
structure Model where
  state : Nat := 0
  modelid : Nat := 0
  icrc : Nat := 0
  eosid : Nat := 0
  vocab : Nat := 0
  maxctx : Nat := 0
  kvpos : Nat := 0
  image : Nat := 0
  /-- Tile, CYC, streamed bytes S_t. -/
  tiles : List (Nat × Nat × Nat) := []
  wset : Tab Nat := []
  layers : List Layer := []
  /-- GiB numbers (address / 2^30) that hold its KV positions. -/
  kvGib : List Nat := []
  /-- Region map entries that its commit wrote (R128, R298). -/
  regions : List (List Byte) := []
deriving DecidableEq, Repr

/-- The token service's own queues. -/
structure Service where
  sessions : Tab (Option Session) := []
  models : Tab Model := []
  nextOrder : Nat := 0
  /-- The batch of tread `batchEpoch`: session, prompt tokens of its chunk. -/
  batch : List (Nat × Nat) := []
  batchEpoch : Nat := 0
  /-- Ring-pool allocations: base, length in 64 KiB units. -/
  pool : List (Nat × Nat) := []
  /-- Sessions that end at the landing: session, status, TOKEN. -/
  endsNow : List (Nat × Nat × Nat) := []
  /-- Those that a model's change brings while a landing is under way: they end at the next one (R299). -/
  endsLater : List (Nat × Nat × Nat) := []
  /-- Sessions ended with an error or with their QP since the last landing (event 0xB005). -/
  endErrors : Nat := 0
  /-- Models whose load is complete and waits for the landing (R298). -/
  loadsDone : List Nat := []
  /-- Reports of the other members on their models: key 16 × flight address + index; MODELID, state (R295). -/
  reports : Tab (Nat × Nat) := []
  /-- The prediction of R297 lies above the tread period (event 0xB007). -/
  above : Bool := false
deriving DecidableEq, Repr

/-! ## Dictionary and keeper (14) -/

/-- What waits for the next landing, in the order of acceptance (R306, R309); `frame` is the datagram and the record that
a commit answers. -/
inductive Deferred where
  | write (index sub : Nat) (v : Value)
  | window (index : Nat) (data : List Byte)
  | tickCommit (slot : Nat) (frame : Option (Nat × Nat))
  | redirectCommit (slot : Nat) (frame : Option (Nat × Nat))
deriving DecidableEq, Repr

/-- A commit group's staging area (R308). -/
structure Group where
  staged : List (Nat × Nat × Value) := []
  bound : Option Nat := none
  lastWrite : Nat := 0
deriving DecidableEq, Repr

/-- A segmented write being assembled (R316). -/
structure Assembly where
  slot : Nat
  data : List Byte
  last : Nat
deriving DecidableEq, Repr

/-- A key slot (R318, R320). -/
structure KeySlot where
  authority : Nat := 0
  key : List Byte := []
  h : Nat := 0
  seen : List Nat := []
  /-- Last requests: counter, tag, the response sent. -/
  recent : List (Nat × List Byte × List Byte) := []
deriving DecidableEq, Repr

/-- A datagram that runs or waits: its path, its key slot and that slot's key, its header and tag, and its records'
answers (R314, R315). -/
structure Frame where
  id : Nat
  inband : Option Nat
  /-- The request's source address and port. -/
  peer : Nat × Nat
  slot : Nat
  key : List Byte
  head : List Byte
  tag : List Byte
  answers : List (Option Response)
deriving DecidableEq, Repr

/-- The dictionary's working state. -/
structure DictSt where
  deferred : List Deferred := []
  /-- Objects whose values came into force at the landing under way, with the values that govern until the tick (R306). -/
  governing : List (Nat × Nat) := []
  tickGroup : Group := {}
  redirectGroup : Group := {}
  assemblies : Tab (Option Assembly) := []
  /-- Read holds (R316): slot, index, sub, the value held, when. -/
  holds : List (Nat × Nat × Nat × List Byte × Nat) := []
  keys : Tab KeySlot := []
  authDiscards : Nat := 0
  authEventAt : Option Nat := none
  plcaSeen : Bool := true
  /-- Datagrams that hold a commit and wait for it (R315), and the number of the next one. -/
  frames : List Frame := []
  nextFrame : Nat := 0
  /-- The authority under which a datagram's records run. -/
  frameAuth : Option Nat := none
deriving DecidableEq, Repr

/-! ## Bring-up, test access, security, tally (15, 17, 18, 19) -/

/-- Bring-up and reset (R327–R335, R370–R372). -/
structure BootSt where
  vkUp : Bool := true
  /-- Stage 1 has completed: the keeper serves. -/
  booted : Bool := false
  /-- The keeper ROM or its memory failed: the module is silent. -/
  silent : Bool := false
  /-- Clock at the keeper's boot: event times count from it (Table 14.8). -/
  keeperAt : Nat := 0
  stageStart : Nat := 0
  halted : Bool := false
  v5On : Bool := false
  vhOn : Bool := false
  vmOn : Bool := false
  pllLocked : Bool := false
  hubUp : Bool := false
  hubAnswering : Bool := false
  /-- Clock at which the hub's cores started. -/
  hubStart : Nat := 0
  /-- The next OE that stage 4 qualifies. -/
  nextOe : Nat := 0
  /-- Stage 8 has completed. -/
  negotiated : Bool := false
  /-- MODRDY is asserted. -/
  modrdy : Bool := false
  /-- MODRST_N is asserted. -/
  modrstLow : Bool := false
  /-- The reference clocks of 100 MHz and 156.25 MHz are there. -/
  refSys : Bool := true
  refEth : Bool := true
  /-- The input lies within its limits (R153). -/
  inputOk : Bool := true
  poweredOff : Bool := false
  /-- The keeper has put every laser out: only bring-up lights them (R372). -/
  lasersOff : Bool := false
  /-- The tile array is cut off (R353). -/
  cutOff : Bool := false
  /-- Re-qualifications asked for before Ready (R334). -/
  waitOes : List (Nat × OeChecks) := []
  /-- A module reset, by cause, or a power-off that an install holds (R391). -/
  resetDue : Option Nat := none
  /-- The reset that is held is a module reset command's (R371). -/
  resetAsked : Bool := false
  powerOffDue : Bool := false
  /-- A firmware restart that is due, by cause (R370, R391). -/
  restartDue : Option Nat := none
  /-- The last reset was the keeper watchdog's (R370). -/
  keeperWdog : Bool := false
deriving DecidableEq, Repr

/-- The test access port (R343–R346). -/
structure TapSt where
  ir : BitVec 8 := 0x01
  /-- One cell for each single-ended signal of the connector field, in the order of Table 19.3 (R345). -/
  boundary : BitVec 21 := 0
  driving : Bool := false
  highz : Bool := false
  dtest : BitVec 32 := 0
  dstat : BitVec 32 := 0
  dtestRunning : Bool := false
  /-- Tile and package direction of the port under DTEST (R14). -/
  port : Option (Nat × Nat) := none
  testMode : Bool := false
  /-- Dies in stand-alone test mode: DIE and ID of Table 15.8 (R343). -/
  testDies : List (Nat × Nat) := []
deriving DecidableEq, Repr

/-- The keeper's non-volatile memory and the factory's data in it. -/
structure NvSt where
  bootEpoch : Nat := 0
  fences : List (Nat × Nat) := []
  meshSlices : Tab Nat := []
  gatewaySlices : Nat := 0
  oeSlices : List (Nat × Nat) := []
  fadedLasers : List Nat := []
  failedLasers : List Nat := []
  retiredRings : List Nat := []
  /-- Factory offsets of the sampling points of the four bands (R342). -/
  bandOffsets : List Int := [0, 0, 0, 0]
  txMaps : Tab (Option (List Nat)) := []
  log : List Event := []
  fieldIp : Option Nat := none
  fieldPort : Nat := 6010
  reenable : Nat := 60
  serial : List Byte := []
  macBase : Nat := 0
  fieldMac : Nat := 0
  fieldAddr : Nat := 0
  /-- Conversion efficiency of the tile rails' path, in parts per 10,000 (η_T of R156), and of each rail whose own value differs
  from the nominal one of Table 07.1. -/
  effTile : Nat := 9016
  eff : Tab Nat := []
  /-- Parts per 10,000 of the hub's power in its quadrants NW, NE, SW, SE (Table 07.4). -/
  hubSplit : Tab Nat := []
  /-- Rail set voltages in mV, by rail id; and the voltage–frequency table (MHz, mV). -/
  railMv : Tab Nat := []
  vf : List (Nat × Nat) := []
  /-- Heat capacity (mJ/K) by node, and conductances (node, node, mW/K). -/
  heatCap : Tab Nat := []
  conduct : List (Nat × Nat × Nat) := []
  /-- Factory readings of the monitor photodiodes and factory biases in 0.1 mA: key 16 × (18 × OE + line) + band. -/
  mpdRef : Tab Nat := []
  bias : Tab Nat := []
  /-- Factory taps of the receivers (R210). -/
  taps : Taps := {}
  lifecycle : Nat := 0
  /-- Security-version fuses blown, of 64; the digests of the two root keys (R385). -/
  svnFuses : Fin 65 := 0
  fwRoot : BitVec 256 := 0
  svcRoot : BitVec 256 := 0
  /-- The key slots as they are stored: authority, the key wrapped (R387, R393). -/
  slots : Tab (Option (Nat × List Byte)) := []
  devicePub : List Byte := []
  /-- The signing seed and identifier of the device, wrapped; none once they are erased (R387, R395, R399). -/
  deviceKey : Option (List Byte × List Byte) := some (Config.deviceSeed, Config.deviceId)
  certificate : List Byte := []
  leaves : Nat := 0
  leafBlockEnd : Nat := 0
deriving DecidableEq, Repr

/-- Firmware update, keys, attestation and lifecycle. -/
structure SecSt where
  store : List Byte := []
  heldImage : Option (List Byte) := none
  updState : Nat := 0
  updFail : Nat := 0
  installing : Bool := false
  runSvn : Fin 65 := 0
  runDigest : List Byte := []
  nonce : Option (List Byte) := none
  attState : Nat := 0
  attResult : List Byte := []
  attReport : List Byte := []
  treeLeft : Nat := 1048576
  nextTree : Bool := false
  generating : Bool := false
  lowLogged : Bool := false
  token : List Byte := []
deriving DecidableEq, Repr

/-- One tally's accumulators or its snapshot (Table 17.5). -/
structure TallyData where
  sum : Int := 0
  count : Nat := 0
  max : Int := -2147483648
  min : Int := 2147483647
  drop : Nat := 0
  incomplete : Bool := false
  binsat : Bool := false
  sumsat : Bool := false
  cntsat : Bool := false
  src : Nat := 0
  param : Nat := 0
  windows : Nat := 0
  epoch : Nat := 0
  bins : Tab Nat := []
deriving DecidableEq, Repr

/-- A tally unit (R374–R383). -/
structure Tally where
  config : BitVec 128 := 0x00000001000000000000000000000000
  newConfig : Option (BitVec 128) := none
  live : TallyData := {}
  snap : TallyData := {}
  windows : Nat := 0
  cut : Bool := true
  clearDue : Bool := false
  /-- A window ended at this tick and its snapshot is not copied yet (R380). -/
  closeDue : Option Nat := none
  satLogged : Bool := false
  /-- Die cycle of the last sample (R378). -/
  lastSample : Option Nat := none
deriving DecidableEq, Repr

/-! ## The module -/

/-- A re-homed GiB (R127): its source and target as GiB numbers, whether it waits for a copy, and whether that is done. -/
structure Refill where
  src : Nat
  tgt : Nat
  copies : Bool
  held : Bool
  done : Bool := false
deriving DecidableEq, Repr

/-- The module's state. -/
structure State where
  /-- The commands that wait, first in first out (the cut's queue). -/
  pending : List Instr := []
  /-- What the module has sent, oldest first. -/
  sent : List Out := []
  /-- Hub cycles since the keeper's power came up; one more for each step on an empty queue. -/
  clock : Nat := 0
  /-- The model's own counter of free values. -/
  fresh : Nat := 0
  /-- Values in force of the dictionary's objects that have no other home: key 256 index + sub. -/
  objs : Tab Value := []
  events : List Event := []
  nextSeq : Nat := 0
  mem : Tab Byte := []
  pens : Tab Pen := []
  tiles : Tab Tile := []
  tick : TickSt := {}
  drover : Drover := {}
  rings : Tab RingSt := []
  rxLanes : Tab LaneSt := []
  txLanes : Tab LaneSt := []
  fibers : Tab FiberSt := []
  lasers : Tab LaserSt := []
  oes : Tab OeSt := []
  test : TestSt := {}
  links : Tab LinkSt := []
  gallery : Gallery := {}
  eth : EthSt := {}
  service : Service := {}
  dict : DictSt := {}
  boot : BootSt := {}
  tap : TapSt := {}
  nv : NvSt := {}
  sec : SecSt := {}
  units : Tab Tally := []
  /-- Commit staging slots as applied at Start treads (object 0xA010). -/
  stagingInForce : Nat := 1024
  /-- The refills of R127 and the spare GiB they took. -/
  refills : List Refill := []
  macFault : Option (BitVec 32) := none
  /-- Words of structures with a CRC of their own that a control core finds with a double-bit error (R348, log entry 147). -/
  badWords : List Nat := []
  alert : BitVec 8 := 0
deriving DecidableEq, Repr

/-- The module right after a power-on reset: VK in regulation, the keeper about to boot (R333). Every field holds
its reset value; the log names the values the spec does not give. -/
def State.reset : State := {}

end Sys2Proof.Machine
end

