-- ==== Sys2Proof/Machine/Blocks.lean ====
section
/-! DEFINITION. What one lane sends and receives, bit by bit: 130-bit blocks, the scrambler, control blocks, the burst that
leaves electrical idle, PRBS patterns, the equaliser's taps (R202, R203, R205, R210, R217, R219, R222). -/

namespace Sys2Proof.Machine

/-! ## Blocks (R202) -/

/-- Sync headers (Table 09.1). -/
def dataHeader : BitVec 2 := 1
def ctrlHeader : BitVec 2 := 2

/-- A header that is neither (Table 09.1). -/
def invalidHeader (h : BitVec 2) : Bool := h != dataHeader && h != ctrlHeader

/-- A block: header bits in places 0 and 1, payload bits above; a line sends place 0 first. -/
def blockOf (header : BitVec 2) (payload : BitVec 128) : BitVec 130 := payload ++ header

/-- The header and the payload of a block. -/
def blockHeader (b : BitVec 130) : BitVec 2 := b.extractLsb' 0 2
def blockPayload (b : BitVec 130) : BitVec 128 := b.extractLsb' 2 128

/-- The payloads of a flit's 16 data blocks: block j carries bytes 16 j to 16 j + 15 (R222). -/
def flitBlocks (flit : List Byte) : List (BitVec 128) :=
  (List.range 16).map fun j => BitVec.ofNat 128 (leNat ((flit.drop (16 * j)).take 16))

/-- Word w of the four in which the fiber port carries a flit (R222). -/
def portWord (flit : List Byte) (w : Nat) : List Byte := (flit.drop (64 * w)).take 64

/-! ## The scrambler (R203) -/

/-- The bit that x^58 + x^39 + 1 adds, from a register of the last 58 line bits, the newest in place 0. -/
def scramblerTap (r : Nat) : Nat := (r / 2 ^ 57 % 2) ^^^ (r / 2 ^ 38 % 2)

/-- The register after one more line bit. -/
def scramblerShift (r y : Nat) : Nat := (2 * r + y) % 2 ^ 58

/-- Scramble the low `n` bits of `d`, bit 0 first: the line bits and the register after them. -/
def scramble : Nat → Nat → Nat → Nat × Nat
  | 0, r, _ => (0, r)
  | n + 1, r, d =>
    let y := (d % 2) ^^^ scramblerTap r
    let t := scramble n (scramblerShift r y) (d / 2)
    (2 * t.1 + y, t.2)

/-- Descramble the low `n` line bits of `y`, bit 0 first: the payload bits and the register after them. -/
def descramble : Nat → Nat → Nat → Nat × Nat
  | 0, r, _ => (0, r)
  | n + 1, r, y =>
    let t := descramble n (scramblerShift r (y % 2)) (y / 2)
    (2 * t.1 + ((y % 2) ^^^ scramblerTap r), t.2)

/-- A payload through a lane's scrambler: the line bits, and the register. -/
def LaneSt.scrambled (l : LaneSt) (payload : BitVec 128) : BitVec 128 × BitVec 58 :=
  let t := scramble 128 l.scrambler.toNat payload.toNat
  (BitVec.ofNat 128 t.1, BitVec.ofNat 58 t.2)

/-- A receive lane's descrambler after a block whose payload it gave: the line bits were those that give it. -/
def LaneSt.descrambled (l : LaneSt) (payload : BitVec 128) : LaneSt := { l with scrambler := (l.scrambled payload).2 }

/-! ## Control blocks (Table 09.2) -/

/-- A number whose bit `i` a flag gives. -/
def flagAt (b : Bool) (i : Nat) : Nat := if b then 2 ^ i else 0

/-- MAP: entry i in five bits, 0x1F absent; an empty map is the reserved field of an IDLE block. -/
def mapField (m : List Nat) : Nat :=
  ((List.range m.length).map fun i => (if m.getD i 255 > 17 then 0x1F else m.getD i 255) * 2 ^ (5 * i)).sum

/-- The payload of a control block. -/
def ctrlPayload (ctype lane : Nat) (row : BitVec 16) (info : Nat) (rxrdy thin : Bool) (dlane : Nat) (map : List Nat) :
    BitVec 128 :=
  BitVec.ofNat 128 (ctype % 2 ^ 8 + lane % 2 ^ 4 * 2 ^ 12 + row.toNat * 2 ^ 16 + info % 2 ^ 8 * 2 ^ 32 + flagAt rxrdy 42
    + flagAt thin 43 + dlane % 2 ^ 4 * 2 ^ 44 + mapField map * 2 ^ 48)

/-- A stream block on a lane in a row; `margins` are the receive margins by lane number (R205, R213). -/
def StreamBlock.onLane (b : StreamBlock) (fiber lane : Nat) (row : BitVec 16) (margins : List Nat) :
    BitVec 2 × BitVec 128 :=
  match b with
  | .data p => (dataHeader, p)
  | .ctrl ctype map rxrdy thin dlane =>
    let info := if ctype = 1 then margins.getD lane 255 else if ctype = 2 then fiber else 0
    (ctrlHeader, ctrlPayload ctype lane row info rxrdy thin dlane map)

/-- The payload of a received control block as its fields stand. -/
def ctrlBlockPayload (b : CtrlBlock) : BitVec 128 :=
  ctrlPayload b.ctype b.lane (BitVec.ofNat 16 b.row) b.info b.rxrdy b.thin b.dlane b.map

/-! ## Exit from electrical idle (R217) -/

/-- The two blocks' bits of the burst: 256 UI of alternating 1 and 0, then 4 UI of 0. `left` blocks are still to send. -/
def burstBlock (left : Nat) : BitVec 130 :=
  let ones := (4 ^ 128 - 1) / 3
  BitVec.ofNat 130 (if left ≥ 2 then ones else ones / 2 ^ 130)

/-! ## PRBS (R219) -/

/-- Degree and second tap of the pattern that a configuration selects. -/
def prbsPoly (config : Nat) : Nat × Nat :=
  if config % 8 = 0 then (7, 6) else if config % 8 = 1 then (15, 14) else if config % 8 = 2 then (23, 18) else (31, 28)

/-- `n` pattern bits, the first in bit 0, from a register of the last 31 bits, the newest in place 0; and the register. -/
def prbsRun (p : Nat × Nat) : Nat → Nat → Nat × Nat
  | 0, r => (0, r)
  | n + 1, r =>
    let y := (r / 2 ^ (p.1 - 1) % 2) ^^^ (r / 2 ^ (p.2 - 1) % 2)
    let t := prbsRun p n ((2 * r + y) % 2 ^ 31)
    (2 * t.1 + y, t.2)

/-- The next block of a test: 130 pattern bits unscrambled in raw mode, a data block of 128 in framed mode. -/
def LaneSt.testBlock (l : LaneSt) (config : Nat) : BitVec 130 × LaneSt :=
  if config.testBit 3 then
    let t := prbsRun (prbsPoly config) 128 l.prbs.toNat
    let u := l.scrambled (BitVec.ofNat 128 t.1)
    (blockOf dataHeader u.1, { l with prbs := BitVec.ofNat 31 t.2, scrambler := u.2 })
  else
    let t := prbsRun (prbsPoly config) 130 l.prbs.toNat
    (BitVec.ofNat 130 t.1, { l with prbs := BitVec.ofNat 31 t.2 })

/-! ## The equaliser (R210) -/

/-- A tap moved by one step and kept in its range. -/
def tapStep (up : Bool) (lo hi v : Int) : Int := max lo (min hi (if up then v + 1 else v - 1))

/-- `n` steps of sign-sign LMS from step number `k` on; the signs are the line's (log entry 110). -/
def Taps.adapt (lane : Nat) : Nat → Nat → Taps → Taps
  | 0, _, t => t
  | n + 1, k, t =>
    Taps.adapt lane n (k + 1)
      { h1 := tapStep (Config.lmsSign lane k 1) 0 512 t.h1, h2 := tapStep (Config.lmsSign lane k 2) (-256) 256 t.h2
        h3 := tapStep (Config.lmsSign lane k 3) (-256) 256 t.h3 }

/-- Steps of 1,024 UI in a number of hub cycles: 65 UI in 2 cycles. -/
def lmsSteps (cycles : Nat) : Nat := 65 * cycles / 2048

/-- The states in which the taps adapt. -/
def adapting (st : Nat) : Bool := st == 2 || st == 3 || st == 4

/-- The taps now. -/
def LaneSt.tapsNow (l : LaneSt) (key now : Nat) : Taps :=
  if adapting l.state then l.taps.adapt key (lmsSteps (now - l.tapsAt)) l.tapsAt else l.taps

/-- A receive lane goes to a state: its taps freeze or begin to adapt, from the factory's the first time; HUNT and DOWN drop
the block phase, and lock counts headers anew (R209, R210, R212, R217). -/
def LaneSt.enter (l : LaneSt) (key now : Nat) (factory : Taps) (st : Nat) : LaneSt :=
  let begins := adapting st && !adapting l.state
  { l with
    state := st, lane := if st = 4 then l.lane else 31
    taps := if begins then (if l.adapted then l.taps else factory) else if adapting st then l.taps else l.tapsNow key now
    tapsAt := if begins then now else l.tapsAt
    adapted := l.adapted || adapting st
    phase := if st ≤ 1 then none else if st = 2 ∧ l.phase.isNone then some (Config.blockPhase key now % 130) else l.phase
    headers := if begins then [] else l.headers
    idleSince := if st = 5 ∧ l.state ≠ 5 then now else l.idleSince }

/-- A transmit lane goes to a state: it leaves electrical idle, or darkness, by the burst; its scrambler ran on meanwhile over
bits that nobody chose (log entry 111). -/
def LaneSt.turn (l : LaneSt) (key now : Nat) (st : Nat) : LaneSt :=
  let dark (x : Nat) : Bool := x == 0 || x == 5
  let leaves := dark l.state && !dark st
  { l with
    state := st, lane := if st = 4 ∨ st = 7 ∨ st = 1 then l.lane else 31
    burst := if leaves then 2 else if dark st then 0 else l.burst
    scrambler := if leaves then Config.idleScrambler key now else l.scrambler
    idleSince := if st = 5 ∧ l.state ≠ 5 then now else l.idleSince }

/-- Whether 16 of the last 64 headers are invalid (R209). -/
def LaneSt.lockFails (l : LaneSt) : Bool := decide ((l.headers.filter id).length ≥ 16)

/-- A header arrives at a locked lane: the sliding window takes it, and an invalid one counts (R209). -/
def LaneSt.takeHeader (l : LaneSt) (h : BitVec 2) : LaneSt :=
  { l with
    headers := (invalidHeader h :: l.headers).take 64
    headerErrors := if invalidHeader h then (l.headerErrors + 1) % 2 ^ 32 else l.headerErrors }

end Sys2Proof.Machine
end

