-- ==== Sys2Proof/Machine/Fp.lean ====
section
/-! DEFINITION. FP32 arithmetic (R52, R53): every operation computes exactly and rounds once. -/

namespace Sys2Proof.Machine

/-- The value of an FP32 word: a finite one is (−1)^neg · m · 2^e. -/
inductive FVal where
  | nan
  | inf (neg : Bool)
  | fin (neg : Bool) (m : Nat) (e : Int)
deriving DecidableEq, Repr

/-- The canonical NaN (R46). -/
def nan32 : F32 := 0x7FC00000#32
def inf32 (neg : Bool) : F32 := if neg then 0xFF800000#32 else 0x7F800000#32
def max32 (neg : Bool) : F32 := if neg then 0xFF7FFFFF#32 else 0x7F7FFFFF#32
def zero32 (neg : Bool) : F32 := if neg then 0x80000000#32 else 0#32
def one32 : F32 := 0x3F800000#32

/-- The value of an FP32 word (R45). -/
def fval (w : F32) : FVal :=
  let neg := w.getLsbD 31
  let e : Nat := w.toNat / 2 ^ 23 % 256
  let m : Nat := w.toNat % 2 ^ 23
  if e = 255 then (if m = 0 then .inf neg else .nan)
  else if e = 0 then .fin neg m (-149)
  else .fin neg (m + 2 ^ 23) ((e : Int) - 150)

/-- m / 2^k, rounded to nearest, ties to even. -/
def rneShift (m k : Nat) : Nat :=
  if k = 0 then m
  else
    let q := m / 2 ^ k
    let r := m % 2 ^ k
    if r > 2 ^ (k - 1) ∨ (r = 2 ^ (k - 1) ∧ q % 2 = 1) then q + 1 else q

/-- m · 2^e as a whole number of units 2^q, rounded to nearest even. -/
def rneUnits (m : Nat) (e q : Int) : Nat :=
  if e ≥ q then m * 2 ^ (e - q).toNat else rneShift m (q - e).toNat

/-- The magnitude bits of m · 2^e rounded to FP32; 0x7F80_0000 or more where it exceeds the largest finite value. -/
def mag32 (m : Nat) (e : Int) : Nat :=
  if m = 0 then 0
  else
    let q := max ((m.log2 : Int) + e - 23) (-149)
    (q + 149).toNat * 2 ^ 23 + rneUnits m e q

/-- A result word and whether rounding made an infinity of a finite value. -/
def round32 (neg : Bool) (m : Nat) (e : Int) : F32 × Bool :=
  let b := mag32 m e
  if b ≥ 0x7F800000 then (inf32 neg, true)
  else (BitVec.ofNat 32 (b + if neg then 2 ^ 31 else 0), false)

/-- The special values an operation creates (R52). -/
structure Made where
  nan : Nat := 0
  inf : Nat := 0
deriving DecidableEq, Repr

/-- A rounded finite result of finite operands: an infinity counts. -/
def finish (r : F32 × Bool) : F32 × Made := (r.1, { inf := if r.2 then 1 else 0 })

/-- The invalid operation of R52. -/
def invalid : F32 × Made := (nan32, { nan := 1 })

/-- A signed whole number of units. -/
def smag (neg : Bool) (m : Nat) : Int := if neg then -(m : Int) else m

/-- The exact sum of two finite values as sign, magnitude, exponent; an exact zero is −0 only when both addends are −0. -/
def exactAdd (n1 : Bool) (m1 : Nat) (e1 : Int) (n2 : Bool) (m2 : Nat) (e2 : Int) : Bool × Nat × Int :=
  let e := min e1 e2
  let v := smag n1 (m1 * 2 ^ (e1 - e).toNat) + smag n2 (m2 * 2 ^ (e2 - e).toNat)
  if v = 0 then (n1 && n2 && m1 == 0 && m2 == 0, 0, e) else (decide (v < 0), v.natAbs, e)

/-- Addition (R52). -/
def fadd (a b : F32) : F32 × Made :=
  match fval a, fval b with
  | .nan, _ => (nan32, {})
  | _, .nan => (nan32, {})
  | .inf x, .inf y => if x = y then (inf32 x, {}) else invalid
  | .inf x, .fin _ _ _ => (inf32 x, {})
  | .fin _ _ _, .inf y => (inf32 y, {})
  | .fin n1 m1 e1, .fin n2 m2 e2 =>
    let r := exactAdd n1 m1 e1 n2 m2 e2
    finish (round32 r.1 r.2.1 r.2.2)

/-- Sign inversion of the word (R52). -/
def fneg (a : F32) : F32 := a ^^^ 0x80000000#32
/-- Sign clearing of the word (R52). -/
def fabs (a : F32) : F32 := a &&& 0x7FFFFFFF#32

/-- Whether a word is a NaN. -/
def isNan (a : F32) : Bool := decide (fval a = .nan)

/-- Subtraction: the sum with the inverted second operand (IEEE 754). -/
def fsub (a b : F32) : F32 × Made := fadd a (fneg b)

/-- Multiplication (R52). -/
def fmul (a b : F32) : F32 × Made :=
  match fval a, fval b with
  | .nan, _ => (nan32, {})
  | _, .nan => (nan32, {})
  | .inf x, .inf y => (inf32 (x ^^ y), {})
  | .inf x, .fin y m _ => if m = 0 then invalid else (inf32 (x ^^ y), {})
  | .fin x m _, .inf y => if m = 0 then invalid else (inf32 (x ^^ y), {})
  | .fin x m1 e1, .fin y m2 e2 => finish (round32 (x ^^ y) (m1 * m2) (e1 + e2))

/-- Fused multiply-add, rounded once (R52); the NaN operand is looked at first. -/
def ffma (a b c : F32) : F32 × Made :=
  match fval a, fval b, fval c with
  | .nan, _, _ => (nan32, {})
  | _, .nan, _ => (nan32, {})
  | _, _, .nan => (nan32, {})
  | .fin x m1 e1, .fin y m2 e2, .fin z m3 e3 =>
    let r := exactAdd (x ^^ y) (m1 * m2) (e1 + e2) z m3 e3
    finish (round32 r.1 r.2.1 r.2.2)
  | .fin _ _ _, .fin _ _ _, .inf z => (inf32 z, {})
  | .inf x, .fin y m _, vc => infProd (x ^^ y) (m == 0) vc
  | .fin x m _, .inf y, vc => infProd (x ^^ y) (m == 0) vc
  | .inf x, .inf y, vc => infProd (x ^^ y) false vc
where
  /-- An infinite product (or 0 × Inf) plus an addend that is no NaN. -/
  infProd (neg zero : Bool) (c : FVal) : F32 × Made :=
    if zero then invalid
    else match c with
      | .inf z => if z = neg then (inf32 neg, {}) else invalid
      | _ => (inf32 neg, {})

/-- Position of a word that is no NaN in the order of values; both zeros at 0. -/
def forder (a : F32) : Int := smag (a.getLsbD 31) (a.toNat % 2 ^ 31)

/-- Maximum (R52); of the two zeros +0 (R83; log entry 20). -/
def fmax (a b : F32) : F32 :=
  if isNan a then (if isNan b then nan32 else b)
  else if isNan b then a
  else if forder a < forder b then b
  else if forder b < forder a then a
  else if a.getLsbD 31 then b else a

/-- Minimum (R52); of the two zeros −0 (R83; log entry 20). -/
def fmin (a b : F32) : F32 :=
  if isNan a then (if isNan b then nan32 else b)
  else if isNan b then a
  else if forder a < forder b then a
  else if forder b < forder a then b
  else if a.getLsbD 31 then a else b

/-- An integer as FP32, to nearest even (R73, R77). -/
def ofInt32 (v : Int) : F32 := (round32 (decide (v < 0)) v.natAbs 0).1

/-- A value to the nearest whole number, ties to even; none for NaN and Inf. -/
def roundInt (a : F32) : Option Int :=
  match fval a with
  | .fin n m e => some (smag n (rneUnits m e 0))
  | _ => none

/-! ## The table functions (R53) -/

/-- ⌊√n⌋ by bits from `b` down. -/
def sqrtBits (n : Nat) : Nat → Nat → Nat
  | 0, r => r
  | b + 1, r => sqrtBits n b (if (r + 2 ^ b) * (r + 2 ^ b) ≤ n then r + 2 ^ b else r)

/-- RCP: 1/x, correctly rounded. -/
def frcp (a : F32) : F32 × Made :=
  match fval a with
  | .nan => (nan32, {})
  | .inf x => (zero32 x, {})
  | .fin x m e =>
    if m = 0 then (inf32 x, { inf := 1 })
    else
      let q := 2 ^ 64 / m
      let s := if 2 ^ 64 % m = 0 then 0 else 1
      finish (round32 x (2 * q + s) (-65 - e))

/-- RSQ: 1/√x, correctly rounded. -/
def frsq (a : F32) : F32 × Made :=
  match fval a with
  | .nan => (nan32, {})
  | .inf true => invalid
  | .inf false => (0#32, {})
  | .fin x m e =>
    if m = 0 then (inf32 x, { inf := 1 })
    else if x then invalid
    else
      let m2 := if e % 2 = 0 then m else 2 * m
      let e2 := if e % 2 = 0 then e else e - 1
      let v := 2 ^ 120 / m2
      let r := sqrtBits v 62 0
      let s := if r * r * m2 = 2 ^ 120 then 0 else 1
      finish (round32 false (2 * r + s) (-61 - e2 / 2))

/-- ln 2 in units of 2^−200. -/
def ln2Fixed : Nat := 0xb17217f7d1cf79abc9e3b39803f2f6af40f343267298b62d8a

/-- Terms of Σ t^k / k! in units of 2^−200. -/
def expSeries (t : Nat) : Nat → Nat → Nat → Nat → Nat
  | 0, _, _, acc => acc
  | n + 1, k, term, acc =>
    let term' := term * t / 2 ^ 200 / k
    expSeries t n (k + 1) term' (acc + term')

/-- 2^(f / 2^64) in units of 2^−200, for f < 2^64, to more than 190 bits. -/
def exp2Frac (f : Nat) : Nat := expSeries (f * ln2Fixed / 2 ^ 64) 48 1 (2 ^ 200) (2 ^ 200)

/-- 2^x for a finite x = (−1)^n m 2^e, correctly rounded: below 2^−26 in magnitude the result is 1; a whole x is exact;
otherwise the exact value is irrational, and the series decides its rounding. -/
def exp2Fin (n : Bool) (m : Nat) (e : Int) : F32 × Bool :=
  if m = 0 ∨ (m.log2 : Int) + e < -26 then (one32, false)
  else if (m.log2 : Int) + e ≥ 8 then (if n then (0#32, false) else (inf32 false, true))
  else
    let v := smag n (if e ≥ -64 then m * 2 ^ (e + 64).toNat else m / 2 ^ (-64 - e).toNat)
    let i := v / (2 ^ 64 : Int)
    let f := (v % (2 ^ 64 : Int)).toNat
    if f = 0 then round32 false 1 i else round32 false (2 * exp2Frac f + 1) (i - 201)

/-- EXP2 (R53). -/
def fexp2 (a : F32) : F32 × Made :=
  match fval a with
  | .nan => (nan32, {})
  | .inf true => (0#32, {})
  | .inf false => (inf32 false, {})
  | .fin n m e => finish (exp2Fin n m e)

/-- EXP (R53): EXP2 of the product with log₂e, counted as one operation. -/
def fexp (a : F32) : F32 × Made :=
  match fval a with
  | .nan => (nan32, {})
  | .inf _ => fexp2 a
  | .fin _ _ _ =>
    let r := (fexp2 (fmul a 0x3FB8AA3B#32).1).1
    (r, { inf := if r = inf32 false then 1 else 0 })

/-! ## Sums (R83) -/

/-- Rounded sum without counters. -/
def fplus (a b : F32) : F32 := (fadd a b).1

/-- One rounded addition with its counters. -/
def plusMade (a b : F32 × Made) : F32 × Made :=
  let r := fadd a.1 b.1
  (r.1, { nan := a.2.nan + b.2.nan + r.2.nan, inf := a.2.inf + b.2.inf + r.2.inf })

/-- The elements of a list at places l, l + 64, l + 128 …: here the list from place l on. -/
def every64 : Nat → List F32 → List F32
  | 0, _ => []
  | _, [] => []
  | n + 1, x :: t => x :: every64 n (t.drop 63)

/-- Partial p_l: its first element, then the others in order; +0 where it holds none. -/
def partialSum (xs : List F32) : F32 × Made :=
  match xs with
  | [] => (0#32, {})
  | x :: t => t.foldl (fun acc y => plusMade acc (y, {})) (x, {})

/-- Neighbours combined pairwise. -/
def pairUp : List (F32 × Made) → List (F32 × Made)
  | a :: b :: t => plusMade a b :: pairUp t
  | l => l

/-- Levels of the tree. -/
def tree : Nat → List (F32 × Made) → List (F32 × Made)
  | 0, l => l
  | n + 1, l => tree n (pairUp l)

/-- The summation of R83: 64 partials by index modulo 64, then the pairwise tree. -/
def sum83 (xs : List F32) : F32 × Made :=
  let ps := (List.range 64).map fun l => partialSum (every64 (xs.length / 64 + 1) (xs.drop l))
  (tree 6 ps).headD (0#32, {})

end Sys2Proof.Machine
end

