-- ==== Sys2Proof/Machine/Flags.lean ====
section
/-! DEFINITION. The status counters and the rounding generator (R43, R56), and every conversion between FP32 and the
element formats with the counts it makes (R45, R48, R54, R55, R57). -/

namespace Sys2Proof.Machine

/-- What an instruction's arithmetic threads through its elements: SATC, NANC, INFC and the rounding generator. -/
structure Cnt where
  sat : Nat := 0
  nan : Nat := 0
  inf : Nat := 0
  rng : BitVec 64 := 0
deriving DecidableEq, Repr

/-- Count the special values an operation made (R52). -/
def Cnt.made (c : Cnt) (m : Made) : Cnt := { c with nan := c.nan + m.nan, inf := c.inf + m.inf }

def Cnt.addSat (c : Cnt) (n : Nat) : Cnt := { c with sat := c.sat + n }
def Cnt.addNan (c : Cnt) (n : Nat) : Cnt := { c with nan := c.nan + n }
def Cnt.addInf (c : Cnt) (n : Nat) : Cnt := { c with inf := c.inf + n }

/-- The rounding generator's next state (R56). -/
def xorshift (x : BitVec 64) : BitVec 64 :=
  let x := x ^^^ (x <<< 13)
  let x := x ^^^ (x >>> 7)
  x ^^^ (x <<< 17)

/-- Draw 16 bits: the new state's bits [63:48]. -/
def Cnt.draw (c : Cnt) : Nat × Cnt :=
  let x := xorshift c.rng
  (x.toNat / 2 ^ 48, { c with rng := x })

/-- The generator's state for a seed (R56). -/
def seedRng (seed : BitVec 64) : BitVec 64 := if seed = 0 then 0x9E3779B97F4A7C15#64 else seed

/-! ## Formats (Table 04.3) -/

/-- Width in bits of a format's element. -/
def fmtWidth (f : Nat) : Nat :=
  match f with
  | 0 => 32 | 1 => 16 | 2 => 16 | 3 => 8 | 4 => 8 | 5 => 8 | 6 => 8 | 7 => 8 | 8 => 6 | 9 => 6 | 10 => 4 | 11 => 8
  | 12 => 32 | _ => 8

/-- Whether a format is an MX format (codes 0x6–0xB). -/
def isMx (f : Nat) : Bool := 6 ≤ f && f ≤ 11

/-- Exponent width, mantissa width and bias of a float element (Table 03.2). -/
def fmtFields (f : Nat) : Nat × Nat × Int :=
  match f with
  | 0 => (8, 23, 127) | 1 => (8, 7, 127) | 2 => (5, 10, 15) | 3 => (4, 3, 7) | 4 => (5, 2, 15) | 6 => (4, 3, 7)
  | 7 => (5, 2, 15) | 8 => (3, 2, 3) | 9 => (2, 3, 1) | 10 => (2, 1, 1) | _ => (8, 23, 127)

/-- Whether an all-ones exponent holds Inf (mantissa 0) and NaN: FP32, BF16, FP16, E5M2. -/
def hasInf (f : Nat) : Bool := f == 0 || f == 1 || f == 2 || f == 4 || f == 7

/-- Value of a float code (R45): E4M3 has NaN at S.1111.111 only; FP6 and FP4 have neither. -/
def floatVal (f code : Nat) : FVal :=
  let (ew, mw, bias) := fmtFields f
  let m := code % 2 ^ mw
  let e := code / 2 ^ mw % 2 ^ ew
  let neg := code.testBit (mw + ew)
  if e = 2 ^ ew - 1 ∧ hasInf f then (if m = 0 then .inf neg else .nan)
  else if (f = 3 ∨ f = 6) ∧ code % 128 = 127 then .nan
  else if e = 0 then .fin neg m (1 - bias - mw)
  else .fin neg (m + 2 ^ mw) ((e : Int) - bias - mw)

/-- Value of an integer as FVal, in units of 2^e. -/
def intVal (v : Int) (e : Int) : FVal := .fin (decide (v < 0)) v.natAbs e

/-- Value of an element's code without its block scale (R45): INT8, MXINT8 with its 2^−6, INT32, floats. -/
def elemVal (f code : Nat) : FVal :=
  match f with
  | 5 => intVal (bitsOf 8 code) 0
  | 11 => intVal (bitsOf 8 code) (-6)
  | 12 => intVal (bitsOf 32 code) 0
  | _ => floatVal f code
where
  bitsOf (n code : Nat) : Int := if code < 2 ^ (n - 1) then code else (code : Int) - (2 ^ n : Nat)

/-- Scale by the E8M0 byte of the block (R48); 0xFF makes NaN. -/
def scaled (x : Nat) (v : FVal) : FVal :=
  if x = 0xFF then .nan
  else match v with
    | .fin n m e => .fin n m (e + (x : Int) - 127)
    | v => v

/-- A value as an FP32 word (R77): beyond the range it is an infinity that counts. -/
def toF32 (v : FVal) : F32 × Made :=
  match v with
  | .nan => (nan32, {})
  | .inf n => (inf32 n, {})
  | .fin n m e => finish (round32 n m e)

/-- An element's FP32 value as an instruction reads it (R77); an FP32 word is read unchanged (R52). -/
def readElem (f code scale : Nat) : F32 × Made :=
  if f = 0 then (BitVec.ofNat 32 code, {})
  else toF32 (if isMx f then scaled scale (elemVal f code) else elemVal f code)

/-! ## Down-conversion (R54, R55) -/

/-- m · 2^e in whole units 2^q: to nearest even, or stochastically with the draw d (R54). -/
def convUnits (sr : Option Nat) (m : Nat) (e q : Int) : Nat :=
  match sr with
  | none => rneUnits m e q
  | some d =>
    let fixed := if e ≥ q - 16 then m * 2 ^ (e - (q - 16)).toNat else m / 2 ^ ((q - 16) - e).toNat
    let t := fixed % 2 ^ 16
    fixed / 2 ^ 16 + (if t + d ≥ 2 ^ 16 then 1 else 0)

/-- Magnitude code of m · 2^e in a float format, unbounded above: each exponent step adds 2^mw. -/
def convMag (f : Nat) (sr : Option Nat) (m : Nat) (e : Int) : Nat :=
  if m = 0 then 0
  else
    let (_, mw, bias) := fmtFields f
    let qmin := 1 - bias - mw
    let q := max ((m.log2 : Int) + e - mw) qmin
    (q - qmin).toNat * 2 ^ mw + convUnits sr m e q

/-- Code of the largest finite magnitude. -/
def maxCode (f : Nat) : Nat :=
  match f with
  | 1 => 0x7F7F | 2 => 0x7BFF | 3 => 0x7E | 4 => 0x7B | 6 => 0x7E | 7 => 0x7B | 8 => 0x1F | 9 => 0x1F | 10 => 0x7
  | _ => 0x7F7FFFFF

/-- Canonical NaN code (R46). -/
def nanCode (f : Nat) : Nat :=
  match f with
  | 1 => 0x7FC0 | 2 => 0x7E00 | 3 => 0x7F | 4 => 0x7E | _ => 0x7FC00000

/-- Sign bit of a float format's code. -/
def signBit (f : Nat) (neg : Bool) : Nat :=
  let (ew, mw, _) := fmtFields f
  if neg then 2 ^ (ew + mw) else 0

/-- Whether m · 2^e lies below the least subnormal of BF16 or FP16, which R54 sends to a signed zero (log entry 21). -/
def belowLeast (f m : Nat) (e : Int) : Bool :=
  let (_, mw, bias) := fmtFields f
  (f == 1 || f == 2) && decide (m ≠ 0) && decide ((m.log2 : Int) + e < 1 - bias - mw)

/-- An overflow in a float target (Table 03.4): the code and its count. -/
def overflowCode (f : Nat) (sat neg : Bool) (c : Cnt) : Nat × Cnt :=
  if sat then (signBit f neg + maxCode f, c.addSat 1)
  else if f = 3 then (signBit f neg + 0x7F, c.addNan 1)
  else (signBit f neg + maxCode f + 1, c.addInf 1)

/-- Convert an FP32 word to BF16, FP16, plain E4M3 or E5M2 (R54, R55). -/
def convFloat (f : Nat) (sr : Option Nat) (sat : Bool) (w : F32) (c : Cnt) : Nat × Cnt :=
  match fval w with
  | .nan => (nanCode f, c.addNan 1)
  | .inf n => overflowCode f sat n c
  | .fin n m e =>
    if belowLeast f m e then (signBit f n, c)
    else
      let k := convMag f sr m e
      if k > maxCode f then overflowCode f sat n c else (signBit f n + k, c)

/-- Convert to an integer of `n` bits, saturating at ±(2^(n−1) − 1) (R54). -/
def convInt (n : Nat) (sr : Option Nat) (w : F32) (c : Cnt) : Nat × Cnt :=
  let lim := 2 ^ (n - 1) - 1
  let enc (neg : Bool) (k : Nat) := if neg ∧ k ≠ 0 then 2 ^ n - k else k
  match fval w with
  | .nan => (0, c.addNan 1)
  | .inf s => (enc s lim, c.addSat 1)
  | .fin s m e =>
    let k := convUnits sr m e 0
    if k > lim then (enc s lim, c.addSat 1) else (enc s k, c)

/-- The draw of an element under stochastic rounding (R56): one for each element, whatever its value. -/
def drawIf (sr : Bool) (c : Cnt) : Option Nat × Cnt :=
  if sr then (some c.draw.1, c.draw.2) else (none, c)

/-- Convert an FP32 word to a format that is not MX; FP32 keeps its bits, INT32 never draws (R54, R55). -/
def convElem (f : Nat) (sr sat : Bool) (w : F32) (c : Cnt) : Nat × Cnt :=
  if f = 0 then (w.toNat, c)
  else if f = 12 then convInt 32 none w c
  else
    let (d, c) := drawIf sr c
    if f = 5 then convInt 8 d w c else convFloat f d sat w c

/-! ## MX output blocks (R57) -/

/-- emax of an MX element format. -/
def emaxOf (f : Nat) : Int :=
  match f with
  | 6 => 8 | 7 => 15 | 8 => 4 | 9 => 2 | 10 => 2 | _ => 0

/-- ⌊log₂⌋ of a finite non-zero value's magnitude, and none for others. -/
def flog2 (w : F32) : Option Int :=
  match fval w with
  | .fin _ m e => if m = 0 then none else some ((m.log2 : Int) + e)
  | _ => none

/-- Draws for the elements of a block, in increasing index. -/
def drawAll (sr : Bool) : Nat → Cnt → List (Option Nat) × Cnt
  | 0, c => ([], c)
  | n + 1, c =>
    let (d, c) := drawIf sr c
    let (ds, c) := drawAll sr n c
    (d :: ds, c)

/-- One element of a block at scale x: its code, clamped to the format's largest with a count (R57). -/
def mxElem (f : Nat) (d : Option Nat) (x : Int) (w : F32) (c : Cnt) : Nat × Cnt :=
  match fval w with
  | .fin n m e =>
    let e := e - (x - 127)
    if f = 11 then
      let k := convUnits d m e (-6)
      let k' := min k 127
      (if n ∧ k' ≠ 0 then 256 - k' else k', if k > 127 then c.addSat 1 else c)
    else
      let k := convMag f d m e
      (signBit f n + min k (maxCode f), if k > maxCode f then c.addSat 1 else c)
  | _ => (0, c)

/-- The elements of a block in turn. -/
def mxElems (f : Nat) (x : Int) : List (Option Nat) → List F32 → Cnt → List Nat × Cnt
  | d :: ds, w :: ws, c =>
    let (k, c) := mxElem f d x w c
    let (ks, c) := mxElems f x ds ws c
    (k :: ks, c)
  | _, _, c => ([], c)

/-- The largest of some exponents. -/
def maxExp (ws : List F32) : Option Int :=
  ws.foldl (fun m w => match m, flog2 w with
    | some a, some b => some (max a b)
    | none, b => b
    | a, none => a) none

/-- Convert a block of values to one MX block: scale byte and codes (R57). -/
def mxBlock (f : Nat) (sr sat : Bool) (ws : List F32) (c : Cnt) : Nat × List Nat × Cnt :=
  let (ds, c) := drawAll sr ws.length c
  let zeros := ws.map fun _ => 0
  if ws.any isNan then (0xFF, zeros, c.addNan 1)
  else
    let infs := ws.any fun w => fabs w = inf32 false
    if infs ∧ ¬ sat then (0xFF, zeros, c.addInf 1)
    else
      let c := if infs then c.addSat 1 else c
      let ws := ws.map fun w => if fabs w = inf32 false then max32 (w.getLsbD 31) else w
      match maxExp ws with
      | none => (0, zeros, c)
      | some a =>
        let x := (min (max (a - emaxOf f) (-127)) 127) + 127
        let (ks, c) := mxElems f x ds ws c
        (x.toNat, ks, c)

end Sys2Proof.Machine
end

