-- ==== Sys2Proof/Machine/Objects.lean ====
section
/-! DEFINITION. The objects of the dictionary (R302): one row per line of the chapters' object tables, with what
R303, R304, R308 and R314 need of it. -/

namespace Sys2Proof.Machine

/-- Types of Table 14.1. -/
inductive ObjType where
  | u8 | u16 | u32 | u64 | i16 | i32 | f32 | str | blob | cmd
deriving DecidableEq, Repr

/-- Access classes of Table 14.2. -/
inductive Access where
  | ro | rw | rws | rwg | wo | cmd
deriving DecidableEq, Repr

/-- A row of an object table: index and subindex ranges, type, access class, default, range (for STR and BLOB the
lengths), unit in ASCII, commit object of its group (Table 14.7). -/
structure ObjRow where
  indexLo : Nat
  indexHi : Nat
  subLo : Nat
  subHi : Nat
  type : ObjType
  access : Access
  default : Int
  min : Int
  max : Int
  unit : String
  group : Nat
deriving DecidableEq, Repr

/-- Type code of Table 14.1. -/
def ObjType.code : ObjType → Nat
  | .u8 => 1 | .u16 => 2 | .u32 => 3 | .u64 => 4 | .i16 => 5 | .i32 => 6 | .f32 => 7 | .str => 8 | .blob => 9
  | .cmd => 0x0A

/-- Size in bytes of a value of fixed size (Table 14.1); 0 for STR, BLOB and CMD. -/
def ObjType.size : ObjType → Nat
  | .u8 => 1 | .u16 => 2 | .u32 => 4 | .u64 => 8 | .i16 => 2 | .i32 => 4 | .f32 => 4 | .str => 0 | .blob => 0
  | .cmd => 0

/-- Whether the value travels as a byte string. -/
def ObjType.isBytes : ObjType → Bool
  | .str => true | .blob => true | _ => false

/-- Access code of Table 14.2. -/
def Access.code : Access → Nat
  | .ro => 1 | .rw => 2 | .rws => 3 | .rwg => 4 | .wo => 5 | .cmd => 6

/-- Objects 0x0000–0x0FFF. -/
def keeperObjects : List ObjRow := [
  ⟨0x0F00, 0x0F00, 0x00, 0x00, .u8, .ro, 0, 0, 4, "", 0⟩ /- Keeper state -/,
  ⟨0x0F01, 0x0F01, 0x00, 0x00, .u64, .ro, 0, 0, 281474976710655, "", 0⟩ /- Field MAC address -/,
  ⟨0x0F02, 0x0F02, 0x00, 0x00, .u32, .rws, 2852015376, 2851995648, 2852061183, "", 0⟩ /- Field IPv4 address -/,
  ⟨0x0F03, 0x0F03, 0x00, 0x00, .u16, .rws, 6010, 1, 65535, "", 0⟩ /- Field MOP port -/,
  ⟨0x0F04, 0x0F04, 0x00, 0x00, .u8, .ro, 0, 0, 7, "", 0⟩ /- Field address -/,
  ⟨0x0F05, 0x0F05, 0x00, 0x00, .u32, .ro, 0, 0, 4294967295, "count", 0⟩ /- Boot epoch -/,
  ⟨0x0F06, 0x0F06, 0x00, 0x00, .u32, .ro, 0, 0, 4294967295, "count", 0⟩ /- Frames discarded -/,
  ⟨0x0F10, 0x0F10, 0x00, 0x00, .blob, .ro, 0, 2097152, 2097152, "", 0⟩ /- Event log -/,
  ⟨0x0F11, 0x0F11, 0x00, 0x00, .u32, .ro, 0, 0, 4294967295, "", 0⟩ /- Next event sequence -/,
  ⟨0x0F12, 0x0F12, 0x00, 0x00, .blob, .ro, 0, 262144, 262144, "", 0⟩ /- Non-volatile event log -/,
  ⟨0x0F20, 0x0F20, 0x00, 0x00, .cmd, .cmd, 0, 0, 0, "", 0⟩ /- Thermal re-enable -/,
  ⟨0x0F21, 0x0F21, 0x00, 0x00, .blob, .ro, 0, 0, 131072, "", 0⟩ /- Shutdown records -/,
  ⟨0x0F22, 0x0F22, 0x01, 0x08, .i16, .ro, 0, -32768, 32767, "1/16 degC", 0⟩ /- Reference diode -/,
  ⟨0x0F23, 0x0F23, 0x00, 0x00, .u8, .rw, 60, 40, 85, "degC", 0⟩ /- Re-enable temperature -/,
  ⟨0x0F30, 0x0F30, 0x00, 0x00, .cmd, .cmd, 0, 0, 0, "", 0⟩ /- Module reset -/,
  ⟨0x0F31, 0x0F31, 0x00, 0x00, .cmd, .cmd, 0, 0, 0, "", 0⟩ /- Power off -/,
  ⟨0x0F32, 0x0F32, 0x00, 0x00, .cmd, .cmd, 0, 0, 0, "", 0⟩ /- All lasers off -/,
  ⟨0x0F33, 0x0F33, 0x00, 0x00, .u64, .rw, 0, 0, 18446744073709551615, "", 0⟩ /- Tile power-down mask -/,
  ⟨0x0F34, 0x0F34, 0x00, 0x00, .cmd, .cmd, 0, 0, 0, "", 0⟩ /- Tile power-down -/,
  ⟨0x0F40, 0x0F40, 0x00, 0x00, .blob, .ro, 0, 32, 32, "", 0⟩ /- Keeper identity record -/,
  ⟨0x0F50, 0x0F50, 0x00, 0x00, .blob, .wo, 0, 0, 4194304, "", 0⟩ /- Firmware image -/,
  ⟨0x0F51, 0x0F51, 0x00, 0x00, .cmd, .cmd, 0, 0, 0, "", 0⟩ /- Install image -/,
  ⟨0x0F52, 0x0F52, 0x00, 0x00, .u16, .ro, 0, 0, 65535, "", 0⟩ /- Update state -/]

/-- Objects 0x1000–0x1FFF. -/
def identityObjects : List ObjRow := [
  ⟨0x1001, 0x1001, 0x00, 0x00, .str, .ro, 0, 16, 16, "", 0⟩ /- Module serial number -/,
  ⟨0x1002, 0x1002, 0x00, 0x00, .u16, .ro, 0, 0, 65535, "", 0⟩ /- Hub stepping -/,
  ⟨0x1003, 0x1003, 0x00, 0x00, .u16, .ro, 0, 0, 65535, "", 0⟩ /- Tile stepping -/,
  ⟨0x1004, 0x1004, 0x00, 0x00, .u16, .ro, 0, 0, 65535, "", 0⟩ /- OE stepping -/,
  ⟨0x1005, 0x1005, 0x00, 0x00, .str, .ro, 0, 10, 10, "", 0⟩ /- Part number -/,
  ⟨0x1006, 0x1006, 0x00, 0x00, .u32, .ro, 0, 0, 4294967295, "", 0⟩ /- Firmware version -/,
  ⟨0x1007, 0x1007, 0x00, 0x00, .u8, .ro, 0, 1, 9, "", 0⟩ /- Bring-up stage -/,
  ⟨0x1008, 0x1008, 0x00, 0x00, .u64, .ro, 0, 0, 18446744073709551615, "", 0⟩ /- Common subset -/,
  ⟨0x1009, 0x1009, 0x00, 0x00, .u32, .ro, 0, 0, 4294967295, "", 0⟩ /- Bring-up result -/,
  ⟨0x100A, 0x100A, 0x00, 0x00, .u8, .ro, 1, 1, 8, "", 0⟩ /- Reset cause -/,
  ⟨0x100B, 0x100B, 0x00, 0x00, .u32, .ro, 0, 0, 4294967295, "ms", 0⟩ /- Bring-up time -/,
  ⟨0x100C, 0x100C, 0x01, 0x0C, .u16, .ro, 0, 0, 65535, "", 0⟩ /- OE qualification result -/,
  ⟨0x100D, 0x100D, 0x00, 0x00, .blob, .ro, 0, 616, 616, "", 0⟩ /- Die capability words -/,
  ⟨0x1011, 0x1011, 0x00, 0x00, .u16, .rw, 60, 10, 3600, "s", 0⟩ /- Staging timeout -/]

/-- Objects 0x2000–0x2FFF. -/
def treadObjects : List ObjRow := [
  ⟨0x2001, 0x2001, 0x00, 0x00, .u32, .rwg, 250000, 20000, 2000000, "ns", 0x2003⟩ /- Tread period -/,
  ⟨0x2002, 0x2002, 0x00, 0x00, .u8, .rwg, 4, 1, 32, "us", 0x2003⟩ /- Landing length -/,
  ⟨0x2003, 0x2003, 0x00, 0x00, .cmd, .cmd, 0, 0, 0, "", 0⟩ /- Tick group commit -/,
  ⟨0x2004, 0x2004, 0x00, 0x00, .u64, .ro, 0, 0, 18446744073709551615, "ticks", 0⟩ /- Tick epoch -/,
  ⟨0x2005, 0x2005, 0x00, 0x00, .u8, .rws, 0, 0, 3, "", 0⟩ /- Tick role -/,
  ⟨0x2006, 0x2006, 0x00, 0x00, .u8, .ro, 0, 0, 4, "", 0⟩ /- Tick state -/,
  ⟨0x2007, 0x2007, 0x00, 0x00, .u8, .ro, 0, 0, 2, "", 0⟩ /- Beacon mode -/,
  ⟨0x2008, 0x2008, 0x00, 0x00, .u8, .rws, 4, 2, 64, "ticks", 0⟩ /- Change lead -/,
  ⟨0x2009, 0x2009, 0x00, 0x00, .u32, .ro, 0, 0, 4294967295, "treads", 0⟩ /- Overrun count -/,
  ⟨0x200A, 0x200A, 0x00, 0x00, .u64, .ro, 0, 0, 18446744073709551615, "ticks", 0⟩ /- Last overrun epoch -/,
  ⟨0x200B, 0x200B, 0x00, 0x00, .i32, .ro, 0, -2147483648, 2147483647, "hub cycles", 0⟩ /- Tick offset -/,
  ⟨0x200C, 0x200C, 0x00, 0x00, .u8, .ro, 0, 0, 8, "ticks", 0⟩ /- Flywheel count -/,
  ⟨0x200D, 0x200D, 0x00, 0x00, .u8, .ro, 0, 0, 64, "treads", 0⟩ /- Clean tread count -/,
  ⟨0x200E, 0x200E, 0x00, 0x00, .u8, .ro, 0, 0, 3, "", 0⟩ /- Interlock status -/,
  ⟨0x2011, 0x2011, 0x01, 0x60, .i32, .rw, 0, -5000, 5000, "ps", 0⟩ /- Fiber delay trim -/,
  ⟨0x2020, 0x2020, 0x00, 0x00, .cmd, .cmd, 0, 0, 0, "", 0⟩ /- Start treads -/,
  ⟨0x2021, 0x2021, 0x00, 0x00, .cmd, .cmd, 0, 0, 0, "", 0⟩ /- Stop treads -/,
  ⟨0x2030, 0x2030, 0x00, 0x00, .blob, .rw, 0, 0, 1056832, "", 0⟩ /- Staged slot schedule -/,
  ⟨0x2031, 0x2031, 0x00, 0x00, .blob, .ro, 0, 0, 1056832, "", 0⟩ /- Slot schedule in force -/,
  ⟨0x2040, 0x2040, 0x00, 0x00, .blob, .rws, 0, 0, 4096, "", 0⟩ /- Flight membership list -/,
  ⟨0x2041, 0x2041, 0x00, 0x00, .u16, .rws, 0, 0, 65535, "", 0⟩ /- Own flight address -/,
  ⟨0x2042, 0x2042, 0x00, 0x00, .u8, .ro, 0, 0, 4, "", 0⟩ /- Flight state -/,
  ⟨0x2043, 0x2043, 0x01, 0x60, .u8, .ro, 0, 0, 3, "hub cycles", 0⟩ /- In-port phase -/,
  ⟨0x2044, 0x2044, 0x01, 0x60, .u8, .rws, 255, 0, 255, "", 0⟩ /- Out-port phase source -/,
  ⟨0x2045, 0x2045, 0x01, 0x60, .i32, .ro, 0, -2147483648, 2147483647, "hub cycles", 0⟩ /- Arrival offset -/,
  ⟨0x2046, 0x2046, 0x00, 0x00, .cmd, .cmd, 0, 0, 0, "", 0⟩ /- Build flight -/,
  ⟨0x2047, 0x2047, 0x01, 0x60, .u8, .ro, 0, 0, 3, "hub cycles", 0⟩ /- Out-port phase -/]

/-- Objects 0x3000–0x3FFF. -/
def powerObjects : List ObjRow := [
  ⟨0x3001, 0x3001, 0x00, 0x00, .u16, .rw, 1800, 900, 2200, "W", 0⟩ /- Power cap -/,
  ⟨0x3002, 0x3002, 0x00, 0x00, .u16, .ro, 1800, 0, 65535, "W", 0⟩ /- Cap in force -/,
  ⟨0x3003, 0x3003, 0x00, 0x00, .f32, .ro, 0, 0, 0, "V", 0⟩ /- Input voltage -/,
  ⟨0x3004, 0x3004, 0x01, 0x02, .f32, .ro, 0, 0, 0, "A", 0⟩ /- Tab current -/,
  ⟨0x3005, 0x3005, 0x00, 0x00, .f32, .ro, 0, 0, 0, "W", 0⟩ /- Metered power -/,
  ⟨0x3006, 0x3006, 0x00, 0x00, .u8, .rw, 22, 12, 22, "W", 0⟩ /- Tile ceiling -/,
  ⟨0x3007, 0x3007, 0x00, 0x00, .u8, .rw, 40, 10, 200, "W", 0⟩ /- Rein release margin -/,
  ⟨0x3008, 0x3008, 0x00, 0x00, .u16, .rw, 2000, 0, 5000, "nJ", 0⟩ /- Minimum grant -/,
  ⟨0x3009, 0x3009, 0x00, 0x00, .u8, .rw, 20, 0, 200, "W", 0⟩ /- Non-tile guard -/,
  ⟨0x3010, 0x3010, 0x00, 0x00, .f32, .ro, 0, 0, 0, "MHz", 0⟩ /- Tile clock target -/,
  ⟨0x3011, 0x3011, 0x00, 0x00, .u8, .rw, 0, 0, 1, "", 0⟩ /- Boost enable -/,
  ⟨0x3012, 0x3012, 0x00, 0x00, .u16, .rw, 1600, 1500, 1600, "MHz", 0⟩ /- Boost clock -/,
  ⟨0x3013, 0x3013, 0x01, 0x40, .f32, .ro, 0, 0, 0, "W", 0⟩ /- Tile floor -/,
  ⟨0x3014, 0x3014, 0x00, 0x00, .blob, .ro, 0, 256, 256, "", 0⟩ /- Voltage–frequency table -/,
  ⟨0x3015, 0x3015, 0x00, 0x00, .blob, .ro, 0, 0, 1024, "", 0⟩ /- Rail efficiencies -/,
  ⟨0x3020, 0x3020, 0x00, 0x00, .u32, .ro, 0, 0, 4294967295, "count", 0⟩ /- Module rein count -/,
  ⟨0x3021, 0x3021, 0x00, 0x00, .u32, .ro, 0, 0, 4294967295, "ns", 0⟩ /- Module rein time -/,
  ⟨0x3022, 0x3022, 0x01, 0x40, .u32, .ro, 0, 0, 4294967295, "count", 0⟩ /- Tile rein count -/,
  ⟨0x3030, 0x3030, 0x01, 0x40, .u32, .ro, 0, 0, 4294967295, "nJ", 0⟩ /- Grant of slot in progress -/]

/-- Objects 0x4000–0x4FFF. -/
def thermalObjects : List ObjRow := [
  ⟨0x4001, 0x4001, 0x01, 0x7E, .i16, .ro, 0, -32768, 32767, "1/16 degC", 0⟩ /- Node estimate -/,
  ⟨0x4002, 0x4002, 0x00, 0x00, .u8, .rw, 105, 90, 105, "degC", 0⟩ /- Throttle threshold -/,
  ⟨0x4003, 0x4003, 0x00, 0x00, .u8, .ro, 115, 0, 255, "degC", 0⟩ /- Shutdown threshold -/,
  ⟨0x4004, 0x4004, 0x01, 0x7E, .u8, .ro, 0, 0, 3, "", 0⟩ /- Node band -/,
  ⟨0x4005, 0x4005, 0x00, 0x00, .u16, .ro, 1600, 700, 1600, "MHz", 0⟩ /- Thermal limit -/,
  ⟨0x4006, 0x4006, 0x00, 0x00, .i16, .ro, 0, -32768, 32767, "1/16 degC", 0⟩ /- Coolant anchor T_c -/]

/-- Objects 0x5000–0x5FFF, part 1. -/
def opticsObjectsA : List ObjRow := [
  ⟨0x5001, 0x5001, 0x00, 0x00, .u32, .rw, 3600, 60, 86400, "s", 0⟩ /- Calibration period -/,
  ⟨0x5002, 0x5002, 0x00, 0x00, .u32, .rw, 65536, 1024, 1048576, "treads", 0⟩ /- Calibration window period -/,
  ⟨0x5003, 0x5003, 0x00, 0x00, .u16, .rw, 256, 16, 4096, "treads", 0⟩ /- Calibration window length -/,
  ⟨0x5004, 0x5004, 0x00, 0x00, .u8, .rw, 10, 5, 30, "0.1 dB", 0⟩ /- Fade warning threshold -/,
  ⟨0x5005, 0x5005, 0x00, 0x00, .u8, .rw, 8, 3, 20, "0.1 dB", 0⟩ /- Margin warning threshold -/,
  ⟨0x5006, 0x5006, 0x00, 0x00, .u16, .rw, 0, 0, 65535, "", 0⟩ /- Manual move selector -/,
  ⟨0x5007, 0x5007, 0x00, 0x00, .cmd, .cmd, 0, 0, 0, "", 0⟩ /- Manual move -/,
  ⟨0x5008, 0x5008, 0x00, 0x00, .u8, .rw, 1, 0, 1, "", 0⟩ /- Calibration enable -/,
  ⟨0x5010, 0x5010, 0x01, 0x60, .blob, .ro, 0, 16, 16, "", 0⟩ /- Transmit lane map -/,
  ⟨0x5011, 0x5011, 0x01, 0x60, .blob, .ro, 0, 16, 16, "", 0⟩ /- Receive lane map -/,
  ⟨0x5012, 0x5012, 0x01, 0x60, .u8, .ro, 0, 0, 255, "", 0⟩ /- Fiber state -/,
  ⟨0x5013, 0x5013, 0x01, 0x60, .u8, .ro, 255, 0, 255, "", 0⟩ /- Far fiber id -/,
  ⟨0x5014, 0x5014, 0x01, 0x60, .u16, .ro, 0, 0, 65535, "count", 0⟩ /- Loss-of-signal count -/,
  ⟨0x5015, 0x5015, 0x01, 0x60, .u16, .ro, 0, 0, 65535, "count", 0⟩ /- Loss-of-lock count -/,
  ⟨0x5016, 0x5016, 0x01, 0x60, .u8, .ro, 0, 0, 3, "", 0⟩ /- Receive condition -/,
  ⟨0x5020, 0x5020, 0x01, 0xD8, .i16, .ro, 0, -32768, 32767, "0.01 dB", 0⟩ /- Laser relative output D -/,
  ⟨0x5021, 0x5021, 0x01, 0xD8, .i16, .ro, 0, -32768, 32767, "0.01 dB", 0⟩ /- Laser trend -/,
  ⟨0x5022, 0x5022, 0x01, 0xD8, .u8, .ro, 0, 0, 4, "", 0⟩ /- Laser state -/,
  ⟨0x5023, 0x5023, 0x01, 0xD8, .u16, .ro, 0, 0, 65535, "0.1 mA", 0⟩ /- Laser bias -/,
  ⟨0x5030, 0x5030, 0x00, 0x00, .u8, .rw, 16, 2, 100, "us", 0⟩ /- Replay timeout -/,
  ⟨0x5031, 0x5031, 0x00, 0x00, .u8, .rw, 4, 1, 50, "us", 0⟩ /- NAK repeat interval -/,
  ⟨0x5032, 0x5032, 0x00, 0x00, .u8, .rw, 32, 1, 128, "flits", 0⟩ /- Ack count -/,
  ⟨0x5033, 0x5033, 0x00, 0x00, .u16, .rw, 128, 16, 2000, "ns", 0⟩ /- Ack coalescing time -/,
  ⟨0x5034, 0x5034, 0x01, 0x01, .u16, .rws, 16, 0, 65535, "entries", 0⟩ /- Reserved minimum -/,
  ⟨0x5034, 0x5034, 0x02, 0x02, .u16, .rws, 64, 0, 65535, "entries", 0⟩ /- Reserved minimum -/,
  ⟨0x5034, 0x5034, 0x03, 0x03, .u16, .rws, 64, 0, 65535, "entries", 0⟩ /- Reserved minimum -/,
  ⟨0x5034, 0x5034, 0x04, 0x04, .u16, .rws, 512, 0, 65535, "entries", 0⟩ /- Reserved minimum -/,
  ⟨0x5034, 0x5034, 0x05, 0x05, .u16, .rws, 256, 0, 65535, "entries", 0⟩ /- Reserved minimum -/,
  ⟨0x5035, 0x5035, 0x00, 0x00, .u8, .rw, 4, 1, 16, "breaks", 0⟩ /- Retire threshold -/,
  ⟨0x5036, 0x5036, 0x00, 0x00, .u16, .rw, 60, 1, 3600, "s", 0⟩ /- Retire window -/]

/-- Objects 0x5000–0x5FFF, part 2. -/
def opticsObjectsB : List ObjRow := [
  ⟨0x5040, 0x5040, 0x01, 0x60, .u64, .rws, 0, 0, 18446744073709551615, "", 0⟩ /- Spill base -/,
  ⟨0x5041, 0x5041, 0x01, 0x60, .u8, .rws, 0, 0, 64, "MiB", 0⟩ /- Spill size -/,
  ⟨0x5042, 0x5042, 0x01, 0x60, .u8, .ro, 0, 0, 255, "", 0⟩ /- Link state -/,
  ⟨0x5043, 0x5043, 0x01, 0x60, .u32, .ro, 0, 0, 4294967295, "count", 0⟩ /- Replays -/,
  ⟨0x5044, 0x5044, 0x01, 0x60, .u32, .ro, 0, 0, 4294967295, "count", 0⟩ /- Bad verdicts -/,
  ⟨0x5045, 0x5045, 0x01, 0x60, .u32, .ro, 0, 0, 4294967295, "count", 0⟩ /- Stomps received -/,
  ⟨0x5046, 0x5046, 0x01, 0x60, .u32, .ro, 0, 0, 4294967295, "entries", 0⟩ /- Spilled entries in use -/,
  ⟨0x5047, 0x5047, 0x01, 0x60, .u32, .ro, 0, 0, 4294967295, "count", 0⟩ /- Link breaks -/,
  ⟨0x5048, 0x5048, 0x01, 0x60, .cmd, .cmd, 0, 0, 0, "", 0⟩ /- Link restore -/,
  ⟨0x5049, 0x5049, 0x01, 0x60, .u32, .ro, 0, 0, 4294967295, "count", 0⟩ /- Flits lost -/,
  ⟨0x5050, 0x5050, 0x01, 0x60, .u32, .ro, 0, 0, 4294967295, "count", 0⟩ /- Late flits sent -/,
  ⟨0x5051, 0x5051, 0x00, 0x00, .u32, .ro, 0, 0, 4294967295, "count", 0⟩ /- Unmatched or failed deposits -/,
  ⟨0x5052, 0x5052, 0x00, 0x00, .u32, .ro, 0, 0, 4294967295, "count", 0⟩ /- Void positions received -/,
  ⟨0x5100, 0x510B, 0x01, 0x90, .u32, .ro, 507904, 0, 4294967295, "", 0⟩ /- Transmit ring status -/,
  ⟨0x5110, 0x511B, 0x01, 0x90, .u32, .ro, 507904, 0, 4294967295, "", 0⟩ /- Receive ring status -/,
  ⟨0x5200, 0x520B, 0x01, 0x90, .u32, .ro, 4278198016, 0, 4294967295, "", 0⟩ /- Receive lane status -/,
  ⟨0x5210, 0x521B, 0x01, 0x90, .u32, .ro, 4278198016, 0, 4294967295, "", 0⟩ /- Transmit lane status -/,
  ⟨0x5220, 0x522B, 0x01, 0x90, .u32, .ro, 0, 0, 4294967295, "count", 0⟩ /- Header errors -/,
  ⟨0x5230, 0x523B, 0x01, 0x90, .u16, .ro, 0, 0, 65535, "count", 0⟩ /- Block lock losses -/]

/-- Objects 0x6000–0x6FFF, part 1. -/
def etherObjectsA : List ObjRow := [
  ⟨0x6001, 0x6001, 0x01, 0x04, .u8, .rws, 0, 0, 2, "", 0⟩ /- Port mode -/,
  ⟨0x6002, 0x6002, 0x01, 0x10, .u8, .ro, 0, 0, 2, "", 0⟩ /- Link state -/,
  ⟨0x6003, 0x6003, 0x01, 0x10, .u64, .ro, 0, 0, 281474976710655, "", 0⟩ /- MAC address -/,
  ⟨0x6004, 0x6004, 0x01, 0x10, .u32, .rws, 0, 0, 4294967295, "", 0⟩ /- IPv4 address -/,
  ⟨0x6005, 0x6005, 0x01, 0x10, .blob, .rws, 0, 16, 16, "", 0⟩ /- IPv6 address -/,
  ⟨0x6006, 0x6006, 0x01, 0x10, .u16, .rws, 0, 0, 4094, "", 0⟩ /- VLAN id -/,
  ⟨0x6007, 0x6007, 0x01, 0x10, .blob, .rws, 0, 16, 16, "", 0⟩ /- Gateway -/,
  ⟨0x6008, 0x6008, 0x01, 0x10, .u16, .rws, 4200, 1500, 9000, "bytes", 0⟩ /- IP MTU -/,
  ⟨0x6009, 0x6009, 0x00, 0x00, .u8, .rw, 14, 8, 20, "", 0⟩ /- Local ACK timeout exponent -/,
  ⟨0x600A, 0x600A, 0x00, 0x00, .u8, .rw, 12, 1, 31, "", 0⟩ /- RNR timer -/,
  ⟨0x6010, 0x6010, 0x00, 0x00, .u8, .rws, 8, 0, 255, "", 0⟩ /- PFC mask -/,
  ⟨0x6011, 0x6011, 0x00, 0x00, .u8, .rws, 3, 0, 7, "", 0⟩ /- RoCE PCP -/,
  ⟨0x6011, 0x6011, 0x01, 0x01, .u8, .rws, 26, 0, 63, "", 0⟩ /- RoCE PCP -/,
  ⟨0x6012, 0x6012, 0x00, 0x00, .u8, .rws, 6, 0, 7, "", 0⟩ /- CNP PCP -/,
  ⟨0x6012, 0x6012, 0x01, 0x01, .u8, .rws, 48, 0, 63, "", 0⟩ /- CNP PCP -/,
  ⟨0x6013, 0x6013, 0x00, 0x00, .u8, .rw, 1, 0, 1, "", 0⟩ /- ECN enable -/,
  ⟨0x6014, 0x6014, 0x00, 0x00, .u16, .rws, 256, 64, 1024, "KiB", 0⟩ /- PFC headroom -/,
  ⟨0x6015, 0x6015, 0x00, 0x00, .u16, .rw, 50, 1, 1000, "us", 0⟩ /- CNP interval -/,
  ⟨0x6020, 0x6020, 0x00, 0x00, .u8, .rw, 8, 1, 15, "", 0⟩ /- g -/,
  ⟨0x6021, 0x6021, 0x00, 0x00, .u16, .rw, 55, 1, 1000, "us", 0⟩ /- K -/,
  ⟨0x6022, 0x6022, 0x00, 0x00, .u16, .rw, 55, 1, 10000, "us", 0⟩ /- T -/,
  ⟨0x6023, 0x6023, 0x00, 0x00, .u32, .rw, 10, 1, 1024, "MiB", 0⟩ /- B -/,
  ⟨0x6024, 0x6024, 0x00, 0x00, .u8, .rw, 5, 1, 31, "", 0⟩ /- F -/,
  ⟨0x6025, 0x6025, 0x00, 0x00, .u32, .rw, 40, 1, 10000, "Mb/s", 0⟩ /- RAI -/,
  ⟨0x6026, 0x6026, 0x00, 0x00, .u32, .rw, 200, 1, 40000, "Mb/s", 0⟩ /- RHAI -/,
  ⟨0x6027, 0x6027, 0x00, 0x00, .u32, .rw, 100, 10, 10000, "Mb/s", 0⟩ /- Rmin -/,
  ⟨0x6030, 0x6030, 0x00, 0x00, .u16, .rws, 7100, 1, 65535, "", 0⟩ /- Service port -/,
  ⟨0x6032, 0x6032, 0x00, 0x00, .u16, .rws, 6010, 1, 65535, "", 0⟩ /- In-band MOP port -/,
  ⟨0x6033, 0x6033, 0x00, 0x00, .u16, .rw, 65535, 0, 65535, "", 0⟩ /- In-band MOP enable mask -/,
  ⟨0x6040, 0x6040, 0x00, 0x00, .u16, .rw, 0, 0, 4095, "", 0⟩ /- Window selector -/]

/-- Objects 0x6000–0x6FFF, part 2. -/
def etherObjectsB : List ObjRow := [
  ⟨0x6041, 0x6041, 0x00, 0x00, .blob, .rw, 0, 32, 32, "", 0⟩ /- Window descriptor -/,
  ⟨0x6042, 0x6042, 0x00, 0x00, .u16, .ro, 0, 0, 65535, "count", 0⟩ /- Windows enabled -/,
  ⟨0x6050, 0x6050, 0x00, 0x00, .u32, .ro, 0, 0, 65536, "", 0⟩ /- QPs in use -/,
  ⟨0x6051, 0x6051, 0x01, 0x10, .u32, .ro, 0, 0, 4294967295, "count", 0⟩ /- Frames dropped -/,
  ⟨0x6052, 0x6052, 0x00, 0x00, .u32, .ro, 0, 0, 4294967295, "count", 0⟩ /- CNPs sent -/,
  ⟨0x6053, 0x6053, 0x00, 0x00, .u32, .ro, 0, 0, 4294967295, "count", 0⟩ /- CNPs received -/]

/-- Objects 0x7000–0x7FFF, part 1. -/
def tileObjectsA : List ObjRow := [
  ⟨0x7002, 0x7002, 0x01, 0x40, .u16, .ro, 0, 0, 65535, "", 0⟩ /- Tile strap word -/,
  ⟨0x7031, 0x7031, 0x01, 0x40, .u32, .ro, 0, 0, 4294967295, "count", 0⟩ /- Checksum failures -/,
  ⟨0x7032, 0x7032, 0x01, 0x40, .u32, .ro, 0, 0, 4294967295, "count", 0⟩ /- Saturation events -/,
  ⟨0x7033, 0x7033, 0x01, 0x40, .u32, .ro, 0, 0, 4294967295, "count", 0⟩ /- NaN and Inf events -/,
  ⟨0x7040, 0x7040, 0x00, 0x00, .u8, .rw, 4, 1, 16, "grant slots", 0⟩ /- Balance cap -/,
  ⟨0x7041, 0x7041, 0x00, 0x00, .u8, .rw, 1, 0, 1, "", 0⟩ /- Trade enable -/,
  ⟨0x7042, 0x7042, 0x00, 0x00, .u16, .rw, 2, 1, 100, "us", 0⟩ /- Trade idle time -/,
  ⟨0x7043, 0x7043, 0x00, 0x00, .u16, .rw, 8, 2, 500, "us", 0⟩ /- Trade margin -/,
  ⟨0x7044, 0x7044, 0x00, 0x00, .u16, .rw, 4096, 1, 4096, "sessions", 0⟩ /- Batch cap maximum -/,
  ⟨0x7045, 0x7045, 0x01, 0x40, .u16, .ro, 4096, 0, 65535, "sessions", 0⟩ /- Batch cap in force -/,
  ⟨0x7046, 0x7046, 0x00, 0x00, .u8, .rw, 85, 50, 95, "%", 0⟩ /- Occupancy target -/,
  ⟨0x7047, 0x7047, 0x00, 0x00, .u16, .rws, 4096, 256, 65520, "treads", 0⟩ /- Test interval -/,
  ⟨0x7048, 0x7048, 0x01, 0x40, .u32, .ro, 0, 0, 4294967295, "", 0⟩ /- Test state -/,
  ⟨0x7049, 0x7049, 0x01, 0x40, .u32, .ro, 0, 0, 4294967295, "count", 0⟩ /- Steals -/,
  ⟨0x704A, 0x704A, 0x01, 0x40, .u32, .ro, 0, 0, 4294967295, "count", 0⟩ /- Jobs traded in -/,
  ⟨0x704B, 0x704B, 0x01, 0x40, .u32, .ro, 0, 0, 4294967295, "ns", 0⟩ /- Rein stall time -/,
  ⟨0x704C, 0x704C, 0x01, 0x40, .blob, .ro, 0, 32, 32, "", 0⟩ /- Admission budget -/,
  ⟨0x704D, 0x704D, 0x01, 0x40, .u8, .ro, 0, 0, 100, "%", 0⟩ /- Occupancy of last tread -/,
  ⟨0x7050, 0x7050, 0x01, 0x40, .u16, .ro, 0, 0, 65535, "", 0⟩ /- Fenced pens -/,
  ⟨0x7051, 0x7051, 0x01, 0x40, .u32, .ro, 0, 0, 4294967295, "", 0⟩ /- Retired mesh slices -/,
  ⟨0x7052, 0x7052, 0x00, 0x00, .u64, .ro, 0, 0, 18446744073709551615, "", 0⟩ /- Retired gateway slices -/,
  ⟨0x7053, 0x7053, 0x01, 0x40, .u32, .ro, 0, 0, 4294967295, "count", 0⟩ /- Slice parity errors -/,
  ⟨0x7054, 0x7054, 0x01, 0x40, .u32, .ro, 0, 0, 4294967295, "count", 0⟩ /- ECC corrected -/,
  ⟨0x7055, 0x7055, 0x01, 0x40, .u32, .ro, 0, 0, 4294967295, "count", 0⟩ /- ECC uncorrected -/,
  ⟨0x7056, 0x7056, 0x00, 0x00, .u8, .rw, 1, 0, 4, "", 0⟩ /- Cross-replay fraction -/,
  ⟨0x7057, 0x7057, 0x01, 0x40, .u32, .ro, 0, 0, 4294967295, "treads", 0⟩ /- Treads since clean point -/,
  ⟨0x7058, 0x7058, 0x00, 0x00, .u8, .rw, 4, 1, 16, "count", 0⟩ /- Transient threshold -/,
  ⟨0x7059, 0x7059, 0x00, 0x00, .u32, .rw, 65536, 256, 1048576, "treads", 0⟩ /- Transient window -/,
  ⟨0x705A, 0x705A, 0x01, 0x40, .u32, .ro, 0, 0, 4294967295, "count", 0⟩ /- Transient faults -/,
  ⟨0x705B, 0x705B, 0x00, 0x00, .u16, .rw, 1000, 100, 10000, "us", 0⟩ /- Shepherd watchdog period -/]

/-- Objects 0x7000–0x7FFF, part 2. -/
def tileObjectsB : List ObjRow := [
  ⟨0x705C, 0x705C, 0x00, 0x00, .u16, .rw, 0, 0, 1023, "", 0⟩ /- Pen selector -/,
  ⟨0x705D, 0x705D, 0x00, 0x00, .cmd, .cmd, 0, 0, 0, "", 0⟩ /- Pen fence -/,
  ⟨0x705E, 0x705E, 0x00, 0x00, .cmd, .cmd, 0, 0, 0, "", 0⟩ /- Pen restore -/,
  ⟨0x705F, 0x705F, 0x00, 0x00, .u8, .rw, 0, 0, 63, "", 0⟩ /- Tile selector -/,
  ⟨0x7060, 0x7060, 0x00, 0x00, .cmd, .cmd, 0, 0, 0, "", 0⟩ /- Tile restart -/,
  ⟨0x7061, 0x7061, 0x00, 0x00, .u32, .ro, 0, 0, 4294967295, "count", 0⟩ /- Sessions tainted -/]

/-- Objects 0x8000–0x8FFF. -/
def tallyObjects : List ObjRow := [
  ⟨0x8001, 0x8001, 0x00, 0x00, .u16, .ro, 0, 0, 288, "", 0⟩ /- Units configured -/,
  ⟨0x8002, 0x8002, 0x00, 0x00, .cmd, .cmd, 0, 0, 0, "", 0⟩ /- Clear all -/,
  ⟨0x8100, 0x821F, 0x01, 0x01, .blob, .rw, 0, 16, 16, "", 0⟩ /- Configuration -/,
  ⟨0x8100, 0x821F, 0x02, 0x02, .cmd, .cmd, 0, 0, 0, "", 0⟩ /- Clear -/,
  ⟨0x8100, 0x821F, 0x03, 0x03, .blob, .ro, 0, 296, 296, "", 0⟩ /- Snapshot -/,
  ⟨0x8100, 0x821F, 0x04, 0x04, .blob, .ro, 0, 296, 296, "", 0⟩ /- Live accumulators -/]

/-- Objects 0x9000–0x9FFF. -/
def securityObjects : List ObjRow := [
  ⟨0x9000, 0x9000, 0x00, 0x00, .u8, .ro, 0, 0, 2, "", 0⟩ /- Lifecycle state -/,
  ⟨0x9001, 0x9001, 0x01, 0x08, .u8, .ro, 0, 0, 3, "", 0⟩ /- Key slot authority -/,
  ⟨0x9002, 0x9002, 0x01, 0x08, .u64, .ro, 0, 0, 18446744073709551615, "", 0⟩ /- Key slot highest counter -/,
  ⟨0x9003, 0x9003, 0x01, 0x08, .blob, .wo, 0, 33, 41, "", 0⟩ /- Key install -/,
  ⟨0x9004, 0x9004, 0x01, 0x08, .cmd, .cmd, 0, 0, 0, "", 0⟩ /- Key clear -/,
  ⟨0x9005, 0x9005, 0x00, 0x00, .u8, .ro, 0, 0, 64, "", 0⟩ /- Security-version floor -/,
  ⟨0x9006, 0x9006, 0x00, 0x00, .cmd, .cmd, 0, 0, 0, "", 0⟩ /- Raise floor -/,
  ⟨0x9007, 0x9007, 0x00, 0x00, .u8, .ro, 0, 0, 64, "", 0⟩ /- Running SVN -/,
  ⟨0x9008, 0x9008, 0x00, 0x00, .blob, .ro, 0, 32, 32, "", 0⟩ /- Running image digest -/,
  ⟨0x9010, 0x9010, 0x00, 0x00, .blob, .wo, 0, 32, 32, "", 0⟩ /- Attestation nonce -/,
  ⟨0x9011, 0x9011, 0x00, 0x00, .cmd, .cmd, 0, 0, 0, "", 0⟩ /- Attest -/,
  ⟨0x9012, 0x9012, 0x00, 0x00, .blob, .ro, 0, 0, 3764, "", 0⟩ /- Attestation result -/,
  ⟨0x9013, 0x9013, 0x00, 0x00, .u8, .ro, 0, 0, 3, "", 0⟩ /- Attestation state -/,
  ⟨0x9014, 0x9014, 0x00, 0x00, .u64, .ro, 0, 0, 1099511627776, "", 0⟩ /- Signatures remaining -/,
  ⟨0x9015, 0x9015, 0x00, 0x00, .blob, .ro, 0, 60, 60, "", 0⟩ /- Device public key -/,
  ⟨0x9016, 0x9016, 0x00, 0x00, .blob, .ro, 0, 3680, 3680, "", 0⟩ /- Device certificate -/,
  ⟨0x9023, 0x9023, 0x00, 0x00, .blob, .wo, 0, 3636, 3636, "", 0⟩ /- Lifecycle token -/,
  ⟨0x9024, 0x9024, 0x00, 0x00, .cmd, .cmd, 0, 0, 0, "", 0⟩ /- Lifecycle transition -/,
  ⟨0x9030, 0x9030, 0x01, 0x0C, .u32, .ro, 0, 0, 4294967295, "", 0⟩ /- Stile status -/]

/-- Objects 0xA000–0xAFFF. -/
def memoryObjects : List ObjRow := [
  ⟨0xA001, 0xA001, 0x01, 0x40, .u8, .ro, 48, 0, 48, "GiB", 0⟩ /- Working LPDDR capacity -/,
  ⟨0xA002, 0xA002, 0x01, 0x40, .u8, .ro, 0, 0, 63, "", 0⟩ /- Failed channel mask -/,
  ⟨0xA003, 0xA003, 0x01, 0x40, .u8, .ro, 1, 1, 4, "", 0⟩ /- Refresh multiplier in force -/,
  ⟨0xA010, 0xA010, 0x00, 0x00, .u16, .rws, 1024, 256, 1024, "slots", 0⟩ /- Commit staging slots -/,
  ⟨0xA011, 0xA011, 0x01, 0x40, .u16, .ro, 0, 0, 65535, "slots", 0⟩ /- Free staging slots -/,
  ⟨0xA021, 0xA021, 0x00, 0x00, .u8, .rw, 8, 1, 255, "count", 0⟩ /- Channel error threshold -/,
  ⟨0xA022, 0xA022, 0x00, 0x00, .u16, .rw, 1024, 16, 65535, "treads", 0⟩ /- Channel error window -/,
  ⟨0xA030, 0xA030, 0x00, 0x00, .blob, .rws, 0, 0, 2097152, "", 0⟩ /- Region map -/,
  ⟨0xA031, 0xA031, 0x01, 0x40, .blob, .rwg, 0, 96, 96, "", 0xA032⟩ /- Redirect map of tile sub − 1 -/,
  ⟨0xA032, 0xA032, 0x00, 0x00, .cmd, .cmd, 0, 0, 0, "", 0⟩ /- Redirect group commit -/,
  ⟨0xA033, 0xA033, 0x00, 0x00, .u8, .ro, 0, 0, 2, "", 0⟩ /- Re-homing state -/,
  ⟨0xA040, 0xA040, 0x00, 0x00, .u32, .ro, 0, 0, 4294967295, "count", 0⟩ /- Poisoned bales -/,
  ⟨0xA041, 0xA041, 0x00, 0x00, .u64, .ro, 0, 0, 18446744073709551615, "", 0⟩ /- Last poison origin -/]

/-- Objects 0xB000–0xBFFF. -/
def tokenObjects : List ObjRow := [
  ⟨0xB001, 0xB001, 0x00, 0x00, .u8, .rw, 0, 0, 15, "", 0⟩ /- Model selector -/,
  ⟨0xB002, 0xB002, 0x00, 0x00, .u64, .rw, 0, 0, 18446744073709551615, "", 0⟩ /- Image address -/,
  ⟨0xB003, 0xB003, 0x00, 0x00, .u32, .rw, 0, 0, 4294967295, "positions", 0⟩ /- KV positions -/,
  ⟨0xB004, 0xB004, 0x00, 0x00, .cmd, .cmd, 0, 0, 0, "", 0⟩ /- Load model -/,
  ⟨0xB005, 0xB005, 0x00, 0x00, .cmd, .cmd, 0, 0, 0, "", 0⟩ /- Unload model -/,
  ⟨0xB006, 0xB006, 0x01, 0x10, .u8, .ro, 0, 0, 5, "", 0⟩ /- Model state -/,
  ⟨0xB007, 0xB007, 0x01, 0x10, .u32, .ro, 0, 0, 4294967295, "ns", 0⟩ /- Model occupancy -/,
  ⟨0xB008, 0xB008, 0x01, 0x10, .u32, .ro, 0, 0, 4294967295, "positions", 0⟩ /- Free KV positions -/,
  ⟨0xB009, 0xB009, 0x01, 0x10, .u64, .ro, 0, 0, 18446744073709551615, "", 0⟩ /- MODELID -/,
  ⟨0xB00A, 0xB00A, 0x00, 0x00, .u32, .ro, 0, 0, 4294967295, "ns", 0⟩ /- Predicted tread occupancy -/,
  ⟨0xB010, 0xB010, 0x00, 0x00, .u64, .rws, 0, 0, 18446744073709551615, "", 0⟩ /- Ring pool base -/,
  ⟨0xB011, 0xB011, 0x00, 0x00, .u8, .rws, 0, 0, 48, "GiB", 0⟩ /- Ring pool size -/,
  ⟨0xB012, 0xB012, 0x00, 0x00, .u16, .ro, 0, 0, 32768, "", 0⟩ /- Open sessions -/,
  ⟨0xB013, 0xB013, 0x00, 0x00, .u32, .ro, 0, 0, 65536, "", 0⟩ /- Open connections -/,
  ⟨0xB020, 0xB020, 0x00, 0x00, .u32, .rw, 8192, 256, 65536, "tokens per tread", 0⟩ /- Prefill budget -/,
  ⟨0xB021, 0xB021, 0x00, 0x00, .u32, .rw, 30000, 0, 600000, "ms", 0⟩ /- Admission timeout -/,
  ⟨0xB022, 0xB022, 0x00, 0x00, .u32, .rw, 600, 1, 86400, "s", 0⟩ /- Idle timeout -/,
  ⟨0xB023, 0xB023, 0x00, 0x00, .u8, .rw, 40, 10, 200, "us", 0⟩ /- Batch cut -/]

/-- Objects 0xF000–0xFFFF. -/
def diagObjects : List ObjRow := [
  ⟨0xF030, 0xF030, 0x00, 0x00, .u32, .wo, 0, 0, 4294967295, "", 0⟩ /- MAC fault injection -/,
  ⟨0xF050, 0xF050, 0x00, 0x00, .u16, .rw, 0, 0, 65535, "", 0⟩ /- Lane selector -/,
  ⟨0xF051, 0xF051, 0x00, 0x00, .u8, .rw, 0, 0, 255, "", 0⟩ /- PRBS configuration -/,
  ⟨0xF052, 0xF052, 0x00, 0x00, .cmd, .cmd, 0, 0, 0, "", 0⟩ /- PRBS start -/,
  ⟨0xF053, 0xF053, 0x00, 0x00, .cmd, .cmd, 0, 0, 0, "", 0⟩ /- PRBS stop -/,
  ⟨0xF054, 0xF054, 0x00, 0x00, .u32, .ro, 0, 0, 4294967295, "bits", 0⟩ /- PRBS errored bits -/,
  ⟨0xF055, 0xF055, 0x00, 0x00, .u64, .ro, 0, 0, 18446744073709551615, "bits", 0⟩ /- PRBS checked bits -/,
  ⟨0xF056, 0xF056, 0x00, 0x00, .u8, .ro, 0, 0, 1, "", 0⟩ /- PRBS pattern lock -/,
  ⟨0xF057, 0xF057, 0x00, 0x00, .u32, .wo, 0, 0, 4294967295, "", 0⟩ /- Injection word -/]

/-- The object tables by the index's high digit (Table 14.9). -/
def objectRows (index : Nat) : List ObjRow :=
  match index / 0x1000 with
  | 0x0 => keeperObjects
  | 0x1 => identityObjects
  | 0x2 => treadObjects
  | 0x3 => powerObjects
  | 0x4 => thermalObjects
  | 0x5 => opticsObjectsA ++ opticsObjectsB
  | 0x6 => etherObjectsA ++ etherObjectsB
  | 0x7 => tileObjectsA ++ tileObjectsB
  | 0x8 => tallyObjects
  | 0x9 => securityObjects
  | 0xA => memoryObjects
  | 0xB => tokenObjects
  | 0xF => diagObjects
  | _ => []

/-- The row of Index:Sub, if some table lists it. -/
def objectRow (index sub : Nat) : Option ObjRow :=
  (objectRows index).find? fun r => decide (r.indexLo ≤ index ∧ index ≤ r.indexHi ∧ r.subLo ≤ sub ∧ sub ≤ r.subHi)

/-- Whether some table lists the index at all (R321 step 4). -/
def indexExists (index : Nat) : Bool :=
  (objectRows index).any fun r => decide (r.indexLo ≤ index ∧ index ≤ r.indexHi)

/-- An integer as the bits of a field of `n` bytes, two's complement. -/
def intBits (n : Nat) (v : Int) : Nat := (v % (2 ^ (8 * n) : Nat)).toNat

/-- The signed value of an `n`-byte field's bits. -/
def bitsInt (n v : Nat) : Int := if v < 2 ^ (8 * n - 1) then v else (v : Int) - (2 ^ (8 * n) : Nat)

/-- A numeric object's default, as bits; 0 where its table states none (log entry 10). -/
def objectDefault (index sub : Nat) : Nat :=
  match objectRow index sub with
  | some r => intBits r.type.size r.default
  | none => 0

end Sys2Proof.Machine
end

