-- ==== Sys2Proof/Machine/Ops.lean ====
section
/-! DEFINITION. The named operations over the state: objects, memory, parts, events, answers. -/

namespace Sys2Proof.Machine

/-- What a command answers. -/
abbrev Res := Host.Outcome State Fault Refusal

/-! ## Dictionary objects (R302) -/

/-- The key of Index:Sub. -/
def objKey (index sub : Nat) : Nat := 256 * index + sub

/-- An object's value before anything wrote it (R302). -/
def objDefault (key : Nat) : Value := .num (objectDefault (key / 256) (key % 256))

/-- The value in force of an object whose home is `objs`. -/
def State.obj (s : State) (index sub : Nat) : Value := tabGet objDefault s.objs (objKey index sub)

/-- An object's value as a number: its bits. -/
def State.num (s : State) (index sub : Nat) : Nat :=
  match s.obj index sub with
  | .num n => n
  | .bytes b => leNat b

/-- The value that governs: at the landing at which a new value comes into force the old one still does, until the tick (R306,
Table 02.1). -/
def State.gov (s : State) (index sub : Nat) : Nat :=
  if s.tick.running && s.tick.inLanding then
    match s.dict.governing.find? fun e => e.1 == objKey index sub with
    | some e => e.2
    | none => s.num index sub
  else s.num index sub

/-- An object's value as a byte string; empty where nothing was written. -/
def State.blob (s : State) (index sub : Nat) : List Byte :=
  match s.obj index sub with
  | .num _ => []
  | .bytes b => b

/-- Put an object's value in force. -/
def State.setObj (s : State) (index sub : Nat) (v : Value) : State :=
  { s with objs := tabSet objDefault s.objs (objKey index sub) v }

/-- Put a numeric object's value in force. -/
def State.setNum (s : State) (index sub n : Nat) : State := s.setObj index sub (.num n)

/-- Put a byte string in force. -/
def State.setBlob (s : State) (index sub : Nat) (b : List Byte) : State := s.setObj index sub (.bytes b)

/-- A signed object's value. -/
def State.int (s : State) (index sub : Nat) : Int :=
  match objectRow index sub with
  | some r => bitsInt r.type.size (s.num index sub)
  | none => 0

/-- Put a signed object's value in force. -/
def State.setInt (s : State) (index sub : Nat) (v : Int) : State :=
  match objectRow index sub with
  | some r => s.setNum index sub (intBits r.type.size v)
  | none => s

/-- Count up by `n`; a counter wraps at its width. -/
def State.count (s : State) (index sub n : Nat) : State :=
  match objectRow index sub with
  | some r => s.setNum index sub ((s.num index sub + n) % 2 ^ (8 * r.type.size))
  | none => s

/-- The tread epoch (object 0x2004:00). -/
def State.epoch (s : State) : Nat := s.num 0x2004 0

/-! ## Memory (R112): bytes by module address -/

/-- What a byte of memory reads as before anything wrote it (R329 leaves it undefined; log entry 5). -/
def memDefault (_ : Nat) : Byte := 0#8

/-- One byte of module memory. -/
def State.byte (s : State) (a : Nat) : Byte := tabGet memDefault s.mem a

/-- Write one byte. -/
def State.setByte (s : State) (a : Nat) (b : Byte) : State := { s with mem := tabSet memDefault s.mem a b }

/-- Read `n` bytes of a byte store from address `a`. -/
def readTab (m : Tab Byte) : Nat → Nat → List Byte
  | _, 0 => []
  | a, n + 1 => tabGet memDefault m a :: readTab m (a + 1) n

/-- Write bytes into a byte store from address `a`. -/
def writeTab (m : Tab Byte) : Nat → List Byte → Tab Byte
  | _, [] => m
  | a, b :: t => writeTab (tabSet memDefault m a b) (a + 1) t

/-- Read `n` bytes of module memory. -/
def State.read (s : State) (a n : Nat) : List Byte := readTab s.mem a n

/-- Write bytes to module memory. -/
def State.write (s : State) (a : Nat) (bs : List Byte) : State := { s with mem := writeTab s.mem a bs }

/-- Memory is in its canonical form. -/
def Memory.wf (m : Tab Byte) : Bool := tabWf memDefault m

/-- A word of a structure in a range has a double-bit error: the structure is refused as if its CRC had failed (R348). -/
def State.badIn (s : State) (a n : Nat) : Bool := s.badWords.any fun w => decide (a ≤ w) && decide (w < a + n)

/-- The structure in a range has been read: the errors found in it are spent. -/
def State.dropBad (s : State) (a n : Nat) : State :=
  { s with badWords := s.badWords.filter fun w => !(decide (a ≤ w) && decide (w < a + n)) }

/-- Start of tile t's SRAM window (R110). -/
def sramBase (t : Nat) : Nat := 0x40000000000 + 0x2000000 * t

/-- Commit staging slots in force: object 0xA010:00 as applied at the last Start treads (Table 05.11). -/
def State.stagingSlots (s : State) : Nat := s.stagingInForce

/-- A tile's staging base, as a window offset (Table 05.4). -/
def State.stagingBase (s : State) : Nat := 0x1800000 - 4160 * s.stagingSlots

/-! ## Parts -/

def State.pen (s : State) (p : Nat) : Pen := tabGet (fun _ => {}) s.pens p
def State.setPen (s : State) (p : Nat) (v : Pen) : State := { s with pens := tabSet (fun _ => {}) s.pens p v }
def State.modPen (s : State) (p : Nat) (f : Pen → Pen) : State := s.setPen p (f (s.pen p))
def State.tile (s : State) (t : Nat) : Tile := tabGet (fun _ => {}) s.tiles t
def State.setTile (s : State) (t : Nat) (v : Tile) : State := { s with tiles := tabSet (fun _ => {}) s.tiles t v }
def State.modTile (s : State) (t : Nat) (f : Tile → Tile) : State := s.setTile t (f (s.tile t))

/-- Key of a ring: transmit rings 0–1,727 by 18 × fiber + line, receive rings above. -/
def ringKey (r : Ring) : Nat := (if r.rx then 1728 else 0) + 18 * r.fiber + r.line

def State.ring (s : State) (k : Nat) : RingSt := tabGet (fun _ => {}) s.rings k
def State.modRing (s : State) (k : Nat) (f : RingSt → RingSt) : State :=
  { s with rings := tabSet (fun _ => {}) s.rings k (f (s.ring k)) }

/-- Receive lane of a fiber on a line. -/
def State.rxLane (s : State) (fiber line : Nat) : LaneSt := tabGet (fun _ => {}) s.rxLanes (18 * fiber + line)
def State.modRxLane (s : State) (fiber line : Nat) (f : LaneSt → LaneSt) : State :=
  { s with rxLanes := tabSet (fun _ => {}) s.rxLanes (18 * fiber + line) (f (s.rxLane fiber line)) }

/-- Transmit lane of a fiber on a line. -/
def State.txLane (s : State) (fiber line : Nat) : LaneSt := tabGet (fun _ => {}) s.txLanes (18 * fiber + line)
def State.modTxLane (s : State) (fiber line : Nat) (f : LaneSt → LaneSt) : State :=
  { s with txLanes := tabSet (fun _ => {}) s.txLanes (18 * fiber + line) (f (s.txLane fiber line)) }

def State.fiber (s : State) (f : Nat) : FiberSt := tabGet (fun _ => {}) s.fibers f
def State.modFiber (s : State) (f : Nat) (g : FiberSt → FiberSt) : State :=
  { s with fibers := tabSet (fun _ => {}) s.fibers f (g (s.fiber f)) }

/-- Laser of an OE's sled on a line. -/
def State.laser (s : State) (oe line : Nat) : LaserSt := tabGet (fun _ => {}) s.lasers (18 * oe + line)
def State.modLaser (s : State) (oe line : Nat) (f : LaserSt → LaserSt) : State :=
  { s with lasers := tabSet (fun _ => {}) s.lasers (18 * oe + line) (f (s.laser oe line)) }

def State.oe (s : State) (n : Nat) : OeSt := tabGet (fun _ => {}) s.oes n
def State.modOe (s : State) (n : Nat) (f : OeSt → OeSt) : State :=
  { s with oes := tabSet (fun _ => {}) s.oes n (f (s.oe n)) }

def State.link (s : State) (f : Nat) : LinkSt := tabGet (fun _ => {}) s.links f
def State.setLink (s : State) (f : Nat) (l : LinkSt) : State := { s with links := tabSet (fun _ => {}) s.links f l }
def State.modLink (s : State) (f : Nat) (g : LinkSt → LinkSt) : State := s.setLink f (g (s.link f))

def State.qp (s : State) (q : Nat) : QpSt := tabGet (fun _ => {}) s.eth.qps q
def State.setQp (s : State) (q : Nat) (v : QpSt) : State :=
  { s with eth := { s.eth with qps := tabSet (fun _ => {}) s.eth.qps q v } }
def State.modQp (s : State) (q : Nat) (f : QpSt → QpSt) : State := s.setQp q (f (s.qp q))

/-- The session of an id, if it exists. -/
def State.session (s : State) (i : Nat) : Option Session := tabGet (fun _ => none) s.service.sessions i
def State.setSession (s : State) (i : Nat) (v : Option Session) : State :=
  { s with service := { s.service with sessions := tabSet (fun _ => none) s.service.sessions i v } }
def State.modSession (s : State) (i : Nat) (f : Session → Session) : State := s.setSession i ((s.session i).map f)

def State.model (s : State) (i : Nat) : Model := tabGet (fun _ => {}) s.service.models i
def State.modModel (s : State) (i : Nat) (f : Model → Model) : State :=
  { s with service := { s.service with models := tabSet (fun _ => {}) s.service.models i (f (s.model i)) } }

def State.tally (s : State) (u : Nat) : Tally := tabGet (fun _ => {}) s.units u
def State.setTally (s : State) (u : Nat) (v : Tally) : State := { s with units := tabSet (fun _ => {}) s.units u v }
def State.modTally (s : State) (u : Nat) (f : Tally → Tally) : State := s.setTally u (f (s.tally u))

/-- Fold an operation over the numbers 0 to n − 1. -/
def upTo (n : Nat) (s : State) (f : Nat → State → State) : State := (List.range n).foldl (fun s i => f i s) s

/-- Fold an operation over a list. -/
def forEach {α : Type} (l : List α) (s : State) (f : α → State → State) : State := l.foldl (fun s a => f a s) s

/-! ## Identities (R12) -/

/-- The tile of a global pen id. -/
def tileOf (p : Nat) : Nat := p / 16

/-- Whether a pen is fenced (object 0x7050). -/
def State.fenced (s : State) (p : Nat) : Bool := (s.num 0x7050 (tileOf p + 1)).testBit (p % 16)

/-- Mesh hops between two tiles: the distance of their rows and columns (R16). -/
def meshHops (a b : Nat) : Nat :=
  ((a % 8 : Int) - (b % 8 : Nat)).natAbs + ((a / 8 : Int) - (b / 8 : Nat)).natAbs

/-! ## Time -/

/-- Hub cycles of a time in ns (R6). -/
def nsCycles (ns : Nat) : Nat := 2 * ns

/-- Hub cycles since the tick of this tread. -/
def State.sinceTick (s : State) : Nat := s.clock - s.tick.tickAt

/-- A fresh free value and the state after drawing it (log entry 1). -/
def State.free (s : State) : BitVec 64 × State := (Config.freeBits s.fresh, { s with fresh := s.fresh + 1 })

/-- A number's bits from a place on. -/
def atBit (v n lo : Nat) : Nat := v % 2 ^ n * 2 ^ lo

/-! ## The event log (R323) -/

/-- Event sources (Table 14.8). -/
def srcHub : Nat := 0x40
def srcKeeper : Nat := 0x41
def srcOe (n : Nat) : Nat := 0x50 + n

/-- Log an event: it takes the next sequence number, and the ring keeps the newest 65,536. -/
def State.log (s : State) (code source detail : Nat) : State :=
  { s with
    events := ({ code := code, source := source, detail := detail
                 epoch := if s.tick.running then s.epoch else 0
                 time := (s.clock - s.boot.keeperAt) / 2000, seq := s.nextSeq } :: s.events).take 65536
    nextSeq := (s.nextSeq + 1) % 2 ^ 32 }

/-- The 32 bytes of an event record (Table 14.8). -/
def Event.toBytes (e : Event) : List Byte :=
  [0#8] ++ leBytes 1 e.source ++ leBytes 2 e.code ++ leBytes 4 e.seq ++ leBytes 8 e.time ++ leBytes 8 e.epoch
    ++ leBytes 8 e.detail

/-! ## Sending -/

/-- Send something out. -/
def State.send (s : State) (o : Out) : State := { s with sent := s.sent ++ [o] }

/-- Operation codes (Table 14.6). -/
def opRead : Nat := 1
def opWrite : Nat := 2
def opCommand : Nat := 3
def opDescribe : Nat := 4
def opDiscard : Nat := 5
def opMemread : Nat := 6
def opMemwrite : Nat := 7

/-- Answer an operation record with its abort code and no data (Table 14.5). -/
def State.answer (s : State) (slot op index sub abort : Nat) : State :=
  let ty := match objectRow index sub with | some r => r.type.code | none => 0
  s.send (.response slot { op := op, index := index, sub := sub, abort := abort, type := ty })

/-! ## Bring-up stage and readiness -/

/-- The bring-up stage (object 0x1007:00). -/
def State.stage (s : State) : Nat := s.num 0x1007 0

/-- The module is at Ready (stage 9). -/
def State.ready (s : State) : Bool := s.stage == 9

/-- The tick interval P in ns and the landing L in ns of the tread in progress. -/
def State.periodNs (s : State) : Nat := s.tick.period
def State.landNs (s : State) : Nat := 1000 * s.tick.land

end Sys2Proof.Machine
end

