-- ==== Sys2Proof/Machine/Operands.lean ====
section
/-! DEFINITION. Operand forms of the pens: the checks of an instruction word (R65, R66, R424), views (R67, R68), and
reading and writing their elements. -/

namespace Sys2Proof.Machine

/-- Why an instruction does not complete: an exception (code, detail word) or a stall at issue. -/
inductive Stop where
  | exc (code : Nat) (detail : Nat)
  | stall (why : Stall)
deriving DecidableEq, Repr

/-- The result of a part of an instruction. -/
abbrev Try := Except Stop

/-- An exception with no detail. -/
def raise {α : Type} (code : Nat) : Try α := .error (.exc code 0)

/-- Require a condition, or raise. -/
def need (b : Bool) (code : Nat) : Try Unit := if b then .ok () else raise code

/-! ## The instruction word -/

/-- What an opcode makes of the word's fields (Table 04.7): the kinds each operand may have, as a mask of bits
1 view, 2 accumulator, 4 scalar, 8 immediate (0: the opcode does not use it); the MOD values; how many CND values. -/
structure Form where
  d : Nat := 0
  a : Nat := 0
  b : Nat := 0
  c : Nat := 0
  modOk : Nat → Bool := fun m => m == 0
  cnds : Nat := 1

/-- R65 on one operand: an unused one is all zero, and kind 3 has number 0. -/
def operandEncoded (allowed kind num : Nat) : Bool :=
  if allowed = 0 then kind == 0 && num == 0 else kind != 3 || num == 0

/-- R66 on one operand: its kind is allowed and an accumulator is one of A0–A7. -/
def operandKind (allowed kind num : Nat) : Bool :=
  allowed == 0 || (allowed.testBit kind && (kind != 1 || num < 8))

/-- The fields of the word are legal for the opcode, but for operand kinds (R65). -/
def wordEncoded (f : Form) (w : PenWord) : Bool :=
  w.opc.isNone && w.rsv63 == 0 && w.rsv47 == 0 && w.rsv43 == 0 && f.modOk w.mod.toNat && decide (w.cnd.toNat < f.cnds)
    && operandEncoded f.d w.dk.toNat w.d.toNat && operandEncoded f.a w.ak.toNat w.a.toNat
    && operandEncoded f.b w.bk.toNat w.b.toNat && operandEncoded f.c w.ck.toNat w.c.toNat

/-- How many operands are the immediate. -/
def immCount (w : PenWord) : Nat :=
  (if w.dk = 3 then 1 else 0) + (if w.ak = 3 then 1 else 0) + (if w.bk = 3 then 1 else 0)
    + (if w.ck = 3 then 1 else 0)

/-- The operands have allowed kinds, at most one of them the immediate (R66). DESIGN CHOICE (log entry 138): a second immediate raises
0x02, as a kind that is not allowed does. -/
def wordKinds (f : Form) (w : PenWord) : Bool :=
  operandKind f.d w.dk.toNat w.d.toNat && operandKind f.a w.ak.toNat w.a.toNat
    && operandKind f.b w.bk.toNat w.b.toNat && operandKind f.c w.ck.toNat w.c.toNat && decide (immCount w ≤ 1)

/-- R65, then R66. -/
def checkWord (f : Form) (w : PenWord) : Try Unit :=
  if ¬ wordEncoded f w then raise 0x01 else if ¬ wordKinds f w then raise 0x02 else .ok ()

/-! ## Scalars -/

/-- A scalar register; S00 reads as zero (R66). -/
def Pen.reg (p : Pen) (n : Nat) : Word64 := if n = 0 then 0 else tabGet (fun _ => 0) p.regs n

/-- Write a scalar register; S00 discards (R66). -/
def Pen.setReg (p : Pen) (n : Nat) (v : Word64) : Pen :=
  if n = 0 then p else { p with regs := tabSet (fun _ => 0) p.regs n v }

/-- A scalar-or-immediate operand's 64 bits. -/
def scalarOrImm (p : Pen) (w : PenWord) (kind num : Nat) : Word64 := if kind = 3 then w.imm else p.reg num

/-- Its low 32 bits, as a vector instruction reads it (R66). -/
def low32 (v : Word64) : F32 := v.truncate 32

/-! ## Views (R67) -/

/-- A view descriptor's fields (Table 04.6); extents are the true ones. -/
structure View where
  space : Nat
  fmt : Nat
  z0 : Bool
  base : Nat
  ext0 : Nat
  ext1 : Nat
  ext2 : Nat
  st1 : Int
  st2 : Int
  sbase : Nat
  ss1 : Int
  ss2 : Int
deriving DecidableEq, Repr

/-- The view that a descriptor's bits describe. -/
def viewOf (d : BitVec 256) : View :=
  let v := d.toNat
  { space := field v 0 2, fmt := field v 8 4, z0 := bit v 12, base := field v 16 32
    ext0 := field v 48 16 + 1, ext1 := field v 64 16 + 1, ext2 := field v 80 16 + 1
    st1 := signed 32 (field v 96 32), st2 := signed 32 (field v 128 32), sbase := field v 160 32
    ss1 := signed 32 (field v 192 32), ss2 := signed 32 (field v 224 32) }

/-- The descriptor's reserved fields are zero. -/
def viewReserved (d : BitVec 256) : Bool := field d.toNat 2 6 == 0 && field d.toNat 13 3 == 0

/-- View descriptor Vn. -/
def Pen.view (p : Pen) (n : Nat) : BitVec 256 := tabGet (fun _ => 0) p.views n
def Pen.setView (p : Pen) (n : Nat) (d : BitVec 256) : Pen := { p with views := tabSet (fun _ => 0) p.views n d }

/-- Elements of a view. -/
def View.count (v : View) : Nat := v.ext0 * v.ext1 * v.ext2

/-- Stride of dimension 0. -/
def View.s0 (v : View) : Int := if v.z0 then 0 else 1

/-- Constraints on a view's own fields (R67): MX, FP6 and FP4. -/
def View.shapeOk (v : View) : Bool :=
  decide (v.fmt < 13) && decide (v.space ≠ 3)
    && (!isMx v.fmt || (v.ext0 % 32 == 0 && v.st1 % 32 == 0 && v.st2 % 32 == 0 && !v.z0))

/-- Smallest value of s·i over i < n. -/
def spanMin (s : Int) (n : Nat) : Int := min 0 (s * (n - 1 : Nat))
/-- Largest value of s·i over i < n. -/
def spanMax (s : Int) (n : Nat) : Int := max 0 (s * (n - 1 : Nat))

/-- Every element and scale byte lies in the bytes 0 to size − 1, with the base given (R67). -/
def View.inside (v : View) (base size : Nat) : Bool :=
  let w : Int := fmtWidth v.fmt
  let lo := 8 * (base : Int) + w * (spanMin v.s0 v.ext0 + spanMin v.st1 v.ext1 + spanMin v.st2 v.ext2)
  let hi := 8 * (base : Int) + w * (spanMax v.s0 v.ext0 + spanMax v.st1 v.ext1 + spanMax v.st2 v.ext2) + w
  let slo := (v.sbase : Int) + spanMin v.ss1 v.ext1 + spanMin v.ss2 v.ext2
  let shi := (v.sbase : Int) + ((v.ext0 - 1) / 32 : Nat) + spanMax v.ss1 v.ext1 + spanMax v.ss2 v.ext2
  decide (0 ≤ lo) && decide (hi ≤ 8 * (size : Int)) && (!isMx v.fmt || (decide (0 ≤ slo) && decide (shi < size)))

/-- A view that an instruction may use, with the store and byte address of its space's byte 0, and the byte address of
its own base there: `scratch` false is module memory. -/
structure Placed where
  v : View
  scratch : Bool
  origin : Nat
  base : Nat
deriving DecidableEq, Repr

/-- Residency entry of a slot. -/
def Pen.residentAt (p : Pen) (slot : Nat) : Option Resident := tabGet (fun _ => none) p.resident slot

/-- Place a view for use, with the faults of R67. -/
def placeView (tile : Nat) (p : Pen) (d : BitVec 256) : Try Placed :=
  let v := viewOf d
  if ¬ (viewReserved d && v.shapeOk) then raise 0x04
  else match v.space with
    | 0 => if v.inside v.base 0x80000 then .ok ⟨v, true, 0, v.base⟩ else raise 0x04
    | 1 => if v.inside v.base 0x1800000 then .ok ⟨v, false, sramBase tile, v.base⟩ else raise 0x04
    | _ =>
      let base := v.base % 2 ^ 12
      if v.base / 2 ^ 12 % 2 ^ 12 ≠ 0 ∨ ¬ v.inside base 0x1000 then raise 0x04
      else match p.residentAt (v.base / 2 ^ 24) with
        | none => raise 0x06
        | some r => .ok ⟨v, r.space = 0, r.base, base⟩

/-- Bit address of element e within the view's space (R67), view order. -/
def Placed.elemBit (q : Placed) (e : Nat) : Nat :=
  let v := q.v
  let i0 := e % v.ext0
  let i1 := e / v.ext0 % v.ext1
  let i2 := e / v.ext0 / v.ext1
  (8 * (q.base : Int) + fmtWidth v.fmt * (v.s0 * i0 + v.st1 * i1 + v.st2 * i2)).toNat

/-- Byte address of the scale byte of element e's block within the space (R67). -/
def Placed.scaleAt (q : Placed) (e : Nat) : Nat :=
  let v := q.v
  let i0 := e % v.ext0
  let i1 := e / v.ext0 % v.ext1
  let i2 := e / v.ext0 / v.ext1
  ((v.sbase : Int) + (i0 / 32 : Nat) + v.ss1 * i1 + v.ss2 * i2).toNat

/-- Bits [bitAddr + w − 1 : bitAddr] of a byte store. -/
def getBits (m : Tab Byte) (origin bitAddr w : Nat) : Nat :=
  leNat (readTab m (origin + bitAddr / 8) ((bitAddr % 8 + w + 7) / 8)) / 2 ^ (bitAddr % 8) % 2 ^ w

/-- Replace bits of a byte store. -/
def putBits (m : Tab Byte) (origin bitAddr w v : Nat) : Tab Byte :=
  let n := (bitAddr % 8 + w + 7) / 8
  let a := origin + bitAddr / 8
  let sh := bitAddr % 8
  let old := leNat (readTab m a n)
  writeTab m a (leBytes n (old - old / 2 ^ sh % 2 ^ w * 2 ^ sh + v % 2 ^ w * 2 ^ sh))

/-- The byte store a placed view lies in. -/
def Placed.store (q : Placed) (mem : Tab Byte) (p : Pen) : Tab Byte := if q.scratch then p.scratch else mem

/-- Code of element e. -/
def Placed.code (q : Placed) (mem : Tab Byte) (p : Pen) (e : Nat) : Nat :=
  getBits (q.store mem p) q.origin (q.elemBit e) (fmtWidth q.v.fmt)

/-- Scale byte of element e's block; 0x7F for a format without blocks (R48). -/
def Placed.scale (q : Placed) (mem : Tab Byte) (p : Pen) (e : Nat) : Nat :=
  if isMx q.v.fmt then (tabGet memDefault (q.store mem p) (q.origin + q.scaleAt e)).toNat else 0x7F

/-- FP32 value of element e (R77). -/
def Placed.value (q : Placed) (mem : Tab Byte) (p : Pen) (e : Nat) : F32 × Made :=
  readElem q.v.fmt (q.code mem p e) (q.scale mem p e)

/-- Exact element value without the block scale (R50). -/
def Placed.exact (q : Placed) (mem : Tab Byte) (p : Pen) (e : Nat) : FVal := elemVal q.v.fmt (q.code mem p e)

/-! ## Accumulators (R68) -/

/-- Element e of accumulator n, in view order. -/
def Pen.accAt (p : Pen) (n e : Nat) : F32 := tabGet (fun _ => 0) p.acc (1024 * n + e)
def Pen.setAcc (p : Pen) (n e : Nat) (w : F32) : Pen :=
  { p with acc := tabSet (fun _ => 0) p.acc (1024 * n + e) w }

/-- The hidden checksum state of accumulator n. -/
def Pen.sideOf (p : Pen) (n : Nat) : AccSide := tabGet (fun _ => {}) p.side n
def Pen.setSide (p : Pen) (n : Nat) (x : AccSide) : Pen := { p with side := tabSet (fun _ => {}) p.side n x }

/-- Mark an accumulator void: a vector instruction wrote it (R76). -/
def Pen.voidAcc (p : Pen) (n : Nat) : Pen := p.setSide n { p.sideOf n with void := true }

/-! ## Operands of vector instructions -/

/-- An operand of a V-unit instruction. -/
inductive Opnd where
  | view (q : Placed)
  | acc (n : Nat)
  | word (w : F32)
deriving DecidableEq, Repr

/-- Shape of an operand, none for a broadcast one. -/
def Opnd.shape : Opnd → Option (Nat × Nat × Nat)
  | .view q => some (q.v.ext0, q.v.ext1, q.v.ext2)
  | .acc _ => some (32, 32, 1)
  | .word _ => none

/-- Format of an operand; accumulators are FP32 (R68), a broadcast one takes either reading (R66). -/
def Opnd.fmt : Opnd → Option Nat
  | .view q => some q.v.fmt
  | .acc _ => some 0
  | .word _ => none

/-- Elements of an operand with a shape. -/
def Opnd.size (o : Opnd) : Nat :=
  match o.shape with
  | some (a, b, c) => a * b * c
  | none => 1

/-- FP32 value of element e (R77). -/
def Opnd.value (mem : Tab Byte) (p : Pen) (o : Opnd) (e : Nat) : F32 × Made :=
  match o with
  | .view q => q.value mem p e
  | .acc n => (p.accAt n e, {})
  | .word w => (w, {})

/-- 32-bit code of element e in integer mode (R77). -/
def Opnd.int (mem : Tab Byte) (p : Pen) (o : Opnd) (e : Nat) : BitVec 32 :=
  match o with
  | .view q => BitVec.ofNat 32 (q.code mem p e)
  | .acc n => p.accAt n e
  | .word w => w

/-- The operand that a kind and a number name. -/
def operand (tile : Nat) (p : Pen) (w : PenWord) (kind num : Nat) : Try Opnd :=
  match kind with
  | 0 => (placeView tile p (p.view num)).map .view
  | 1 => .ok (.acc num)
  | 2 => .ok (.word (low32 (p.reg num)))
  | _ => .ok (.word (low32 w.imm))

def opndA (tile : Nat) (p : Pen) (w : PenWord) : Try Opnd := operand tile p w w.ak.toNat w.a.toNat
def opndB (tile : Nat) (p : Pen) (w : PenWord) : Try Opnd := operand tile p w w.bk.toNat w.b.toNat
def opndC (tile : Nat) (p : Pen) (w : PenWord) : Try Opnd := operand tile p w w.ck.toNat w.c.toNat

/-- The destination: a view of space 1 or 2 raises 0x02 (R68). -/
def opndD (tile : Nat) (p : Pen) (w : PenWord) : Try Opnd :=
  if w.dk = 0 ∧ ((viewOf (p.view w.d.toNat)).space = 1 ∨ (viewOf (p.view w.d.toNat)).space = 2) then raise 0x02
  else operand tile p w w.dk.toNat w.d.toNat

/-- An operand matches a shape: broadcast, or the same extents (R77). -/
def Opnd.matches (o : Opnd) (sh : Option (Nat × Nat × Nat)) : Bool :=
  match o.shape with
  | none => true
  | some x => sh == some x

/-! ## Residency and the sum lane (R61, R78, R101, R102) -/

/-- Byte range, with its store, that element e of a placed view and its scale byte lie in. -/
def Placed.touches (q : Placed) (r : Resident) (e : Nat) : Bool :=
  let inR (a : Nat) := decide (r.base ≤ a ∧ a < r.base + 4096)
  let b := q.elemBit e
  (q.scratch == (r.space == 0))
    && (inR (q.origin + b / 8) || inR (q.origin + (b + fmtWidth q.v.fmt - 1) / 8)
        || (isMx q.v.fmt && inR (q.origin + q.scaleAt e)))

/-- The view that a bale header describes (R99). -/
def headerView (h : Nat) : View :=
  { space := 0, fmt := field h 12 4, z0 := false, base := 0
    ext0 := field h 160 16 + 1, ext1 := field h 176 16 + 1, ext2 := field h 192 16 + 1
    st1 := signed 32 (field h 208 32), st2 := signed 32 (field h 240 32), sbase := field h 272 16
    ss1 := signed 16 (field h 288 16), ss2 := signed 16 (field h 304 16) }

/-- The sum lane of a payload lying at `origin` of a byte store, in the shape a view gives (R101). -/
def sumLane (m : Tab Byte) (q : Placed) (p : Pen) : F32 :=
  (sum83 ((List.range q.v.count).map fun e => (q.value m p e).1)).1

/-- A recomputed sum matches the header's (R102). -/
def sumMatches (a b : F32) : Bool :=
  a == b || (fabs a == 0 && fabs b == 0) || (isNan a && isNan b)

/-- The sum-lane check of a resident bale. -/
def residentGood (mem : Tab Byte) (p : Pen) (r : Resident) : Bool :=
  let q : Placed := ⟨headerView r.header.toNat, r.space == 0, r.base, 0⟩
  sumMatches (sumLane mem q p) (BitVec.ofNat 32 (field r.header.toNat 128 32))

/-- Slots whose unchecked bale some operand's elements touch (R78). -/
def touchedSlots (p : Pen) (os : List Opnd) : List Nat :=
  (p.resident.filter fun e => match e.2 with
    | some r => !r.checked && os.any fun o => match o with
        | .view q => (List.range q.v.count).any (q.touches r)
        | _ => false
    | none => false).map (·.1)

/-- Check each touched bale's sum lane once; a mismatch raises 0x11 (R61, R78). -/
def checkTouched (mem : Tab Byte) : List Nat → Pen → Try Pen
  | [], p => .ok p
  | k :: ks, p =>
    match p.residentAt k with
    | none => checkTouched mem ks p
    | some r =>
      if residentGood mem p r then
        checkTouched mem ks { p with resident := tabSet (fun _ => none) p.resident k (some { r with checked := true }) }
      else raise 0x11

/-- The operand reads of an instruction, for the sum lanes of resident bales. -/
def touch (mem : Tab Byte) (p : Pen) (os : List Opnd) : Try Pen := checkTouched mem (touchedSlots p os) p

/-! ## Writing results -/

/-- Write the code of element e of a scratch view. -/
def Placed.setCode (q : Placed) (p : Pen) (e code : Nat) : Pen :=
  { p with scratch := putBits p.scratch q.origin (q.elemBit e) (fmtWidth q.v.fmt) code }

/-- Write codes from element e on. -/
def Placed.setCodes (q : Placed) (p : Pen) (e : Nat) : List Nat → Pen
  | [] => p
  | k :: ks => q.setCodes (q.setCode p e k) (e + 1) ks

/-- Write a whole MX block from element e on, elements and scale byte (R77). -/
def Placed.setBlock (q : Placed) (p : Pen) (e x : Nat) (ks : List Nat) : Pen :=
  let p := q.setCodes p e ks
  { p with scratch := tabSet memDefault p.scratch (q.origin + q.scaleAt e) (BitVec.ofNat 8 x) }

/-- The counters and the generator of a pen. -/
def Pen.cnt (p : Pen) : Cnt := ⟨p.satc, p.nanc, p.infc, p.rng⟩

/-- Put counters and generator back; the counters are 32 bits (Table 03.1) and wrap (DESIGN CHOICE, log entry 125). -/
def Pen.setCnt (p : Pen) (c : Cnt) : Pen :=
  { p with satc := c.sat % 2 ^ 32, nanc := c.nan % 2 ^ 32, infc := c.inf % 2 ^ 32, rng := c.rng }

/-- Write FP32 results to elements e, e + 1 … of a destination: an accumulator, an FP32 view, or a narrower view under
R54–R57 with whole MX blocks (R77). -/
def writeResults (sr sat : Bool) (o : Opnd) : Nat → List F32 → Pen → Pen
  | _, [], p => p
  | e, w :: ws, p =>
    match o with
    | .acc n => writeResults sr sat o (e + 1) ws (p.setAcc n e w)
    | .word _ => p
    | .view q =>
      if isMx q.v.fmt then p
      else
        let (k, c) := convElem q.v.fmt sr sat w p.cnt
        writeResults sr sat o (e + 1) ws (q.setCode (p.setCnt c) e k)

/-- Write FP32 results to whole blocks of an MX view, from element e on; `n` bounds the blocks. -/
def writeBlocks (sr sat : Bool) (q : Placed) : Nat → Nat → List F32 → Pen → Pen
  | 0, _, _, p => p
  | n + 1, e, ws, p =>
    if ws.length < 32 then p
    else
      let (x, ks, c) := mxBlock q.v.fmt sr sat (ws.take 32) p.cnt
      writeBlocks sr sat q n (e + 32) (ws.drop 32) (q.setBlock (p.setCnt c) e x ks)

end Sys2Proof.Machine
end

