-- ==== Sys2Proof/Machine/Headers.lean ====
section
/-! DEFINITION. Bale headers and their checks (R98–R103, R105), and the writes that a landing released and that are not
complete: what a read that meets one returns (R25, R118). -/

namespace Sys2Proof.Machine

/-! ## Headers (Table 05.1) -/

/-- The header's CRC over its bytes 0–59. -/
def hcrcOf (h : Nat) : Nat := crc32c (leBytes 60 h)

/-- A header with its HCRC recomputed. -/
def sealHeader (h : Nat) : BitVec 512 := BitVec.ofNat 512 (h % 2 ^ 480 + hcrcOf h * 2 ^ 480)

/-- HCRC agrees (R103). -/
def hcrcGood (h : Nat) : Bool := field h 480 32 == hcrcOf h

/-- POISON of a header. -/
def isPoisoned (h : Nat) : Bool := bit h 19

/-- Poison a stored header: the origin fields and HCRC change, nothing else (R105). -/
def poisonHeader (h code unit epoch : Nat) : BitVec 512 :=
  let keep := h % 2 ^ 320
  sealHeader (keep - field keep 19 1 * 2 ^ 19 + 2 ^ 19 + code % 2 ^ 16 * 2 ^ 320 + unit % 2 ^ 16 * 2 ^ 336
    + epoch % 2 ^ 32 * 2 ^ 352 + field h 384 96 * 2 ^ 384)

/-- A poisoned header where none was stored: VER, PROD, EPOCH and the poison fields (R106, R256). -/
def freshPoison (prod epoch code unit : Nat) : BitVec 512 :=
  poisonHeader (1 + prod % 2 ^ 11 * 2 ^ 21 + epoch % 2 ^ 64 * 2 ^ 32) code unit epoch

/-- What a check point finds of a payload and a header (R103). -/
inductive Found where
  | good | poisoned | badHeader | badPayload
deriving DecidableEq, Repr

/-- HCRC, then POISON, then CRC (R103). -/
def checkBale (payload : List Byte) (h : Nat) : Found :=
  if !hcrcGood h then .badHeader
  else if isPoisoned h then .poisoned
  else if field h 96 32 == crc32c payload then .good
  else .badPayload

/-- Bytes of a 512-bit header. -/
def headerBytes (h : BitVec 512) : List Byte := leBytes 64 h.toNat

/-! ## Released writes that are not complete (R118) -/

/-- Start of hub SRAM. -/
def hubBase : Nat := 0x50000000000

/-- The unit that origin 0x0004 names: the destination tile, or hub SRAM (Table 05.3). -/
def destinationUnit (payload : Nat) : Nat :=
  if payload < 0x40000000000 then payload / 2 ^ 36
  else if payload < hubBase then (payload - 0x40000000000) / 0x2000000
  else 0x40

/-- Payload and header as they lie in a staging slot (R110). DESIGN CHOICE (log entry 139): a write released before Stop treads and
still pending when Start treads applies another slot count is fetched from the slot's new place. -/
def State.stagedPayload (s : State) (t i : Nat) : List Byte := s.read (sramBase t + s.stagingBase + 4160 * i) 4096
def State.stagedHeader (s : State) (t i : Nat) : BitVec 512 :=
  BitVec.ofNat 512 (leNat (s.read (sramBase t + s.stagingBase + 4160 * i + 4096) 64))

/-- The header that a port stores after its checks, `bad` of the fetches spoilt: the bale's own, or a poisoned one of origin
0x0004 (Table 05.2); and whether it poisoned it. -/
def checkedHeader (payload : List Byte) (h : BitVec 512) (bad unit epoch : Nat) : BitVec 512 × Bool :=
  let once (k : Nat) : Found := if k ≤ bad then .badPayload else checkBale payload h.toNat
  let ok (f : Found) : Bool := f == .good || f == .poisoned
  if ok (once 1) || ok (once 2) then (h, false) else (poisonHeader h.toNat 0x0004 unit epoch, true)

/-- The parts of a staged bale go to a range that shares a byte with `n` bytes at an address. -/
def StagedBale.overlaps (b : StagedBale) (a n : Nat) : Bool :=
  decide (a < b.payload + 4096 ∧ b.payload < a + n) || decide (a < b.header + 64 ∧ b.header < a + n)

/-- A released commit write waits that overlaps `n` bytes at an address (R118). -/
def State.writePending (s : State) (a n : Nat) : Bool :=
  s.tiles.any fun t => t.2.staging.any fun e => match e.2 with
    | some b => b.released && b.overlaps a n
    | none => false

end Sys2Proof.Machine
end

