-- ==== Sys2Proof/Machine/Pens.lean ====
section
/-! DEFINITION. Issue of pen instructions (R69, R89), and the control, scalar and view instructions (R73–R75, R87). -/

namespace Sys2Proof.Machine

/-- The X unit holds an instruction whose bale has not arrived (R69). -/
def Pen.xBusy (q : Pen) : Bool := q.reads.any fun e => e.2.isSome

/-- A pen does not issue: fenced, its flock domain off, or stalled by rein (R44, R18, R71). -/
def State.penHeld (s : State) (p : Nat) : Bool :=
  s.fenced p || !(s.tile (tileOf p)).flockOn || s.drover.rein || (s.tile (tileOf p)).rein

/-- A run that has ended keeps its end against a new exception (R90): one of an earlier instruction in program order, and any
against a landing abort, which itself gives way to every other. -/
def Run.keepsEnd (r : Run) (order code : Nat) : Bool :=
  match r.ended with
  | none => false
  | some .done => true
  | some (.exc c _ _) => code == 0x30 || (c != 0x30 && decide (r.endedAt ≤ order))

/-- A record item that is no exception. -/
def RecItem.isRun : RecItem → Bool
  | .exc _ _ => false
  | _ => true

/-- A run's end by exception: the code, the instruction index and the detail word are held for the shepherd (R89), with the
accumulator of a checksum failure above bit 63 of `detail` (R60); the checksum failures of the tile count (R63). `order` is the
instruction's place in program order (R90). -/
def State.except (s : State) (p order index code detail : Nat) : State :=
  let q := s.pen p
  match q.run with
  | none => s
  | some r =>
    let s := if code = 0x10 ∨ code = 0x11 then s.count 0x7031 (tileOf p + 1) 1 else s
    if r.keepsEnd order code then s
    else s.setPen p { q with run := some { r with
      ended := some (.exc code index (BitVec.ofNat 64 detail)), endedAt := order
      acc := if code = 0x10 then some (detail / 2 ^ 64) else none
      record := (if r.ended.isSome then r.record.filter RecItem.isRun else r.record) ++ [.exc code index] } }

/-- Place in program order of the instruction that a pen is about to issue. -/
def Pen.order (q : Pen) : Nat := match q.run with | some r => r.issued | none => 0

/-- A pen whose PC is at the next instruction, one more issued (R72). -/
def Pen.past (q : Pen) : Pen :=
  { q with pc := q.pc + 1, stall := none, run := q.run.map fun r => { r with issued := r.issued + 1 } }

/-- Put an instruction's outcome into force: the new state, an exception at its boundary (R89), or a stall. -/
def State.settle (s : State) (p : Nat) (o : Try State) : State :=
  match o with
  | .ok s' => s'
  | .error (.exc code detail) => s.except p (s.pen p).order (s.pen p).pc code detail
  | .error (.stall why) => s.modPen p fun q => { q with stall := some why }

/-- A released write waits somewhere. -/
def State.writesPend (s : State) : Bool := s.tiles.any fun t => t.2.staging.any fun e => match e.2 with
  | some b => b.released
  | none => false

/-- Some element of a placed view, or its scale byte, lies where a pending write goes (R118). -/
def State.viewPends (s : State) (v : Placed) : Bool :=
  !v.scratch && (List.range v.v.count).any fun e =>
    let b := v.elemBit e
    s.writePending (v.origin + b / 8) ((b % 8 + fmtWidth v.v.fmt + 7) / 8)
      || (isMx v.v.fmt && s.writePending (v.origin + v.scaleAt e) 1)

/-- A view operand, or a resident bale whose sum lane the view's read checks, meets a pending write (R118). -/
def State.operandPends (s : State) (p : Nat) (d : BitVec 256) : Bool :=
  match placeView (tileOf p) (s.pen p) d with
  | .error _ => false
  | .ok v => s.viewPends v || (touchedSlots (s.pen p) [.view v]).any fun k => match (s.pen p).residentAt k with
    | some r => r.space != 0 && s.writePending r.base 4096
    | none => false

/-- An operand of the instruction is a view of a pasture range with a pending write: the read waits until that write completes
(R118), and the instruction with it. -/
def State.viewWaits (s : State) (p : Nat) (f : Form) (w : PenWord) : Bool :=
  let waits (allowed : Nat) (kind : BitVec 2) (n : BitVec 5) : Bool :=
    allowed.testBit 0 && kind == 0 && s.operandPends p ((s.pen p).view n.toNat)
  s.writesPend && (waits f.d w.dk w.d || waits f.a w.ak w.a || waits f.b w.bk w.b || waits f.c w.ck w.c)

/-- Issue one instruction (R65, R66, R69): the pen runs a job, is not held, the instruction's unit is free and no pending write
waits in a view it reads (R118). The body
sees the PC at the next instruction. An index at or beyond NINSTR is a target outside the image (log entry 22). -/
def issue (p : Nat) (f : Form) (w : PenWord) (xUnit : Bool) (body : State → Try State) (s : State) : State :=
  let q := s.pen p
  match q.run with
  | none => s
  | some r =>
    if r.ended.isSome ∨ s.penHeld p then s
    else if q.pc ≥ r.ninstr then s.except p r.issued q.pc 0x05 0
    else s.settle p do
      checkWord f w
      if xUnit && q.xBusy then .error (.stall .unitBusy)
      if s.viewWaits p f w then .error (.stall .pendingWrite)
      body (s.setPen p q.past)

/-- A body that changes its own pen only. -/
def onPen (p : Nat) (f : State → Pen → Try Pen) (s : State) : Try State := (f s (s.pen p)).map (s.setPen p)

/-! ## Control (R72–R75) -/

/-- The PC after a branch taken at the instruction before `q.pc`; outside the image it raises 0x05 (R73). -/
def branch (q : Pen) (imm : Word64) : Try Pen :=
  let t : Int := (q.pc : Int) - 1 + imm.toInt
  let n := match q.run with | some r => r.ninstr | none => 0
  if 0 ≤ t ∧ t < n then .ok { q with pc := t.toNat } else raise 0x05

/-- Scalar compare (Table 04.4). -/
def scalarCond (c : Nat) (a b : Word64) : Bool :=
  match c with
  | 0 => a == b
  | 1 => a != b
  | 2 => decide (a.toInt < b.toInt)
  | 3 => decide (a.toInt ≥ b.toInt)
  | 4 => decide (a.toInt ≤ b.toInt)
  | 5 => decide (a.toInt > b.toInt)
  | 6 => decide (a.toNat < b.toNat)
  | _ => decide (a.toNat ≥ b.toNat)

/-- NOP (Table 04.7). -/
def execNop (p : Fin 1024) (w : PenWord) (s : State) : Res := .next (issue p {} w false .ok s)

/-- END (R87): the run is done once the units are idle; counters join the tile's totals and residency entries drop. -/
def execEndJob (p : Fin 1024) (w : PenWord) (s : State) : Res :=
  .next (issue p {} w false (fun s =>
    let q := s.pen p
    match q.run with
    | none => .ok s
    | some r =>
      if q.xBusy then .error (.stall .unitBusy)
      else
        let s := s.count 0x7032 (tileOf p + 1) q.satc
        let s := s.count 0x7033 (tileOf p + 1) (q.nanc + q.infc)
        .ok (s.setPen p { q with pc := q.pc - 1, resident := [], run := some { r with ended := some .done } })) s)

/-- BR. -/
def execBr (p : Fin 1024) (w : PenWord) (s : State) : Res :=
  .next (issue p {} w false (onPen p fun _ q => branch q w.imm) s)

/-- BRC (R74). DESIGN CHOICE (log entry 138): a target outside the image raises 0x05 only where the branch is taken; so with LOOP. -/
def execBrc (p : Fin 1024) (w : PenWord) (s : State) : Res :=
  .next (issue p { a := 4, b := 4, cnds := 8 } w false (onPen p fun _ q =>
    if scalarCond w.cnd.toNat (q.reg w.a.toNat) (q.reg w.b.toNat) then branch q w.imm else .ok q) s)

/-- LOOP (R74): S00 reads as zero, so LOOP on it sees 0 (R66). -/
def execLoop (p : Fin 1024) (w : PenWord) (s : State) : Res :=
  .next (issue p { d := 4 } w false (onPen p fun _ q =>
    let q := q.setReg w.d.toNat (q.reg w.d.toNat - 1)
    if q.reg w.d.toNat ≠ 0 then branch q w.imm else .ok q) s)

/-- TRAP: exception 0x09 with detail IMM[31:0]. -/
def execTrap (p : Fin 1024) (w : PenWord) (s : State) : Res :=
  .next (issue p {} w false (fun _ => .error (.exc 0x09 (w.imm.toNat % 2 ^ 32))) s)

/-- A tread quantity (R75), times in whole ns from the tile's tick, rounded down. -/
def treadQuantity (s : State) (p m : Nat) : Nat :=
  let ns := s.sinceTick / 2
  match m with
  | 0 => match (s.pen p).run with | some r => r.epoch | none => s.epoch
  | 1 => ns
  | 2 => (2 * (s.periodNs - s.landNs) - s.sinceTick) / 2
  | 3 => p
  | 4 => match (s.pen p).run with | some r => r.job.jobId | none => 0
  | _ => tileOf p

/-- TRD (R75). -/
def execTrd (p : Fin 1024) (w : PenWord) (s : State) : Res :=
  .next (issue p { d := 4, modOk := fun m => m ≤ 5 } w false
    (onPen p fun s q => .ok (q.setReg w.d.toNat (BitVec.ofNat 64 (treadQuantity s p w.mod.toNat)))) s)

/-- FENCE (R70): waits until the units of its mask are idle; of them only X holds work between commands. -/
def execFence (p : Fin 1024) (w : PenWord) (s : State) : Res :=
  .next (issue p { modOk := fun m => m ≤ 7 } w false (onPen p fun _ q =>
    if w.mod.getLsbD 2 && q.xBusy then .error (.stall .unitBusy) else .ok q) s)

/-- TWAIT (R75). -/
def execTwait (p : Fin 1024) (w : PenWord) (s : State) : Res :=
  .next (issue p { a := 12 } w false (onPen p fun s q =>
    if s.sinceTick / 2 ≥ (scalarOrImm q w w.ak.toNat w.a.toNat).toNat then .ok q else .error (.stall .tick)) s)

/-! ## Scalars (R73) -/

/-- SLI. -/
def execSli (p : Fin 1024) (w : PenWord) (s : State) : Res :=
  .next (issue p { d := 4 } w false (onPen p fun _ q => .ok (q.setReg w.d.toNat w.imm)) s)

/-- SALU operations by MOD (R73). -/
def saluOp (m : Nat) (a b : Word64) : Word64 :=
  match m with
  | 0 => a + b
  | 1 => a - b
  | 2 => a * b
  | 3 => a &&& b
  | 4 => a ||| b
  | 5 => a ^^^ b
  | 6 => a <<< (b.toNat % 64)
  | 7 => a >>> (b.toNat % 64)
  | 8 => a.sshiftRight (b.toNat % 64)
  | 9 => if a.toInt ≤ b.toInt then a else b
  | _ => if a.toInt ≥ b.toInt then a else b

/-- SALU. -/
def execSalu (p : Fin 1024) (w : PenWord) (s : State) : Res :=
  .next (issue p { d := 4, a := 4, b := 12, modOk := fun m => m ≤ 10 } w false (onPen p fun _ q =>
    .ok (q.setReg w.d.toNat
      (saluOp w.mod.toNat (q.reg w.a.toNat) (scalarOrImm q w w.bk.toNat w.b.toNat)))) s)

/-- A scratch address of `n` bytes: aligned and inside scratch, else 0x05 (R73). -/
def scratchAddr (base imm : Word64) (n : Nat) : Try Nat :=
  let a := (base + imm).toNat
  if a % n = 0 ∧ a + n ≤ 0x80000 then .ok a else raise 0x05

/-- SLD. DESIGN CHOICE (log entry 125): its read, like VLD's, is no operand read that brings a sum-lane check. -/
def execSld (p : Fin 1024) (w : PenWord) (s : State) : Res :=
  .next (issue p { d := 4, a := 4, modOk := fun m => m ≤ 1 } w false (onPen p fun _ q => do
    let n := if w.mod.getLsbD 0 then 4 else 8
    let a ← scratchAddr (q.reg w.a.toNat) w.imm n
    .ok (q.setReg w.d.toNat (BitVec.ofNat 64 (leNat (readTab q.scratch a n))))) s)

/-- SST. -/
def execSst (p : Fin 1024) (w : PenWord) (s : State) : Res :=
  .next (issue p { a := 4, b := 4, modOk := fun m => m ≤ 1 } w false (onPen p fun _ q => do
    let n := if w.mod.getLsbD 0 then 4 else 8
    let a ← scratchAddr (q.reg w.a.toNat) w.imm n
    .ok { q with scratch := writeTab q.scratch a (leBytes n (q.reg w.b.toNat).toNat) }) s)

/-- F2I (R73): to nearest even, saturating at ±(2^63 − 1), NaN to 0. -/
def f2i (a : F32) : Int :=
  match fval a with
  | .nan => 0
  | .inf n => if n then -(2 ^ 63 - 1) else 2 ^ 63 - 1
  | .fin n m e => max (-(2 ^ 63 - 1)) (min (2 ^ 63 - 1) (smag n (rneUnits m e 0)))

/-- SFP operations by MOD (R73): the result and the special values it makes. -/
def sfpOp (m : Nat) (a b : Word64) : Word64 × Made :=
  let wide (r : F32 × Made) : Word64 × Made := (r.1.zeroExtend 64, r.2)
  match m with
  | 0 => wide (fadd (low32 a) (low32 b))
  | 1 => wide (fmul (low32 a) (low32 b))
  | 2 => wide (fmin (low32 a) (low32 b), {})
  | 3 => wide (fmax (low32 a) (low32 b), {})
  | 4 => wide (ofInt32 a.toInt, {})
  | _ => (BitVec.ofInt 64 (f2i (low32 a)), {})

/-- SFP; its special values count as R52 says. -/
def execSfp (p : Fin 1024) (w : PenWord) (s : State) : Res :=
  .next (issue p { d := 4, a := 4, b := 12, modOk := fun m => m ≤ 5 } w false (onPen p fun _ q =>
    let r := sfpOp w.mod.toNat (q.reg w.a.toNat) (scalarOrImm q w w.bk.toNat w.b.toNat)
    .ok ((q.setCnt (q.cnt.made r.2)).setReg w.d.toNat r.1)) s)

/-! ## Views (R73) -/

/-- Replace bits [lo + n − 1 : lo] of a descriptor. -/
def setField (d : BitVec 256) (lo n v : Nat) : BitVec 256 :=
  BitVec.ofNat 256 (d.toNat - field d.toNat lo n * 2 ^ lo + v % 2 ^ n * 2 ^ lo)

/-- VSET on a field: where it lies, and the value if S[A] fits it (R73). -/
def vsetField (m : Nat) (a : Word64) : Option (Nat × Nat × Nat) :=
  let u := a.toNat
  let v := a.toInt
  let ext (lo : Nat) : Option (Nat × Nat × Nat) := if 1 ≤ u ∧ u ≤ 65536 then some (lo, 16, u - 1) else none
  let off (lo : Nat) : Option (Nat × Nat × Nat) :=
    if -2147483648 ≤ v ∧ v ≤ 2147483647 then some (lo, 32, (v % 2 ^ 32).toNat) else none
  let uns (lo n : Nat) : Option (Nat × Nat × Nat) := if u < 2 ^ n then some (lo, n, u) else none
  match m with
  | 0 => uns 16 32
  | 1 => ext 48
  | 2 => ext 64
  | 3 => ext 80
  | 4 => off 96
  | 5 => off 128
  | 6 => uns 160 32
  | 7 => off 192
  | 8 => off 224
  | 9 => uns 8 4
  | 10 => uns 0 2
  | _ => uns 12 1

/-- VSET: a value that does not fit raises 0x04. -/
def execVset (p : Fin 1024) (w : PenWord) (s : State) : Res :=
  .next (issue p { d := 1, a := 4, modOk := fun m => m ≤ 11 } w false (onPen p fun _ q =>
    match vsetField w.mod.toNat (q.reg w.a.toNat) with
    | some (lo, n, v) => .ok (q.setView w.d.toNat (setField (q.view w.d.toNat) lo n v))
    | none => raise 0x04) s)

/-- VADV: BASE and SBASE advance with 32-bit wrap. -/
def execVadv (p : Fin 1024) (w : PenWord) (s : State) : Res :=
  .next (issue p { d := 1, a := 4, b := 4 } w false (onPen p fun _ q =>
    let d := q.view w.d.toNat
    let d := setField d 16 32 (field d.toNat 16 32 + (q.reg w.a.toNat).toNat)
    .ok (q.setView w.d.toNat (setField d 160 32 (field d.toNat 160 32 + (q.reg w.b.toNat).toNat)))) s)

/-- VLD: 32 bytes of scratch, 32-aligned. -/
def execVld (p : Fin 1024) (w : PenWord) (s : State) : Res :=
  .next (issue p { d := 1, a := 4 } w false (onPen p fun _ q => do
    let a ← scratchAddr (q.reg w.a.toNat) w.imm 32
    .ok (q.setView w.d.toNat (BitVec.ofNat 256 (leNat (readTab q.scratch a 32))))) s)

end Sys2Proof.Machine
end

