-- ==== Sys2Proof/Machine/Bale.lean ====
section
/-! DEFINITION. Bales: headers and their checks (R98–R103), poison (R105), bale-list entries (R96, R113), the module
address map (R112) and the redirect map (R126). -/

namespace Sys2Proof.Machine

/-! ## Headers (Table 05.1) -/

/-- The header's reserved fields are zero. -/
def headerReserved (h : Nat) : Bool := field h 8 4 == 0 && field h 16 3 == 0 && field h 20 1 == 0 && field h 384 96 == 0

/-- Step 3 of R78: FMT, VER, reserved fields and shape (R99). -/
def headerValid (h : Nat) : Bool :=
  let v := headerView h
  field h 0 8 == 1 && headerReserved h && v.shapeOk && v.inside 0 4096

/-- The header a BST writes for a view placed in scratch (R79). -/
def storeHeader (d : BitVec 256) (sum : F32) (payload : List Byte) (pen epoch : Nat) : BitVec 512 :=
  let n := d.toNat
  let v := viewOf d
  let soff := if isMx v.fmt then v.sbase - v.base else 0
  let ss1 := if isMx v.fmt then field n 192 16 else 0
  let ss2 := if isMx v.fmt then field n 224 16 else 0
  sealHeader (1 + v.fmt * 2 ^ 12 + pen % 2 ^ 11 * 2 ^ 21 + epoch % 2 ^ 64 * 2 ^ 32 + crc32c payload * 2 ^ 96
    + sum.toNat * 2 ^ 128 + field n 48 48 * 2 ^ 160 + field n 96 64 * 2 ^ 208 + soff % 2 ^ 16 * 2 ^ 272
    + ss1 * 2 ^ 288 + ss2 * 2 ^ 304)

/-! ## Bale-list entries (Table 04.12) -/

def entryPayload (e : BitVec 128) : Nat := field e.toNat 0 48
def entryHeader (e : BitVec 128) : Nat := field e.toNat 48 48
def entryClass (e : BitVec 128) : Nat := field e.toNat 96 4
def entryStream (e : BitVec 128) : Nat := field e.toNat 104 8
def entrySeq (e : BitVec 128) : Nat := field e.toNat 112 16

/-! ## The address map (R112) -/

/-- A mapped range of Table 05.5 that holds a whole piece of memory: of a tile's LPDDR channel, of a pasture below the
staging area, or hub SRAM. -/
inductive Place where
  | lpddr (tile channel : Nat)
  | pasture (tile : Nat)
  | hub
deriving DecidableEq, Repr

/-- Where `n` bytes at an address lie, if wholly inside one range. -/
def State.place (s : State) (a n : Nat) : Option Place :=
  let e := a + n - 1
  if e < 0x40000000000 then
    if a / 2 ^ 33 = e / 2 ^ 33 ∧ a / 2 ^ 33 % 8 < 6 then some (.lpddr (a / 2 ^ 36) (a / 2 ^ 33 % 8)) else none
  else if 0x40000000000 ≤ a ∧ e < 0x40080000000 then
    let t := (a - 0x40000000000) / 0x2000000
    if e < sramBase t + s.stagingBase then some (.pasture t) else none
  else if hubBase ≤ a ∧ e < hubBase + 0x8000000 then some .hub
  else none

/-- R113 on one address of a class: `n` bytes at `align`. -/
def State.reaches (s : State) (cls a n : Nat) : Bool :=
  if cls = 2 ∨ cls = 8 then a % 64 == 0 && decide (a + n ≤ 0x80000)
  else
    match s.place a n with
    | some (.lpddr _ _) => (cls == 0 || cls == 10) && a % (if n = 4096 then 4096 else 64) == 0
    | some (.pasture _) => a % 64 == 0
    | some .hub => (cls == 0 || cls == 10) && a % 64 == 0
    | none => false

/-- Inbound stream descriptor of the schedule in force (Table 11.5). -/
def State.inboundDesc (s : State) (stream : Nat) : Nat :=
  leNat (((s.blob 0x2031 0).drop (4160 + 16 * stream)).take 16)

/-- Addresses of bale k of an inbound stream (R257): tile, payload, header; none where the stream is unused. -/
def State.inboundPlace (s : State) (stream k : Nat) : Option (Nat × Nat × Nat) :=
  let d := s.inboundDesc stream
  let t := field d 32 6
  if k < field d 48 16 then
    some (t, sramBase t + field d 64 32 + 4096 * k, sramBase t + field d 96 32 + 64 * k)
  else none

/-- R113 on a bale-list entry. -/
def State.entryReaches (s : State) (e : BitVec 128) : Bool :=
  let p := entryPayload e
  let h := entryHeader e
  let c := entryClass e
  p / 2 ^ 43 == 0 && h / 2 ^ 43 == 0 && s.reaches c p 4096 && s.reaches c h 64
    && (c != 3 || match s.inboundPlace (entryStream e) (entrySeq e) with
        | some (_, pa, ha) => pa == p && ha == h
        | none => false)

/-! ## The redirect map (R126) -/

/-- Redirect map entry of a GiB of a tile (Table 05.9). -/
def State.redirect (s : State) (tile gib : Nat) : Nat := leNat (((s.blob 0xA031 (tile + 1)).drop (2 * gib)).take 2)

/-- An LPDDR address as the requester issues it: poisoned with an origin and unit, or the translated address. -/
def State.translate (s : State) (a : Nat) (read : Bool) : Except (Nat × Nat) Nat :=
  let t := a / 2 ^ 36
  let e := s.redirect t (a / 2 ^ 30 % 64)
  if bit e 15 then
    if bit e 14 && read then .error (0x0003, t) else .ok (e % 2 ^ 13 * 2 ^ 30 + a % 2 ^ 30)
  else if bit e 13 then .error (0x0002, 8 * t + a / 2 ^ 33 % 8)
  else .ok a

/-- A channel is failed (object 0xA002). -/
def State.channelBad (s : State) (t c : Nat) : Bool := (s.num 0xA002 (t + 1)).testBit c

/-- Tile of an address in a tile SRAM window (Table 05.5). -/
def windowTile (a : Nat) : Option Nat :=
  if 0x40000000000 ≤ a ∧ a < hubBase then some ((a - 0x40000000000) / 0x2000000) else none

/-- Where a part of a bale is read: the address to read, or the origin and unit it is answered poisoned with
(R123, R125, R126). -/
def State.readPart (s : State) (a : Nat) : Except (Nat × Nat) Nat :=
  if a < 0x40000000000 then
    match s.translate a true with
    | .error e => .error e
    | .ok b =>
      let t := b / 2 ^ 36
      let c := b / 2 ^ 33 % 8
      if !(s.tile t).tileOn then .error (0x0005, t)
      else if s.channelBad t c then .error (0x0002, 8 * t + c)
      else .ok b
  else match windowTile a with
    | some t => if (s.tile t).tileOn then .ok a else .error (0x0005, t)
    | none => .ok a

/-- A pasture whose flock domain is off, its tile domain on: it answers no read (R18; log entry 120). -/
def State.mute (s : State) (a : Nat) : Bool :=
  match windowTile a with
  | some t => (s.tile t).tileOn && !(s.tile t).flockOn
  | none => false

/-- Where a write to an address goes, or the channel that discards it (8 × tile + channel; none for a pasture that is off)
(R18, R123, R125, R126). -/
def State.writePart (s : State) (a : Nat) : Except (Option Nat) Nat :=
  if a < 0x40000000000 then
    match s.translate a false with
    | .error (_, u) => .error (some u)
    | .ok b =>
      let t := b / 2 ^ 36
      let c := b / 2 ^ 33 % 8
      if !(s.tile t).tileOn || s.channelBad t c then .error (some (8 * t + c)) else .ok b
  else match windowTile a with
    | some t => if (s.tile t).flockOn then .ok a else .error none
    | none => .ok a

/-- A write to a failed channel is discarded: the landing reports the count (R125). -/
def State.countDiscard (s : State) (u : Option Nat) : State :=
  match u with
  | none => s
  | some u => s.modTile (u / 8) fun x =>
      { x with discards := tabSet (fun _ => 0) x.discards (u % 8) (tabGet (fun _ => 0) x.discards (u % 8) + 1) }

/-- A write from inside the module, where it can be placed. -/
def State.store (s : State) (a : Nat) (d : List Byte) : State :=
  match s.writePart a with
  | .ok b => s.write b d
  | .error u => s.countDiscard u

/-! ## Poison counts (R107) -/

/-- Count a bale poisoned in the module, and hold its origin. -/
def State.notePoison (s : State) (code unit : Nat) : State :=
  (s.count 0xA040 0 1).setNum 0xA041 0 (code % 2 ^ 16 * 2 ^ 48 + unit % 2 ^ 16 * 2 ^ 32 + s.epoch % 2 ^ 32)

end Sys2Proof.Machine
end

