-- ==== Sys2Proof/Machine/Mop.lean ====
section
/-! DEFINITION. The common part of MOP operations: who sends, the checks of R321, staging (R306–R308), answering. -/

namespace Sys2Proof.Machine

/-! ## The sender (R318, R319) -/

/-- Key slot k. -/
def State.keySlot (s : State) (k : Nat) : KeySlot := tabGet (fun _ => {}) s.dict.keys k
def State.setKeySlot (s : State) (k : Nat) (v : KeySlot) : State :=
  { s with dict := { s.dict with keys := tabSet (fun _ => {}) s.dict.keys k v } }

/-- Every key slot is empty. -/
def State.noKeys (s : State) : Bool := s.dict.keys.all fun e => e.2.authority == 0

/-- The sender's authority: of the datagram whose records run, of its slot, or owner for slot 0 while every slot is empty
(R319); none is discarded. -/
def State.authority (s : State) (slot : Nat) : Option Nat :=
  if s.dict.frameAuth.isSome then s.dict.frameAuth
  else if slot = 0 then (if s.noKeys then some 3 else none)
  else if slot ≤ 8 ∧ (s.keySlot slot).authority ≠ 0 then some (s.keySlot slot).authority else none

/-- A discarded frame is counted (R313). -/
def State.discardFrame (s : State) : State := s.count 0x0F06 0 1

/-- A discard for authentication: counted, and event 0x1001 at most once a second with the count (R319). -/
def State.discardAuth (s : State) : State :=
  let s := s.discardFrame
  let n := s.dict.authDiscards + 1
  let due := match s.dict.authEventAt with
    | none => true
    | some t => decide (s.clock ≥ t + 2000000000)
  if due then
    { (s.log 0x1001 srcKeeper n) with dict := { s.dict with authDiscards := 0, authEventAt := some s.clock } }
  else { s with dict := { s.dict with authDiscards := n } }

/-! ## The checks of R321 step 4 -/

/-- A keeper object. -/
def isKeeper (index : Nat) : Bool := 0x0F00 ≤ index && index ≤ 0x0FFF

/-- The hub does not answer (R312): it is not up, or the keeper holds it so. -/
def State.hubSilent (s : State) : Bool := !s.boot.hubAnswering

/-- R318: the operation lies within the authority. -/
def authorized (auth op index : Nat) : Bool :=
  if auth = 3 then true
  else if auth = 2 then
    !((0x0F30 ≤ index && index ≤ 0x0F34) || (0x9000 ≤ index && index ≤ 0x9FFF))
  else op == opRead || op == opDescribe || op == opMemread

/-- The commit objects (Table 14.3). -/
def isCommit (index : Nat) : Bool := index == 0x2003 || index == 0xA032

/-- R304: the access class admits the operation. -/
def accessOk (a : Access) (op index : Nat) : Bool :=
  if op = opRead then a != .wo && a != .cmd
  else if op = opWrite then a != .ro && a != .cmd
  else if op = opCommand then a == .cmd
  else if op = opDiscard then isCommit index
  else true

/-- Steps 1 to 6 of R321 for a record on an object: the abort code, if one applies. -/
def State.mopCheck (s : State) (auth op index sub : Nat) : Option Nat :=
  if !isKeeper index && s.drover.latch then some 0x40000011
  else if !isKeeper index && (!s.ready || s.tap.testMode) then some 0x10000001
  else if !isKeeper index && s.hubSilent then some 0x0F000001
  else if !indexExists index then some 0x10000002
  else match objectRow index sub with
    | none => some 0x10000003
    | some r =>
      if !authorized auth op index then some 0x1000000A
      else if !accessOk r.access op index then some 0x10000004
      else none

/-- Steps 1 to 5 for a memory operation, which names no object. -/
def State.memCheck (s : State) (auth op : Nat) : Option Nat :=
  if s.drover.latch then some 0x40000011
  else if !s.ready || s.tap.testMode then some 0x10000001
  else if s.hubSilent then some 0x0F000001
  else if !authorized auth op 0 then some 0x1000000A
  else none

/-! ## Commands (R309) -/

/-- A COMMAND from a key slot: the checks, then the command's own effect with its abort code (0: accepted), then the
answer. -/
def State.command (s : State) (slot index sub : Nat) (f : State → State × Nat) : State :=
  match s.authority slot with
  | none => s.discardAuth
  | some a =>
    match s.mopCheck a opCommand index sub with
    | some ab => s.answer slot opCommand index sub ab
    | none => let r := f s; r.1.answer slot opCommand index sub r.2

/-! ## Values (R303) -/

/-- UTF-8 well-formedness, as continuation bytes still expected; `fuel` bounds the length. -/
def utf8Ok : Nat → List Byte → Bool
  | 0, l => l.isEmpty
  | _, [] => true
  | n + 1, b :: t =>
    let v := b.toNat
    let cont (k : Nat) := (t.take k).length == k && (t.take k).all fun c => c.toNat / 64 == 2
    let second := (t.headD 0).toNat
    if v < 0x80 then utf8Ok n t
    else if 0xC2 ≤ v ∧ v ≤ 0xDF then cont 1 && utf8Ok n (t.drop 1)
    else if 0xE0 ≤ v ∧ v ≤ 0xEF then
      cont 2 && (v != 0xE0 || second ≥ 0xA0) && (v != 0xED || second < 0xA0) && utf8Ok n (t.drop 2)
    else if 0xF0 ≤ v ∧ v ≤ 0xF4 then
      cont 3 && (v != 0xF0 || second ≥ 0x90) && (v != 0xF4 || second < 0x90) && utf8Ok n (t.drop 3)
    else false

/-- The value lies in the object's stated range (R303). -/
def inRange (r : ObjRow) (index v : Nat) : Bool :=
  match r.type with
  | .i16 => decide (r.min ≤ bitsInt 2 v ∧ bitsInt 2 v ≤ r.max)
  | .i32 => decide (r.min ≤ bitsInt 4 v ∧ bitsInt 4 v ≤ r.max)
  | .f32 => v / 2 ^ 23 % 256 != 255
  | _ =>
    decide (r.min ≤ (v : Int) ∧ (v : Int) ≤ r.max)
      && (index != 0x2041 || v == 0 || decide (256 ≤ v)) && (index != 0x7047 || v % 16 == 0) && (index != 0x2044 || v ≤ 95 || v == 255)

/-! ## Putting values in force (R306) -/

/-- The selected lane (Table 09.5): receive or not, fiber, line. -/
def State.selected (s : State) : Bool × Nat × Nat :=
  let v := s.gov 0xF050 0
  (v.testBit 12, 8 * field v 8 4 + field v 5 3, field v 0 5)

/-- An object's new value comes into force, with what its owner keeps of it elsewhere. -/
def State.putInForce (s : State) (index sub : Nat) (v : Value) : State :=
  let n := match v with | .num n => n | .bytes b => leNat b
  let b := match v with | .num _ => [] | .bytes b => b
  if 0x8100 ≤ index ∧ index ≤ 0x821F then
    s.modTally (index - 0x8100) fun t => { t with newConfig := some (BitVec.ofNat 128 (leNat b)) }
  else
  if index = 0x9010 then { s with sec := { s.sec with nonce := some b } }
  else if index = 0x9023 then { s with sec := { s.sec with token := b } }
  else
  let s := s.setObj index sub v
  if index = 0xF057 then
    let x := s.selected
    { s with test := { s.test with
      injection := if x.1 || field n 30 2 == 0 then none else some (BitVec.ofNat 32 n), injFiber := x.2.1, injLine := x.2.2 } }
  else if index = 0xF030 then { s with macFault := some (BitVec.ofNat 32 n) }
  else if index = 0x0F23 then { s with nv := { s.nv with reenable := n } }
  else if index = 0x0F02 then { s with nv := { s.nv with fieldIp := some n } }
  else if index = 0x0F03 then { s with nv := { s.nv with fieldPort := n } }
  else s

/-- Whether a staged value waits for the object (the PENDING flag of R304). -/
def State.isPending (s : State) (index sub : Nat) : Bool :=
  s.dict.deferred.any fun (d : Deferred) => match d with
    | Deferred.write i j _ => i == index && j == sub
    | Deferred.window i _ => index == 0x6041 && i == s.gov 0x6040 0
    | Deferred.tickCommit _ _ => false
    | Deferred.redirectCommit _ _ => false

/-- Answer a write, with PENDING or STAGED set (Table 14.5). -/
def State.answerWrite (s : State) (slot index sub flags : Nat) : State :=
  let ty := match objectRow index sub with | some r => r.type.code | none => 0
  s.send (.response slot { op := opWrite, index := index, sub := sub, abort := 0, flags := flags, type := ty })

/-- Two changes are of one thing: the later of them wins (R306). A commit stands for itself. -/
def Deferred.replaces (d e : Deferred) : Bool :=
  match d, e with
  | Deferred.write i j _, Deferred.write k l _ => i == k && j == l
  | Deferred.window i _, Deferred.window k _ => i == k
  | _, _ => false

/-- Leave a change for the next landing, after those that wait; it takes the place of an earlier one of the same thing (R306). -/
def State.defer (s : State) (d : Deferred) : State :=
  { s with dict := { s.dict with deferred := (s.dict.deferred.filter fun e => !d.replaces e) ++ [d] } }

/-- An accepted write to an RW or RWS object (R306, R307): staged while treads run, else in force at once. -/
def State.acceptWrite (s : State) (slot index sub : Nat) (a : Access) (v : Value) : State :=
  if a = .rw ∧ s.tick.running then
    (s.defer (.write index sub v)).answerWrite slot index sub 1
  else (s.putInForce index sub v).answerWrite slot index sub 0

/-! ## Commit groups (R308) -/

/-- The group of a member or commit object. -/
def State.group (s : State) (commit : Nat) : Group :=
  if commit = 0x2003 then s.dict.tickGroup else s.dict.redirectGroup

/-- Replace a group's staging area. -/
def State.setGroup (s : State) (commit : Nat) (g : Group) : State :=
  if commit = 0x2003 then { s with dict := { s.dict with tickGroup := g } }
  else { s with dict := { s.dict with redirectGroup := g } }

/-- A group bound to another key slot refuses (R308). -/
def Group.busy (g : Group) (slot : Nat) : Bool := match g.bound with | none => false | some k => k != slot

/-- Stage a member's value. -/
def State.stage_ (s : State) (commit slot index sub : Nat) (v : Value) : State :=
  let g := s.group commit
  s.setGroup commit
    { staged := (g.staged.filter fun e => !(e.1 == index && e.2.1 == sub)) ++ [(index, sub, v)]
      bound := some slot, lastWrite := s.clock }

/-- A member's staged value, or the one in force (R308). -/
def State.stagedNum (s : State) (commit index sub : Nat) : Nat :=
  match (s.group commit).staged.find? fun e => e.1 == index && e.2.1 == sub with
  | some (_, _, .num n) => n
  | some (_, _, .bytes b) => leNat b
  | none => s.num index sub

/-- A member's staged bytes, or those in force. -/
def State.stagedBlob (s : State) (commit index sub : Nat) : List Byte :=
  match (s.group commit).staged.find? fun e => e.1 == index && e.2.1 == sub with
  | some (_, _, .bytes b) => b
  | some (_, _, .num _) => []
  | none => s.blob index sub

/-- Apply or abort a commit (R308, R309): the agreement check's abort code, or the members' new state and an empty
staging area; then the answer. -/
def State.applyCommit (s : State) (slot commit : Nat) (landing : Bool) (check : State → Nat) (apply : State → State) :
    State :=
  let ab := check s
  if ab = 0 then ((apply s).setGroup commit {}).answer slot opCommand commit 0 0
  else (if landing then s.log 0x1003 srcHub commit else s).answer slot opCommand commit 0 ab

/-- A COMMAND on a commit object (R309): refused to a key slot that the group is not bound to, left for the landing
while treads run, else applied at once. -/
def State.commitCommand (s : State) (slot commit : Nat) (check : State → Nat) (apply : State → State) (d : Deferred) :
    State :=
  match s.authority slot with
  | none => s.discardAuth
  | some a =>
    match s.mopCheck a opCommand commit 0 with
    | some ab => s.answer slot opCommand commit 0 ab
    | none =>
      if (s.group commit).busy slot then s.answer slot opCommand commit 0 0x1000000B
      else if s.tick.running then s.defer d
      else s.applyCommit slot commit false check apply

/-! ## Writes -/

/-- Put an accepted value where its access class says: staged in its group, at the landing, or in force at once. -/
def State.storeValue (s : State) (slot index sub : Nat) (v : Value) (r : ObjRow) : State :=
  if r.access = .rwg then
    let g := s.group r.group
    if g.busy slot then s.answer slot opWrite index sub 0x1000000B
    else (s.stage_ r.group slot index sub v).answerWrite slot index sub 4
  else s.acceptWrite slot index sub r.access v

/-- A WRITE from a key slot of a whole value: R321 steps 1 to 10, the owner's rule (0: accepted), then `put`. -/
def State.writeWith (s : State) (slot index sub : Nat) (v : Value) (own : State → Nat) (put : State → ObjRow → State) :
    State :=
  match s.authority slot with
  | none => s.discardAuth
  | some a =>
    match s.mopCheck a opWrite index sub, objectRow index sub with
    | some ab, _ => s.answer slot opWrite index sub ab
    | none, none => s.answer slot opWrite index sub 0x10000003
    | none, some r =>
      let refuse (ab : Nat) := s.answer slot opWrite index sub ab
      let len : Int := match v with | .num _ => 0 | .bytes b => b.length
      let n := match v with | .num n => n | .bytes _ => 0
      let sized := match v with
        | .num n => !r.type.isBytes && decide (n < 2 ^ (8 * r.type.size))
        | .bytes _ => r.type.isBytes
      if !sized then refuse 0x10000005
      else if r.type.isBytes && !(decide (r.min ≤ len) && decide (len ≤ r.max)) then refuse 0x10000005
      else if r.access = .rws ∧ s.tick.running then refuse 0x10000007
      else if !r.type.isBytes && !inRange r index n then refuse 0x10000006
      else
        let ab := own s
        if ab ≠ 0 then refuse ab else put s r

/-- A WRITE whose value is stored as its access class says. -/
def State.writeValue (s : State) (slot index sub : Nat) (v : Value) (own : State → Nat) : State :=
  s.writeWith slot index sub v own fun s r => s.storeValue slot index sub v r

/-- A WRITE with a further effect on the state that holds the value, which an RWS object's has in force at once. -/
def State.writeThen (s : State) (slot index sub : Nat) (v : Value) (own : State → Nat) (effect : State → State) : State :=
  s.writeWith slot index sub v own fun s r => effect (s.storeValue slot index sub v r)

end Sys2Proof.Machine
end

