-- ==== Sys2Proof/Machine/XUnit.lean ====
section
/-! DEFINITION. The X unit: BLD, BST, EMIT, TAKE, TOKW and the arrival of bale reads (R78–R82), the cycle bound (R94),
and the MAC fault injection's write (Table 03.5). -/

namespace Sys2Proof.Machine

/-! ## Slots and runs -/

/-- Slot of BLD and BST: IMM[7:0] + S[B]. DESIGN CHOICE (log entry 138): the sum wraps at 64 bits. -/
def slotOf (q : Pen) (w : PenWord) : Nat := (w.imm % 256 + q.reg w.b.toNat).toNat

/-- The entry of an input slot; a slot at or beyond NIN raises 0x06. -/
def inputEntry (r : Run) (slot : Nat) : Try (BitVec 128) :=
  if slot < r.job.nin then .ok (r.job.bales.getD slot 0) else raise 0x06

/-- The entry of an output slot; outputs follow the NIN input entries. -/
def outputEntry (r : Run) (slot : Nat) : Try (BitVec 128) :=
  if slot < r.job.nout then .ok (r.job.bales.getD (r.job.nin + slot) 0) else raise 0x06

/-- A run that writes nothing but its record (R355). -/
def RunKind.compare (k : RunKind) : Bool := k == .repetition || k == .shadow || k == .third

/-- Bale reads outstanding in a tile (R116). DESIGN CHOICE (log entry 138): every open read counts, one that waits for its TREAD or
INBOUND input and one of a LOCAL slot too. -/
def State.tileReads (s : State) (t : Nat) : Nat :=
  ((List.range 16).map fun i => ((s.pen (16 * t + i)).reads.filter fun e => e.2.isSome).length).sum

/-- Hold a read open for a slot, or stall at the tile's limit of 128 (R116). -/
def State.openRead (s : State) (p slot : Nat) (r : BaleRead) : Try State :=
  if s.tileReads (tileOf p) ≥ 128 then .error (.stall .readLimit)
  else .ok (s.modPen p fun q => { q with reads := tabSet (fun _ => none) q.reads slot (some r) })

/-- Key of an inbound bale. -/
def inboundKey (stream k : Nat) : Nat := 65536 * stream + k

/-- Bale k of an inbound stream. -/
def State.inbound (s : State) (stream k : Nat) : Inbound := tabGet (fun _ => {}) s.gallery.inbound (inboundKey stream k)

/-- A void position raises 0x30 (R81, R257). -/
def State.voidCheck (s : State) (e : BitVec 128) : Try Unit :=
  need (!(entryClass e == 3 && (s.inbound (entryStream e) (entrySeq e)).void)) 0x30

/-- Count one commit against NCMT (R82). -/
def countCommit (r : Run) : Try Run :=
  if r.commitsMade < r.job.ncmt then .ok { r with commitsMade := r.commitsMade + 1 } else raise 0x0D

/-- The pen's run; an instruction issues only in one (R69). -/
def runOf (q : Pen) : Try Run := match q.run with | some r => .ok r | none => raise 0x05

/-! ## BLD and TAKE -/

/-- The position of an INBOUND entry whose payload lies at an address. -/
def Run.inboundEntry (r : Run) (slot : Nat) : BitVec 128 := r.job.bales.getD slot 0

/-- What the class of a read waits for before it reads is there: the output of a TREAD input, the deposit of an INBOUND one
(R78, R81). -/
def State.inputThere (s : State) (r : Run) (slot : Nat) (b : BaleRead) : Bool :=
  if b.cls = 1 then s.tiles.any fun t => t.2.treadOut.contains b.header
  else if b.cls = 3 then (s.inbound (entryStream (r.inboundEntry slot)) (entrySeq (r.inboundEntry slot))).deposited
  else true

/-- The X unit is held: a TAKE has not completed, or a BLD waits for its input before it reads (R69, R78). -/
def State.xWaits (s : State) (p : Nat) : Bool :=
  match (s.pen p).run with
  | none => false
  | some r => (s.pen p).reads.any fun e => match e.2 with
    | some b => b.take || !s.inputThere r e.1 b
    | none => false

/-- BLD (R78): the slot, the addresses, then a read held open until the bale arrives. Several BLDs of a pen whose inputs are there
may be open, and each completes on its own (R118); one waits while the X unit is held or its own slot is open (R69, log entry
135). -/
def execBld (p : Fin 1024) (w : PenWord) (s : State) : Res :=
  .next (issue p { a := 4, b := 4, modOk := fun m => m ≤ 1 } w false (fun s => do
    let q := s.pen p
    let r ← runOf q
    let slot := slotOf q w
    if s.xWaits p || (tabGet (fun _ => none) q.reads slot).isSome then .error (.stall .unitBusy)
    let e ← inputEntry r slot
    need (s.entryReaches e) 0x06
    let place := w.mod.getLsbD 0
    let inPasture := match s.place (entryPayload e) 4096 with | some (.pasture _) => true | _ => false
    need (!place || entryClass e == 2 || inPasture) 0x06
    let dest := (q.reg w.a.toNat + w.imm >>> 32).toNat
    need (place || (dest % 64 == 0 && decide (dest + 4096 ≤ 0x80000))) 0x05
    s.voidCheck e
    s.openRead p slot
      { cls := entryClass e, payload := entryPayload e, header := entryHeader e
        copyTo := if place then none else some dest, index := q.pc - 1, order := r.issued - 1 }) s)

/-- TAKE (R81): GAL on the job's own tile, an INBOUND slot, then the wait for its deposit. -/
def execTake (p : Fin 1024) (w : PenWord) (s : State) : Res :=
  .next (issue p {} w true (fun s => do
    let q := s.pen p
    let r ← runOf q
    need (r.job.gal && r.job.donor.isNone) 0x0B
    let slot := w.imm.toNat % 256
    let e ← inputEntry r slot
    need (entryClass e == 3) 0x06
    need (s.entryReaches e) 0x06
    s.voidCheck e
    s.openRead p slot
      { cls := 3, payload := entryPayload e, header := entryHeader e, copyTo := none, index := q.pc - 1, order := r.issued - 1
        take := true }) s)

/-- A part of the read lies in LPDDR, so a memory controller serves it. -/
def BaleRead.fromLpddr (b : BaleRead) : Bool := b.cls == 0 && (decide (b.payload < 2 ^ 42) || decide (b.header < 2 ^ 42))

/-- The data is there to be read (R78, R118, R257). -/
def State.readReady (s : State) (r : Run) (slot : Nat) (b : BaleRead) : Bool :=
  let settled := !(s.writePending b.payload 4096 || s.writePending b.header 64)
    && !s.mute b.payload && !s.mute b.header
  if b.cls = 1 ∨ b.cls = 3 then settled && s.inputThere r slot b
  else if b.cls = 2 then true
  else if b.fromLpddr then b.served.isSome
  else settled

/-- What the move brings: payload and header. A tile window whose tile domain is off answers poisoned (R123). -/
def State.moved (s : State) (q : Pen) (b : BaleRead) : List Byte × BitVec 512 :=
  match b.served with
  | some d => d
  | none =>
    if b.cls = 2 then (readTab q.scratch b.payload 4096, BitVec.ofNat 512 (leNat (readTab q.scratch b.header 64)))
    else match s.readPart b.header, s.readPart b.payload with
      | .error (code, unit), _ => ([], freshPoison 0x7FF s.epoch code unit)
      | _, .error (code, unit) => ([], freshPoison 0x7FF s.epoch code unit)
      | .ok ha, .ok pa => (s.read pa 4096, BitVec.ofNat 512 (leNat (s.read ha 64)))

/-- The last router on the route poisons what it answers for a tile domain that is off: it counts (R107, R123). -/
def State.noteMoved (s : State) (b : BaleRead) : State :=
  if b.served.isSome ∨ b.cls = 2 then s
  else match s.readPart b.header, s.readPart b.payload with
    | .error (code, unit), _ => s.notePoison code unit
    | _, .error (code, unit) => s.notePoison code unit
    | .ok _, .ok _ => s

/-- The checks of R78 in order, `bad` of the moves spoilt on the way: an exception with its detail, or none. The detail
of 0x20 holds the poison's origin, unit and epoch (log entry 24). -/
def arrivalCheck (payload : List Byte) (h : Nat) (bad : Nat) : Option (Nat × Nat) :=
  let once (k : Nat) : Found := if k ≤ bad then .badPayload else checkBale payload h
  let found := match once 1 with
    | .badPayload => once 2
    | .badHeader => once 2
    | f => f
  match found with
  | .poisoned => some (0x20, field h 320 64)
  | .badPayload => some (0x12, 0)
  | .badHeader => some (0x12, 0)
  | .good => if headerValid h then none else some (0x06, 0)

/-- Close the read of a slot. -/
def Pen.closeRead (q : Pen) (slot : Nat) : Pen := { q with reads := tabSet (fun _ => none) q.reads slot none }

/-- The bale is in place or copied, and its residency entry recorded (R78). -/
def Pen.record (q : Pen) (slot : Nat) (b : BaleRead) (payload : List Byte) (h : BitVec 512) : Pen :=
  let put (r : Resident) (q : Pen) : Pen := { q with resident := tabSet (fun _ => none) q.resident slot (some r) }
  match b.copyTo with
  | some d => put ⟨0, d, h, false⟩ { q with scratch := writeTab q.scratch d payload }
  | none => put ⟨if b.cls = 2 then 0 else 1, b.payload, h, false⟩ q

/-- BALE_READ_ARRIVAL (R78): a read that is ready is checked, copied and recorded; a pen that is held transfers nothing (R44,
R71). -/
def execBaleReadArrival (p : Fin 1024) (slot : Fin 64) (badMoves : Nat) (s : State) : Res :=
  let q := s.pen p
  match q.run, tabGet (fun _ => none) q.reads slot with
  | some r, some b =>
    if !s.readReady r slot b ∨ s.penHeld p then .next s
    else
      let (payload, h) := s.moved q b
      let s := s.noteMoved b
      let q := q.closeRead slot
      match arrivalCheck payload h.toNat badMoves with
      | some (code, detail) => .next ((s.setPen p q).except p b.order b.index code detail)
      | none => .next (s.setPen p (q.record slot b payload h))
  | _, _ => .next s

/-! ## BST -/

/-- The rules of R79 on the view that BST stores. -/
def storeViewOk (d : BitVec 256) : Bool :=
  let v := viewOf d
  viewReserved d && v.shapeOk && v.space == 0 && !v.z0 && decide (v.base + 4096 ≤ 0x80000)
    && (!isMx v.fmt || decide (v.base ≤ v.sbase))
    && { v with base := 0, sbase := v.sbase - v.base }.inside 0 4096
    && (!isMx v.fmt || (decide (-32768 ≤ v.ss1 ∧ v.ss1 ≤ 32767) && decide (-32768 ≤ v.ss2 ∧ v.ss2 ≤ 32767)))

/-- The lowest free staging slot of a tile (R111). -/
def State.freeStaging (s : State) (t : Nat) : Option Nat :=
  (List.range s.stagingSlots).find? fun i => (tabGet (fun _ => none) (s.tile t).staging i).isNone

/-- Free staging slots of a tile (object 0xA011). -/
def State.stagingFree (s : State) (t : Nat) : Nat :=
  s.stagingSlots - ((s.tile t).staging.filter fun e => e.2.isSome).length

/-- Store a bale in a staging slot of the tile: payload, then header (R110). -/
def State.putStaged (s : State) (t i : Nat) (b : StagedBale) (payload : List Byte) (h : BitVec 512) : State :=
  let a := sramBase t + s.stagingBase + 4160 * i
  ((s.write a payload).write (a + 4096) (headerBytes h)).modTile t fun x =>
    { x with staging := tabSet (fun _ => none) x.staging i (some b) }

/-- Shape fields of a record item (R355). -/
def shapeFields (h : Nat) : List Nat :=
  [field h 160 16, field h 176 16, field h 192 16, field h 208 32, field h 240 32, field h 272 16, field h 288 16,
   field h 304 16]

/-- Where a stored bale goes, by the slot's class (R79). -/
def State.putBale (s : State) (p slot : Nat) (r : Run) (e : BitVec 128) (payload : List Byte) (h : BitVec 512) :
    Try State :=
  let t := tileOf p
  if entryClass e = 8 then
    .ok (s.modPen p fun q =>
      { q with scratch := writeTab (writeTab q.scratch (entryPayload e) payload) (entryHeader e) (headerBytes h) })
  else if entryClass e = 9 then .ok ((s.store (entryPayload e) payload).store (entryHeader e) (headerBytes h))
  else match s.freeStaging t with
    | none => .error (.stall .stagingSlot)
    | some i =>
      let s := s.putStaged t i { jobId := r.job.jobId, out := slot, header := entryHeader e, payload := entryPayload e }
        payload h
      .ok (s.modPen p fun q => { q with run := q.run.map fun r =>
        { r with commits := r.commits ++ [.bale t r.job.jobId slot i (entryHeader e) (entryPayload e)] } })

/-- BST (R79): header from the view and the stored values, payload to where the slot's class says. DESIGN CHOICE (log entry 138): of
several faults of one group of R90 the first that its checks meet is raised; so do the other instructions. -/
def execBst (p : Fin 1024) (w : PenWord) (s : State) : Res :=
  .next (issue p { a := 1, b := 4 } w true (fun s => do
    let q := s.pen p
    let r ← runOf q
    let slot := slotOf q w
    let e ← outputEntry r slot
    need (!r.stored.contains slot) 0x07
    let d := q.view w.a.toNat
    need (storeViewOk d) 0x04
    need (s.entryReaches e) 0x06
    let r ← if entryClass e = 10 then countCommit r else .ok r
    let o ← placeView (tileOf p) q d
    let q ← touch s.mem q [.view o]
    let payload := readTab q.scratch (viewOf d).base 4096
    let h := storeHeader d (sumLane s.mem o q) payload p r.epoch
    let item := RecItem.bst slot (viewOf d).fmt (shapeFields h.toNat) (field h.toNat 96 32) (field h.toNat 128 32)
    let r := { r with stored := slot :: r.stored, record := r.record ++ [item] }
    let s := s.setPen p { q with run := some r }
    if r.job.kind.compare then .ok s else s.putBale p slot r e payload h) s)

/-! ## EMIT and TOKW -/

/-- The bale a run stored in an output slot, from where its class put it. -/
def State.storedBale (s : State) (p slot : Nat) (r : Run) (e : BitVec 128) : List Byte × BitVec 512 :=
  let q := s.pen p
  let hdr (b : List Byte) := BitVec.ofNat 512 (leNat b)
  if entryClass e = 8 then (readTab q.scratch (entryPayload e) 4096, hdr (readTab q.scratch (entryHeader e) 64))
  else if entryClass e = 9 then (s.read (entryPayload e) 4096, hdr (s.read (entryHeader e) 64))
  else
    let find (c : Commit) : Option Nat := match c with
      | .bale _ _ o i _ _ => if o = slot then some i else none
      | _ => none
    match r.commits.findSome? find with
    | some i =>
      let a := sramBase (tileOf p) + s.stagingBase + 4160 * i
      (s.read a 4096, hdr (s.read (a + 4096) 64))
    | none => ([], 0)

/-- EMIT (R81): a stored slot joins a gallery stream as a commit. -/
def execEmit (p : Fin 1024) (w : PenWord) (s : State) : Res :=
  .next (issue p {} w true (fun s => do
    let q := s.pen p
    let r ← runOf q
    need (r.job.gal && r.job.donor.isNone) 0x0B
    let slot := w.imm.toNat % 256
    let stream := w.imm.toNat / 256 % 256
    let e ← outputEntry r slot
    need (r.stored.contains slot) 0x06
    let r ← countCommit r
    let b := s.storedBale p slot r e
    let r := { r with record := r.record ++ [.emit slot stream] }
    let c := Commit.emit (tileOf p) r.job.jobId slot stream (decide (r.job.planEpoch < r.epoch)) b.2 b.1
    let r := if r.job.kind.compare then r else { r with commits := r.commits ++ [c] }
    .ok (s.setPen p { q with run := some r })) s)

/-- TOKW (R82): a token record of a session of the job's set. -/
def execTokw (p : Fin 1024) (w : PenWord) (s : State) : Res :=
  .next (issue p { a := 4, b := 4, c := 4 } w true (onPen p fun _ q => do
    let r ← runOf q
    let session := (q.reg w.a.toNat).toNat % 2 ^ 16
    let token := (q.reg w.b.toNat).toNat % 2 ^ 32
    let flags := (q.reg w.c.toNat).toNat % 2 ^ 8
    need (r.job.sessions.contains session) 0x0C
    let r ← countCommit r
    let r := { r with record := r.record ++ [.tokw session token flags] }
    let c := Commit.token (tileOf p) r.job.jobId session token flags
    .ok { q with run := some (if r.job.kind.compare then r else { r with commits := r.commits ++ [c] }) }) s)

/-! ## Cycle bound and fault injection -/

/-- CYCLE_BOUND_EXPIRY (R94): exception 0x0A in the running job. -/
def execCycleBoundExpiry (p : Fin 1024) (s : State) : Res := .next (s.except p (s.pen p).order (s.pen p).pc 0x0A 0)

/-- The rule of Table 03.5 on an injection word: reserved values and a fenced pen are refused. -/
def macFaultRule (s : State) (v : Nat) : Nat :=
  let row := field v 12 6
  let col := field v 6 6
  if field v 28 4 ≠ 0 ∨ row > 32 ∨ col > 32 ∨ (row = 32 ∧ col = 32) ∨ field v 0 6 > 31 ∨ s.fenced (field v 18 10)
  then 0xF0000020 else 0

/-- MAC_FAULT_INJECTION: the word waits for the next MMA on its pen; a second word replaces it. -/
def execMacFaultInjection (slot : Nat) (value : BitVec 32) (s : State) : Res :=
  .next (s.writeValue slot 0xF030 0 (.num value.toNat) fun s => macFaultRule s value.toNat)

end Sys2Proof.Machine
end

