-- ==== Sys2Proof/Machine/Deques.lean ====
section
/-! DEFINITION. The flock's deques and ready list (R135), which pens work, withheld sessions, and the fencing of pens
(R149, R354 step 2, R359). -/

namespace Sys2Proof.Machine

/-! ## Pens of a flock -/

/-- Global pen id of pen i of a tile. -/
def gpen (t i : Nat) : Nat := 16 * t + i

/-- Pen i of a tile works: not fenced, its flock domain on. -/
def State.works (s : State) (t i : Nat) : Bool := (s.tile t).flockOn && !s.fenced (gpen t i)

/-- It works and is not excluded (R137). -/
def State.serves (s : State) (t i : Nat) : Bool := s.works t i && !(s.tile t).excluded.getLsbD i

/-- It may take replays: serves and is not suspect (R354). -/
def State.replays (s : State) (t i : Nat) : Bool := s.serves t i && !(s.pen (gpen t i)).suspect

/-- Of the pens 0–15 that qualify, the one with the least count, the lowest number on a tie. -/
def fewest (ok : Nat → Bool) (n : Nat → Nat) : Option Nat :=
  ((List.range 16).filter ok).foldl (fun b i => match b with
    | none => some i
    | some j => if n i < n j then some i else some j) none

/-- A job that stays where it is placed (R135). -/
def Job.isPinned (j : Job) : Bool := j.scr || j.pinned

/-! ## Deques (R135) -/

/-- Deque of pen i, head first. -/
def Tile.deque (x : Tile) (i : Nat) : List Job := tabGet (fun _ => []) x.deques i
def Tile.setDeque (x : Tile) (i : Nat) (l : List Job) : Tile := { x with deques := tabSet (fun _ => []) x.deques i l }

/-- Append at the tail of a pen's deque; a full one of 64 leaves the job in the ready list. -/
def Tile.append (x : Tile) (i : Nat) (j : Job) : Tile :=
  let j := { j with home := i }
  if (x.deque i).length < 64 then x.setDeque i (x.deque i ++ [j]) else { x with readyList := x.readyList ++ [j] }

/-- Put at the head of a pen's deque; the entry at the tail of a full one goes back to the front of the ready list, so that no
deque holds more than 64 (R43; log entry 122). -/
def Tile.prepend (x : Tile) (i : Nat) (j : Job) : Tile :=
  let l := x.deque i
  let x := if l.length < 64 then x else { x with readyList := l.drop 63 ++ x.readyList }
  x.setDeque i (j :: l.take 63)

/-- Jobs of the ready list move to their deques as entries leave, first in first out. -/
def Tile.refill (x : Tile) : Tile :=
  x.readyList.foldl (fun x j => x.append j.home j) { x with readyList := [] }

/-- Jobs homed on a pen in the tread. -/
def Tile.homed (x : Tile) (i : Nat) : Nat := (x.jobs.filter fun j => j.home == i).length

/-- Unpinned CYCB of a deque (R139). -/
def Tile.loot (x : Tile) (i : Nat) : Nat :=
  (((x.deque i).filter fun j => !j.isPinned).map (·.cycb)).sum

/-! ## Withheld sessions (R24) -/

/-- Withhold sessions' steps in this tread. -/
def State.withhold (s : State) (t : Nat) (ids : List Nat) : State :=
  s.modTile t fun x => { x with withheld := x.withheld ++ ids.filter fun i => !x.withheld.contains i }

/-- A session is to end at the landing, with a status and a TOKEN (R290). -/
def State.endAtLanding (s : State) (id status token : Nat) : State :=
  { s with service := { s.service with endsNow := s.service.endsNow ++ [(id, status, token)] } }

/-- Free every staging slot of a tile whose write is not released: at the landing, what was discarded or withheld (R111). -/
def Tile.freeUnreleased (x : Tile) : Tile :=
  { x with staging := x.staging.filter fun e => match e.2 with | some b => b.released | none => false }

/-! ## Endings in class W (R89, R106, R142) -/

/-- Message kinds between shepherds: request, grant, completion report, return. -/
def msgRequest : Nat := 1
def msgGrant : Nat := 2
def msgReport : Nat := 3
def msgReturn : Nat := 4

/-- Class of a completion report: 0 completed, 1 program, 2 poison, 3 withheld. -/
def reportDone : Nat := 0
def reportProgram : Nat := 1
def reportPoison : Nat := 2
def reportWithheld : Nat := 3

/-- The receiver of a traded job reports it to the donor, with its class (R142). -/
def State.reportTrade (s : State) (t : Nat) (j : Job) (cls : Nat) : State :=
  match j.donor with
  | some d =>
    (s.modTile t fun x => { x with tradedIn := x.tradedIn.filter (· ≠ (d, j.jobId)) }).send
      (.tileMessage t d msgReport [j.jobId, cls])
  | none => s

/-- Header addresses of a job's TREAD-class outputs. -/
def Job.treadHeaders (j : Job) : List Nat :=
  ((j.bales.drop j.nin).filter fun e => entryClass e == 9).map entryHeader

/-- Session ids without repeats. -/
def distinct (l : List Nat) : List Nat := l.foldl (fun a i => if a.contains i then a else a ++ [i]) []

/-- Sessions of jobs. -/
def sessionsOf (l : List Job) : List Nat := distinct (l.flatMap (·.sessions))

/-- Successors of a job that ended in class W, on its own tile: those that wait are withheld (R106). -/
def State.withholdSuccessors (s : State) (t : Nat) (j : Job) : State :=
  let hit (k : Job) : Bool := k.planEpoch == j.planEpoch && j.succ.contains k.index
  let l := (s.tile t).waiting.filter hit
  (s.modTile t fun x => { x with waiting := x.waiting.filter fun k => !hit k }).withhold t (sessionsOf l)

/-- Pens stalled on a TREAD-class output of the job stop with the producer's code (R106). -/
def State.stopStalled (s : State) (j : Job) (code : Nat) : State :=
  forEach s.pens s fun e s =>
    match (s.pen e.1).reads.find? fun r => match r.2 with
      | some b => b.cls == 1 && j.treadHeaders.contains b.header
      | none => false with
    | some (_, some b) => s.except e.1 b.order b.index code 0
    | some (_, none) => s
    | none => s

/-- A job ends in class W, with the W-class code that a successor stalled on its outputs reports: its sessions are withheld, and
its successors; a traded-in job's donor hears of it. -/
def State.jobWithheld (s : State) (t : Nat) (j : Job) (code : Nat) : State :=
  (((s.withhold t j.sessions).withholdSuccessors t j).stopStalled j code).reportTrade t j reportWithheld

/-! ## Replay (R354 step 2) -/

/-- Place a job again as a replay, pinned, at the head of the replay pen's deque: the chosen pen, or none, and then the
job ends as class W with the code that called for the replay. -/
def State.placeReplay (s : State) (t : Nat) (j : Job) (code : Nat) : State × Option Nat :=
  match fewest (s.replays t) fun i => ((s.tile t).deque i).length with
  | some i =>
    (s.modTile t fun x => x.prepend i { j with kind := .replay, pinned := true, home := i }, some i)
  | none => (s.jobWithheld t j code, none)

/-! ## Fencing (R359) -/

/-- An entry whose pen does not serve goes to the pen that does with the fewest homed jobs (R149), a shadow to such a pen that is
not sampled (R363); an SCR job is withheld, and so is one that no pen can take. -/
def State.placeElsewhere (s : State) (t : Nat) (j : Job) : State :=
  if j.scr then s.withhold t j.sessions
  else match fewest (fun k => s.serves t k && !(j.kind == .shadow && (s.pen (gpen t k)).sampled)) fun k => (s.tile t).homed k with
    | some k => s.modTile t fun x => x.append k j
    | none => if j.kind == .shadow then s else s.withhold t j.sessions

/-- Place a ready job at its HOME pen's tail; one whose pen does not serve goes as R149 says. -/
def State.placeReady (s : State) (t : Nat) (j : Job) : State :=
  if s.serves t j.home then s.modTile t fun x => x.append j.home j else s.placeElsewhere t j

/-- Entries of a pen that is fenced, queued on it or in the ready list for it: unpinned ones go elsewhere, replays to a
replay pen, its own repetitions and third runs end with it (R149). -/
def State.moveEntries (s : State) (t i : Nat) : State :=
  let x := s.tile t
  let l := x.deque i ++ x.readyList.filter fun j => j.home == i
  let s := s.modTile t fun x => { x.setDeque i [] with readyList := x.readyList.filter fun j => j.home != i }
  forEach l s fun j s =>
    if j.kind == .replay then (s.placeReplay t j 0x30).1
    else if j.kind.compare && j.pinned then s
    else s.placeElsewhere t j

/-- Stop the run of a pen at its instruction boundary: its outputs go with it, their staging slots at the landing (R111). -/
def State.stopRun (s : State) (p : Nat) : State :=
  match (s.pen p).run with
  | none => s
  | some _ => s.modPen p fun q => { q with run := none, reads := [], stall := none, resident := [] }

/-- Record a fence in the keeper's memory. -/
def State.recordFence (s : State) (p cause : Nat) : State :=
  { s with nv := { s.nv with fences := s.nv.fences.filter (fun f => f.1 ≠ p) ++ [(p, cause)] } }

/-- Fence a pen, but for the switch-off of a whole fenced flock: the object's bit, the event, the record, its running job
replayed with no repetition, its entries moved. -/
def State.fenceOnly (s : State) (p cause : Nat) (taint : Bool) : State :=
  let t := tileOf p
  let s := s.setNum 0x7050 (t + 1) (s.num 0x7050 (t + 1) ||| 2 ^ (p % 16))
  let s := (s.log 0x7023 t (p + cause * 2 ^ 16)).recordFence p cause
  let s := if taint then s.modTile t fun x => { x with taintPens := x.taintPens ++ [p] } else s
  let job := match (s.pen p).run with | some r => some r.job | none => none
  let s := s.stopRun p
  let s := match job with
    | some j =>
      if j.kind.compare then s
      else if j.scr then s.withhold t j.sessions
      else (s.placeReplay t j 0x30).1
    | none => s
  let s := s.modPen p fun q => { q with suspect := false, sampled := false }
  s.moveEntries t (p % 16)

end Sys2Proof.Machine
end

