-- ==== Sys2Proof/Machine/Domains.lean ====
section
/-! DEFINITION. Power domains, channels, die-to-die slices and mesh routes (R18, R124, R236, R349–R353, R359, R360). -/

namespace Sys2Proof.Machine

/-! ## Tallies and spill regions that go with a part -/

/-- Units configured (object 0x8001). -/
def State.noteUnits (s : State) : State :=
  s.setNum 0x8001 0 (s.units.filter fun e => field e.2.config.toNat 24 2 != 0).length

/-- A tally unit loses its configuration and data; event 0x8001 where it had one (R383). -/
def State.loseTally (s : State) (u : Nat) : State :=
  let t := s.tally u
  if t.config = ({} : Tally).config ∧ t.newConfig.isNone then s
  else ((s.log 0x8001 srcHub u).setTally u {}).noteUnits

/-- Spill base and size in MiB of a link (R235). -/
def State.spillBase (s : State) (f : Nat) : Nat := s.num 0x5040 (f + 1)
def State.spillMib (s : State) (f : Nat) : Nat := s.num 0x5041 (f + 1)

/-- A link-control flit of a type waits to be sent, since a clock. -/
def LinkSt.due (l : LinkSt) (ltype clock : Nat) : LinkSt :=
  if l.lcDue.any fun e => e.1 == ltype then l else { l with lcDue := l.lcDue ++ [(ltype, clock)] }

/-- Enter direct mode from spill mode (R236): the next CMARK tells the peer. -/
def State.enterDirect (s : State) (f : Nat) : State :=
  if (s.link f).direct then s
  else ((s.log 0x5036 srcHub f).modLink f fun l =>
    ({ l with direct := true, spillLost := true }).due 3 s.clock)

/-- Where the region of a link lies now: an address in each GiB, as the redirect map leads it; none where the map reads it
as poisoned (R126, R235). -/
def State.spillParts (s : State) (f : Nat) : List (Option Nat) :=
  let b := s.spillBase f
  let n := s.spillMib f * 2 ^ 20
  (List.range ((b % 2 ^ 30 + n + 2 ^ 30 - 1) / 2 ^ 30)).map fun i =>
    match s.translate (max b ((b / 2 ^ 30 + i) * 2 ^ 30)) true with
    | .ok a => some a
    | .error _ => none

/-- Spill regions of which a part becomes unavailable (R236). -/
def State.loseSpill (s : State) (lost : Nat → Bool) : State :=
  upTo 96 s fun f s => if (s.spillParts f).any fun a => a.any lost then s.enterDirect f else s

/-! ## Channels (R124) -/

/-- Declare a channel failed: event 0xA004, its mask bit, the tile's capacity lowered by 8 GiB; its range is re-homed at
the next landing. -/
def State.failChannel (s : State) (t c : Nat) : State :=
  if s.channelBad t c then s
  else
    let s := s.log 0xA004 t (8 * t + c)
    let s := s.setNum 0xA002 (t + 1) (s.num 0xA002 (t + 1) ||| 2 ^ c)
    let s := s.setNum 0xA001 (t + 1) (s.num 0xA001 (t + 1) - 8)
    let s := s.modTile t fun x => { x with newlyFailed := x.newlyFailed ||| BitVec.ofNat 6 (2 ^ c) }
    s.loseSpill fun b => b / 2 ^ 36 == t && b / 2 ^ 33 % 8 == c

/-! ## Domains (R360) -/

/-- The flock domain goes off: pens stop, jobs and unreleased commits are discarded, their sessions withheld in this tread, those
of its plans in the treads they were for (R24); donors whose jobs it held take their copies back (R143). Pasture and pen scratch
keep their bytes (DESIGN CHOICE, log entry 120). -/
def State.flockOff (s : State) (t : Nat) : State :=
  if !(s.tile t).flockOn then s
  else
    let s := s.log 0x7025 t t
    let x := s.tile t
    let running := (List.range 16).flatMap fun i => match (s.pen (gpen t i)).run with
      | some r => r.job.sessions
      | none => []
    let queued := x.deques.flatMap fun d => d.2.flatMap fun (j : Job) => j.sessions
    let listed := (x.waiting ++ x.readyList).flatMap fun (j : Job) => j.sessions
    let planned (p : Option Plan) : List Nat := match p with | some q => sessionsOf q.jobs | none => []
    let s := s.withhold t (running ++ queued ++ listed ++ x.commits.flatMap (·.1))
    let s := upTo 16 s fun i s => s.modPen (gpen t i) fun q =>
      { q with run := none, reads := [], stall := none, resident := [], suspect := false }
    let s := s.modTile t fun x =>
      { x with
        flockOn := false, plan := none, held := none, jobs := [], dropped := [], dropNext := [], waiting := [], deques := [], readyList := []
        withheldNext := distinct (x.withheldNext ++ sessionsOf x.rerun ++ planned x.plan)
        withheldLater := distinct (x.withheldLater ++ planned x.held)
        rerun := [], commits := [], cases := [], mismatches := [], tradedIn := [], tradedOut := [], requested := [], done := [], tests := []
        grant := 0, floorMw := 0, floorSum := 0, floorWindows := 0, demand := {}, budgetPens := 0, duePen := none, force := 0, forceNext := 0 }
    let s := ((s.setBlob 0x704C (t + 1) []).setNum 0x3013 (t + 1) 0).setNum 0x3030 (t + 1) 0
    upTo 64 s fun d s =>
      let back := (s.tile d).tradedOut.filter fun e => e.1 == t
      let s := s.modTile d fun x => { x with tradedOut := x.tradedOut.filter fun e => e.1 != t }
      forEach back s fun e s => s.placeReady d e.2

/-- The tile domain goes off, its flock domain first: its channels fail, its bales in transit are lost, its tallies lose
their configuration (R18, R123–R125, R383). -/
def State.tileOffOnly (s : State) (t : Nat) : State :=
  if !(s.tile t).tileOn then s
  else
    let s := (s.flockOff t).log 0x7026 t t
    let s := s.modTile t fun x => { x with tileOn := false, selfRefresh := true, staging := [] }
    let s := upTo 6 s fun c s => s.failChannel t c
    (s.loseTally (2 * t)).loseTally (2 * t + 1)

/-! ## Requests to an OE (R403) -/

/-- The hub writes a register of a powered OE over its control port: a WRITE with the lowest free tag (log entry 65). -/
def State.writeOe (s : State) (n : Nat) : State :=
  match (s.oe n).voOn, (List.range 256).find? fun t => !(s.oe n).requests.any fun e => e.1 == t with
  | true, some t =>
    (s.modOe n fun o => { o with requests := o.requests ++ [(t, 0x02, s.clock)] }).send (.oeRequest n t 0x02)
  | _, _ => s

/-! ## Slices and routes (R350, R352, R353) -/

/-- The mesh neighbour of a tile on package direction k: 0 north, 1 east, 2 south, 3 west (R16). -/
def neighbour (t k : Nat) : Option Nat :=
  match k with
  | 0 => if t / 8 < 7 then some (t + 8) else none
  | 1 => if t % 8 < 7 then some (t + 1) else none
  | 2 => if t / 8 > 0 then some (t - 8) else none
  | _ => if t % 8 > 0 then some (t - 1) else none

/-- The die port (DP0–DP3) on a package direction of a tile with a rotation, and back (R14, Table 01.5). -/
def diePort (rot : Bool) (k : Nat) : Nat := if rot then (k + 2) % 4 else k
def packageSide (rot : Bool) (dp : Nat) : Nat := if rot then (dp + 2) % 4 else dp

/-- Retired slices of a tile's port: receive in bits 3–0, transmit in bits 7–4 (object 0x7051). -/
def State.portSlices (s : State) (t k : Nat) : Nat := s.num 0x7051 (t + 1) / 2 ^ (8 * k) % 256

/-- Even parity of the 128 data wires of a slice. -/
def sliceParity (data : BitVec 128) : Bool := ((List.range 128).filter data.getLsbD).length % 2 == 1

/-- What a slice's framing wire carries in interval k: the parity, inverted in the first of each 64 (R349). -/
def framingWire (data : BitVec 128) (k : Nat) : Bool := sliceParity data != (k % 64 == 0)

/-- The receiver's check of an interval: a parity error, which object 0x7053 counts (R349). -/
def parityError (data : BitVec 128) (wire : Bool) (k : Nat) : Bool := wire != framingWire data k

/-- Both directions of a port keep a slice (Table 16.2). -/
def portAlive (m : Nat) : Bool := m % 16 != 15 && m / 16 != 15

/-- Retired slices of gateway G(y) (object 0x7052). -/
def State.gatewaySlices (s : State) (y : Nat) : Nat := s.num 0x7052 0 / 2 ^ (8 * y) % 256

/-- The east port of an east-column tile is its gateway port (R16). -/
def isGateway (t k : Nat) : Bool := t % 8 == 7 && k == 1

/-- What a tile's port on a package direction is: an edge port that is not connected is absent, and takes no part in routing
or slice accounting (R17). -/
inductive PortCond where
  | absent | failed | up
deriving DecidableEq, Repr

def State.portCond (s : State) (t k : Nat) : PortCond :=
  if isGateway t k then (if portAlive (s.gatewaySlices (t / 8)) then .up else .failed)
  else if (neighbour t k).isNone then .absent
  else if portAlive (s.portSlices t k) then .up else .failed

/-- A mesh link is in service. -/
def State.meshUp (s : State) (t k : Nat) : Bool :=
  match neighbour t k with
  | some u => (s.tile t).tileOn && (s.tile u).tileOn && s.portCond t k == .up
  | none => false

/-- A gateway is in service. -/
def State.gatewayUp (s : State) (y : Nat) : Bool := s.portCond (8 * y + 7) 1 == .up && (s.tile (8 * y + 7)).tileOn

/-- Tiles with a route to an in-service gateway: `n` rounds of spreading from the gateway tiles. -/
def State.reachable (s : State) : Nat → List Nat
  | 0 => ((List.range 8).filter s.gatewayUp).map fun y => 8 * y + 7
  | n + 1 =>
    let l := s.reachable n
    l ++ (List.range 64).filter fun t => !l.contains t
      && (List.range 4).any fun k => s.meshUp t k && match neighbour t k with
          | some u => l.contains u
          | none => false

/-- Tiles by their hops to a tile over the links in service, `n` hops at most (R353). -/
def State.hopsTo (s : State) (dst : Nat) : Nat → List (Nat × Nat)
  | 0 => [(dst, 0)]
  | n + 1 =>
    let l := s.hopsTo dst n
    l ++ ((List.range 64).filter fun t => !l.any (fun e => e.1 == t) && (List.range 4).any fun k => s.meshUp t k
      && match neighbour t k with
        | some u => l.contains (u, n)
        | none => false).map fun t => (t, n + 1)

/-- From a tile `n` hops away: at each hop the lowest tile id that is nearer (R353). -/
def State.routeFrom (s : State) (hops : List (Nat × Nat)) : Nat → Nat → List Nat
  | 0, t => [t]
  | n + 1, t =>
    match (List.range 64).find? fun u => hops.contains (u, n)
        && (List.range 4).any fun k => s.meshUp t k && neighbour t k == some u with
    | some u => t :: s.routeFrom hops n u
    | none => [t]

/-- The route between two tiles: a shortest path over the links in service, of those the lexicographically least in its tile
ids; none where there is no path (R353). -/
def State.meshRoute (s : State) (src dst : Nat) : Option (List Nat) :=
  let l := s.hopsTo dst 63
  (l.find? fun e => e.1 == src).map fun e => s.routeFrom l e.2 src

/-- The gateway of hub traffic to or from a row: its own, else the one in service with the fewest rows between, the lower on a
tie (R353). -/
def State.gatewayOf (s : State) (y : Nat) : Option Nat :=
  ((List.range 8).filter s.gatewayUp).foldl (fun b g => match b with
    | none => some g
    | some h => if ((g : Int) - y).natAbs < ((h : Int) - y).natAbs then some g else some h) none

/-- The route of hub traffic of a tile: to the gateway of its row. -/
def State.hubRoute (s : State) (t : Nat) : Option (List Nat) := (s.gatewayOf (t / 8)).bind fun g => s.meshRoute t (8 * g + 7)

/-- The tile array is cut off (R353): treads stop, no landing commits, MODRDY is released, every session ends (Table 16.5), and the
hub answers nothing more until a module reset: the keeper alone does. -/
def State.cutOff (s : State) : State :=
  if s.boot.cutOff then s
  else
    let s := s.log 0x702C srcHub 0
    { s with
      boot := { s.boot with cutOff := true, modrdy := false, hubAnswering := false }
      tick := { s.tick with stopReq := true }
      service := { s.service with sessions := [] } }

/-- The region of a link is there and can be reached now (R236). -/
def State.spillReachable (s : State) (f : Nat) : Bool :=
  s.spillBase f != 0 && s.spillMib f != 0 && (s.spillParts f).all fun p => match p with
    | some a => (s.tile (a / 2 ^ 36)).tileOn && !s.channelBad (a / 2 ^ 36) (a / 2 ^ 33 % 8) && s.gatewayUp (a / 2 ^ 36 / 8)
    | none => false

/-- Routes are recomputed: isolated tiles are switched off, spill through a gateway out of service is lost, and with no
gateway the array is cut off (R353, R236). -/
def State.reroute (s : State) : State :=
  let ok := s.reachable 63
  let s := upTo 64 s fun t s => if (s.tile t).tileOn && !ok.contains t then s.tileOffOnly t else s
  let s := s.loseSpill fun b => !s.gatewayUp (b / 2 ^ 36 / 8)
  if (List.range 8).any s.gatewayUp then s else s.cutOff

/-- A tile domain is switched off, and the mesh routes around it (R360). -/
def State.tileOff (s : State) (t : Nat) : State :=
  if (s.tile t).tileOn then (s.tileOffOnly t).reroute else s

/-- Fence a pen (R359); a flock with all its pens fenced goes off (R360). -/
def State.fence (s : State) (p cause : Nat) (taint : Bool) : State :=
  if s.fenced p then s
  else
    let s := s.fenceOnly p cause taint
    let t := tileOf p
    if s.num 0x7050 (t + 1) = 0xFFFF then s.flockOff t else s

/-- Tile equivalents that are fenced, in sixteenths (R20). -/
def State.fencedSixteenths (s : State) : Nat :=
  ((List.range 64).map fun t =>
    if (s.tile t).flockOn then ((List.range 16).filter fun i => s.fenced (gpen t i)).length else 16).sum

end Sys2Proof.Machine
end

