-- ==== Sys2Proof/Machine/Memory.lean ====
section
/-! DEFINITION. Memory controllers and destination write ports: bale reads, commit writes, refresh, channel failure, the
redirect and region maps, and re-homing copies (R103, R107, R111, R118–R128, R351). -/

namespace Sys2Proof.Machine

/-! ## Bale reads (R103, Table 05.2) -/

/-- Deliver a bale to the read that waits for it. -/
def State.deliver (s : State) (p slot : Nat) (b : BaleRead) (payload : List Byte) (h : BitVec 512) : State :=
  s.modPen p fun q =>
    { q with reads := tabSet (fun _ => none) q.reads slot (some { b with served := some (payload, h) }) }

/-- Deliver a poisoned answer of a range that cannot be read: its header is the model's (log entry 25). -/
def State.deliverPoison (s : State) (p slot : Nat) (b : BaleRead) (code unit : Nat) : State :=
  (s.deliver p slot b [] (freshPoison 0x7FF s.epoch code unit)).notePoison code unit

/-- A second-mismatch poisoning joins its channel's record; at the threshold within the window the channel fails
(R124). -/
def State.channelError (s : State) (t c : Nat) : State :=
  let s := s.modTile t fun x => { x with poisonings := (c, s.epoch) :: x.poisonings }
  let n := ((s.tile t).poisonings.filter fun e => e.1 == c && decide (s.epoch < e.2 + s.gov 0xA022 0)).length
  if n ≥ s.gov 0xA021 0 then s.failChannel t c else s

/-- Unit that origin 0x0001 names (R105): the failing part's channel, or the only part's that lies in LPDDR. -/
def failingChannel (payload header : Nat) (headerFailed : Bool) : Nat :=
  let inL (a : Nat) : Bool := decide (a < 2 ^ 42)
  let a := if headerFailed then (if inL header then header else payload) else (if inL payload then payload else header)
  8 * (a / 2 ^ 36) + a / 2 ^ 33 % 8

/-- The controller's checks of a bale read from two addresses, `errors` of the reads hit by an uncorrectable link error
(R115): one re-read, then poison. -/
def State.controllerRead (s : State) (p slot : Nat) (b : BaleRead) (pa ha errors : Nat) : State :=
  let payload := s.read pa 4096
  let h := BitVec.ofNat 512 (leNat (s.read ha 64))
  let once (k : Nat) : Found := if k ≤ errors then .badPayload else checkBale payload h.toNat
  match once 1 with
  | .good => s.deliver p slot b payload h
  | .poisoned => s.deliver p slot b payload h
  | _ =>
    match once 2 with
    | .good => (s.deliver p slot b payload h).log 0xA001 (failingChannel pa ha false / 8) pa
    | .poisoned => s.deliver p slot b payload h
    | f =>
      let u := failingChannel pa ha (f == .badHeader)
      let h := poisonHeader h.toNat 0x0001 u s.epoch
      let s := (s.write ha (headerBytes h)).notePoison 0x0001 u
      ((s.deliver p slot b payload h).log 0xA002 (u / 8) pa).channelError (u / 8) (u % 8)

/-- MEMORY_READ (R103): a bale read with a part in LPDDR is served: the redirect map, the tile and the channel decide,
a pending write makes it wait, then the checks. -/
def execMemoryRead (p : Fin 1024) (slot : Fin 64) (linkErrors : Nat) (s : State) : Res :=
  match tabGet (fun _ => none) (s.pen p).reads slot with
  | none => .next s
  | some b =>
    if !b.fromLpddr || b.served.isSome || s.writePending b.payload 4096 || s.writePending b.header 64
        || s.mute b.payload || s.mute b.header then .next s
    else match s.readPart b.header, s.readPart b.payload with
      | .error (code, unit), _ => .next (s.deliverPoison p slot b code unit)
      | _, .error (code, unit) => .next (s.deliverPoison p slot b code unit)
      | .ok ha, .ok pa => .next (s.controllerRead p slot b pa ha linkErrors)

/-- BALE_READ_TIMEOUT (R351): an issued read that has not delivered is issued once more, then raises 0x12. -/
def execBaleReadTimeout (p : Fin 1024) (slot : Fin 64) (s : State) : Res :=
  let q := s.pen p
  match q.run, tabGet (fun _ => none) q.reads slot with
  | some r, some b =>
    let issued := b.cls == 0 || s.readReady r slot b
    if !issued then .next s
    else if b.reissued then .next ((s.setPen p (q.closeRead slot)).except p b.order b.index 0x12 0)
    else .next (s.setPen p
      { q with reads := tabSet (fun _ => none) q.reads slot (some { b with reissued := true, served := none }) })
  | _, _ => .next s

/-! ## Commit writes (R103, R111, R118–R120, R125) -/

/-- Where a released write goes: both parts translated, or the channel whose range discards it (8 × tile + channel). -/
def State.writeTarget (s : State) (payload header : Nat) : Except (Option Nat) (Nat × Nat) :=
  match s.writePart payload, s.writePart header with
  | .error u, _ => .error u
  | _, .error u => .error u
  | .ok p, .ok h => .ok (p, h)

/-- Free a staging slot. -/
def State.freeStagingSlot (s : State) (t i : Nat) : State :=
  s.modTile t fun x => { x with staging := tabSet (fun _ => none) x.staging i none }

/-- Discard a write to a failed channel: its slot is freed, and the landing reports the count (R125). -/
def State.discardWrite (s : State) (t i : Nat) (u : Option Nat) : State := (s.freeStagingSlot t i).countDiscard u

/-- A released write at its destination port, `bad` of its fetches from staging spoilt: it is checked and pends (R103, R118). -/
def State.commitWrite (s : State) (t i bad : Nat) : State :=
  match tabGet (fun _ => none) (s.tile t).staging i with
  | none => s
  | some b =>
    if !b.released || b.written then s
    else
      let put (s : State) (h : Option (BitVec 512)) : State := s.modTile t fun x =>
        { x with staging := tabSet (fun _ => none) x.staging i (some { b with written := true, head := h }) }
      match s.writeTarget b.payload b.header with
      | .error u => s.discardWrite t i u
      | .ok (pa, _) =>
        let u := destinationUnit pa
        if b.loser then put (s.log 0xA003 u b.header) none
        else
          let c := checkedHeader (s.stagedPayload t i) (s.stagedHeader t i) bad u s.epoch
          put (if c.2 then (s.notePoison 0x0004 u).log 0xA002 u pa else s) (some c.1)

/-- COMMIT_WRITE (R103): the destination port receives and checks a released write. -/
def execCommitWrite (tile : Fin 64) (slot : Nat) (badFetches : Nat) (s : State) : Res :=
  .next (s.commitWrite tile slot badFetches)

/-- A write that its port has taken completes: its lines hold it, the last to complete (R120), and its slot is free. -/
def State.completeWrite (s : State) (t i : Nat) (b : StagedBale) : State :=
  match s.writeTarget b.payload b.header, b.head with
  | .error u, _ => s.discardWrite t i u
  | .ok (pa, ha), some h => ((s.write pa (s.stagedPayload t i)).write ha (headerBytes h)).freeStagingSlot t i
  | .ok _, none => s.freeStagingSlot t i

/-- COMMIT_WRITE_COMPLETE (R111): a write completes and its staging slot is free. -/
def execCommitWriteComplete (tile : Fin 64) (slot : Nat) (s : State) : Res :=
  match tabGet (fun _ => none) (s.tile tile).staging slot with
  | some b => if b.released && b.written then .next (s.completeWrite tile slot b) else .next s
  | none => .next s

/-- COMMIT_WRITE_TIMEOUT (R351): the write is fetched again and resent; an unreachable destination discards it. -/
def execCommitWriteTimeout (tile : Fin 64) (slot : Nat) (s : State) : Res :=
  match tabGet (fun _ => none) (s.tile tile).staging slot with
  | some b =>
    if !b.released then .next s
    else match s.writeTarget b.payload b.header with
      | .error u => .next (s.discardWrite tile slot u)
      | .ok _ => .next (s.modTile tile fun x =>
          { x with staging := tabSet (fun _ => none) x.staging slot (some { b with written := false, head := none }) })
  | none => .next s

/-- A released write completes while a read waits for it: its port takes it where it has not yet, with a free number of spoilt
fetches (log entry 127). -/
def State.settleWrite (s : State) (t i : Nat) : State :=
  let here (s : State) : Option StagedBale := tabGet (fun _ => none) (s.tile t).staging i
  match here s with
  | none => s
  | some b =>
    if !b.released then s
    else
      let s := if b.written then s else let (v, s) := s.free; s.commitWrite t i (v.toNat % 3)
      match here s with
      | some b => if b.written then s.completeWrite t i b else s
      | none => s

/-- A read from outside the pens, of `n` bytes at an address, waits until every pending write that it matches is complete (R118). -/
def State.settleRange (s : State) (a n : Nat) : State :=
  if !s.writePending a n then s
  else forEach s.tiles s fun t s => forEach t.2.staging s fun e s => match e.2 with
    | some b => if b.overlaps a n then s.settleWrite t.1 e.1 else s
    | none => s

/-! ## Refresh (R122) -/

/-- The multiplier of a band (Table 07.5). -/
def bandRefresh (b : Nat) : Nat := if b = 0 then 1 else if b = 1 then 2 else 4

/-- Put the refresh multiplier of a tile in force: the larger of its pair's band and the devices' report. -/
def State.refresh (s : State) (t : Nat) : State :=
  s.setNum 0xA003 (t + 1) (max (bandRefresh (s.num 0x4004 (92 + t / 2 + 1))) (s.tile t).deviceRefresh)

/-- REFRESH_RATE_POLL (R122): a report beyond 4× is applied as 4× and logged. -/
def execRefreshRatePoll (tile : Fin 64) (report : Nat) (s : State) : Res :=
  let m := if report ≤ 1 then 1 else if report ≤ 2 then 2 else 4
  let s := if report > 4 then s.log 0xA006 tile report else s
  .next ((s.modTile tile fun x => { x with deviceRefresh := m }).refresh tile)

/-- CHANNEL_FAILED (R124). -/
def execChannelFailed (tile : Fin 64) (channel : Fin 6) (s : State) : Res := .next (s.failChannel tile channel)

/-! ## The region map (R128, Table 05.10) -/

/-- A region map entry. -/
structure Region where
  base : Nat
  len : Nat
  kind : Nat
  mv : Bool
  mirror : Nat
  reserved : Bool
deriving DecidableEq, Repr

/-- The entry that 32 bytes describe; LEN in bytes. -/
def regionOf (bs : List Byte) : Region :=
  let v := leNat bs
  { base := field v 0 64, len := 1024 * field v 64 32, kind := field v 96 8, mv := bit v 104, mirror := field v 128 64
    reserved := field v 105 23 != 0 || field v 192 64 != 0 || decide (field v 96 8 > 5) }

/-- The entries of a map, `n` of them. -/
def regionsOf : Nat → List Byte → List Region
  | 0, _ => []
  | n + 1, bs => regionOf (bs.take 32) :: regionsOf n (bs.drop 32)

/-- The region map in force. -/
def State.regions (s : State) : List Region :=
  let b := s.blob 0xA030 0
  (regionsOf (b.length / 32) b).filter fun r => r.kind != 0

/-- A range lies in one tile's populated LPDDR. -/
def inLpddr (a n : Nat) : Bool :=
  decide (a + n ≤ 2 ^ 42) && a / 2 ^ 36 == (a + n - 1) / 2 ^ 36 && decide ((a + n - 1) % 2 ^ 36 < 48 * 2 ^ 30)

/-- Two ranges share a byte. -/
def overlaps (a n b m : Nat) : Bool := n != 0 && m != 0 && decide (a < b + m) && decide (b < a + n)

/-- The rules of R128 on one entry. -/
def regionOk (r : Region) : Bool :=
  r.base % 4096 == 0 && r.len % 4096 == 0 && (r.len == 0 || inLpddr r.base r.len)
    && (r.kind != 5 || (r.base % 2 ^ 30 == 0 && r.len % 2 ^ 30 == 0))
    && (!r.mv || (r.kind == 1 && (r.len == 0 || inLpddr r.mirror r.len)
        && !(decide (r.mirror / 2 ^ 33 ≤ (r.base + r.len - 1) / 2 ^ 33)
          && decide (r.base / 2 ^ 33 ≤ (r.mirror + r.len - 1) / 2 ^ 33))))

/-- No two entries overlap. -/
def regionsApart : List Region → Bool
  | [] => true
  | r :: t => !(t.any fun q => overlaps r.base r.len q.base q.len) && regionsApart t

/-- The abort code of a region map (R128); 0 for a valid one. -/
def regionMapRule (data : List Byte) : Nat :=
  if data.length % 32 ≠ 0 then 0x10000005
  else
    let l := regionsOf (data.length / 32) data
    if l.any (·.reserved) then 0x10000008
    else if l.all regionOk && regionsApart l then 0 else 0xA0000012

/-- REGION_MAP_WRITE (R128). -/
def execRegionMapWrite (slot : Nat) (data : List Byte) (s : State) : Res :=
  .next (s.writeValue slot 0xA030 0 (.bytes data) fun _ => regionMapRule data)

/-! ## The redirect group (R126) -/

/-- The 16-bit entries of a redirect map. -/
def redirectEntries (b : List Byte) : List Nat := (List.range (b.length / 2)).map fun g => leNat ((b.drop (2 * g)).take 2)

/-- The agreement check of the redirect group (R126). -/
def redirectRule (s : State) : Nat :=
  let map (t : Nat) : List Nat := redirectEntries (s.stagedBlob 0xA032 0xA031 (t + 1))
  let valid := (List.range 64).flatMap fun t => (map t).filterMap fun e => if bit e 15 then some (e % 2 ^ 13) else none
  if valid.any fun g => decide (g ≥ 4096) || decide (g % 64 ≥ 48) then 0xA0000010
  else if valid.any fun g => bit ((map (g / 64)).getD (g % 64) 0) 13
      || bit ((map (g / 64)).getD (g % 64) 0) 15 || s.channelBad (g / 64) (g % 64 / 8) then 0xA0000011
  else 0

/-- The staged maps come into force. -/
def redirectApply (s : State) : State :=
  forEach (s.group 0xA032).staged s fun e s => s.setObj e.1 e.2.1 e.2.2

/-- REDIRECT_GROUP_COMMIT (R126, R309). -/
def execRedirectGroupCommit (slot : Nat) (s : State) : Res :=
  .next (s.commitCommand slot 0xA032 redirectRule redirectApply (.redirectCommit slot none))

/-! ## Re-homing copies (R127) -/

/-- The GiB that a range touches, by their addresses. -/
def gibsOf (a n : Nat) : List Nat := (List.range ((a + n - 1) / 2 ^ 30 + 1 - a / 2 ^ 30)).map fun i => (a / 2 ^ 30 + i) * 2 ^ 30

/-- Copy `n` bytes of memory from one address to another. -/
def State.copy (s : State) (src dst n : Nat) : State :=
  let keep := s.mem.filter fun e => !(decide (dst ≤ e.1) && decide (e.1 < dst + n))
  let moved := s.mem.filter fun e => decide (src ≤ e.1) && decide (e.1 < src + n)
  { s with mem := moved.foldl (fun m e => tabSet memDefault m (dst + (e.1 - src)) e.2) keep }

/-- The mirror of one region's part in a GiB copied into the GiB's target as external writes, from each GiB of the mirror that
can be read; what a failed target channel is sent is discarded (R125, R127). DESIGN CHOICE (log entry 139): a part of the mirror that
cannot be read is passed over, and the copy completes without it. -/
def State.copyMirror (s : State) (r : Region) (src tgt : Nat) : State :=
  let lo := max r.base (src * 2 ^ 30)
  let hi := min (r.base + r.len) ((src + 1) * 2 ^ 30)
  let m := r.mirror + (lo - r.base)
  if r.kind = 1 ∧ r.mv ∧ lo < hi then
    forEach (gibsOf m (hi - lo)) (s.settleRange m (hi - lo)) fun g s =>
      let a := max m g
      let e := min (m + (hi - lo)) (g + 2 ^ 30)
      let dst := tgt * 2 ^ 30 + lo % 2 ^ 30 + (a - m)
      let t := tgt / 64
      if !(s.tile t).tileOn || s.channelBad t (tgt % 64 / 8) then s.countDiscard (some (8 * t + tgt % 64 / 8))
      else match s.readPart a with
        | .ok b => s.copy b dst (e - a)
        | .error _ => s
  else s

/-- REHOMING_COPY_COMPLETE (R127): the mirror's bytes are in the target; FILL is cleared at the next landing. -/
def execRehomingCopyComplete (tile : Fin 64) (gib : Fin 48) (s : State) : Res :=
  let src := 64 * tile.val + gib.val
  match s.refills.find? fun r => r.src == src && r.copies && !r.done with
  | none => .next s
  | some r =>
    let s := forEach s.regions s fun g s => s.copyMirror g src r.tgt
    .next { s with refills := s.refills.map fun x => if x.src = src then { x with done := true } else x }

end Sys2Proof.Machine
end

