-- ==== Sys2Proof/Machine/Shepherd.lean ====
section
/-! DEFINITION. The shepherds: plans and job descriptors (R93–R97, R131), dispatch and stealing (R136–R139), trades
(R140–R143). -/

namespace Sys2Proof.Machine

/-! ## Treads ahead (R31, R130) -/

/-- Landing opens at this many ns after the tick. -/
def State.workNs (s : State) : Nat := s.periodNs - s.landNs

/-- Work phase of the next tread, ns. -/
def State.nextWorkNs (s : State) : Nat := s.tick.nextPeriod - 1000 * s.tick.nextLand

/-! ## The tile clock target (R20, R163, R165) -/

/-- A node's temperature estimate. -/
def State.temp (s : State) (node : Nat) : Rat := tabGet (fun _ => 0) s.drover.temps node

/-- The clock target of R20, MHz. DESIGN CHOICE (log entry 119): with no working tile the quotient has no value; 1,500 MHz. -/
def State.ratedClock (s : State) : Rat :=
  let w : Nat := 1024 - s.fencedSixteenths
  if w = 0 then 1500 else min 1500 ((90000 * 16 : Rat) / w)

/-- Nodes of tiles and hub. -/
def clockNodes : List Nat := List.range 68

/-- Boost conditions (R165). -/
def State.boosts (s : State) : Bool :=
  s.gov 0x3011 0 == 1
    && clockNodes.all (fun i => decide (s.temp i < ((s.gov 0x4002 0 : Nat) : Rat) - 10))
    && !s.drover.reinLast && decide (s.num 0x3002 0 ≥ 2000)

/-- The clock target that the drover fixes now. -/
def State.clockTarget (s : State) : Rat :=
  min (if s.boosts then (s.gov 0x3012 0 : Nat) else s.ratedClock) (s.num 0x4005 0 : Nat)

/-- The tile clock target f (object 0x3010), MHz. -/
def State.targetMhz (s : State) : Rat := if s.tick.running then s.drover.clockNext else s.clockTarget

/-- The clock that the tile PLLs synthesise for a target: the next multiple of 100/65,536 MHz (R163). -/
def synthesised (f : Rat) : Rat := ((f * 65536 / 100).ceil : Rat) * 100 / 65536

/-- Tile cycles so far. -/
def State.tileCycles (s : State) : Rat :=
  s.drover.cyclesBefore + ((s.clock - s.drover.cyclesAt : Nat) : Rat) * synthesised s.drover.clockNow / 2000

/-- The tile clock takes a frequency. -/
def State.setClock (s : State) (f : Rat) : State :=
  { s with drover := { s.drover with clockNow := f, cyclesBefore := s.tileCycles, cyclesAt := s.clock } }

/-- Clock target announced for the next tread, whole MHz (R163). -/
def State.clkt (s : State) : Nat := s.targetMhz.floor.toNat

/-- WORKC of the next tread (R130). -/
def State.workc (s : State) : Nat := s.nextWorkNs * s.clkt / 1000

/-- Rein of either kind holds a tile. -/
def State.reined (s : State) (t : Nat) : Bool := s.drover.rein || (s.tile t).rein

/-- Rein stall time of a tile, ns, with the stall under way (R145). -/
def State.heldNs (s : State) (t : Nat) : Nat :=
  s.num 0x704B (t + 1) + if s.reined t then (s.clock - (s.tile t).heldAt) / 2 else 0

/-- Time until the landing opens, ns. -/
def State.toLanding (s : State) : Nat := s.workNs - s.sinceTick / 2

/-! ## Job descriptors (Table 04.11) -/

/-- Bytes [off, off + n) of a list. -/
def slice (b : List Byte) (off n : Nat) : List Byte := (b.drop off).take n

/-- `n` words of `w` bytes. -/
def words (b : List Byte) (w : Nat) : Nat → List Nat
  | 0 => []
  | n + 1 => leNat (b.take w) :: words (b.drop w) w n

/-- The job a descriptor of 64 bytes names, with its lists from the plan's bytes. -/
def jobOf (plan : List Byte) (desc : List Byte) (index epoch : Nat) : Job :=
  let d := leNat desc
  let nview := field d 250 6
  let nin := field d 112 8
  let nout := field d 120 8
  { index := index, planEpoch := epoch, jobId := field d 0 32, cycb := field d 32 32, energy := field d 64 32
    entry := field d 96 16, nin := nin, nout := nout, seed := BitVec.ofNat 64 (field d 128 64), prog := field d 192 32
    mig := bit d 240, scr := bit d 241, gal := bit d 242, home := field d 244 4, ncmt := field d 416 16
    arg0 := BitVec.ofNat 64 (field d 448 64)
    views := (words (slice plan (field d 384 32) (32 * nview)) 32 nview).map (BitVec.ofNat 256)
    bales := (words (slice plan (field d 256 32) (16 * (nin + nout))) 16 (nin + nout)).map (BitVec.ofNat 128)
    sessions := words (slice plan (field d 288 32) (2 * field d 320 16)) 2 (field d 320 16)
    succ := words (slice plan (field d 352 24) (2 * field d 376 8)) 2 (field d 376 8)
    npred := field d 336 16 }

/-- The descriptor's reserved fields are zero and its lists lie in a plan of a size (R93, R94). -/
def descOk (desc : List Byte) (size : Nat) : Bool :=
  let d := leNat desc
  let inside (off n : Nat) : Bool := decide (off + n ≤ size)
  field d 224 16 == 0 && field d 432 16 == 0 && field d 243 1 == 0 && field d 248 2 == 0
    && decide (field d 112 8 ≤ 64) && decide (field d 120 8 ≤ 64) && decide (field d 250 6 ≤ 32)
    && decide (field d 320 16 ≤ 4096)
    && inside (field d 384 32) (32 * field d 250 6) && inside (field d 352 24) (2 * field d 376 8)
    && inside (field d 288 32) (2 * field d 320 16)
    && inside (field d 256 32) (16 * (field d 112 8 + field d 120 8))

/-- R96 on one bale-list entry. -/
def entryOk (out scr gal : Bool) (e : BitVec 128) : Bool :=
  let c := entryClass e
  field e.toNat 100 4 == 0
    && (if out then 8 ≤ c && c ≤ 10 else c ≤ 3)
    && ((c != 2 && c != 8) || scr) && (c != 3 || gal)
    && (c == 3 || (entryStream e == 0 && entrySeq e == 0))

/-- R95 and R96 on a job, in a plan of `n` jobs. -/
def State.jobOk (s : State) (n : Nat) (j : Job) : Bool :=
  (!j.mig || (!j.scr && !j.gal)) && decide ((1000 * j.cycb : Nat) ≤ (s.nextWorkNs : Rat) * s.targetMhz)
    && j.prog % 64 == 0 && decide (j.prog < s.stagingBase)
    && (j.bales.take j.nin).all (entryOk false j.scr j.gal) && (j.bales.drop j.nin).all (entryOk true j.scr j.gal)
    && j.succ.all (fun k => decide (k < n)) && j.sessions.all fun i => decide (i < 32768)

/-! ## The limits of R26 -/

/-- COMMIT-class output entries of a job. -/
def Job.commitSlots (j : Job) : Nat := ((j.bales.drop j.nin).filter fun e => entryClass e == 10).length

/-- Commits, staging and records that jobs use (R26). -/
def usage (l : List Job) : Nat × Nat × Nat :=
  ((l.map (·.ncmt)).sum, (l.map (·.commitSlots)).sum, (l.map fun j => j.ncmt - j.commitSlots).sum)

/-- Jobs fit the three limits of a landing length and a staging area. -/
def fits (land slots : Nat) (l : List Job) : Bool :=
  let u := usage l
  decide (u.1 ≤ 1024 * land) && decide (u.2.1 ≤ slots) && decide (u.2.2 ≤ 4096)

/-- Job ids are unique (R94). -/
def uniqueIds : List Job → Bool
  | [] => true
  | j :: t => t.all (fun k => k.jobId != j.jobId) && uniqueIds t

/-! ## Plans (R93, R131) -/

/-- What a plan's bytes come to. -/
structure Parsed where
  /-- Good so far as its own bytes and the limits tell. -/
  good : Bool
  epoch : Nat
  jobs : List Job
  /-- How many of its bytes lie below the staging base. -/
  len : Nat
  /-- Every session that its descriptors name, read as far as they lie in the plan and below the staging base. -/
  named : List Nat
deriving DecidableEq, Repr

/-- Sessions that a descriptor names, where its session set lies in a plan of a size. -/
def sessionsNamed (plan desc : List Byte) (size : Nat) : List Nat :=
  let d := leNat desc
  let n := field d 320 16
  if field d 288 32 + 2 * n ≤ size then (words (slice plan (field d 288 32) (2 * n)) 2 n).filter (· < 32768) else []

/-- Read the plan at a pasture offset. -/
def State.parsePlan (s : State) (t off : Nat) (target : Nat) : Parsed :=
  let base := sramBase t + off
  let h := leNat (s.read base 64)
  let size := field h 256 32
  let seen := min size (s.stagingBase - off)
  let plan := s.read base seen
  let n := field h 128 16
  let jobs := field h 224 32
  let descs := ((List.range (min n 1024)).filter fun i => decide (jobs + 64 * i + 64 ≤ seen)).map fun i =>
    slice plan (jobs + 64 * i) 64
  let list := (descs.zipIdx.filter fun d => descOk d.1 seen).map fun d => jobOf plan d.1 d.2 target
  let framed := decide (64 ≤ size) && decide (off + size ≤ s.stagingBase) && field h 0 32 == 0x4E4C5054
    && field h 32 16 == 1 && field h 288 32 == crc32c (plan.drop 64)
  let placed := decide (1 ≤ n) && decide (n ≤ 1024) && jobs % 64 == 0 && decide (jobs + 64 * n ≤ size)
  { len := seen, good := framed && !s.badIn base seen && placed && field h 48 8 == t && field h 56 8 == 0 && field h 144 16 == 0 && field h 320 192 == 0
      && descs.all (fun d => descOk d size) && list.all (s.jobOk n) && uniqueIds list
      && decide ((list.map (·.ncmt)).sum ≤ field h 160 32) && fits s.tick.nextLand s.stagingSlots list
    epoch := field h 64 64, jobs := list
    named := if off + 64 ≤ s.stagingBase then distinct (descs.flatMap fun d => sessionsNamed plan d seen) else [] }

/-- A plan is refused whole: event 0x7010, and every session it names is withheld in the tread it was for, the one after the next
where `after` (R93, R131). -/
def State.refusePlan (s : State) (t : Nat) (after : Bool) (l : List Nat) : State :=
  (s.log 0x7010 t t).modTile t fun x =>
    if after then { x with withheldLater := distinct (x.withheldLater ++ l) }
    else { x with withheldNext := distinct (x.withheldNext ++ l) }

/-- PLAN_DOORBELL (R131): validated at once; a late one is held for the tread after next, whose BATCH is tested when its budget is
published. -/
def execPlanDoorbell (tile : Fin 64) (offset : Nat) (s : State) : Res :=
  let t := tile.val
  let x := s.tile t
  if !x.flockOn then .next s
  else
    let late := s.tick.running && (s.tick.inLanding || decide (s.sinceTick / 2 + 2000 > s.workNs))
    let target := if late then s.epoch + 2 else s.epoch + 1
    let s := if late then s.log 0x7016 t offset else s
    let p := s.parsePlan t offset target
    let s := s.dropBad (sramBase t + offset) p.len
    let taken := if late then x.held.isSome else x.plan.isSome
    if !p.good ∨ (p.epoch ≠ 0 ∧ p.epoch ≠ target) ∨ (!late ∧ (sessionsOf p.jobs).length > x.budgetBatch) ∨ taken then
      .next (s.refusePlan t (late && p.epoch != s.epoch + 1) p.named)
    else
      let q : Plan := { epoch := target, jobs := p.jobs }
      .next (s.modTile t fun x => if late then { x with held := some q } else { x with plan := some q })

/-! ## Dispatch (R97, R136–R138) -/

/-- R136: the balance allows a job of this estimate. -/
def State.affords (s : State) (t : Nat) (j : Job) : Bool :=
  let x := s.tile t
  decide (x.balance ≥ min (j.energy : Int) (s.gov 0x7040 0 * x.grant : Nat))

/-- The image check of R64 at a job's first dispatch: NINSTR, and whether it passes. -/
def State.imageCheck (s : State) (t : Nat) (j : Job) : Nat × Bool :=
  let h := leNat (s.read (sramBase t + j.prog) 64)
  let n := field h 160 32
  let caps := field h 192 64
  let ok := field h 0 32 == 0x504E4550 && field h 32 16 == 1 && field h 48 16 == 0 && field h 256 256 == 0
    && decide (1 ≤ n) && decide (n ≤ 65536) && decide (j.prog + 64 + 16 * n ≤ s.stagingBase)
    && bit caps 0 && (caps &&& s.num 0x1008 0) == caps && decide (j.entry < n)
  (n, ok && !s.badIn (sramBase t + j.prog) (64 + 16 * n) && field h 128 32 == crc32c (s.read (sramBase t + j.prog + 64) (16 * n)))

/-- A job may run on a pen: a suspect pen runs nothing but its repetition (R354). -/
def Pen.mayRun (q : Pen) (j : Job) : Bool := !q.suspect || j.kind == .repetition || j.kind == .screp

/-- Remove entry k of a list. -/
def without {α : Type} (l : List α) (k : Nat) : List α := l.take k ++ l.drop (k + 1)

/-- The entry an owner takes: the first of four from the head that R136 allows (R137). -/
def State.ownEntry (s : State) (t i : Nat) : Option (Nat × Job) :=
  ((((s.tile t).deque i).take 4).zipIdx.find? fun e =>
    (s.pen (gpen t i)).mayRun e.1 && s.affords t e.1).map fun e => (e.2, e.1)

/-- Entries a thief may take: unpinned, and no shadow for a sampled pen (R139, R363). -/
def stealable (q : Pen) (j : Job) : Bool := !j.isPinned && !(j.kind == .shadow && q.sampled)

/-- The victim, and the entry nearest its tail that may be stolen (R139). -/
def State.stealEntry (s : State) (t i : Nat) : Option (Nat × Nat × Job) :=
  let x := s.tile t
  let q := s.pen (gpen t i)
  let sum (k : Nat) := (((x.deque k).filter (stealable q)).map (·.cycb)).sum
  let best := ((List.range 16).filter fun k => k != i && (x.deque k).any (stealable q)).foldl
    (fun (b : Option Nat) k => match b with
      | none => some k
      | some j => if sum k > sum j then some k else some j) none
  best.bind fun k => (((x.deque k).zipIdx.reverse).find? fun e => stealable q e.1).map fun e => (k, e.2, e.1)

/-- The start state of R97. -/
def startPen (q : Pen) (j : Job) (epoch p clock rein ninstr : Nat) (ok : Bool) : Pen :=
  let q := { q with
    regs := [], views := [], acc := [], side := [], satc := 0, nanc := 0, infc := 0, rng := seedRng j.seed
    resident := [], reads := [], pc := j.entry, stall := none
    run := some { job := j, epoch := epoch, ninstr := ninstr, startClock := clock, reinStart := rein
                  ended := if ok then none else some (.exc 0x08 j.entry 0)
                  record := if ok then [] else [.exc 0x08 j.entry] } }
  let q := (((q.setReg 1 j.arg0).setReg 2 (BitVec.ofNat 64 j.jobId)).setReg 3 (BitVec.ofNat 64 epoch)).setReg 4
    (BitVec.ofNat 64 p)
  (j.views.zipIdx).foldl (fun q v => q.setView v.2 v.1) q

/-- Start a job on a pen: ENERGY is debited, the image checked at the first dispatch, the start state set. -/
def State.startJob (s : State) (t i : Nat) (j : Job) : State :=
  let (n, ok) := s.imageCheck t j
  let s := s.dropBad (sramBase t + j.prog) (64 + 16 * n)
  let first := j.kind == .plan
  let s := s.modTile t fun x => ({ x with balance := x.balance - j.energy }).refill
  s.modPen (gpen t i) fun q => startPen q j s.epoch (gpen t i) s.clock (s.heldNs t) n (ok || !first)

/-- A pen can be given work (R137): treads run, outside the landing, no rein, no tick path fault; it serves, has no job and does not
wait for a slot boundary. -/
def State.canDispatch (s : State) (t i : Nat) : Bool :=
  s.tick.running && !s.tick.inLanding && !s.drover.rein && !(s.tile t).rein && !(s.tile t).dispatchStopped
    && s.serves t i && (s.pen (gpen t i)).run.isNone && !(s.tile t).slotWait.getLsbD i

/-- A pen waits for the next slot boundary (R137, R139). -/
def State.waitSlot (s : State) (t i : Nat) : State :=
  s.modTile t fun x => { x with slotWait := x.slotWait ||| BitVec.ofNat 16 (2 ^ i) }

/-- JOB_DISPATCH (R137, R139): an idle pen takes from its own deque, or steals where that is empty; an entry that its own idle
pen would take in the same cycle is the owner's. One whose entries R136 does not allow waits for the next slot boundary. -/
def execJobDispatch (p : Fin 1024) (s : State) : Res :=
  let t := tileOf p
  let i := p.val % 16
  if !s.canDispatch t i then .next s
  else match s.ownEntry t i with
    | some (k, j) => .next ((s.modTile t fun x => x.setDeque i (without (x.deque i) k)).startJob t i j)
    | none =>
      let own := (s.tile t).deque i
      if !own.isEmpty then .next (if (own.take 4).any (s.affords t) then s else s.waitSlot t i)
      else if (s.pen p).suspect then .next s
      else match s.stealEntry t i with
        | none => .next s
        | some (v, k, j) =>
          if !s.affords t j then .next (s.waitSlot t i)
          else if (s.canDispatch t v ∧ (s.ownEntry t v).map (·.1) = some k) then .next s
          else
            let s := s.modTile t fun x => x.setDeque v (without (x.deque v) k)
            .next ((s.count 0x7049 (t + 1) 1).startJob t i j)

/-! ## Trades (R140–R143) -/

/-- Free allowances of a tile under R26. -/
def State.allowances (s : State) (t : Nat) : Nat × Nat × Nat :=
  let u := usage (s.tile t).jobs
  (1024 * s.tick.land - u.1, s.stagingSlots - u.2.1, 4096 - u.2.2)

/-- TRADE_IDLE_EXPIRY (R140): a pen found nothing for the trade idle time, rein or not: a request to each neighbour without one. -/
def execTradeIdleExpiry (p : Fin 1024) (s : State) : Res :=
  let t := tileOf p
  let i := p.val % 16
  let x := s.tile t
  if s.gov 0x7041 0 = 0 ∨ !s.tick.running ∨ s.tick.inLanding ∨ !s.serves t i ∨ (s.pen p).run.isSome ∨ (s.ownEntry t i).isSome ∨ (s.stealEntry t i).isSome
      ∨ s.toLanding ≤ 1000 * s.gov 0x7043 0 ∨ x.tradedIn.length ≥ 16 then .next s
  else
    let a := s.allowances t
    .next (upTo 4 s fun k s => match neighbour t k with
      | some n =>
        if (s.tile n).flockOn && !(s.tile t).requested.contains n then
          (s.send (.tileMessage t n msgRequest [s.drover.clockNow.floor.toNat, a.1, a.2.1, a.2.2])).modTile t fun x =>
            { x with requested := x.requested ++ [n] }
        else s
      | none => s)

/-- A job may be traded (R141) at the requester's clock and allowances, beside the jobs already chosen. -/
def State.eligible (s : State) (clkt : Nat) (a : Nat × Nat × Nat) (chosen : List Job) (j : Job) : Bool :=
  let u := usage (chosen ++ [j])
  j.mig && !j.isPinned && j.donor.isNone && j.kind == .plan
    && (j.bales.take j.nin).all (fun e => entryClass e == 0
      || (entryClass e == 1 && s.tiles.any fun x => x.2.treadOut.contains (entryHeader e)))
    && decide (1000 * j.cycb + 1000 * s.gov 0x7043 0 * clkt ≤ s.toLanding * clkt)
    && decide (u.1 ≤ a.1) && decide (u.2.1 ≤ a.2.1) && decide (u.2.2 ≤ a.2.2)

/-- Jobs queued, against the pens that serve (R141). -/
def State.surplus (s : State) (t : Nat) : Bool :=
  let x := s.tile t
  let queued := (x.deques.map fun d => d.2.length).sum + x.readyList.length
  decide (queued > ((List.range 16).filter (s.serves t)).length)

/-- Choose jobs to trade, `n` more at most, each the eligible entry nearest the tail of the current victim; a victim without one ends
the grant (log entry 139). -/
def State.chooseTrades (s : State) (t clkt : Nat) (a : Nat × Nat × Nat) : Nat → List Job → State × List Job
  | 0, l => (s, l)
  | n + 1, l =>
    let x := s.tile t
    let best := ((List.range 16).filter fun k => (x.deque k).any fun j => !j.isPinned).foldl
      (fun (b : Option Nat) k => match b with
        | none => some k
        | some j => if x.loot k > x.loot j then some k else some j) none
    match best with
    | none => (s, l)
    | some k =>
      match ((x.deque k).zipIdx.reverse).find? fun e => s.eligible clkt a l e.1 with
      | none => (s, l)
      | some (j, m) =>
        if !s.surplus t then (s, l)
        else (s.modTile t fun x => (x.setDeque k (without (x.deque k) m)).refill).chooseTrades t clkt a n (l ++ [j])

/-- TRADE_REQUEST_RECEIVED (R141, R145): a grant of none to four jobs, empty under rein; ownership passes. -/
def execTradeRequestReceived (donor requester : Fin 64) (clkt commits staging records : Nat) (s : State) : Res :=
  let d := donor.val
  let room := min 4 (16 - (s.tile d).tradedOut.length)
  let open_ := (s.tile d).flockOn && !s.drover.rein && !(s.tile d).rein && s.tick.running && !s.tick.inLanding
  let r := if open_ then s.chooseTrades d clkt (commits, staging, records) room [] else (s, [])
  let energy := (r.2.map (·.energy)).sum
  let s := r.1.modTile d fun x =>
    { x with tradedOut := x.tradedOut ++ r.2.map (fun j => (requester.val, j)), tradeDelta := x.tradeDelta - energy }
  let s := s.modTile requester fun x => { x with tradeDelta := x.tradeDelta + energy }
  .next (s.send (.tileMessage d requester msgGrant (r.2.map (·.jobId))))

/-- A traded job as the receiver builds it. -/
def tradedJob (d : Nat) (epoch : Nat) (g : TradedJob) : Job :=
  { jobOf [] g.desc 0 epoch with
    views := g.views, bales := g.bales, sessions := g.sessions, succ := [], npred := 0, donor := some d }

/-- The donor takes a job back at its HOME pen's tail (R142, R143), or where R149 places it. -/
def State.takeBack (s : State) (d jobId : Nat) : State :=
  match (s.tile d).tradedOut.find? fun e => e.2.jobId == jobId with
  | none => s
  | some (_, j) =>
    (s.modTile d fun x => { x with tradedOut := x.tradedOut.filter fun e => e.2.jobId != jobId }).placeReady d j

/-- The receiver returns a traded job to its donor. -/
def State.returnJob (s : State) (t d jobId : Nat) : State := (s.send (.tileMessage t d msgReturn [jobId])).takeBack d jobId

/-- One job of a grant at the receiver: run here, or returned where the images differ (R142). The shepherd enforces the limits of
R26 and the 16 jobs of R140 when the job comes: one beyond them is returned without an event (log entry 123). -/
def State.receiveJob (s : State) (t d : Nat) (g : TradedJob) : State :=
  let j := tradedJob d s.epoch g
  let h := leNat (s.read (sramBase t + j.prog) 64)
  if field h 128 32 ≠ g.imgcrc ∨ field h 160 32 ≠ g.ninstr then
    (s.returnJob t d j.jobId).log 0x7012 d j.jobId
  else if (s.tile t).tradedIn.length ≥ 16 ∨ !fits s.tick.land s.stagingSlots ((s.tile t).jobs ++ [j]) then s.returnJob t d j.jobId
  else
    match fewest (s.serves t) fun i => ((s.tile t).deque i).length with
    | some i => (s.count 0x704A (t + 1) 1).modTile t fun x =>
        ({ x with tradedIn := x.tradedIn ++ [(d, j.jobId)], jobs := x.jobs ++ [{ j with home := i }] }).append i j
    | none => s.returnJob t d j.jobId

/-- TRADE_GRANT_RECEIVED (R142). -/
def execTradeGrantReceived (receiver donor : Fin 64) (jobs : List TradedJob) (s : State) : Res :=
  let s := s.modTile receiver fun x => { x with requested := x.requested.filter (· ≠ donor.val) }
  .next (forEach jobs s fun g s => s.receiveJob receiver donor g)

end Sys2Proof.Machine
end

