-- ==== Sys2Proof/Machine/Integrity.lean ====
section
/-! DEFINITION. Completion of jobs, replay before commit, cross-replay, in-field tests, pen fence and restore (R87–R89,
R106, R138, R142, R354–R368). -/

namespace Sys2Proof.Machine

/-! ## Outcome classes (Table 04.8) -/

/-- Program, check, poison, withheld. -/
inductive ExcClass where
  | p | c | x | w
deriving DecidableEq, Repr

/-- Class of an exception code. -/
def excClass (code : Nat) : ExcClass :=
  if code = 0x20 then .x
  else if 0x10 ≤ code ∧ code ≤ 0x13 then .c
  else if code = 0x0A ∨ code = 0x30 then .w
  else .p

/-- Class of a run's end, if it is an exception. -/
def RunEnd.cls : RunEnd → Option ExcClass
  | .done => none
  | .exc code _ _ => some (excClass code)

/-- Two jobs are runs of one job of a plan. -/
def Job.same (a b : Job) : Bool := a.jobId == b.jobId && a.planEpoch == b.planEpoch && a.index == b.index && a.donor == b.donor

/-! ## Bookkeeping of a completion (R138, R135, R142, R368) -/

/-- Busy time of a pen: dispatch to completion less the tile's rein stalls, the one under way among them (R145, R146). -/
def State.addBusy (s : State) (p : Nat) (r : Run) : State :=
  let rein := 2 * ((s.heldNs (tileOf p) + 2 ^ 32 - r.reinStart) % 2 ^ 32)
  s.modPen p fun q => { q with busy := q.busy + (s.clock - r.startClock - rein) }

/-- The pen has no run. -/
def Pen.idle (q : Pen) : Pen := { q with run := none, stall := none, reads := [], resident := [] }

/-- Outstanding predecessors fall by one for each time a successor is listed; those at zero become ready (R138). -/
def State.release (s : State) (t : Nat) (j : Job) : State :=
  let lowered := (s.tile t).waiting.map fun k =>
    if k.planEpoch = j.planEpoch then { k with npred := k.npred - j.succ.count k.index } else k
  let s := s.modTile t fun x => { x with waiting := lowered.filter fun k => k.npred != 0 }
  forEach (lowered.filter fun k => k.npred == 0) s fun k s => s.placeReady t k

/-- A job completes on pen p with its commits, in a report's class: its TREAD outputs become readable, its successors' counts
fall, or the donor of a traded-in job gets the report. -/
def State.finish (s : State) (p : Nat) (j : Job) (cs : List Commit) (cls : Nat) : State :=
  let t := tileOf p
  let s := s.modTile t fun x =>
    { x with treadOut := x.treadOut ++ j.treadHeaders, commits := x.commits ++ cs.map (fun c => (j.sessions, c)), done := x.done ++ [(p, j.sessions)] }
  if j.donor.isSome then s.reportTrade t j cls else s.release t j

/-- The poisoned header of an output slot: of the stored bale, or a fresh one (R106). -/
def State.poisonedOutput (s : State) (p slot : Nat) (r : Run) (e : BitVec 128) (origin : Nat) : BitVec 512 :=
  if r.stored.contains slot then poisonHeader (s.storedBale p slot r e).2.toNat origin p s.epoch
  else freshPoison p r.epoch origin p

/-- Poison the TREAD-class and LOCAL-class outputs of a job that ended with a P-class or X-class exception (R106). -/
def State.poisonOutputs (s : State) (p : Nat) (r : Run) (origin : Nat) : State :=
  upTo r.job.nout s fun k s =>
    let e := r.job.bales.getD (r.job.nin + k) 0
    let h := headerBytes (s.poisonedOutput p k r e origin)
    if !s.entryReaches e then s
    else if entryClass e = 9 then (s.store (entryHeader e) h).notePoison origin p
    else if entryClass e = 8 then
      (s.modPen p fun q => { q with scratch := writeTab q.scratch (entryHeader e) h }).notePoison origin p
    else s

/-- Sessions of a job end at the landing with a status, and their steps are withheld. -/
def State.endSessions (s : State) (t : Nat) (ids : List Nat) (status : Nat) : State :=
  forEach (distinct ids) (s.withhold t ids) fun i s => s.endAtLanding i status 0

/-- A P-class ending (R89): outputs discarded and poisoned, event 0x7011, sessions end with 0x0011. -/
def State.endProgram (s : State) (p : Nat) (r : Run) : State :=
  let s := s.poisonOutputs p r 0x0010
  (s.endSessions (tileOf p) r.job.sessions 0x0011).log 0x7011 (tileOf p) r.job.jobId

/-- An X-class ending: the consumed origin is held, then that of the outputs it poisons; sessions end with 0x0012 (R89, R106,
R107). -/
def State.endPoison (s : State) (p : Nat) (r : Run) (detail : Nat) : State :=
  let s := s.setNum 0xA041 0 (detail % 2 ^ 16 * 2 ^ 48 + detail / 2 ^ 16 % 2 ^ 16 * 2 ^ 32 + detail / 2 ^ 32 % 2 ^ 32)
  (s.poisonOutputs p r 0x0011).endSessions (tileOf p) r.job.sessions 0x0012

/-! ## Transient faults (R356, R358) -/

/-- A pen's transient count rises; at the threshold within the window the pen is fenced with cause 2. -/
def State.countTransient (s : State) (p : Nat) : State :=
  let s := s.count 0x705A (tileOf p + 1) 1
  let s := s.modPen p fun q => { q with transients := s.epoch :: q.transients }
  let n := ((s.pen p).transients.filter fun e => decide (s.epoch < e + s.gov 0x7059 0)).length
  if n ≥ s.gov 0x7058 0 then s.fence p 2 false else s

/-- A check failure settled as transient: the pen resumes dispatch. -/
def State.settleTransient (s : State) (p : Nat) : State :=
  ((s.log 0x7022 (tileOf p) p).modPen p fun q => { q with suspect := false }).countTransient p

/-- Put a pen in FORCE of the next open tread, for a test that decides (R356). -/
def State.forceTest (s : State) (p : Nat) (c : TestCase) : State :=
  s.modTile (tileOf p) fun x =>
    { x with forceNext := x.forceNext ||| BitVec.ofNat 16 (2 ^ (p % 16)), tests := x.tests ++ [c] }

/-! ## Replay and repetition (R354–R357) -/

/-- Put a compare-mode or SCR repetition at the head of a pen's own deque. -/
def State.placeRepetition (s : State) (p : Nat) (j : Job) (k : RunKind) : State :=
  s.modTile (tileOf p) fun x => x.prepend (p % 16) { j with kind := k, pinned := true, home := p % 16 }

/-- Replace the cases of a tile. -/
def State.setCases (s : State) (t : Nat) (l : List FaultCase) : State := s.modTile t fun x => { x with cases := l }

/-- Settle a case whose replay and repetition are both in (Table 16.3, rows 1 and 2). -/
def State.settleCase (s : State) (t : Nat) (c : FaultCase) : State :=
  match c.replay, c.repetition with
  | some (a, _), some (b, e) =>
    let s := s.setCases t ((s.tile t).cases.filter fun d => !(d.pen == c.pen && d.job.same c.job))
    if e.cls ≠ some .c ∧ a = b then s.settleTransient c.pen else s.fence c.pen 1 false
  | _, _ => s

/-- Settle every case of a job that can be settled. -/
def State.settleCases (s : State) (t : Nat) (j : Job) : State :=
  forEach ((s.tile t).cases.filter fun c => c.job.same j) s fun c s => s.settleCase t c

/-- The replay of a job is in with this record and end. -/
def State.replayIn (s : State) (t : Nat) (j : Job) (rec : List RecItem) (e : RunEnd) : State :=
  (s.setCases t ((s.tile t).cases.map fun c =>
    if c.job.same j && !c.job.scr then { c with replay := some (rec, e) } else c)).settleCases t j

/-- The repetition on a pen is in. -/
def State.repetitionIn (s : State) (p : Nat) (j : Job) (rec : List RecItem) (e : RunEnd) : State :=
  let t := tileOf p
  (s.setCases t ((s.tile t).cases.map fun c =>
    if c.pen = p ∧ c.job.same j then { c with repetition := some (rec, e) } else c)).settleCases t j

/-- What a pen reports of a run that ended in a check exception (R60, R89). -/
def Run.report (r : Run) (p code index : Nat) : FaultCase :=
  { pen := p, job := r.job, code := code, index := index, replayPen := 16, acc := r.acc
    detail := match r.ended with | some (.exc _ _ d) => d | _ => 0 }

/-- A new case: the pen is suspect, the job replayed elsewhere and repeated on the pen (R354). -/
def State.openCase (s : State) (p : Nat) (r0 : Run) (code index : Nat) (second : Bool) : State :=
  let t := tileOf p
  let j := r0.job
  let s := s.modPen p fun q => { q with suspect := true }
  let r := s.placeReplay t j 0x30
  let s := r.1.placeRepetition p j .repetition
  s.setCases t ((s.tile t).cases
    ++ [{ r0.report p code index with replayPen := r.2.getD 16, second := second }])

/-- An SCR job is repeated on its own pen in normal mode (R357). -/
def State.openScrCase (s : State) (p : Nat) (r : Run) (code index : Nat) : State :=
  let t := tileOf p
  let j := r.job
  let s := (s.modPen p fun q => { q with suspect := true }).placeRepetition p j .screp
  s.setCases t ((s.tile t).cases ++ [r.report p code index])

/-- Cancel the repetition of a job on a pen: queued or running. Ready jobs move up behind an entry that leaves (R135). -/
def State.cancelRepetition (s : State) (p : Nat) (j : Job) : State :=
  let hit (k : Job) : Bool := k.kind == .repetition && k.same j
  let s := s.modTile (tileOf p) fun x => (x.setDeque (p % 16) ((x.deque (p % 16)).filter fun k => !hit k)).refill
  match (s.pen p).run with
  | some r => if hit r.job then s.modPen p Pen.idle else s
  | none => s

/-- The fault follows the inputs (Table 16.3, row 3): neither pen is suspect, and the job ends in class P. -/
def State.inputBorne (s : State) (p : Nat) (r : Run) : State :=
  let t := tileOf p
  let l := (s.tile t).cases.filter fun c => c.job.same r.job
  let s := s.setCases t ((s.tile t).cases.filter fun c => !c.job.same r.job)
  let s := forEach l s fun c s => (s.cancelRepetition c.pen r.job).modPen c.pen fun q => { q with suspect := false }
  ((s.endProgram p r).log 0x702B t r.job.jobId).finish p r.job [] reportProgram

/-- A replay ended in a C-class exception (Table 16.3, rows 3 and 4). -/
def State.replayFailed (s : State) (p : Nat) (r : Run) (code index : Nat) : State :=
  let t := tileOf p
  match (s.tile t).cases.find? fun c => c.job.same r.job with
  | none => s.openCase p r code index false
  | some c =>
    if !c.second && c.code == code && c.index == index then s.inputBorne p r
    else
      if c.second then s.jobWithheld t r.job 0x30
      else
        let s := s.setCases t ((s.tile t).cases.map fun d => if d.job.same r.job then { d with second := true } else d)
        s.openCase p r code index true

/-! ## Cross-replay (R363, R364) -/

/-- The shadow of a job that a sampled pen completed; with no pen to run it, the tread is not clean. -/
def State.makeShadow (s : State) (p : Nat) (r : Run) : State :=
  let t := tileOf p
  if !(s.pen p).sampled || r.job.scr then s
  else
    let s := s.modPen p fun q => { q with shadowsOpen := q.shadowsOpen + 1 }
    match fewest (fun i => s.serves t i && !(s.pen (gpen t i)).sampled) fun i => ((s.tile t).deque i).length with
    | some i => s.modTile t fun x =>
        x.append i { r.job with kind := .shadow, pinned := false, against := r.record, againstPen := p }
    | none => s

/-- A shadow ended: it agrees, or it is a mismatch and a third run decides (R364). -/
def State.shadowIn (s : State) (p : Nat) (r : Run) (e : RunEnd) : State :=
  let t := tileOf p
  let o := r.job.againstPen
  let s := s.modPen o fun q => { q with shadowsOpen := q.shadowsOpen - 1 }
  if r.record = r.job.against ∧ e.cls ≠ some .c then s
  else
    let s := (s.log 0x7027 t o).withhold t r.job.sessions
    let s := s.modPen o fun q => { q with mismatch := true }
    let s := s.modTile t fun x => { x with mismatches := x.mismatches ++
      [{ origPen := o, shadowPen := p, original := r.job.against, shadow := r.record, job := r.job }] }
    match fewest (fun i => s.replays t i && gpen t i != o && gpen t i != p) fun i => ((s.tile t).deque i).length with
    | some i => s.modTile t fun x => x.prepend i { r.job with kind := .third, pinned := true, home := i }
    | none => s

/-- The third run ended: it decides which pen is fenced, or leaves both to the in-field test. -/
def State.thirdIn (s : State) (p : Nat) (r : Run) : State :=
  let t := tileOf p
  match (s.tile t).mismatches.find? fun m => m.job.same r.job with
  | none => s
  | some m =>
    let s := s.modTile t fun x => { x with mismatches := x.mismatches.filter fun d => !d.job.same r.job }
    if r.record = m.shadow then s.fence m.origPen 4 true
    else if r.record = m.original then s.fence m.shadowPen 4 true
    else (s.forceTest m.origPen { kind := 1, pen := m.origPen }).forceTest m.shadowPen { kind := 1, pen := m.shadowPen }

/-! ## JOB_COMPLETE -/

/-- After a job's own run of a kind has completed: its replay is in, or its SCR repetition settles the fault. -/
def State.settleKind (s : State) (p : Nat) (r : Run) (e : RunEnd) : State :=
  match r.job.kind with
  | .replay => s.replayIn (tileOf p) r.job r.record e
  | .screp =>
    (s.setCases (tileOf p) ((s.tile (tileOf p)).cases.filter fun c => !(c.pen == p && c.job.same r.job))).settleTransient p
  | _ => s

/-- A plan, replay or SCR run ended in a C-class exception. -/
def State.checkFailed (s : State) (p : Nat) (r : Run) (code index : Nat) : State :=
  let t := tileOf p
  match r.job.kind with
  | .replay => s.replayFailed p r code index
  | .screp =>
    let s := s.jobWithheld t r.job 0x30
    (s.setCases t ((s.tile t).cases.filter fun c => !(c.pen == p && c.job.same r.job))).fence p 3 false
  | _ =>
    if r.job.scr then s.openScrCase p r code index else s.openCase p r code index false

/-- A run that has ended is completed (R138): its own effects, then what its kind settles. -/
def State.completeRun (s : State) (p : Nat) (r : Run) (e : RunEnd) : State :=
  let s := (s.addBusy p r).modPen p Pen.idle
  match r.job.kind with
  | .repetition => s.repetitionIn p r.job r.record e
  | .shadow => s.shadowIn p r e
  | .third => s.thirdIn p r
  | _ =>
    match e with
    | .done => ((s.finish p r.job r.commits reportDone).settleKind p r e).makeShadow p r
    | .exc code index detail =>
      match excClass code with
      | .p => (((s.endProgram p r).finish p r.job [] reportProgram).settleKind p r e).makeShadow p r
      | .x => (((s.endPoison p r detail.toNat).finish p r.job [] reportPoison).settleKind p r e).makeShadow p r
      | .w => s.jobWithheld (tileOf p) r.job code
      | .c => s.checkFailed p r code index

/-- Complete the run of a pen, if it has ended. -/
def State.completePen (s : State) (p : Nat) : State :=
  match (s.pen p).run with
  | none => s
  | some r => match r.ended with
    | none => s
    | some e => s.completeRun p r e

/-- JOB_COMPLETE (R138). -/
def execJobComplete (p : Fin 1024) (s : State) : Res := .next (s.completePen p)

/-- TRADE_COMPLETION_REPORT (R142): the donor updates the successors, or withholds them for a W-class ending. -/
def execTradeCompletionReport (donor : Fin 64) (jobId cls : Nat) (s : State) : Res :=
  let d := donor.val
  match (s.tile d).tradedOut.find? fun e => e.2.jobId == jobId with
  | none => .next s
  | some (_, j) =>
    let s := s.modTile d fun x => { x with tradedOut := x.tradedOut.filter fun e => e.2.jobId != jobId }
    if cls = reportWithheld then .next (((s.withhold d j.sessions).withholdSuccessors d j).stopStalled j 0x30)
    else .next (s.release d j)

/-! ## In-field test (R148, R366, R367) -/

/-- Spacing of the pens' tests in treads. -/
def State.testStep (s : State) : Nat := s.num 0x7047 0 / 16

/-- The last epoch at which pen i fell due. -/
def State.dueEpoch (s : State) (i : Nat) : Nat :=
  let n := s.num 0x7047 0
  s.epoch - (s.epoch + n - i * s.testStep) % n

/-- A pen's clean point moves to this tread, and its taint log is emptied (R364, R368). -/
def State.cleanPoint (s : State) (p : Nat) : State :=
  s.modPen p fun q => { q with clean := s.epoch, taint := [], taintOver := false }

/-- The reference that a test of pen p on the content of epoch e compares with: the one made for that epoch (R366). -/
def State.testReference (s : State) (p e : Nat) : Option (BitVec 32) :=
  match (s.pen p).reference with
  | some (k, d) => if k = e then some d else none
  | none => none

/-- The outcome of pen p's test on the content of epoch e: a pass, a pass with a transient fault, or undecided, and then a third
pen decides. Without a reference it passes unchecked (R367). -/
def State.judgeTest (s : State) (p e : Nat) (digest third : Option (BitVec 32)) (check : Bool) : State :=
  let t := tileOf p
  let i := p % 16
  let pass (s : State) : State := if check then (s.cleanPoint p).settleTransient p else s.cleanPoint p
  match s.testReference p e with
  | none => pass s
  | some ref =>
    if digest = some ref then pass s
    else if third = some ref then
      if check then (s.cleanPoint p).settleTransient p else (s.cleanPoint p).countTransient p
    else
      let s := s.log 0x7028 t p
      match (List.range 16).find? fun k => s.works t k && k != i && k != (i + 15) % 16 with
      | some k => s.forceTest (gpen t k)
          { kind := 3, pen := p, other := gpen t k, own := digest, ref := some ref, ran := if check then 1 else 0 }
      | none => s

/-- A third pen's digest decides a disputed test. A pen that fails one that was to settle a replay is fenced as permanent (R356,
row 6). -/
def State.judgeDispute (s : State) (c : TestCase) (digest : Option (BitVec 32)) : State :=
  let refPen := gpen (tileOf c.pen) ((c.pen % 16 + 15) % 16)
  if digest.isSome ∧ digest = c.own then
    (if c.ran = 1 then s.settleTransient c.pen else s).fence refPen 5 true
  else if c.ran = 1 then s.fence c.pen 1 false
  else s.fence c.pen 5 true

/-- A restored pen works again (R361). -/
def State.restorePen (s : State) (p : Nat) : State :=
  let t := tileOf p
  let s := (s.setNum 0x7050 (t + 1) (s.num 0x7050 (t + 1) - 2 ^ (p % 16))).log 0x702D t p
  { s with nv := { s.nv with fences := s.nv.fences.filter fun f => f.1 ≠ p } }

/-- One of the two digests of a restore; the second settles it. -/
def State.judgeRestore (s : State) (p : Nat) (c : TestCase) (digest : Option (BitVec 32)) : State :=
  let t := tileOf p
  let d := if p = c.pen then { c with own := digest, ran := c.ran + 1 } else { c with ref := digest, ran := c.ran + 1 }
  let rest := (s.tile t).tests.filter (· ≠ c)
  if d.ran < 2 then s.modTile t fun x => { x with tests := rest ++ [d] }
  else
    let s := s.modTile t fun x => { x with tests := rest }
    if d.own.isSome ∧ d.own = d.ref ∧ s.fenced c.pen then s.restorePen c.pen else s

/-- The test that a forced pen runs in this tread. -/
def State.testOf (s : State) (p : Nat) : Option TestCase :=
  (s.tile (tileOf p)).tests.find? fun c => c.epoch == s.epoch
    && ((c.kind == 3 && c.other == p) || (c.kind != 3 && c.pen == p) || (c.kind == 2 && c.other == p))

/-- The pen whose test falls next gets its reference (R366). -/
def State.giveReference (s : State) (p : Nat) (ref : Option (BitVec 32)) : State :=
  let t := tileOf p
  let i := p % 16
  let at_ := s.dueEpoch i + s.testStep
  s.modPen (gpen t ((i + 1) % 16)) fun q => { q with reference := ref.map fun d => (at_, d) }

/-- IN_FIELD_TEST_COMPLETE (R366, R367): the digests of a pen's test tread are in. -/
def execInFieldTestComplete (pen : Fin 1024) (digest reference third : Option (BitVec 32)) (s : State) : Res :=
  let p := pen.val
  let t := tileOf p
  let i := p % 16
  if !(s.tile t).excluded.getLsbD i then .next s
  else match s.testOf p with
    | some c =>
      if c.kind = 2 then .next (s.judgeRestore p c digest)
      else
        let s := s.modTile t fun x => { x with tests := x.tests.filter (· ≠ c) }
        if c.kind = 3 then .next (s.judgeDispute c digest) else .next (s.judgeTest p s.epoch digest third (c.kind == 0))
    | none =>
      if (s.tile t).duePen ≠ some i then .next s
      else
        let s := s.modTile t fun x => { x with duePen := none, deferrals := 0 }
        let s := (s.judgeTest p (s.dueEpoch i) digest third false).modPen p fun q => { q with reference := none }
        .next (s.giveReference p reference)

/-! ## Pen commands (R361) -/

/-- The pen named by the pen selector. -/
def State.penSelected (s : State) : Nat := s.gov 0x705C 0

/-- PEN_FENCE. -/
def execPenFence (slot : Nat) (s : State) : Res :=
  .next (s.command slot 0x705D 0 fun s =>
    let p := s.penSelected
    if s.fenced p || !(s.tile (tileOf p)).flockOn then (s, 0x70000010) else (s.fence p 6 false, 0))

/-- PEN_RESTORE: the pen and its flock's lowest working pen run the content of the next open tread's epoch. -/
def execPenRestore (slot : Nat) (s : State) : Res :=
  .next (s.command slot 0x705E 0 fun s =>
    let p := s.penSelected
    let t := tileOf p
    if !s.fenced p || !(s.tile t).flockOn then (s, 0x70000010)
    else match (List.range 16).find? (s.works t) with
      | some k =>
        let s := s.forceTest p { kind := 2, pen := p, other := gpen t k }
        (s.modTile t fun x => { x with forceNext := x.forceNext ||| BitVec.ofNat 16 (2 ^ k) }, 0)
      | none => (s, 0))

end Sys2Proof.Machine
end

