-- ==== Sys2Proof/Machine/Drover.lean ====
section
/-! DEFINITION. The drover: metered power, rein, grants, the tile clock, the thermal model (R151–R169). Powers are in
mW, energies in nJ (1 nJ in a 1 µs slot is 1 mW), temperatures in °C. -/

namespace Sys2Proof.Machine

/-! ## Numbers -/

/-- A rational as FP32, rounded once: 64 fraction bits and a sticky bit stand in for the rest. -/
def ratF32 (q : Rat) : F32 :=
  let m := q.num.natAbs * 2 ^ 64 / q.den
  let sticky := if q.num.natAbs * 2 ^ 64 % q.den = 0 then 0 else 1
  (round32 (decide (q.num < 0)) (2 * m + sticky) (-65)).1

/-- Put a measured quantity into an F32 object. -/
def State.setF32 (s : State) (index sub : Nat) (q : Rat) : State := s.setNum index sub (ratF32 q).toNat

/-- A list's sum. -/
def ratSum (l : List Rat) : Rat := l.foldl (· + ·) 0

/-! ## Rails, by the ids of Table 17.3 -/

/-- Rails of the tiles. -/
def isTileRail (r : Nat) : Bool := decide (r < 128)

/-- A rail's set voltage in mV: the clock target's for a flock rail, else the factory's (R154, R164). -/
def State.railVolt (s : State) (r : Nat) : Nat :=
  if r < 64 ∧ s.drover.millivoltTile ≠ 0 then s.drover.millivoltTile
  else tabGet (fun _ => 1000) s.nv.railMv r

/-- A rail's power, mW, from its current in mA. -/
def State.railPower (s : State) (e : Nat × Nat) : Rat := (s.railVolt e.1 * e.2 : Nat) / 1000

/-- Efficiency of a rail's conversion path: the factory's for the rail, Table 07.1's nominal one without it. -/
def State.eff (s : State) (r : Nat) : Rat :=
  (tabGet (fun r => if r < 128 then s.nv.effTile else if r < 0xC0 then 9016 else 9114) s.nv.eff r : Nat) / 10000

/-- Metered power P_m (R154). -/
def State.meter (s : State) (l : List (Nat × Nat)) : Rat :=
  ratSum (l.map fun e => s.railPower e / s.eff e.1) + s.drover.vkMw

/-- Power of a tile's two rails. -/
def State.tilePower (s : State) (l : List (Nat × Nat)) (t : Nat) : Rat :=
  ratSum ((l.filter fun e => e.1 == t || e.1 == 64 + t).map s.railPower)

/-! ## The cap in force (R151, R152) -/

/-- The cap in force, W; before the first input reading no voltage term applies (log entry 31). -/
def State.capNow (s : State) : Nat :=
  let d := s.drover
  let own := min (s.num 0x3001 0) 2200
  if d.millivolts = 0 then own
  else min own (min (55 * d.millivolts / 1000) (if d.tabFault then 35 * d.millivolts / 1000 else own))

/-- The voltage term is the smallest. -/
def State.voltSmallest (s : State) : Bool :=
  s.drover.millivolts != 0 && decide (55 * s.drover.millivolts / 1000 < min (s.num 0x3001 0) 2200)

/-- Put the cap in force; event 0x3002 once per transition to the voltage term. -/
def State.recap (s : State) : State :=
  let v := s.voltSmallest
  let s := if v && !s.drover.voltLimited then s.log 0x3002 srcHub s.capNow else s
  { s.setNum 0x3002 0 s.capNow with drover := { s.drover with voltLimited := v } }

/-- The input's own power and the metered mean differ by more than 5 %: event 0x3009 at the 100th reading in a row. -/
def State.noteDisagree (s : State) (measured : Rat) : State :=
  let mean := s.drover.mean
  let far := decide (20 * (measured - mean) > mean) || decide (20 * (mean - measured) > mean)
  let n := if far then s.drover.disagree + 1 else 0
  let s := { s with drover := { s.drover with disagree := n } }
  if s.drover.disagree = 100 then s.log 0x3009 srcHub 0 else s

/-- INPUT_READING (R151, R154): voltage, tab currents and P_VK of the last 10 µs. -/
def execInputReading (mv mA mB vk : Nat) (s : State) : Res :=
  let s := { s with drover := { s.drover with millivolts := mv, tabA := mA, tabB := mB, vkMw := vk } }
  let s := s.setF32 0x3003 0 ((mv : Rat) / 1000)
  let s := s.setF32 0x3004 1 ((mA : Rat) / 1000)
  let s := s.setF32 0x3004 2 ((mB : Rat) / 1000)
  .next (s.noteDisagree (((mv * (mA + mB) : Nat) : Rat) / 1000)).recap

/-- TAB_FAULT (R152). -/
def execTabFault (s : State) : Res :=
  if s.drover.tabFault then .next s
  else .next ({ s.log 0x3003 srcHub 0 with drover := { s.drover with tabFault := true } }).recap

/-- TAB_FAULT_CLEAR (R152). -/
def execTabFaultClear (s : State) : Res := .next ({ s with drover := { s.drover with tabFault := false } }).recap

/-- The rule of R151 on a cap write: not below the last tread's non-tile power plus 64 minimum grants. -/
def capRule (s : State) (v : Nat) : Nat :=
  if (1000 * v : Nat) < s.drover.nonTile + (64 * s.num 0x3008 0 : Nat) then 0x30000010 else 0

/-- POWER_CAP_WRITE: with the treads stopped the cap is in force at once, and what follows from it. -/
def execPowerCapWrite (slot value : Nat) (s : State) : Res :=
  .next (s.writeThen slot 0x3001 0 (.num value) (fun s => capRule s value) fun s => if s.tick.running then s else s.recap)

/-! ## Rein (R160–R162, R145) -/

/-- Module rein asserts. -/
def State.assertRein (s : State) : State :=
  if s.drover.rein then s
  else
    let s := s.count 0x3020 0 1
    let s := upTo 64 s fun t s => if (s.tile t).rein then s else s.modTile t fun x => { x with heldAt := s.clock }
    { s with
      drover := { s.drover with rein := true, reinAt := s.clock, reinBelow := 0, reinHeld := false }
      tick := { s.tick with reinsInTread := s.tick.reinsInTread + 1 } }

/-- Module rein after a window: assert, release after 1 µs and two windows below the release level, or go on. -/
def State.moduleRein (s : State) (pm : Rat) : State :=
  let c := s.num 0x3002 0
  let d := s.drover
  if !d.rein then (if pm > (1000 * c : Nat) then s.assertRein else s)
  else
    let n := if pm < ((1000 * c : Nat) : Rat) - (1000 * s.gov 0x3007 0 : Nat) then d.reinBelow + 1 else 0
    if n ≥ 2 ∧ s.clock ≥ d.reinAt + 2000 then
      { s.count 0x3021 0 ((s.clock - d.reinAt) / 2) with drover := { d with rein := false, reinBelow := 0, reinHeld := false } }
    else { s with drover := { d with reinBelow := n } }

/-- Tile rein after a window. -/
def State.tileRein (s : State) (t : Nat) (p : Rat) : State :=
  let c := 1000 * s.gov 0x3006 0
  let x := s.tile t
  if !x.rein then
    if p > (c : Nat) then
      (s.count 0x3022 (t + 1) 1).modTile t fun x => { x with rein := true, reinAt := s.clock, reinBelow := 0 }
    else s
  else
    let n := if p < (c : Rat) - 1000 then x.reinBelow + 1 else 0
    s.modTile t fun x =>
      if n ≥ 2 ∧ s.clock ≥ x.reinAt + 2000 then { x with rein := false, reinBelow := 0 } else { x with reinBelow := n }

/-- Rein stall time (R145): it starts when rein begins to hold a tile, and joins object 0x704B when it lets go. -/
def State.heldTime (s : State) (before : State) (t : Nat) : State :=
  if s.reined t && !before.reined t then s.modTile t fun x => { x with heldAt := s.clock }
  else if !s.reined t && before.reined t then s.count 0x704B (t + 1) ((s.clock - (s.tile t).heldAt) / 2)
  else s

/-- Sums for the 10 µs mean, for the thermal nodes, for the floors in a landing, and for the non-tile power of the tread (R154,
R156, R166). -/
def State.sumWindow (s : State) (l : List (Nat × Nat)) (pm : Rat) : State :=
  let tiles := ratSum ((l.filter fun e => isTileRail e.1).map fun e => s.railPower e / s.eff e.1)
  let d := s.drover
  let d := { d with
    metered := pm, windowSum := d.windowSum + pm, windowCount := d.windowCount + 1
    nonTileSum := d.nonTileSum + (pm - tiles), nonTileCount := d.nonTileCount + 1
    railSum := l.foldl (fun x e => tabSet (fun _ => 0) x e.1 (tabGet (fun _ => 0) x e.1 + s.railPower e)) d.railSum
    railWindows := d.railWindows + 1 }
  let s :=
    if d.windowCount = 100 then
      { s.setF32 0x3005 0 (d.windowSum / 100 / 1000) with
        drover := { d with mean := d.windowSum / 100, windowSum := 0, windowCount := 0 } }
    else { s with drover := d }
  if s.tick.inLanding then
    upTo 64 s fun t s => if !(s.tile t).flockOn then s else s.modTile t fun x =>
      { x with floorSum := x.floorSum + s.tilePower l t, floorWindows := x.floorWindows + 1 }
  else s

/-- SENSE_WINDOW (R154, R160, R161): rail currents (rail, mA) of a 100 ns window; a rail not listed draws nothing. -/
def execSenseWindow (currents : List (Nat × Nat)) (s : State) : Res :=
  let pm := s.meter currents
  let s1 := (s.sumWindow currents pm).moduleRein pm
  let s2 := upTo 64 s1 fun t s => if (s.tile t).tileOn then s.tileRein t (s.tilePower currents t) else s
  .next (upTo 64 s2 fun t x => x.heldTime s t)

/-- REIN_HELD_LIMIT (R162): module rein held 100 µs; the rest of the tread's grants are the minimum. -/
def execReinHeldLimit (s : State) : Res :=
  if !s.drover.rein || s.drover.reinHeld then .next s
  else .next { s.log 0x3005 srcHub 0 with drover := { s.drover with reinHeld := true, gminOnly := true } }

/-! ## Demand (R144) -/

/-- A job placed on a tile's timeline: its pen, index, plan, interval. -/
structure Scheduled where
  pen : Nat
  index : Nat
  planEpoch : Nat
  start : Nat
  finish : Nat
  energy : Nat
deriving DecidableEq, Repr

/-- Duration of a job: CYCB and its dispatch (R138). -/
def Job.span (j : Job) : Nat := j.cycb + 20 + (j.views.length + 1) / 2

/-- Predecessors of a job among the jobs. -/
def predsOf (l : List Job) (j : Job) : List Job :=
  l.filter fun k => k.planEpoch == j.planEpoch && k.succ.contains j.index

/-- The interval of a job, given those placed; its home is the pen it is to run on. -/
def placeJob (l : List Job) (done : List Scheduled) (j : Job) : Scheduled :=
  let free := ((done.filter fun d => d.pen == j.home).map (·.finish)).foldl max 0
  let after := ((done.filter fun d =>
    (predsOf l j).any fun k => k.index == d.index && k.planEpoch == d.planEpoch).map (·.finish)).foldl max 0
  let st := max free after
  { pen := j.home, index := j.index, planEpoch := j.planEpoch, start := st, finish := st + j.span, energy := j.energy }

/-- The list schedule: of the jobs whose in-plan predecessors are placed the one that can start first, the first of the list on a
tie, over and over; `n` bounds it. -/
def listSchedule (l : List Job) : Nat → List Job → List Scheduled → List Scheduled
  | 0, _, done => done
  | n + 1, left, done =>
    let ok (j : Job) : Bool := (predsOf l j).all fun k =>
      done.any fun d => d.index == k.index && d.planEpoch == k.planEpoch
    let next := (left.filter ok).foldl (fun (b : Option Job) j => match b with
      | none => some j
      | some k => if (placeJob l done j).start < (placeJob l done k).start then some j else some k) none
    match next with
    | none => done
    | some j => listSchedule l n (left.filter fun k => !k.same j) (done ++ [placeJob l done j])

/-- SEG of the demand record (Table 06.2): µJ by sixteenths of WORKC, a job in the one that holds the midpoint of its interval. -/
def demandOf (l : List Job) (workc : Nat) : List Nat :=
  let p := listSchedule l l.length l []
  (List.range 16).map fun k =>
    let e := ((p.filter fun d => min 15 (8 * (d.start + d.finish) / workc) == k).map (·.energy)).sum
    (e + 999) / 1000

/-- A job of the next tread on the pen that it is to run on: its home, or where R149 places it, with FORCE of the tread's budget;
none for an SCR job without its pen. -/
def State.planned (s : State) (t : Nat) (l : List Job) (j : Job) : Option Job :=
  let ok (i : Nat) : Bool := s.works t i && !(s.tile t).force.getLsbD i
    && !((s.tile t).duePen == some i && !l.any fun k => k.home == i)
  if ok j.home then some j
  else if j.scr then none
  else (fewest ok fun i => (l.filter fun k => k.home == i).length).map fun i => { j with home := i }

/-- The demand record of a tile's placement (Table 06.2); PENS is a mask (log entry 148). -/
def State.demandRecord (s : State) (t : Nat) (l : List Job) : Demand :=
  let p := l.filterMap (s.planned t l)
  { epoch := s.epoch + 1, pens := (((List.range 16).filter fun i => p.any fun j => j.home == i).map fun i => 2 ^ i).sum
    total := (p.map (·.energy)).sum, largest := (p.map (·.energy)).foldl max 0, seg := demandOf p s.workc }

/-! ## Grants (R155–R157) -/

/-- Slots of a work phase of `ns`. -/
def slotCount (ns : Nat) : Nat := (ns + 999) / 1000

/-- Segment of slot k. -/
def slotSegment (ns k : Nat) : Nat := if ns = 0 then 0 else min 15 (16 * k * 1000 / ns)

/-- Slots in segment m. -/
def segmentSlots (ns m : Nat) : Nat := ((List.range (slotCount ns)).filter fun k => slotSegment ns k == m).length

/-- One working tile in the allocation of a slot. -/
structure Share where
  tile : Nat
  d : Rat
  w : Rat
  h : Rat
  g : Rat
  inU : Bool
deriving DecidableEq, Repr

/-- One pass of Table 07.2 over U, and whether a tile left U. -/
def grantPass (l : List Share) (r : Rat) : List Share × Rat × Bool :=
  let ws := ratSum ((l.filter (·.inU)).map (·.w))
  let u := r / ws
  let a (x : Share) : Rat := if x.inU then min (x.d - x.g) (x.w * u) else 0
  let l2 := l.map fun x => { x with g := x.g + a x, inU := x.inU && decide (x.g + a x < x.d) }
  (l2, r - ratSum (l.map a), (l2.filter (·.inU)).length != (l.filter (·.inU)).length)

/-- The passes, until R is spent, U is empty or no tile leaves it; `n` bounds them. -/
def grantPasses : Nat → List Share → Rat → List Share × Rat
  | 0, l, r => (l, r)
  | n + 1, l, r =>
    if r ≤ 0 ∨ !(l.any (·.inU)) then (l, r)
    else
      let p := grantPass l r
      if p.2.2 then grantPasses n p.1 p.2.1 else (p.1, 0)

/-- Grants of the working tiles in one slot (Table 07.2). -/
def allocate (pool gmin : Rat) (l : List Share) : List (Nat × Nat) :=
  let l := l.map fun x => { x with g := min x.d gmin }
  let sum := ratSum (l.map (·.g))
  if sum > pool then l.map fun x => (x.tile, (x.g * pool / sum).floor.toNat)
  else
    let l := l.map fun x => { x with inU := decide (x.g < x.d) && decide (x.w > 0) }
    let p := grantPasses 65 l (pool - sum)
    let ws := ratSum (p.1.map (·.w))
    p.1.map fun x =>
      let extra := if p.2 ≤ 0 ∨ ws = 0 then 0 else max 0 (min (x.h - x.g) (p.2 * x.w / ws))
      (x.tile, (x.g + extra).floor.toNat)

/-- Weight of a tile (R157). -/
def State.weight (s : State) (t : Nat) : Rat := min 1 (max 0 (((s.num 0x4002 0 : Nat) - s.temp t) / 20))

/-- The tile pool of each slot (R156), with the non-tile power of this tread. -/
def State.pool (s : State) : Rat :=
  let floors : Rat := ratSum ((List.range 64).map fun t => if (s.tile t).flockOn then (s.tile t).floorMw else 0)
  let c : Rat := (1000 * s.num 0x3002 0 : Nat)
  max 0 (((s.nv.effTile : Rat) / 10000) * (c - s.drover.nonTile - (1000 * s.num 0x3009 0 : Nat)) - floors)

/-- The grant tables of the next tread (R155–R157), by tile and demand segment; the record of a tile in `late` is not used. H of
Table 07.2 is taken as it stands, with F in W (log entry 32). -/
def State.computeGrants (s : State) (late : BitVec 64) : State :=
  let d := s.drover
  let nonTile : Rat := if d.nonTileCount = 0 then d.nonTile else d.nonTileSum / d.nonTileCount
  let s := { s with drover := { d with nonTile := nonTile, nextGrants := [] } }
  let ns := s.nextWorkNs
  let tiles := (List.range 64).filter fun t => (s.tile t).flockOn
  let s := forEach (tiles.filter fun t => late.getLsbD t) s fun t s => s.log 0x300A srcHub t
  upTo 16 s fun m s =>
    let n := segmentSlots ns m
    if n = 0 then s
    else
      let l := tiles.map fun t => ({
        tile := t, w := s.weight t
        d := if late.getLsbD t then 0 else ((1000 * (s.tile t).demand.seg.getD m 0 + n - 1) / n : Nat)
        h := ((1000 * s.num 0x3006 0 : Nat) : Rat) - (s.tile t).floorMw / 1000, g := 0, inU := false } : Share)
      let g := allocate s.pool (s.num 0x3008 0 : Nat) l
      { s with drover := { s.drover with
          nextGrants := g.foldl (fun x e => tabSet (fun _ => 0) x (16 * e.1 + m) e.2) s.drover.nextGrants } }

/-- The grant sent to a tile for slot k of the tread (R158, R162). -/
def State.grantFor (s : State) (t k : Nat) : Nat :=
  let d := s.drover
  let g := tabGet (fun _ => 0) d.grants (16 * t + slotSegment s.workNs k)
  let gmin := s.num 0x3008 0
  let v := (d.tau * (g : Rat)).floor.toNat
  if !(s.tile t).flockOn then 0
  else if d.gminOnly then gmin
  else if s.temp t ≥ (s.num 0x4002 0 : Nat) then min v gmin
  else v

/-- Put a slot's grant in force at a tile. -/
def State.putGrant (s : State) (t k : Nat) : State :=
  let g := s.grantFor t k
  (s.setNum 0x3030 (t + 1) g).modTile t fun x => { x with grant := g, slotNo := k, slotWait := 0 }

/-- GRANT_SLOT_BOUNDARY (R136, R158, R159): the next 1 µs slot of a tile's work phase begins. -/
def execGrantSlotBoundary (tile : Fin 64) (s : State) : Res :=
  let t := tile.val
  let k := (s.tile t).slotNo + 1
  if !s.tick.running || s.tick.inLanding || !(s.tile t).flockOn || decide (k ≥ slotCount s.workNs) then .next s
  else
    let s := s.putGrant t k
    let cap := s.num 0x7040 0
    .next (s.modTile t fun x =>
      { x with balance := min (x.balance + x.grant) (cap * x.grant : Nat) + x.tradeDelta, tradeDelta := 0 })

/-! ## The thermal model (R166, R168) -/

/-- Rails mapped to a node (Table 07.4). -/
def nodeRails (i : Nat) : List Nat :=
  if i < 64 then [i, 0x40 + i]
  else if i < 68 then [0x80, 0x81]
  else if i < 80 then [0x90 + (i - 68)]
  else if i < 92 then [0xA0 + (i - 80)]
  else if i < 124 then [0xC0 + (i - 92)]
  else []

/-- Power of a node in mW from the powers of the rails: the hub's split by the factory's ratios, no input at the lid. -/
def State.nodePower (s : State) (rail : Nat → Rat) (i : Nat) : Rat :=
  let p := ratSum ((nodeRails i).map rail)
  if 64 ≤ i ∧ i < 68 then p * (tabGet (fun _ => 2500) s.nv.hubSplit (i - 64) : Nat) / 10000 else p

/-- Mean power of a rail over the windows since the last update. -/
def State.railMean (s : State) (r : Nat) : Rat := tabGet (fun _ => 0) s.drover.railSum r / (s.drover.railWindows : Nat)

/-- One explicit step of node i over 10 µs. -/
def State.stepNode (s : State) (i : Nat) : Rat :=
  let p := s.nodePower s.railMean i
  let flow := ratSum (s.nv.conduct.map fun c =>
    if c.1 = i then (c.2.2 : Rat) * (s.temp i - s.temp c.2.1)
    else if c.2.1 = i then (c.2.2 : Rat) * (s.temp i - s.temp c.1) else 0)
  s.temp i + (p - flow) / (100000 * (tabGet (fun _ => 1000) s.nv.heatCap i : Nat))

/-- Lower bound of a band, °C. -/
def bandBound (b : Nat) : Rat := if b = 1 then 85 else if b = 2 then 95 else 105

/-- The band of an estimate, coming from band b (R168). -/
def bandFrom (b : Nat) (x : Rat) : Nat :=
  let up := if x ≥ 105 then 3 else if x ≥ 95 then 2 else if x ≥ 85 then 1 else 0
  if up ≥ b then up
  else if b = 3 ∧ x > bandBound 3 - 3 then 3
  else if b ≥ 2 ∧ x > bandBound 2 - 3 then 2
  else if b ≥ 1 ∧ x > bandBound 1 - 3 then 1
  else 0

/-- Estimates of every node, with objects 0x4001. -/
def State.setTemps (s : State) (f : Nat → Rat) : State :=
  let t := (List.range 126).foldl (fun t i => tabSet (fun _ => 0) t i (f i)) []
  upTo 126 { s with drover := { s.drover with temps := t } } fun i s => s.setInt 0x4001 (i + 1) (16 * f i).floor

/-- Bands that the estimates now call for; they take effect at the next tick. -/
def State.noteBands (s : State) : State :=
  upTo 126 s fun i s =>
    let cur := s.num 0x4004 (i + 1)
    let b := bandFrom ((tabGet (fun _ => none) s.drover.newBands i).getD cur) (s.temp i)
    { s with drover := { s.drover with
        newBands := tabSet (fun _ => none) s.drover.newBands i (if b = cur then none else some b) } }

/-- The module trim (R158). -/
def State.trim (s : State) : State :=
  let d := s.drover
  let lim : Rat := (980 * s.num 0x3002 0 : Nat)
  { s with drover := { d with tau := if d.mean > lim then d.tau * lim / d.mean else min 1 (d.tau + 1 / 16) } }

/-- The highest diode reading, 1/16 °C. -/
def State.hottest (s : State) : Int := match s.drover.diodes with | [] => 0 | d :: l => l.foldl max d

/-- A shutdown record at detection, but for its number (Table 07.6). -/
def State.shutdownRecord (s : State) (cause node : Nat) : ShutdownRecord :=
  { epoch := s.epoch, uptime := (s.clock - s.boot.keeperAt) / 2000000000, pin := (s.drover.mean / 1000).floor.toNat
    dmax := s.hottest, test := if cause = 1 then (16 * s.temp node).floor else 0, node := node, cause := cause, seq := 0 }

/-- The keeper is to begin the shutdown sequence for a cause; its first step, module rein, is taken at once where treads run
(R170). -/
def State.callShutdown (s : State) (cause node : Nat) : State :=
  if s.drover.latch || s.drover.shutDue.isSome || !s.boot.booted then s
  else
    let r := s.shutdownRecord cause node
    let s := if s.tick.running then s.assertRein else s
    { s with drover := { s.drover with shutDue := some r } }

/-- The first node whose estimate reaches the shutdown threshold. -/
def State.hotNode (s : State) : Option Nat := (List.range 126).find? fun i => decide (s.temp i ≥ (s.num 0x4003 0 : Nat))

/-- THERMAL_UPDATE (R166, R158, R170): the powers are the means of the sense windows since the last update; the coolant stays
at its anchor. -/
def execThermalUpdate (s : State) : Res :=
  let s := (s.setTemps fun i => if i = 125 then s.drover.anchor else s.stepNode i).noteBands.trim
  let s : State := { s with drover := { s.drover with railSum := [], railWindows := 0 } }
  .next (match s.hotNode with | some i => s.callShutdown 1 i | none => s)

/-- The node at a diode's place: hub, gallery base tiles, tile-array base tiles (log entry 33). -/
def diodeNode (k : Nat) : Nat := [64, 67, 68, 74, 0, 7, 56, 63].getD k 0

/-- Put the diode readings, in 1/16 °C, into the keeper's objects. -/
def State.setDiodes (s : State) (l : List Int) : State :=
  upTo 8 { s with drover := { s.drover with diodes := l } } fun k s => s.setInt 0x0F22 (k + 1) (l.getD k 0)

/-- The anchor moves. -/
def State.setAnchor (s : State) (a : Rat) : State :=
  { s.setInt 0x4006 0 (16 * a).floor with drover := { s.drover with anchor := a } }

/-- The comparison of the diodes with the model (R167). -/
def State.compareDiodes (s : State) (l : List Int) : State :=
  let diffs := (List.range 8).map fun k => ((l.getD k 0 : Int) : Rat) / 16 - s.temp (diodeNode k)
  let big (x : Rat) : Bool := diffs.any fun d => decide (d > x) || decide (d < -x)
  let n5 := if big 5 then s.drover.diff5 + 1 else 0
  let n15 := if big 15 then s.drover.diff15 + 1 else 0
  let s := if n5 = 3 then (s.log 0x4005 srcKeeper 0).setAnchor (s.drover.anchor + ratSum diffs / 8) else s
  let s := if n15 = 3 then
      { s.log 0x4006 srcKeeper 0 with drover := { s.drover with modelFailed := true } }
    else s
  { s with drover := { s.drover with diff5 := n5 % 3, diff15 := n15 % 3 } }

/-- DIODE_READ (R167, R170, R419): the keeper's reading every 100 ms sets what ALERT's conditions call for, and 120 °C calls for
the shutdown; with the hub down there is no model to compare with. -/
def execDiodeRead (readings : List Int) (s : State) : Res :=
  let s := s.setDiodes readings
  let hot := readings.any fun x => decide (x ≥ 1600)
  let k := s.num 0x0F00 0
  let s := { s with alert := s.alert ||| BitVec.ofNat 8 ((if s.boot.halted then 8 else 0) + (if s.drover.latch then 4 else 0)
    + (if hot then 2 else 0) + if k = 3 then 1 else 0) }
  let s := match (List.range 8).find? fun k => decide (readings.getD k 0 ≥ 1920) with
    | some k => s.callShutdown 2 k
    | none => s
  .next (if s.boot.hubUp then s.compareDiodes readings else s)

/-! ## At the tick (R163–R165, R168, R169) -/

/-- The tile voltage of a clock target: the least entry of the factory's table at or above it (R164). -/
def State.voltFor (s : State) (mhz : Rat) : Nat :=
  match (s.nv.vf.filter fun e => decide ((e.1 : Rat) ≥ mhz)).foldl
      (fun (b : Option (Nat × Nat)) e => match b with
        | none => some e
        | some c => if e.1 < c.1 then some e else some c) none with
  | some e => e.2
  | none => 0

/-- The thermal limit at a tick (R169). -/
def State.limitAtTick (s : State) : State :=
  let thr : Rat := (s.num 0x4002 0 : Nat)
  let lim := s.num 0x4005 0
  let hot := clockNodes.any fun i => decide (s.temp i ≥ thr)
  let cool := clockNodes.all fun i => decide (s.temp i < thr - 5)
  let n := if cool then min 16 (s.drover.coolTicks + 1) else 0
  let new := if s.drover.modelFailed then 1000
    else if hot then max 700 (lim - 50)
    else if n ≥ 16 then min 1600 (lim + 25) else lim
  let below := decide ((new : Rat) < s.ratedClock)
  let s := if below && !s.drover.belowRated then s.log 0x4002 srcHub new
    else if !below && s.drover.belowRated then s.log 0x4003 srcHub new else s
  { s.setNum 0x4005 0 new with drover := { s.drover with coolTicks := n, belowRated := below } }

/-- Factory bias of a laser in a band, 0.1 mA (R177). -/
def State.factoryBias (s : State) (n line band : Nat) : Nat := tabGet (fun _ => 0) s.nv.bias (16 * (18 * n + line) + band)

/-- Bias of a laser now: on the ramp it goes linearly over 2 ms; a laser that is out has none (R177). -/
def State.biasNow (s : State) (n line : Nat) : Nat :=
  let l := s.laser n line
  let o := s.oe n
  let t := min (s.clock - o.rampAt) 4000000
  if l.state ≥ 2 then 0
  else if o.ramp then (l.biasFrom * (4000000 - t) + l.bias * t) / 4000000
  else l.bias

/-- A sled's band changes: its lasers take the new waveform over the ramp (R177). -/
def State.sledBand (s : State) (n b : Nat) : State :=
  let s := upTo 18 s fun line s =>
    let now := s.biasNow n line
    s.modLaser n line fun l => { l with biasFrom := now, bias := s.factoryBias n line b }
  (s.modOe n fun o => { o with waveform := b, ramp := true, rampAt := s.clock }).writeOe n

/-- The band in force of a die's hottest node: tile, or the hub's four quadrants, or an OE. -/
def State.hubBand (s : State) : Nat := ((List.range 4).map fun k => s.num 0x4004 (65 + k)).foldl max 0

/-- The sampling-point table of a die-to-die link: the band of the hotter of its two dies (Table 07.5; log entry 124). -/
def State.linkBand (s : State) (key : Nat) : Nat :=
  if key < 256 then
    let here := s.num 0x4004 (key / 4 + 1)
    if isGateway (key / 4) (key % 4) then max here s.hubBand
    else match neighbour (key / 4) (key % 4) with
      | some u => max here (s.num 0x4004 (u + 1))
      | none => here
  else max s.hubBand (s.num 0x4004 (69 + (key - 256)))

/-- Every die-to-die receiver's table follows the bands. -/
def State.setSampling (s : State) : State :=
  { s with drover := { s.drover with
    sampling := (List.range 268).foldl (fun x k => tabSet (fun _ => 0) x k (s.linkBand k)) [] } }

/-- The link of a die-to-die receiver: those of the tiles' ports, 4t + port; of the hub's gateways, 256 + row; of the ports of
OE n, 264 + 18n + port, port 8 its control port, and 9 more for the hub's end of each. -/
def receiverLink (r : Nat) : Nat :=
  if r < 256 then r else if r < 264 then 4 * (8 * (r - 256) + 7) + 1 else 256 + (r - 264) / 18

/-- A receiver trains the table of the band that its link is in; the other three follow from it by the factory's offsets (R342). What
training finds is a free value. -/
def State.trainReceiver (s : State) (r : Nat) : State :=
  let (v, s) := s.free
  let off (b : Nat) : Int := s.nv.bandOffsets.getD b 0
  let l := (List.range 4).map fun b => (v.toNat : Int) + off b - off (s.linkBand (receiverLink r))
  { s with drover := { s.drover with points := tabSet (fun _ => []) s.drover.points r l } }

/-- The sampling point that a receiver uses (R168). -/
def State.samplePoint (s : State) (r : Nat) : Int :=
  (tabGet (fun _ => []) s.drover.points r).getD (tabGet (fun _ => 0) s.drover.sampling (receiverLink r)) 0
/-- Band changes take effect (R168). -/
def State.bandsAtTick (s : State) : State :=
  let l := s.drover.newBands
  let s := { s with drover := { s.drover with newBands := [] } }
  let s := forEach l s fun e s => match e.2 with
    | none => s
    | some b =>
      let s := (s.log 0x4001 srcHub (e.1 + b * 2 ^ 16)).setNum 0x4004 (e.1 + 1) b
      if 80 ≤ e.1 ∧ e.1 < 92 then s.sledBand (e.1 - 80) b
      else if 92 ≤ e.1 ∧ e.1 < 124 then (s.refresh (2 * (e.1 - 92))).refresh (2 * (e.1 - 92) + 1)
      else s
  if l.any fun e => e.2.isSome then s.setSampling else s

/-- The target fixed at the last tick takes effect, and the next one is fixed (R163). -/
def State.clockAtTick (s : State) : State :=
  let now := s.drover.clockNext
  let next := s.clockTarget
  let s := if next ≠ now then s.log 0x3007 srcHub next.floor.toNat else s
  let s := s.setClock now
  { s with drover := { s.drover with clockNext := next, millivoltTile := s.voltFor now } }

/-- The voltage rises in the landing before a higher clock (R164). -/
def State.raiseVoltage (s : State) : State :=
  let v := s.voltFor s.drover.clockNext
  { s with drover := { s.drover with millivoltTile := max v s.drover.millivoltTile } }

/-- The drover's part of a tick: trim, grants of the first slot, floors of the landing that ends. -/
def State.droverTick (s : State) : State :=
  let n := s.tick.reinsInTread
  let s := if n > 0 then s.log 0x3001 srcHub n else s
  let s := { s with
    tick := { s.tick with reinsInTread := 0 }
    drover := { s.drover with
      tau := 1, gminOnly := false, grants := s.drover.nextGrants, nextGrants := [], nonTileSum := 0, nonTileCount := 0
      reinLast := decide (n > 0) || s.drover.reinCarried || s.drover.rein, reinCarried := s.drover.rein } }
  upTo 64 s fun t s =>
    let x := s.tile t
    if x.floorWindows = 0 then s
    else (s.setF32 0x3013 (t + 1) (x.floorSum / x.floorWindows / 1000)).modTile t fun x =>
      { x with floorMw := x.floorSum / x.floorWindows, floorSum := 0, floorWindows := 0 }

end Sys2Proof.Machine
end

