-- ==== Sys2Proof/Machine/Fabric.lean ====
section
/-! DEFINITION. What optics, lanes and links share: lane maps and lane states, loss of lock, link breaks, retirement and
training, queued flits, steering notices, lane moves (R184–R189, R195, R207, R212, R216, R217, R234, R241–R243). Fiber f is
the global fiber id; its OE is f / 8. -/

namespace Sys2Proof.Machine

/-! ## Rings and maps -/

/-- Key of a transmit or receive ring. -/
def ringAt (rx : Bool) (fiber line : Nat) : Nat := (if rx then 1728 else 0) + 18 * fiber + line

/-- A ring is LOCKED. -/
def State.locked (s : State) (rx : Bool) (fiber line : Nat) : Bool := (s.ring (ringAt rx fiber line)).state == 4

/-- Line of a lane in a map; 255 absent. -/
def lineOf (m : List Nat) (lane : Nat) : Nat := m.getD lane 255

/-- The lane that a line carries. -/
def laneOn (m : List Nat) (line : Nat) : Option Nat := (List.range 16).find? fun i => m.getD i 255 == line

/-- Lines that a map names. -/
def mapped (m : List Nat) : List Nat := m.filter (· ≠ 255)

/-- A laser that is lit and not on its way out: not faded, failed or off, no fade warning (R185). -/
def LaserSt.good (l : LaserSt) : Bool := decide (l.state < 2) && !l.warned

/-- A test of this end of a line. -/
def TestSt.on (x : TestSt) (rx : Bool) (f line : Nat) : Bool :=
  x.running.any fun e => e.1 == rx && e.2.1 == f && e.2.2.1 == line

/-- A receive line is required: mapped, exchanged, tested, or its fiber trains (Table 09.4). -/
def State.rxNeeded (s : State) (f line : Nat) : Bool :=
  let x := s.fiber f
  x.training || x.rxMap.contains line || s.test.on true f line
    || (match x.exchRx with | some e => e.toLine == line | none => false)

/-! ## Lane states (Table 09.4) -/

/-- Put a receive lane in a state; every receive lane of a fiber under loss of signal is DOWN (R214). -/
def State.rxTo (s : State) (f line st : Nat) : State :=
  let st := if (s.fiber f).los then 0 else st
  s.modRxLane f line fun l => l.enter (18 * f + line) s.clock s.nv.taps st

/-- Put a transmit lane in a state. -/
def State.txTo (s : State) (f line st : Nat) : State := s.modTxLane f line fun l => l.turn (18 * f + line) s.clock st

/-- A lane carries lane `lane` of the stream on a line. -/
def State.rxServe (s : State) (f line lane : Nat) : State :=
  s.modRxLane f line fun l => { l.enter (18 * f + line) s.clock s.nv.taps 4 with lane := lane }

/-- A line sends lane `lane` of the stream: in SERVICE, TRAIN or DUP. -/
def State.txCarry (s : State) (f line st lane : Nat) : State :=
  s.modTxLane f line fun l => { l.turn (18 * f + line) s.clock st with lane := lane }
def State.txServe (s : State) (f line lane : Nat) : State := s.txCarry f line 4 lane

/-- A transmit lane whose ring is LOCKED and whose laser is lit; any other is DOWN (Table 09.4). -/
def State.txLit (s : State) (f line : Nat) : Bool := s.locked false f line && decide ((s.laser (f / 8) line).state < 2)

/-- A line is to send lane `lane` in a state; DOWN where its ring is not LOCKED or its laser not lit (Table 09.4). -/
def State.txUse (s : State) (f line st lane : Nat) : State :=
  if s.txLit f line then s.txCarry f line st lane else s.txTo f line 0

/-- A line carries no lane: electrical idle, or DOWN (R217). -/
def State.txRest (s : State) (f line : Nat) : State := s.txTo f line (if s.txLit f line then 5 else 0)
def State.rxRest (s : State) (f line : Nat) : State := s.rxTo f line (if s.locked true f line then 5 else 0)

/-- A fiber direction with a mapped receive lane not in SERVICE is in loss of lock; object 0x5015 counts the entries
(R212). -/
def State.noteLock (s : State) (f : Nat) : State :=
  let x := s.fiber f
  let bad := (mapped x.rxMap).any fun l => (s.rxLane f l).state != 4
  let s := if bad && !x.rxLossOfLock then s.count 0x5015 (f + 1) 1 else s
  s.modFiber f fun x => { x with rxLossOfLock := bad }

/-- A receive lane whose ring locks, or whose fiber regains light, hunts where its line is required. -/
def State.rxHunt (s : State) (f line : Nat) : State :=
  if s.locked true f line && !(s.fiber f).los && s.rxNeeded f line && (s.rxLane f line).state == 0 then s.rxTo f line 1 else s

/-! ## Flits queued and lost (R234, R243) -/

/-- Count flits lost on a link. -/
def State.lose (s : State) (f n : Nat) : State := if n = 0 then s else s.count 0x5049 (f + 1) n

/-- Event 0x5035 with the count, where some are lost. -/
def State.loseLogged (s : State) (f n : Nat) : State := if n = 0 then s else (s.lose f n).log 0x5035 srcHub f

/-- A class queue. -/
def LinkSt.queue (l : LinkSt) (tc : Nat) : List QFlit := tabGet (fun _ => []) l.queues tc
def LinkSt.setQueue (l : LinkSt) (tc : Nat) (q : List QFlit) : LinkSt :=
  { l with queues := tabSet (fun _ => []) l.queues tc q }

/-- Add to place k of a per-class list. -/
def bump (l : List Nat) (k n : Nat) : List Nat := l.set k (l.getD k 0 + n)

/-- An entry leaves a receive pool (R238). -/
def State.freePool (s : State) (pool : Option Nat) (tc : Nat) : State :=
  match pool with
  | none => s
  | some f => s.modLink f fun l => { l with freed := bump l.freed tc 1, held := l.held.set tc (l.held.getD tc 0 - 1) }

/-- Append a flit to its class queue; while the link is not UP it is discarded and counted (R234). -/
def State.enqueue (s : State) (f : Nat) (q : QFlit) : State :=
  if (s.link f).state = 3 then s.modLink f fun l => l.setQueue q.tc (l.queue q.tc ++ [q])
  else (s.lose f 1).freePool q.pool q.tc

/-- Empty a link's queues: what they held is lost (R234). -/
def State.emptyQueues (s : State) (f : Nat) : State :=
  let l := s.link f
  let held := l.queues.flatMap (·.2) ++ l.cut.map (·.flit)
  let s := forEach held s fun q s => s.freePool q.pool q.tc
  (s.lose f (held.length + l.tickOut.length)).modLink f fun l => { l with queues := [], tickOut := [], cut := [] }

/-! ## Steering notices (Table 08.6) -/

/-- Bytes of a notice. -/
def noticeBytes (n : Notice) : List Byte :=
  leBytes 16 (n.type % 2 ^ 8 + n.fiber % 2 ^ 16 * 2 ^ 16 + n.lane % 2 ^ 8 * 2 ^ 40 + n.fromLine % 2 ^ 8 * 2 ^ 48
    + n.toLine % 2 ^ 8 * 2 ^ 56 + n.reason % 2 ^ 8 * 2 ^ 64 + n.seq % 2 ^ 24 * 2 ^ 80 + n.token % 2 ^ 16 * 2 ^ 112)

/-- The notice of a MGMT payload. -/
def noticeOf (b : List Byte) : Notice :=
  let v := leNat (b.take 16)
  { token := field v 112 16, seq := field v 80 24, reason := field v 64 8, toLine := field v 56 8, fromLine := field v 48 8
    lane := field v 40 8, fiber := field v 16 16, type := field v 0 8 }

/-- Pad a payload to 240 bytes. -/
def pad240 (b : List Byte) : List Byte := (b ++ List.replicate 240 0#8).take 240

/-- Queue a notice in the MGMT class of the fiber pair's own link (R186). -/
def State.notice (s : State) (f type token lane fromLine toLine reason seq : Nat) : State :=
  let n : Notice := { token := token, seq := seq, reason := reason, toLine := toLine, fromLine := fromLine, lane := lane
                      fiber := f, type := type }
  s.enqueue f { tc := 2, slot := 0, payload := pad240 (noticeBytes n), own := true }

/-- Notice types. -/
def nDup : Nat := 0x40
def nSwitched : Nat := 0x41
def nRefuse : Nat := 0x42
def nAsk : Nat := 0x43
def nDrop : Nat := 0x44
def nRestore : Nat := 0x45

/-- A fresh exchange identifier of a fiber. -/
def State.token (s : State) (f : Nat) : Nat × State :=
  ((s.fiber f).nextToken, s.modFiber f fun x => { x with nextToken := (x.nextToken + 1) % 65536 })

/-! ## Tests stop (R220) -/

/-- Checked bits of a pattern lock (R219): 65 UI in one ns raw, 64 pattern bits framed. -/
def prbsBits (config cycles : Nat) : Nat := if config.testBit 3 then 32 * cycles else 130 * cycles / 4

/-- Bits that the pattern lock in progress has checked, less the `drop` last ones. -/
def State.lockBits (s : State) (drop : Nat) : Nat :=
  match s.test.lockAt with
  | none => 0
  | some t =>
    let cfg := (s.test.running.find? fun e => e.1 && some (e.2.1, e.2.2.1) == s.test.checker).elim 0 (·.2.2.2)
    prbsBits cfg (s.clock - t) - drop

/-- Errored ones among the first `n`: the line's, free values bit by bit (log entry 42). -/
def State.lockErrors (s : State) (n : Nat) : Nat := (List.range n).countP (Config.lineError s.test.lockDraw)

/-- The checker's pattern lock ends: its bits are counted but for the `drop` last ones. -/
def State.prbsUnlock (s : State) (drop : Nat) : State :=
  if s.test.lockAt.isNone then s
  else
    let n := s.lockBits drop
    let u := ((s.count 0xF055 0 n).count 0xF054 0 (s.lockErrors n)).setNum 0xF056 0 0
    { u with test := { u.test with lockAt := none } }

/-- End a test on this end of a line: the lane goes to electrical idle. -/
def State.endTest (s : State) (rx : Bool) (f line : Nat) : State :=
  if s.test.on rx f line then
    let s := if rx && s.test.checker == some (f, line) then s.prbsUnlock 0 else s
    let s := { s with test := { s.test with
      running := s.test.running.filter fun e => !(e.1 == rx && e.2.1 == f && e.2.2.1 == line) } }
    if rx then s.rxRest f line else s.txRest f line
  else s

/-- Lines that no test holds carry no lane any more (R217). -/
def State.restLanes (s : State) (f : Nat) : State :=
  (upTo 18 s fun line s =>
    let s := if s.test.on false f line then s else s.txRest f line
    if s.test.on true f line then s else s.rxRest f line).noteLock f

/-- Stop the PRBS test if one runs on this end of a line; event 0x5016. -/
def State.stopTest (s : State) (rx : Bool) (f line : Nat) : State :=
  if s.test.on rx f line then (s.log 0x5016 srcHub (256 * f + line)).endTest rx f line else s

/-- A notice that names lines stops their tests at this end (R220). -/
def State.stopTests (s : State) (rx : Bool) (f : Nat) (lines : List Nat) : State :=
  forEach (lines.filter (· ≤ 17)) s fun line s => s.stopTest rx f line

/-! ## Training (R216) -/

/-- A fiber pair starts training: every mapped line with a LOCKED modulator ring sends TRAIN, a line that carries no lane
rests, every receive lane with a LOCKED drop ring hunts, the ROW counter is zero. A test keeps its line. -/
def State.startTraining (s : State) (f : Nat) : State :=
  let s := s.modFiber f fun x =>
    { x with training := true, mapTaken := false, streaming := false, rxrdySent := false, rxrdyRows := 0, row := 0
             stream := [], modeEnd := none, rxPos := 0, exchTx := none, exchRx := none, asks := [], askHeld := [], modeDue := none
             restoring := none, dropLane := none }
  let m := (s.fiber f).txMap
  let s := upTo 18 s fun line s =>
    match laneOn m line with
    | some lane => if s.txLit f line then s.txCarry f line 1 lane else s.txTo f line 0
    | none => if s.test.on false f line then s else s.txRest f line
  (upTo 18 s fun line s =>
    if s.test.on true f line then s
    else s.rxTo f line (if s.locked true f line then 1 else 0)).noteLock f

/-! ## Link states (R241, R243) -/

/-- Pool entries of a link leave the queues in which they wait (R243). -/
def State.dropPool (s : State) (f : Nat) : State :=
  upTo 96 s fun g s =>
    let keep (q : QFlit) : Bool := q.pool != some f
    if (s.link g).queues.all (fun e => e.2.all keep) && (s.link g).cut.all fun c => keep c.flit then s
    else s.modLink g fun l =>
      { l with queues := (l.queues.map fun e => (e.1, e.2.filter keep)).filter fun e => !e.2.isEmpty
               cut := l.cut.filter fun c => keep c.flit }

/-- Retire a link: both ends' buffers, spills, queues and pool contents are lost, all lanes go to electrical idle. -/
def State.retireLink (s : State) (f : Nat) : State :=
  if (s.link f).state = 5 then s
  else
    let s := (s.log 0x5034 srcHub f).emptyQueues f
    let l := s.link f
    let kept := (l.next + 2 ^ 24 - l.oldest) % 2 ^ 24
    let s := ((s.loseLogged f (kept + l.held.sum)).dropPool f).setNum 0x5046 (f + 1) 0
    let s := s.modLink f fun l =>
      { l with state := 5, sentStart := false, gotStart := false, next := 0, oldest := 0, replay := [], spilled := 0, unreadable := 0
               spillWaiting := 0, spillRead := false, replayAt := none, lastReplay := none, noProgress := 0, lcDue := []
               rxState := false, nakPending := false, held := [0, 0, 0, 0, 0], handed := [] }
    let s := s.modFiber f fun x =>
      { x with training := false, exchTx := none, exchRx := none, moves := [], asks := [], askHeld := [], modeDue := none
               restoring := none, stream := [], modeEnd := none }
    s.restLanes f

/-- Breaks that the retire window still counts, with this one (R243). -/
def State.noteBreak (s : State) (f : Nat) : State :=
  let w := s.gov 0x5036 0 * 2000000000
  s.modLink f fun l => { l with breakTimes := s.clock :: l.breakTimes.filter fun t => decide (s.clock < t + w) }

/-- A link enters RETRAIN: queues are emptied and timers stop; buffers and the receive state are kept (R241). -/
def State.toRetrain (s : State) (f : Nat) : State :=
  (s.emptyQueues f).modLink f fun l =>
    { l with state := 4, sentStart := false, gotStart := false, lcDue := [], spillRead := false, noProgress := 0 }

/-- The far end retrains: this end follows it, and counts no break of its own (R241; log entry 114). -/
def State.followRetrain (s : State) (f : Nat) : State :=
  let st := (s.link f).state
  if (st = 3 ∨ st = 2) ∧ !(s.fiber f).training then (s.toRetrain f).startTraining f else s

/-- A link is broken (R241): event 0x5033, RETRAIN with training started; at the retire threshold it is retired. -/
def State.breakLink (s : State) (f : Nat) : State :=
  let st := (s.link f).state
  if st ≠ 3 ∧ st ≠ 2 ∧ st ≠ 1 then s
  else
    let s := ((s.log 0x5033 srcHub f).count 0x5047 (f + 1) 1).noteBreak f
    let s := s.toRetrain f
    if (s.link f).breakTimes.length ≥ s.gov 0x5035 0 then s.retireLink f else s.startTraining f

/-- A link goes DOWN: its lanes are no longer trained and carry nothing (R217). -/
def State.linkDown (s : State) (f : Nat) : State :=
  let st := (s.link f).state
  if st = 5 ∨ st = 0 then s
  else
    let s := s.emptyQueues f
    let s := s.modFiber f fun x =>
      { x with training := false, exchTx := none, exchRx := none, asks := [], askHeld := [], modeDue := none, restoring := none
               moves := [], stream := [], modeEnd := none }
    (s.modLink f fun l => { l with state := 0, sentStart := false, gotStart := false, lcDue := [], spillRead := false }).restLanes f

/-- A fiber direction is retired: its link is retired (R195, R243). -/
def State.retireDirection (s : State) (f : Nat) (rx : Bool) : State :=
  let s := (s.log 0x5007 srcHub (f + if rx then 256 else 0)).modFiber f fun x =>
    if rx then { x with rxState := 2 } else { x with txState := 2 }
  s.retireLink f

/-! ## Moves (R185, R186, R188, R189, R195) -/

/-- A line may take a lane of this transmit direction: it carries none, its ring is LOCKED, its laser is neither failed nor
faded (R184, R185; log entry 113). -/
def State.standbyFree (s : State) (f line : Nat) : Bool :=
  let x := s.fiber f
  (laneOn x.txMap line).isNone && s.locked false f line && (s.laser (f / 8) line).good
    && (match x.exchTx with | some e => e.toLine != line | none => true)
    && (match x.restoring with | some r => r.2.2 != line | none => true)

/-- The first free standby in an order. -/
def State.standby (s : State) (f : Nat) (order : List Nat) : Option Nat := order.find? (s.standbyFree f)

/-- The standby orders of R185. -/
def permanentOrder : List Nat := [16, 17]
def calibrationOrder : List Nat := [17, 16]

/-- Give up the exchange of a transmit direction: the OE is told, the new line carries nothing again. -/
def State.dropExchange (s : State) (f : Nat) : State :=
  match (s.fiber f).exchTx with
  | none => s
  | some e =>
    let s := if (s.txLane f e.toLine).state = 7 then (s.txRest f e.toLine).writeOe (f / 8) else s
    s.modFiber f fun x => { x with exchTx := none }

/-- Step 1 of R186: the hub orders the OE to copy the lane onto the new line, and DUP is sent. -/
def State.startMove (s : State) (f lane dst reason : Nat) : State :=
  let old := lineOf (s.fiber f).txMap lane
  let (tok, s) := s.token f
  let s := ((s.stopTests false f [old, dst]).txCarry f dst 7 lane).writeOe (f / 8)
  let e : Exchange := ⟨tok, lane, old, dst, reason, s.epoch, true, false⟩
  let s := s.modFiber f fun x => { x with exchTx := some e }
  s.notice f nDup tok lane old dst reason 0

/-- A move waits for the exchange in progress, one under R188 in front of the others (R189). `line` is the line to take under
REASON 2, the line to leave under any other. -/
def State.waitMove (s : State) (f lane reason line : Nat) (front : Bool) : State :=
  s.modFiber f fun x =>
    { x with moves := if front then (lane, reason, line) :: x.moves else x.moves ++ [(lane, reason, line)] }

/-- A fiber direction goes thin, or is retired if it is thin already (R195): DROP, then a MODE group at the next group
boundary. -/
def State.thinOut (s : State) (f lane reason : Nat) : State :=
  let x := s.fiber f
  if x.txState ≠ 0 ∨ x.modeDue.isSome then s.retireDirection f false
  else
    let line := lineOf x.txMap lane
    let (tok, s) := ((s.log 0x5006 srcHub (256 * f + lane)).stopTests false f [line]).token f
    (s.notice f nDrop tok lane line 255 reason 0).modFiber f fun x => { x with modeDue := some (true, lane, line) }

/-- A calibration step of the OE holds a standby of this fiber (R189). -/
def State.standbyHeld (s : State) (f : Nat) : Bool :=
  match (s.oe (f / 8)).cal with
  | none => false
  | some c => c.moved.any fun m => m.1 == f

/-- Reasons under which R188 moves a lane without the comparison. -/
def unwarned (reason : Nat) : Bool := reason == 5 || reason == 6

/-- A lane leaves its line: to the first free standby, or it waits for an exchange or a calibration step, or with no
standby it stays (a fade) or the direction thins (R189, R193, R195). A lane out of service at once gives up its own exchange
in progress (event 0x5008) and moves without the comparison (R188); one that an exchange already takes off is left to it. -/
def State.leaveLine (s : State) (f lane reason : Nat) : State :=
  let x := s.fiber f
  if x.txState = 2 then s
  else
    let own := x.exchTx.any fun e => e.lane == lane && e.fromLine == lineOf x.txMap lane
    if own && !unwarned reason then s
    else if x.exchTx.isSome && !own then s.waitMove f lane reason (lineOf x.txMap lane) (unwarned reason)
    else
      let s := if own then (s.log 0x5008 srcHub f).dropExchange f else s
      match s.standby f permanentOrder with
      | some t => s.startMove f lane t reason
      | none =>
        if s.standbyHeld f && !unwarned reason then s.waitMove f lane reason (lineOf x.txMap lane) false
        else if reason = 3 then s.log 0x5006 srcHub (256 * f + lane)
        else s.thinOut f lane reason

/-- Begin to restore a dropped lane on a line whose ring is LOCKED and whose laser is lit (R207). -/
def State.startRestore (s : State) (f lane line reason : Nat) : State :=
  if !s.txLit f line then s
  else
    let (tok, s) := s.token f
    let s := ((s.stopTests false f [line]).txCarry f line 1 lane).writeOe (f / 8)
    (s.notice f nRestore tok lane 255 line reason 0).modFiber f fun x => { x with restoring := some (tok, lane, line) }

/-- Ask the far transmitter to vacate or take a line of the incoming direction (R186). -/
def State.ask (s : State) (f lane fromLine toLine reason : Nat) : State :=
  let (tok, s) := (s.stopTests true f [fromLine, toLine]).token f
  (s.notice f nAsk tok lane fromLine toLine reason 0).modFiber f fun x => { x with asks := x.asks ++ [(tok, lane, reason)] }

/-! ## Lasers (R194, R195) -/

/-- Fibers of an OE. -/
def oeFibers (n : Nat) : List Nat := (List.range 8).map (8 * n + ·)

/-- Fibers of an OE on which a line carries a lane, with the lane. -/
def State.lanesOf (s : State) (n line : Nat) : List (Nat × Nat) :=
  (oeFibers n).filterMap fun f => (laneOn (s.fiber f).txMap line).map fun i => (f, i)

/-- A laser's modulator rings go to DARK and its transmit lanes DOWN. -/
def State.darken (s : State) (n line : Nat) : State :=
  (forEach (oeFibers n) s fun f s =>
    ((s.modRing (ringAt false f line) fun r => if r.state = 6 then r else { r with state := 0, heat := 0 }).stopTest false f line).txTo
      f line 0).writeOe n

/-- A faded laser without lanes is switched off (R194). -/
def State.switchOffFaded (s : State) (n line : Nat) : State :=
  let l := s.laser n line
  if l.warned && decide (l.state < 2) && (s.lanesOf n line).isEmpty then
    let s := s.modLaser n line fun l => { l with state := 2 }
    let s := { s with nv := { s.nv with fadedLasers := s.nv.fadedLasers ++ [18 * n + line] } }
    s.darken n line
  else s

/-- A laser fails (R178, R188, R195): event 0x500B, its lanes leave at once; a free standby logs event 0x500F. -/
def State.failLaser (s : State) (n line : Nat) : State :=
  if (s.laser n line).state ≥ 2 then s
  else
    let lanes := s.lanesOf n line
    let s := (s.log 0x500B (srcOe n) line).modLaser n line fun l => { l with state := 3 }
    let s := { s with nv := { s.nv with failedLasers := s.nv.failedLasers ++ [18 * n + line] } }
    let s := s.darken n line
    let s := if lanes.isEmpty ∧ line ≥ 16 then s.log 0x500F (srcOe n) line else s
    forEach lanes s fun e s => s.leaveLine e.1 e.2 6

/-- Fade warning (R193): event 0x5004, every lane of the line moves; a free standby is switched off at once. -/
def State.fadeWarning (s : State) (n line : Nat) : State :=
  let l := s.laser n line
  if l.warned || decide (l.state ≥ 2) then s
  else
    let s := (s.log 0x5004 (srcOe n) line).modLaser n line fun l => { l with warned := true }
    let lanes := s.lanesOf n line
    if lanes.isEmpty then
      (if line ≥ 16 then s.log 0x500F (srcOe n) line else s).switchOffFaded n line
    else forEach lanes s fun e s => s.leaveLine e.1 e.2 3

end Sys2Proof.Machine
end

