-- ==== Sys2Proof/Machine/Optics.lean ====
section
/-! DEFINITION. Rings, lasers, steering exchanges, the calibration rotation and the shutters (R177–R199). -/

namespace Sys2Proof.Machine

/-! ## The calibration step (R190–R192) -/

/-- The current tread lies in a calibration window. -/
def State.inWindow (s : State) : Bool := s.tick.running && decide (s.epoch % s.gov 0x5002 0 < s.gov 0x5003 0)

/-- Change an OE's calibration step. -/
def State.modCal (s : State) (n : Nat) (f : CalStep → CalStep) : State := s.modOe n fun o => { o with cal := o.cal.map f }

/-- Event 0x5009 with OE, line and result: 0 done, 1 skipped, 2 not complete in time. -/
def State.calEvent (s : State) (n line result : Nat) : State := s.log 0x5009 (srcOe n) (line + result * 2 ^ 8)

/-- A lane leaves the line of a calibration step: to a standby, dropped inside a window, or the step waits for one. -/
def State.calOut (s : State) (f lane : Nat) : State :=
  let n := f / 8
  if (s.fiber f).exchTx.isSome then s.waitMove f lane 1 (lineOf (s.fiber f).txMap lane) false
  else match s.standby f calibrationOrder with
    | some t => s.startMove f lane t 1
    | none =>
      if s.inWindow then s.thinOut f lane 1
      else (s.log 0x500A (srcOe n) (256 * f + lane)).modCal n fun c => { c with waitingWindow := true }

/-- A ring is skipped in a step: receive or not, fiber. -/
def State.skipRing (s : State) (n : Nat) (rx : Bool) (f : Nat) : State :=
  s.modCal n fun c => { c with skipped := c.skipped ++ [(rx, f)] }

/-- Step 1 of R191 on one transmit fiber: a thin one is skipped, the exchange of a shuttered one waits for its shutter, the
ring of a laser that is out is left alone. -/
def State.steerOutTx (s : State) (n line : Nat) (noLaser : Bool) (f : Nat) : State :=
  let x := s.fiber f
  if noLaser then s.skipRing n false f
  else if x.txState = 1 then (s.calEvent n line 1).skipRing n false f
  else match laneOn x.txMap line with
    | none => s
    | some i =>
      if x.txState ≠ 0 then (s.calEvent n line 1).skipRing n false f
      else if x.shutterClosed || x.exchTx.any (fun e => e.lane == i && e.reason == 1) then s
      else s.calOut f i

/-- Step 1 of R191 on one receive fiber: one under loss of signal, and a thin one, is skipped. -/
def State.steerOutRx (s : State) (n line f : Nat) : State :=
  let x := s.fiber f
  if x.los then s.skipRing n true f
  else if x.rxState = 1 then (s.calEvent n line 1).skipRing n true f
  else match laneOn x.rxMap line with
    | none => s
    | some i =>
      if x.rxState ≠ 0 then (s.calEvent n line 1).skipRing n true f
      else (s.ask f i line 255 1).modCal n fun c => { c with asked := c.asked ++ [f] }

/-- Step 1 of R191 on the OE's fibers. -/
def State.steerOut (s : State) (n line : Nat) (noLaser : Bool) : State :=
  forEach (oeFibers n) s fun f s => (s.steerOutTx n line noLaser f).steerOutRx n line f

/-- Something of step 1 is still under way. -/
def State.steeringOut (s : State) (n : Nat) (c : CalStep) : Bool :=
  c.waitingWindow || !c.asked.isEmpty || (oeFibers n).any fun f =>
    (s.fiber f).exchTx.any (fun e => e.reason == 1 && e.fromLine == c.line)
      || (s.fiber f).moves.any (fun m => m.2.1 == 1 && m.2.2 == c.line)
      || (s.fiber f).modeDue.any (fun m => m.1 && m.2.2 == c.line)
      || (s.fiber f).modeEnd.any fun m => m.1 && m.2.2 == c.line

/-- Rings of a step: receive or not, fiber. -/
def calRings (n : Nat) (c : CalStep) : List (Bool × Nat) :=
  ((oeFibers n).flatMap fun f => [(false, f), (true, f)]).filter fun r => !c.skipped.contains r

/-- Step 4 of R191: lanes return to the line; those of a retired ring stay, as permanent moves. -/
def State.steerBack (s : State) (n : Nat) (c : CalStep) : State :=
  let s := s.modCal n fun c => { c with phase := 3 }
  let s := forEach c.moved s fun m s =>
    if s.locked false m.1 c.line then
      if (s.fiber m.1).exchTx.isSome then s.waitMove m.1 m.2 2 c.line false
      else s.startMove m.1 m.2 c.line 2
    else (s.log 0x5005 (srcOe n) (256 * m.1 + m.2)).modCal n fun c => { c with moved := c.moved.filter (· ≠ m) }
  let s := forEach c.dropped s fun m s =>
    if s.locked false m.1 c.line then s.startRestore m.1 m.2 c.line 2
    else s.modCal n fun c => { c with dropped := c.dropped.filter (· ≠ m) }
  forEach c.gone s fun m s =>
    if s.locked true m.1 c.line then s.ask m.1 m.2 (lineOf (s.fiber m.1).rxMap m.2) c.line 2
    else s.modCal n fun c => { c with gone := c.gone.filter (· ≠ m) }

/-- Whether the rings of a step have all ended in LOCKED or RETIRED. -/
def State.ringsDone (s : State) (n : Nat) (c : CalStep) : Bool :=
  (calRings n c).all fun r =>
    let st := (s.ring (ringAt r.1 r.2 c.line)).state
    st == 4 || st == 6

/-- The transmitter refuses. -/
def State.refuse (s : State) (f : Nat) (n : Notice) : State :=
  s.notice f nRefuse n.token n.lane n.fromLine n.toLine n.reason 0

/-- The line that an ASK calls for, if it is free: the lane's own line under REASON 2, else the first standby. -/
def State.askLine (s : State) (f : Nat) (n : Notice) : Option Nat :=
  if n.reason = 2 then
    (if n.toLine ≤ 17 ∧ (s.standbyFree f n.toLine
        ∨ (s.fiber f).exchTx.any fun e => e.lane == n.lane && e.fromLine == n.toLine) then some n.toLine else none)
  else s.standby f (if n.reason = 1 then calibrationOrder else permanentOrder)

/-- Without a line an ASK may still be met by dropping the lane: a calibration's, of a full direction inside a window (R191). -/
def State.mayDrop (s : State) (f : Nat) (n : Notice) : Bool :=
  n.reason == 1 && s.inWindow && (s.fiber f).txState == 0 && (s.fiber f).modeDue.isNone

/-- An ASK whose turn has come (R186, R191): the lane moves, or is dropped, or the ASK is refused. -/
def State.serveAsk (s : State) (f : Nat) (n : Notice) : State :=
  match s.askLine f n with
  | some t => s.startMove f n.lane t n.reason
  | none => if s.mayDrop f n then s.thinOut f n.lane 1 else s.refuse f n

/-- The next waiting move of a fiber, once its exchange has ended; one whose lane is not on the line that it leaves, or is on
the line that it takes, is over. One that an ASK called for is answered. -/
def State.oneMove (s : State) (f : Nat) : State :=
  match (s.fiber f).moves with
  | [] => s
  | (lane, reason, line) :: t =>
    if (s.fiber f).exchTx.isSome then s
    else
      let mine (n : Notice) : Bool := n.lane == lane && n.reason == reason
      let held := (s.fiber f).askHeld.find? mine
      let s := s.modFiber f fun x => { x with moves := t, askHeld := x.askHeld.filter fun n => !mine n }
      let onLine := lineOf (s.fiber f).txMap lane == line
      if onLine == (reason == 2) then s
      else match held with
        | some n => s.serveAsk f n
        | none =>
          if reason = 2 then (if s.standbyFree f line then s.startMove f lane line 2 else s)
          else if reason = 1 then s.calOut f lane
          else s.leaveLine f lane reason

/-- Waiting moves of a fiber go on until one begins an exchange. -/
def State.nextMove (s : State) (f : Nat) : State := forEach (s.fiber f).moves s fun _ s => s.oneMove f

/-- Step 3 of R191: the step's rings go to DARK and are acquired from SWEEP; FAILS stays, as no lock was verified. -/
def State.acquireRings (s : State) (n : Nat) (c : CalStep) : State :=
  let s := s.modCal n fun c => { c with phase := 2, discarded := false }
  (forEach (calRings n c) s fun r s =>
    let k := ringAt r.1 r.2 c.line
    if (s.ring k).state = 6 then s
    else
      let s := s.modRing k fun x => { x with state := 1, heat := 0 }
      if r.1 then (s.rxTo r.2 c.line 0).noteLock r.2 else s.txTo r.2 c.line 0).writeOe n

/-- A step whose lanes have left the line goes on to the laser, or without one to the rings. -/
def State.calOutDone (s : State) (n : Nat) : State :=
  match (s.oe n).cal with
  | none => s
  | some c =>
    if c.phase = 0 ∧ !s.steeringOut n c then
      (if c.noLaser then s.acquireRings n c else (s.modCal n fun c => { c with phase := 1 }).writeOe n)
    else s

/-- A step whose rings have settled steers back. -/
def State.calRingsDone (s : State) (n : Nat) : State :=
  match (s.oe n).cal with
  | none => s
  | some c => if c.phase = 2 ∧ s.ringsDone n c then s.steerBack n c else s

/-- A step whose lanes are back is complete. -/
def State.calBackDone (s : State) (n : Nat) : State :=
  match (s.oe n).cal with
  | none => s
  | some c =>
    if c.phase = 3 ∧ c.moved.isEmpty ∧ c.dropped.isEmpty ∧ c.gone.isEmpty then
      let s := (s.calEvent n c.line 0).modOe n fun o => { o with cal := none }
      forEach (oeFibers n) s fun f s => s.nextMove f
    else s

/-- A step goes on when what it waits for has happened (R191). -/
def State.calAdvance (s : State) (n : Nat) : State := ((s.calOutDone n).calRingsDone n).calBackDone n

/-- CALIBRATION_STEP_TIME (R190): step k calibrates line k / 12 of OE k mod 12; flagged lines come first. -/
def execCalibrationStepTime (k : Fin 216) (s : State) : Res :=
  let n := k.val % 12
  let o := s.oe n
  if s.gov 0x5008 0 = 0 ∨ !o.admitted then .next s
  else
    let queue := o.displaced ++ [k.val / 12]
    let line := match o.flagged with | l :: _ => l | [] => queue.headD 0
    let rest := match o.flagged with | _ :: _ => queue | [] => queue.tail
    if o.cal.isSome then .next (s.modOe n fun o => { o with displaced := queue })
    else
      let s := s.modOe n fun o => { o with flagged := o.flagged.tail, displaced := rest }
      let noLaser := decide ((s.laser n line).state ≥ 2)
      let s := s.modOe n fun o => { o with cal := some { line := line, began := s.epoch, noLaser := noLaser } }
      .next ((s.steerOut n line noLaser).calAdvance n)

/-- CALIBRATION_WINDOW_START (R191): steps that wait for a window go on. -/
def execCalibrationWindowStart (s : State) : Res :=
  .next (upTo 12 s fun n s => match (s.oe n).cal with
    | some c =>
      if c.waitingWindow then
        let s := s.modCal n fun c => { c with waitingWindow := false }
        let s := forEach (s.lanesOf n c.line) s fun e s =>
          let x := s.fiber e.1
          if x.txState = 0 ∧ !x.shutterClosed ∧ x.modeDue.isNone ∧ !(x.exchTx.any fun g => g.lane == e.2 && g.fromLine == c.line)
            ∧ !(x.moves.any fun m => m.1 == e.2 && m.2.1 == 1) then s.calOut e.1 e.2 else s
        s.calAdvance n
      else s
    | none => s)

/-- A waiting move of a step that is over: its own way out, or its lane's way back. -/
def CalStep.owns (c : CalStep) (f : Nat) (x : FiberSt) (m : Nat × Nat × Nat) : Bool :=
  (m.2.1 == 1 && m.2.2 == c.line && !x.askHeld.any fun n => n.lane == m.1 && n.reason == 1)
    || (m.2.1 == 2 && m.2.2 == c.line && c.moved.contains (f, m.1))

/-- CALIBRATION_STEP_TIMEOUT (R192): unreturned lanes stay where they are, as permanent moves. -/
def execCalibrationStepTimeout (oe : Fin 12) (s : State) : Res :=
  match (s.oe oe).cal with
  | none => .next s
  | some c =>
    let s := (s.calEvent oe c.line 2).modOe oe fun o => { o with cal := none }
    .next (forEach (oeFibers oe) s fun f s =>
      (s.modFiber f fun x => { x with moves := x.moves.filter fun m => !c.owns f x m }).nextMove f)

/-- CALIBRATION_MEASUREMENT_COMPLETE (R191, R192): the check value is recorded and the rings are re-acquired; a
measurement that a bias ramp spoilt is repeated. -/
def execCalibrationMeasurementComplete (oe : Fin 12) (reading : Nat) (s : State) : Res :=
  match (s.oe oe).cal with
  | none => .next s
  | some c =>
    if c.phase ≠ 1 then .next s
    else if (s.oe oe).ramp then .next (s.modCal oe fun c => { c with discarded := true })
    else
      .next (((s.modLaser oe c.line fun l => { l with check := reading }).acquireRings oe c).calAdvance oe)

/-- LASER_BIAS_RAMP_END (R177, R192): the lasers settle on the new waveform; a discarded measurement is repeated. -/
def execLaserBiasRampEnd (oe : Fin 12) (s : State) : Res :=
  .next ((s.modOe oe fun o => { o with ramp := false }).modCal oe fun c => { c with discarded := false })

/-! ## Ring lock (R179–R183, R188) -/

/-- Frequency of a line, GHz (Table 08.3). -/
def lineGhz (line : Nat) : Int := if line = 16 then 229700 else if line = 17 then 233100 else 229900 + 200 * line

/-- A shift lies in the valid window (R179). -/
def RingSt.valid (x : RingSt) (h : Int) : Bool := decide (800 ≤ h) && decide (h < 800 + x.fsr)

/-- The dip nearest a shift; the lower of two as near (log entry 40). -/
def nearest (l : List Nat) (c : Int) : Option Nat :=
  l.foldl (fun b d => match b with
    | none => some d
    | some e =>
      let x := ((d : Int) - c).natAbs
      let y := ((e : Int) - c).natAbs
      if x < y ∨ (x = y ∧ d < e) then some d else some e) none

/-- A ring is recorded as retired in the keeper's memory, or its record is cleared (R197, R198). -/
def State.recordRing (s : State) (k : Nat) (retired : Bool) : State :=
  let l := s.nv.retiredRings.filter (· ≠ k)
  { s with nv := { s.nv with retiredRings := if retired then l ++ [k] else l } }

/-- A line moved off a LOST ring stays where it is: the ring retired (R188). -/
def State.forgetAway (s : State) (rx : Bool) (f line : Nat) : State :=
  let a := if rx then (s.fiber f).rxAway else (s.fiber f).away
  if a.any fun e => e.2 == line then
    (s.log 0x5005 (srcOe (f / 8)) (256 * f + line)).modFiber f fun x =>
      if rx then { x with rxAway := x.rxAway.filter fun e => e.2 != line }
      else { x with away := x.away.filter fun e => e.2 != line }
  else s

/-- A failure (R180): FAILS rises; the third retires the ring, else NARROW sweeps a window. -/
def State.ringFail (s : State) (r : Ring) (centre : Int) (width : Nat) : State :=
  let k := ringKey r
  let x := s.ring k
  if x.fails + 1 ≥ 3 then
    let s := (s.log 0x5002 (srcOe (r.fiber / 8)) k).recordRing k true
    let s := s.modRing k fun x => { x with state := 6, heat := 0 }
    let s := if r.rx then (s.rxTo r.fiber r.line 0).noteLock r.fiber else s.txTo r.fiber r.line 0
    let s := s.forgetAway r.rx r.fiber r.line
    let s := match laneOn (s.fiber r.fiber).txMap r.line with
      | some i => if r.rx then s else s.leaveLine r.fiber i 4
      | none => s
    s.calAdvance (r.fiber / 8)
  else s.modRing k fun x => { x with state := 5, fails := x.fails + 1, centre := centre, width := width }

/-- A failure without a tone: the expected shift ±300 GHz (Table of R182). -/
def State.ringFailPlain (s : State) (r : Ring) : State := s.ringFail r (s.ring (ringKey r)).expected 300

/-- RING_ACQUISITION (R180): a DARK ring enters SWEEP; a RETIRED one only in bring-up (R198). -/
def execRingAcquisition (ring : Ring) (s : State) : Res :=
  let st := (s.ring (ringKey ring)).state
  if st = 0 ∨ (st = 6 ∧ !s.ready) then
    .next ((s.modRing (ringKey ring) fun x => { x with state := 1, heat := 0 }).writeOe (ring.fiber / 8))
  else .next s

/-- RING_SWEEP_COMPLETE: the dip in the valid window nearest the expected shift. -/
def execRingSweepComplete (ring : Ring) (dips : List Nat) (s : State) : Res :=
  let x := s.ring (ringKey ring)
  if x.state ≠ 1 then .next s
  else match nearest (dips.filter fun d => x.valid d) x.expected with
    | some d => .next (s.modRing (ringKey ring) fun x => { x with state := 2, aim := d })
    | none => .next (s.ringFailPlain ring)

/-- RING_ACQUIRE_COMPLETE: convergence on a dip, or a failure. -/
def execRingAcquireComplete (ring : Ring) (converged : Option Nat) (s : State) : Res :=
  if (s.ring (ringKey ring)).state ≠ 2 then .next s
  else match converged with
    | some h => .next (s.modRing (ringKey ring) fun x => { x with state := 3, heat := h })
    | none => .next (s.ringFailPlain ring)

/-- The window after a failed verification (R182). -/
def verifyWindow (x : RingSt) (line : Nat) (tone : Option Nat) : Int × Nat :=
  let h : Int := x.heat
  match tone with
  | none => (x.expected, 300)
  | some j =>
    if j = line then (if h < 800 then h + x.fsr else h - x.fsr, 100)
    else
      let c := h + (lineGhz j - lineGhz line)
      (if c < 800 then c + x.fsr else if x.valid c then c else c - x.fsr, 100)

/-- The receiver asks for a lane back on the line of a drop ring that has locked again (R188). -/
def State.askBack (s : State) (f i line : Nat) : State :=
  (s.ask f i (lineOf (s.fiber f).rxMap i) line (if lineOf (s.fiber f).rxMap i = 255 then 5 else 2)).modFiber f fun x =>
    { x with rxAway := x.rxAway.filter fun e => e.2 != line }

/-- A lane has left the line of a drop ring that was LOST: where the ring has locked meanwhile, it is asked for at once (R188). -/
def State.leftLost (s : State) (f i line : Nat) : State :=
  if (s.fiber f).rxAway.contains (i, line) && s.locked true f line then s.askBack f i line else s

/-- What follows a lock: the lane's states, the return of a lane that a LOST ring had lost, the calibration step. -/
def State.ringLocked (s : State) (r : Ring) : State :=
  let f := r.fiber.val
  let line := r.line.val
  let s := s.recordRing (ringKey r) false
  let s :=
    if r.rx then
      let s := s.rxHunt f line
      match (s.fiber f).rxAway.find? fun e => e.2 == line with
      | some (i, _) => if lineOf (s.fiber f).rxMap i = line then s else s.askBack f i line
      | none => s
    else
      let s := if (s.txLane f line).state = 0 ∧ (s.laser (f / 8) line).state < 2 then
          if s.test.on false f line then s.txTo f line 6
          else match laneOn (s.fiber f).txMap line with
            | some i => if (s.link f).state = 3 then s.txServe f line i else s.txTo f line 5
            | none => s.txTo f line 5
        else s
      match (s.fiber f).away.find? fun e => e.2 == line with
      | some (i, _) =>
        let s := s.modFiber f fun x => { x with away := x.away.filter fun e => e.2 != line }
        if lineOf (s.fiber f).txMap i = 255 then s.startRestore f i line 5
        else if (s.fiber f).exchTx.isSome then s.waitMove f i 2 line false
        else if lineOf (s.fiber f).txMap i = line then s
        else s.startMove f i line 2
      | none => s
  s.calAdvance (f / 8)

/-- RING_VERIFY_COMPLETE (R181, R182). -/
def execRingVerifyComplete (ring : Ring) (tone : Option (Fin 18)) (s : State) : Res :=
  let k := ringKey ring
  let x := s.ring k
  if x.state ≠ 3 then .next s
  else
    let t := tone.map (·.val)
    let s := s.modRing k fun x => { x with tone := t.getD 31 }
    if t = some ring.line.val ∧ x.valid x.heat then
      .next ((s.modRing k fun x => { x with state := 4, fails := 0, expected := x.heat }).ringLocked ring)
    else
      let s := match t with
        | some j => s.log 0x5001 (srcOe (ring.fiber / 8)) (k + j * 2 ^ 16)
        | none => s
      let w := verifyWindow x ring.line t
      .next (s.ringFail ring w.1 w.2)

/-- RING_NARROW_COMPLETE: the dip of the window nearest its centre. -/
def execRingNarrowComplete (ring : Ring) (dips : List Nat) (s : State) : Res :=
  let x := s.ring (ringKey ring)
  if x.state ≠ 5 then .next s
  else match nearest (dips.filter fun d => decide (((d : Int) - x.centre).natAbs ≤ x.width)) x.centre with
    | some d => .next (s.modRing (ringKey ring) fun x => { x with state := 2, aim := d })
    | none => .next (s.ringFailPlain ring)

/-- A ring loses its lock: its lane is out of service at once and moves under R188. -/
def State.ringLost (s : State) (r : Ring) : State :=
  let f := r.fiber.val
  let line := r.line.val
  let s := s.log 0x5003 (srcOe (f / 8)) (ringKey r)
  let s := s.modRing (ringKey r) fun x => { x with state := 5, centre := x.heat, width := 100 }
  if r.rx then
    let s := (s.rxTo f line 0).noteLock f
    match laneOn (s.fiber f).rxMap line with
    | some i => (s.modFiber f fun x => { x with rxAway := x.rxAway ++ [(i, line)] }).ask f i line 255 5
    | none => s
  else
    let s := s.txTo f line 0
    match laneOn (s.fiber f).txMap line with
    | some i => (s.modFiber f fun x => { x with away := x.away ++ [(i, line)] }).leaveLine f i 5
    | none => s

/-- RING_TRACK (R180, R183): the shift in force, or the dip is lost; outside 200–5,400 GHz the line is flagged. -/
def execRingTrack (ring : Ring) (heat : Option Nat) (s : State) : Res :=
  let k := ringKey ring
  let x := s.ring k
  if x.state ≠ 4 then .next s
  else match heat with
    | none => .next (s.ringLost ring)
    | some h =>
      let out (v : Nat) : Bool := decide (v < 200) || decide (v > 5400)
      let s := s.modRing k fun x => { x with heat := h, expected := if x.valid h then h else x.expected }
      if out h && !out x.heat then
        .next ((s.log 0x500E (srcOe (ring.fiber / 8)) k).modOe (ring.fiber / 8) fun o =>
          { o with flagged := o.flagged.filter (· ≠ ring.line.val) ++ [ring.line.val] })
      else .next s

/-! ## Lasers (R178, R193, R194) -/

/-- The greatest `k` below 2 to the power `n`, added to `k`, with 10 to the power 2 k − 1 times `b` not above `a`. -/
def dbSearch (a b : Nat) : Nat → Nat → Nat
  | 0, k => k
  | n + 1, k => dbSearch a b n (if 10 ^ (2 * (k + 2 ^ n) - 1) * b ≤ a then k + 2 ^ n else k)

/-- 10 log10 (a / b) in 0.01 dB to the nearest, for two readings above 0 (log entry 112). -/
def decibels (a b : Nat) : Int :=
  if b ≤ a then (dbSearch (a ^ 2000) (b ^ 2000) 14 0 : Nat) else -(dbSearch (b ^ 2000) (a ^ 2000) 14 0 : Nat)

/-- MPD_ref of a laser: the factory reading for the waveform in force (R178). -/
def State.mpdRef (s : State) (n line : Nat) : Nat := tabGet (fun _ => 1000) s.nv.mpdRef (16 * (18 * n + line) + (s.oe n).waveform)

/-- A sample of a laser's monitor: its relative output joins the day's (R178). -/
def State.sampleMpd (s : State) (n line reading : Nat) : State :=
  let d := if reading = 0 then Config.dbOfZero else decibels reading (s.mpdRef n line)
  s.modLaser n line fun l => { l with mpd := reading, dSum := l.dSum + d, dCount := l.dCount + 1 }

/-- MPD_SAMPLE: a reading below 10 % of the reference for 100 µs is a failure. -/
def execMpdSample (oe : Fin 12) (line : Fin 18) (reading : Nat) (lowFor100us : Bool) (s : State) : Res :=
  let s := s.sampleMpd oe line reading
  if lowFor100us && decide (10 * reading < s.mpdRef oe line) then .next (s.failLaser oe line) else .next s

/-- A quotient to the nearest integer, a half up. -/
def nearestQuotient (a : Int) (b : Nat) : Int := (2 * a + b) / (2 * b)

/-- The least-squares slope of daily means, newest first, in the means' unit per 30 days; 0 for fewer than two (log entry
112). -/
def leastSquares (days : List Int) : Int :=
  let n : Int := (days.length : Nat)
  let at_ : List (Int × Int) := (List.range days.length).map fun i : Nat => (-(Int.ofNat i), days.getD i 0)
  let sx := (at_.map (·.1)).sum
  let sy := (at_.map (·.2)).sum
  let sxy := (at_.map fun p => p.1 * p.2).sum
  let sxx := (at_.map fun p => p.1 * p.1).sum
  if days.length < 2 then 0 else nearestQuotient (30 * (n * sxy - sx * sy)) (n * sxx - sx * sx).toNat

/-- A laser's day ends: D is the mean of its samples, the trend that of the last 30 days (R178). -/
def LaserSt.endDay (l : LaserSt) : LaserSt :=
  let d := if l.dCount = 0 then l.d else nearestQuotient l.dSum l.dCount
  let days := (d :: l.days).take 30
  { l with d := d, trend := leastSquares days, dSum := 0, dCount := 0, days := days }

/-- LASER_DAILY_MEAN: failure at −3.0 dB, fade warning at the threshold. -/
def execLaserDailyMean (oe : Fin 12) (line : Fin 18) (s : State) : Res :=
  let s := s.modLaser oe line LaserSt.endDay
  let d := (s.laser oe line).d
  if d ≤ -300 then .next (s.failLaser oe line)
  else if -d ≥ (10 * s.gov 0x5004 0 : Nat) then .next (s.fadeWarning oe line)
  else .next s

/-- MARGIN_WARNING_EXPIRY: the worst far-end margin stayed below the threshold for 60 s. -/
def execMarginWarningExpiry (oe : Fin 12) (line : Fin 18) (s : State) : Res :=
  let low := (s.lanesOf oe line).any fun e =>
    let m := (s.txLane e.1 line).margin
    m != 255 && decide (m < s.gov 0x5005 0)
  if low then .next (s.fadeWarning oe line) else .next s

/-! ## Notices (R186–R189, R207) -/

/-- A notice is discarded (R187). -/
def State.badNotice (s : State) (f : Nat) : State := s.log 0x5008 srcHub f

/-- TYPE as expected, REASON not reserved, a lane of the stream. -/
def noticeOk (n : Notice) (type : Nat) : Bool := n.type == type && 1 ≤ n.reason && n.reason ≤ 7 && decide (n.lane < 16)

/-- A receive lane is brought up for a line: out of idle it is aligned at once by the phase that it holds, without one or
after 100 ms it hunts (R217, R218). -/
def State.rxBring (s : State) (f line : Nat) : State :=
  let s := s.stopTest true f line
  let l := s.rxLane f line
  if !s.locked true f line || (s.fiber f).los then s.rxTo f line 0
  else if l.state = 0 then (s.rxTo f line 1).writeOe (f / 8)
  else if l.state = 5 then (s.writeOe (f / 8)).rxTo f line (if l.phase.isNone || decide (s.clock > l.idleSince + 200000000) then 1 else 3)
  else s

/-- The receiver takes a lane from its new line and says so (R186 step 3). -/
def State.takeLane (s : State) (f : Nat) (e : Exchange) (seq : Nat) : State :=
  let n := f / 8
  let s := s.modFiber f fun x => { x with rxMap := x.rxMap.set e.lane e.toLine, exchRx := none }
  let s := if (s.rxLane f e.fromLine).state = 0 then s else s.rxTo f e.fromLine 5
  let s := (((s.rxServe f e.toLine e.lane).writeOe n).noteLock f).notice f nSwitched e.token e.lane e.fromLine e.toLine e.reason seq
  let s := s.leftLost f e.lane e.fromLine
  match (s.oe n).cal with
  | none => s
  | some c =>
    let s :=
      if e.reason = 1 ∧ e.fromLine = c.line then
        s.modCal n fun c => { c with asked := c.asked.filter (· ≠ f), gone := c.gone ++ [(f, e.lane)] }
      else if e.reason = 2 ∧ e.toLine = c.line then s.modCal n fun c => { c with gone := c.gone.filter (· ≠ (f, e.lane)) }
      else s
    s.calAdvance n

/-- A DUP notice (R186 step 2; R188 takes the line as soon as it is aligned). -/
def State.onDup (s : State) (f : Nat) (n : Notice) : State :=
  if !noticeOk n nDup || n.toLine > 17 || lineOf (s.fiber f).rxMap n.lane == 255 then s.badNotice f
  else
    let e : Exchange := { token := n.token, lane := n.lane, fromLine := n.fromLine, toLine := n.toLine, reason := n.reason
                          epoch := s.epoch, compare := !unwarned n.reason }
    let s := ((s.modFiber f fun x =>
      { x with exchRx := some e, asks := x.asks.filter fun a => a.2.1 != n.lane }).stopTests true f [n.fromLine]).rxBring f n.toLine
    if !e.compare && (s.rxLane f n.toLine).state == 3 then s.takeLane f e (s.link f).expect else s

/-- A SWITCHED notice (R186 step 4). -/
def State.onSwitched (s : State) (f : Nat) (n : Notice) : State :=
  match (s.fiber f).exchTx with
  | none => s.badNotice f
  | some e =>
    if !noticeOk n nSwitched || e.token ≠ n.token || e.lane ≠ n.lane then s.badNotice f
    else
      let oe := f / 8
      let s := s.modFiber f fun x => { x with txMap := x.txMap.set e.lane e.toLine, exchTx := none }
      let s := (((s.txRest f e.fromLine).txUse f e.toLine 4 e.lane)).writeOe oe
      let s :=
        if e.reason = 1 then
          if !(s.oe oe).cal.any (fun c => c.line == e.fromLine) then s
          else
          let s := s.modCal oe fun c => { c with moved := c.moved ++ [(f, e.lane)] }
          if (s.oe oe).cal.any fun c => c.phase == 3 then s.waitMove f e.lane 2 e.fromLine false else s
        else if e.reason = 2 then s.modCal oe fun c => { c with moved := c.moved.filter (· ≠ (f, e.lane)) }
        else if e.reason = 5 then s
        else s.log 0x5005 (srcOe oe) (256 * f + e.lane)
      ((s.switchOffFaded oe e.fromLine).nextMove f).calAdvance oe

/-- A REFUSE that answers an ASK: the ring is skipped, or the lane stays where it is. -/
def State.askRefused (s : State) (f lane reason : Nat) (token : Nat) : State :=
  let s := s.modFiber f fun x => { x with asks := x.asks.filter fun a => a.1 != token }
  (s.modCal (f / 8) fun c =>
    if reason = 1 ∧ c.asked.contains f then
      { c with asked := c.asked.filter (· ≠ f), skipped := c.skipped ++ [(true, f)] }
    else if reason = 2 then { c with gone := c.gone.filter (· ≠ (f, lane)) }
    else c).calAdvance (f / 8)

/-- A REFUSE that answers a DUP: the transmitter returns to the old line alone. -/
def State.moveRefused (s : State) (f : Nat) (e : Exchange) : State :=
  let s := s.dropExchange f
  let s := if e.reason = 1 then (if (s.oe (f / 8)).cal.any fun c => c.line == e.fromLine then s.skipRing (f / 8) false f else s)
    else if e.reason = 2 then s.modCal (f / 8) fun c => { c with moved := c.moved.filter (· ≠ (f, e.lane)) }
    else s
  (s.nextMove f).calAdvance (f / 8)

/-- A restore ends without an answer, or with a REFUSE: the direction stays thin (R207). -/
def State.endRestore (s : State) (f lane line : Nat) : State :=
  let s := ((s.txRest f line).writeOe (f / 8)).modFiber f fun x => { x with restoring := none }
  (s.modCal (f / 8) fun c => { c with dropped := c.dropped.filter (· ≠ (f, lane)) }).calAdvance (f / 8)

/-- A REFUSE notice: it answers the ASK, the DUP or the RESTORE of its token and lane (R186, R187, R207). -/
def State.onRefuse (s : State) (f : Nat) (n : Notice) : State :=
  let x := s.fiber f
  if !noticeOk n nRefuse then s.badNotice f
  else match x.asks.find? fun a => a.1 == n.token && a.2.1 == n.lane with
    | some (tok, lane, reason) => s.askRefused f lane reason tok
    | none => match x.exchTx.filter fun e => e.token == n.token && e.lane == n.lane with
      | some e => s.moveRefused f e
      | none => match x.restoring.filter fun r => r.1 == n.token && r.2.1 == n.lane with
        | some (_, lane, line) => s.endRestore f lane line
        | none => s.badNotice f

/-- An ASK notice (R186, R188, R191, R215): with a line free the lane moves, without one it is refused, unless it may be dropped
in a calibration window; with an exchange in progress it waits for that, and is answered then. -/
def State.onAsk (s : State) (f : Nat) (n : Notice) : State :=
  let x := s.fiber f
  if !noticeOk n nAsk then s.badNotice f
  else
    let s := s.stopTests false f [n.fromLine, n.toLine]
    if n.fromLine = 255 then
      if lineOf x.txMap n.lane ≠ 255 ∨ 17 < n.toLine then s.badNotice f
      else if s.standbyFree f n.toLine && x.restoring.isNone && x.modeDue.isNone && x.modeEnd.isNone then
        s.startRestore f n.lane n.toLine n.reason
      else s.refuse f n
    else if lineOf x.txMap n.lane = 255 then s.badNotice f
    else if unwarned n.reason then s.leaveLine f n.lane n.reason
    else if x.exchTx.isSome && ((s.askLine f n).isSome || s.mayDrop f n) then
      (s.waitMove f n.lane n.reason (if n.reason = 2 then n.toLine else lineOf x.txMap n.lane) false).modFiber f fun x =>
        { x with askHeld := x.askHeld ++ [n] }
    else s.serveAsk f n

/-- A DROP notice: the MODE group that follows may thin the direction. -/
def State.onDrop (s : State) (f : Nat) (n : Notice) : State :=
  if !noticeOk n nDrop || lineOf (s.fiber f).rxMap n.lane == 255 then s.badNotice f
  else s.modFiber f fun x => { x with dropLane := some n.lane, asks := x.asks.filter fun a => a.2.1 != n.lane }

/-- A RESTORE notice: the answer at the transmitter, the request at the receiver. -/
def State.onRestore (s : State) (f : Nat) (n : Notice) : State :=
  if !noticeOk n nRestore then s.badNotice f
  else
    let asked : Option (Nat × Nat × Nat) := match (s.fiber f).restoring with
      | some r => if r.1 = n.token then some r else none
      | none => none
    match asked with
    | some (_, lane, line) =>
      s.modFiber f fun x => { x with restoring := none, modeDue := some (false, lane, line) }
    | none =>
      if lineOf (s.fiber f).rxMap n.lane ≠ 255 ∨ n.toLine > 17 then s.badNotice f
      else
        let e : Exchange := { token := n.token, lane := n.lane, fromLine := 255, toLine := n.toLine, reason := n.reason
                              epoch := s.epoch, compare := false }
        let s := (s.modFiber f fun x =>
          { x with exchRx := some e, asks := x.asks.filter fun a => a.2.1 != n.lane }).rxBring f n.toLine
        if (s.rxLane f n.toLine).state = 3 then s.notice f nRestore n.token n.lane 255 n.toLine n.reason 0 else s

/-- DUP_RECEIVED. -/
def execDupReceived (fiber : Fin 96) (n : Notice) (s : State) : Res := .next (s.onDup fiber n)

/-- SWITCHED_RECEIVED. -/
def execSwitchedReceived (fiber : Fin 96) (n : Notice) (s : State) : Res := .next (s.onSwitched fiber n)

/-- REFUSE_RECEIVED. -/
def execRefuseReceived (fiber : Fin 96) (n : Notice) (s : State) : Res := .next (s.onRefuse fiber n)

/-- ASK_RECEIVED. -/
def execAskReceived (fiber : Fin 96) (n : Notice) (s : State) : Res := .next (s.onAsk fiber n)

/-- DROP_RECEIVED. -/
def execDropReceived (fiber : Fin 96) (n : Notice) (s : State) : Res := .next (s.onDrop fiber n)

/-- RESTORE_RECEIVED. -/
def execRestoreReceived (fiber : Fin 96) (n : Notice) (s : State) : Res := .next (s.onRestore fiber n)

/-- STEERING_COMPARE_COMPLETE (R186 step 3): 1,024 rows matched; the lane is taken from the new line. -/
def execSteeringCompareComplete (fiber : Fin 96) (token seq : Nat) (s : State) : Res :=
  match (s.fiber fiber).exchRx with
  | none => .next s
  | some e =>
    if e.token ≠ token ∨ !e.compare ∨ (s.rxLane fiber e.toLine).state ≠ 3 then .next s
    else .next (s.takeLane fiber e seq)

/-- Give up the exchange of a receive direction. -/
def State.dropExchangeRx (s : State) (f : Nat) (e : Exchange) : State :=
  ((s.rxRest f e.toLine).writeOe (f / 8)).modFiber f fun x => { x with exchRx := none }

/-- STEERING_COMPARE_TIMEOUT (R186): the receiver answers REFUSE. -/
def execSteeringCompareTimeout (fiber : Fin 96) (token : Nat) (s : State) : Res :=
  match (s.fiber fiber).exchRx with
  | none => .next s
  | some e =>
    if e.token ≠ token then .next s
    else .next ((s.dropExchangeRx fiber e).notice fiber nRefuse token e.lane e.fromLine e.toLine e.reason 0)

/-- EXCHANGE_TIMEOUT (R189): the exchange is abandoned, the lane stays on the line it is received from. -/
def execExchangeTimeout (fiber : Fin 96) (rx : Bool) (s : State) : Res :=
  if rx then
    match (s.fiber fiber).exchRx with
    | none => .next s
    | some e => .next ((s.log 0x5008 srcHub fiber).dropExchangeRx fiber e)
  else if (s.fiber fiber).exchTx.isNone then .next s
  else .next ((((s.log 0x5008 srcHub fiber).dropExchange fiber).nextMove fiber).calAdvance (fiber / 8))

/-- RESTORE_ANSWER_TIMEOUT (R207): no answer within 10 ms is a REFUSE; the direction stays thin. -/
def execRestoreAnswerTimeout (fiber : Fin 96) (s : State) : Res :=
  match (s.fiber fiber).restoring with
  | none => .next s
  | some (_, lane, line) => .next (s.endRestore fiber lane line)

/-! ## Manual moves (R196) -/

/-- The checks of R196 on an OE and a line: the abort code, or 0. -/
def State.manualRule (s : State) (n line : Nat) : Nat :=
  if n > 11 ∨ line > 17 then 0x50000011
  else if (s.lanesOf n line).any fun e => (s.standby e.1 permanentOrder).isNone then 0x50000010
  else if (s.oe n).cal.isSome || (oeFibers n).any fun f => (s.fiber f).exchTx.isSome || (s.fiber f).exchRx.isSome then
    0x50000012
  else 0

/-- MANUAL_MOVE. -/
def execManualMove (slot : Nat) (s : State) : Res :=
  .next (s.command slot 0x5007 0 fun s =>
    let v := s.gov 0x5006 0
    let ab := s.manualRule (v / 256) (v % 256)
    if ab ≠ 0 then (s, ab)
    else (forEach (s.lanesOf (v / 256) (v % 256)) s fun e s => s.leaveLine e.1 e.2 7, 0))

/-! ## Shutters (R199) -/

/-- SHUTTER_CLOSE: loss of signal held 500 µs. -/
def execShutterClose (fiber : Fin 96) (s : State) : Res :=
  if !(s.fiber fiber).los || (s.fiber fiber).shutterClosed || (s.fiber fiber).probing then .next s
  else .next (((s.log 0x500C srcHub fiber).modFiber fiber fun x => { x with shutterClosed := true }).writeOe (fiber / 8))

/-- SHUTTER_PROBE_OPEN: a closed shutter opens for 4 ms. -/
def execShutterProbeOpen (fiber : Fin 96) (s : State) : Res :=
  if (s.fiber fiber).shutterClosed then
    .next ((s.modFiber fiber fun x => { x with shutterClosed := false, probing := true }).writeOe (fiber / 8))
  else .next s

/-- SHUTTER_PROBE_CLOSE: after the probe it closes again. -/
def execShutterProbeClose (fiber : Fin 96) (s : State) : Res :=
  if (s.fiber fiber).probing then
    .next ((s.modFiber fiber fun x => { x with shutterClosed := true, probing := false }).writeOe (fiber / 8))
  else .next s

/-- The exchange of a calibration step that waited for a shutter begins when it opens (R192). -/
def State.shutterSteer (s : State) (f : Nat) : State :=
  match (s.oe (f / 8)).cal with
  | none => s
  | some c => match laneOn (s.fiber f).txMap c.line with
    | none => s
    | some i => if c.phase < 3 ∧ !c.noLaser ∧ (s.fiber f).txState = 0 then s.calOut f i else s

/-- A shutter opens at once and stays open when its receive fiber regains light. -/
def State.reopen (s : State) (f : Nat) : State :=
  if (s.fiber f).shutterClosed || (s.fiber f).probing then
    (((s.log 0x500D srcHub f).modFiber f fun x => { x with shutterClosed := false, probing := false }).writeOe (f / 8)).shutterSteer f
  else s

end Sys2Proof.Machine
end

