-- ==== Sys2Proof/Machine/Lanes.lean ====
section
/-! DEFINITION. Wavelength lanes: control groups, block lock, alignment, margin, loss of signal, training, PRBS tests and
injection (R205–R220). -/

namespace Sys2Proof.Machine

/-! ## Control groups (R205, R206) -/

/-- Blocks that lie in one row carry one ROW; a new row begins where the carrying lane does not rise. -/
def rowsAgree : List CtrlBlock → Bool
  | a :: b :: t => (b.carrier ≤ a.carrier || a.row == b.row) && rowsAgree (b :: t)
  | _ => true

/-- A MAP of which an entry is neither a line nor 0x1F (R4). -/
def mapReserved (m : List Nat) : Bool := m.any fun v => decide (17 < v) && v != 0x1F

/-- A group that mixes data and control headers (R206). -/
def mixed (headers : List (BitVec 2)) : Bool := headers.contains dataHeader && headers.contains ctrlHeader

/-- R206: a data header, differing CTYPE or ROW, a LANE other than the carrier, a reserved CTYPE; R4: a reserved MAP entry. -/
def malformed (g : List CtrlBlock) : Bool :=
  let c := (g.headD { carrier := 0, ctype := 0, lane := 0, row := 0 }).ctype
  g.any (·.header == dataHeader) || g.any (·.ctype != c) || c == 0 || c > 3 || g.any (fun b => b.lane != b.carrier)
    || !rowsAgree g || (c != 1 && g.any fun b => mapReserved b.map)

/-- The block clock's row: one row is 4 hub cycles. -/
def State.rowNow (s : State) : Nat := s.clock / 4

/-- A group is discarded: event 0x5014, and the fourth within 1,024 rows returns every lane of the direction to HUNT (R206). -/
def State.discardGroup (s : State) (f : Nat) : State :=
  let s := s.log 0x5014 srcHub f
  let recent := s.rowNow :: (s.fiber f).discardRows.filter fun r => decide (s.rowNow < r + 1024)
  if recent.length ≥ 4 then
    let s := s.modFiber f fun x => { x with discardRows := [] }
    (upTo 18 s fun line s => if adapting (s.rxLane f line).state then s.rxTo f line 1 else s).noteLock f
  else s.modFiber f fun x => { x with discardRows := recent }

/-! ## Blocks received (R202–R204, R209) -/

/-- A locked receive lane loses its lock: the count, event 0x5010 unless loss of signal is set, and back to HUNT; a lane in
TEST stays there (R209, R212). -/
def State.loseLock (s : State) (f line : Nat) : State :=
  let s := s.modRxLane f line fun l => { l with lockLosses := (l.lockLosses + 1) % 2 ^ 16 }
  let s := if (s.fiber f).los then s else s.log 0x5010 srcHub (256 * f + line)
  (if (s.rxLane f line).state = 6 then s else s.rxTo f line 1).noteLock f

/-- One block on a locked line: its header joins the window, its payload runs the descrambler on; 16 invalid headers of the
last 64 lose the lock. -/
def State.takeBlock (s : State) (f line : Nat) (header : BitVec 2) (payload : BitVec 128) : State :=
  if decide (line ≤ 17) && adapting (s.rxLane f line).state then
    let s := s.modRxLane f line fun l => (l.takeHeader header).descrambled payload
    if (s.rxLane f line).lockFails then s.loseLock f line else s
  else s

/-- Lanes of a map in increasing order (R204). -/
def lanesOfMap (m : List Nat) : List Nat := (List.range 16).filter fun i => lineOf m i != 255

/-- The line that carries block j of the next group of a receive direction: lane j, or in thin striping the position that
follows the last block (R204). -/
def FiberSt.rxLine (x : FiberSt) (j : Nat) : Nat :=
  let lanes := lanesOfMap x.rxMap
  lineOf x.rxMap (if x.rxState = 1 then lanes.getD ((x.rxPos + j) % 15) 16 else j)

/-- The blocks of a group that carries a flit arrive (R204, R222). -/
def State.takeFlitBlocks (s : State) (f : Nat) (flit : List Byte) (headers : List (BitVec 2)) : State :=
  let x := s.fiber f
  let payloads := flitBlocks flit
  let s := upTo 16 s fun j s => s.takeBlock f (x.rxLine j) (headers.getD j dataHeader) (payloads.getD j 0)
  s.modFiber f fun x => { x with rxPos := (x.rxPos + 16) % 15 }

/-- The line on which a control block arrives: while the map is not taken that of its own MAP; of a lane being restored the new
line (R207). -/
def FiberSt.ctrlLine (x : FiberSt) (b : CtrlBlock) : Nat :=
  if x.training && !x.mapTaken then b.map.getD b.carrier 255
  else if lineOf x.rxMap b.carrier = 255 then
    (match x.exchRx with
      | some e => if e.lane = b.carrier ∧ e.fromLine = 255 then e.toLine else 255
      | none => 255)
  else lineOf x.rxMap b.carrier

/-- A group that TRAIN blocks form: one per row and in no stream, it moves no position of the striping (R204, R216). -/
def trainGroup (g : List CtrlBlock) : Bool := (g.headD { carrier := 0, ctype := 0, lane := 0, row := 0 }).ctype == 2

/-- The blocks of a control group arrive, each on its line. -/
def State.takeCtrlBlocks (s : State) (f : Nat) (g : List CtrlBlock) : State :=
  let x := s.fiber f
  let s := forEach g s fun b s => s.takeBlock f (x.ctrlLine b) b.header (ctrlBlockPayload b)
  if trainGroup g then s else s.modFiber f fun x => { x with rxPos := (x.rxPos + 16) % 15 }

/-- The first row that is no TRAIN row after the map was taken: mapped lanes that are aligned carry the stream (R216 step 4). -/
def State.streamRow (s : State) (f : Nat) : State :=
  if (s.fiber f).training && !(s.fiber f).mapTaken then s
  else
    let s := s.modFiber f fun x => { x with streaming := true }
    (upTo 16 s fun i s =>
      let line := lineOf (s.fiber f).rxMap i
      if line ≠ 255 ∧ (s.rxLane f line).state = 3 then s.rxServe f line i else s).noteLock f

/-- A row is delivered: every mapped lane is in SERVICE (R212). -/
def State.delivers (s : State) (f : Nat) : Bool :=
  let m := mapped (s.fiber f).rxMap
  !m.isEmpty && m.all fun l => (s.rxLane f l).state == 4

/-- A control group arrives: its blocks, the common checks, then its own effect where its CTYPE is `ctype`. -/
def State.takeGroup (s : State) (f ctype : Nat) (g : List CtrlBlock) (own : State → State) : State :=
  let s := s.takeCtrlBlocks f g
  if malformed g then s.discardGroup f
  else if g.all (·.ctype == ctype) then own s
  else s

/-- A lane takes part in an exchange of this transmit direction. -/
def State.exchanging (s : State) (f lane : Nat) : Bool := (s.fiber f).exchTx.any fun e => e.lane == lane

/-- IDLE_GROUP_RECEIVED (R205, R213): INFO is the far-end margin of the transmit line of the same lane number. -/
def execIdleGroupReceived (fiber : Fin 96) (g : List CtrlBlock) (s : State) : Res :=
  .next (s.takeGroup fiber 1 g fun s =>
    let s := s.streamRow fiber
    if s.delivers fiber then
      forEach g s fun b s =>
        let line := lineOf (s.fiber fiber).txMap b.carrier
        if line = 255 ∨ s.exchanging fiber b.carrier then s
        else s.modTxLane fiber line fun l => { l with margin := b.info % 256 }
    else s)

/-! ## Training (R216) -/

/-- A received MAP: 0x1F is an absent lane. -/
def readMap (m : List Nat) : List Nat := (List.range 16).map fun i => let v := m.getD i 31; if v > 17 then 255 else v

/-- Training has completed at the transmitter: the stream begins, striped per its map. -/
def State.trained (s : State) (f : Nat) : State :=
  let thin := (mapped (s.fiber f).txMap).length < 16
  let s := s.modFiber f fun x => { x with training := false, attempts := 0, txState := if thin then 1 else 0 }
  let s := upTo 18 s fun line s =>
    match laneOn (s.fiber f).txMap line with
    | some i => if (s.txLane f line).state = 1 then s.txServe f line i else s
    | none => s
  s.modLink f fun l => { l with state := 2, sentStart := false, gotStart := false }

/-- RXRDY: the received map is taken and every lane of it is ALIGNED (Table 09.2). -/
def State.rxReady (s : State) (f : Nat) : Bool :=
  let x := s.fiber f
  x.mapTaken && (mapped x.rxMap).all fun l => let st := (s.rxLane f l).state; st == 3 || st == 4

/-- The received map becomes the receive map; a line that it does not name is not required any more. -/
def State.takeMap (s : State) (f : Nat) (m : List Nat) (far : Nat) : State :=
  let s := (s.setNum 0x5013 (f + 1) far).modFiber f fun x =>
    { x with rxMap := m, rxState := if (mapped m).length < 16 then 1 else 0, mapTaken := true, rxPos := 0 }
  upTo 18 s fun line s =>
    if m.contains line || s.test.on true f line then s else s.rxTo f line 0

/-- TRAIN_GROUP_RECEIVED: the map is taken once each of its lines is aligned; rows with RXRDY are counted. On a link that
carries a stream it tells that the far end retrains (R241), but for one on a lane alone that is being restored (R207). -/
def execTrainGroupReceived (fiber : Fin 96) (g : List CtrlBlock) (s : State) : Res :=
  .next (s.takeGroup fiber 2 g fun s =>
    match g with
    | [] => s
    | b :: _ =>
      if !(s.fiber fiber).training then
        if g.all fun b => lineOf (s.fiber fiber).rxMap b.carrier = 255 then s
        else if (s.fiber fiber).streaming && decide ((s.link fiber).state = 2 ∨ (s.link fiber).state = 3) then s.followRetrain fiber
        else s
      else
        let m := readMap b.map
        let ok := !(mapped m).isEmpty && (mapped m).all fun l => 3 ≤ (s.rxLane fiber l).state && (s.rxLane fiber l).state ≤ 4
        let s := if ok && (!(s.fiber fiber).mapTaken || (s.fiber fiber).rxMap != m) then s.takeMap fiber m (b.info % 256) else s
        let s := s.modFiber fiber fun x => { x with rxrdyRows := if b.rxrdy then x.rxrdyRows + 1 else 0 }
        s.noteLock fiber)

/-- LANE_TRAINING_START: a link that is brought up, which stays DOWN until its OE is admitted with this fiber (Table 15.2, R337),
or retrained; one that carries a stream follows its far end. -/
def execLaneTrainingStart (fiber : Fin 96) (s : State) : Res :=
  let st := (s.link fiber).state
  let s := s.modFiber fiber fun x => { x with attempts := 0 }
  if st = 0 ∧ !(s.fiber fiber).inService then .next s
  else if st = 0 then .next ((s.modLink fiber fun l => { l with state := 1 }).startTraining fiber)
  else if st = 1 ∨ st = 4 then .next (s.startTraining fiber)
  else if st = 2 ∨ st = 3 then .next (s.followRetrain fiber)
  else .next s

/-- TRAINING_TIMEOUT: 100 ms passed; the third attempt fails, which breaks and retires the link (R216, R241, R243). -/
def execTrainingTimeout (fiber : Fin 96) (s : State) : Res :=
  if !(s.fiber fiber).training then .next s
  else
    let n := (s.fiber fiber).attempts + 1
    if n < 3 then .next ((s.modFiber fiber fun x => { x with attempts := n }).startTraining fiber)
    else
      let s := (s.modFiber fiber fun x => { x with attempts := 0, training := false }).log 0x5013 srcHub fiber
      .next (((s.log 0x5033 srcHub fiber).count 0x5047 (fiber + 1) 1).retireLink fiber)

/-! ## Full and thin (R207) -/

/-- The map that a MODE group must carry by the notices accepted: the lane concerned and the map. -/
def State.modeExpected (s : State) (f : Nat) (thin : Bool) : Option (Nat × List Nat) :=
  let x := s.fiber f
  if thin then x.dropLane.map fun i => (i, x.rxMap.set i 255)
  else match x.exchRx with
    | some e => if e.fromLine = 255 then some (e.lane, x.rxMap.set e.lane e.toLine) else none
    | none => none

/-- MODE_GROUP_RECEIVED: the striping changes from the next row; a map that disagrees is discarded and asked about. -/
def execModeGroupReceived (fiber : Fin 96) (g : List CtrlBlock) (s : State) : Res :=
  .next (s.takeGroup fiber 3 g fun s =>
    match g with
    | [] => s
    | b :: _ =>
      let f := fiber.val
      let s := s.streamRow f
      if !s.delivers f then s
      else
        let want := s.modeExpected f b.thin
        let lane := match want with
          | some w => w.1
          | none => b.dlane % 16
        let good := match want with
          | some w => w.2 == readMap b.map && (!b.thin || b.dlane == w.1)
          | none => false
        if !good then (s.discardGroup f).ask f lane (lineOf (s.fiber f).rxMap lane) 255 5
        else
          let old := lineOf (s.fiber f).rxMap lane
          let line := lineOf (readMap b.map) lane
          let n := f / 8
          let s := (s.log 0x5015 srcHub (f + 256)).modFiber f fun x =>
            { x with rxMap := readMap b.map, rxState := if b.thin then 1 else 0, rxPos := 0, dropLane := none
                     exchRx := if b.thin then x.exchRx else none }
          let s := if b.thin then (s.rxRest f old).leftLost f lane old
            else if (s.rxLane f line).state = 3 then s.rxServe f line lane else s
          let s := s.modCal n fun c =>
            if b.thin && old == c.line && c.asked.contains f then
              { c with asked := c.asked.filter (· ≠ f), gone := c.gone ++ [(f, lane)] }
            else if !b.thin && line == c.line then { c with gone := c.gone.filter (· ≠ (f, lane)) }
            else c
          (s.noteLock f).calAdvance n)

/-! ## The receiver (R209–R215) -/

/-- BLOCK_LOCK_ACQUIRED: a hunting lane adapts; one under test has its checker back (R214, R219). -/
def execBlockLockAcquired (fiber : Fin 96) (line : Fin 18) (s : State) : Res :=
  if (s.rxLane fiber line).state ≠ 1 then .next s
  else .next (s.rxTo fiber line (if s.test.on true fiber line then 6 else 2))

/-- BLOCK_LOCK_LOST on a locked or testing lane; `invalidHeaders` counts those of blocks that no group brought. -/
def execBlockLockLost (fiber : Fin 96) (line : Fin 18) (invalidHeaders : Nat) (s : State) : Res :=
  let st := (s.rxLane fiber line).state
  if st < 2 ∨ st = 5 then .next s
  else
    let s := s.modRxLane fiber line fun l => { l with headerErrors := (l.headerErrors + invalidHeaders) % 2 ^ 32 }
    .next (s.loseLock fiber line)

/-- ADAPT_COMPLETE: within ±32 UI the lane is aligned and, where it waits for nothing else, taken; else event 0x5017. -/
def execAdaptComplete (fiber : Fin 96) (line : Fin 18) (skew : Int) (s : State) : Res :=
  if (s.rxLane fiber line).state ≠ 2 then .next s
  else if skew < -32 ∨ 32 < skew then .next (s.log 0x5017 srcHub (256 * fiber.val + line))
  else
    let s := (s.rxTo fiber line 3).modRxLane fiber line fun l => { l with skew := skew }
    if (s.fiber fiber).training then .next s
    else match laneOn (s.fiber fiber).rxMap line with
      | some i => .next ((s.rxServe fiber line i).noteLock fiber)
      | none => match (s.fiber fiber).exchRx with
        | some e =>
          if e.toLine ≠ line.val ∨ e.compare then .next s
          else if e.fromLine = 255 then .next (s.notice fiber nRestore e.token e.lane e.fromLine e.toLine e.reason 0)
          else .next (s.takeLane fiber e (s.link fiber).expect)
        | none => .next s

/-- MARGIN_MEASUREMENT: of a lane in ALIGNED or SERVICE, 0.1 dB. -/
def execMarginMeasurement (fiber : Fin 96) (line : Fin 18) (margin : Nat) (s : State) : Res :=
  let st := (s.rxLane fiber line).state
  if st = 3 ∨ st = 4 then .next (s.modRxLane fiber line fun l => { l with margin := min margin 254 }) else .next s

/-- FMARGIN_TIMEOUT: not refreshed for 1 s. -/
def execFmarginTimeout (fiber : Fin 96) (line : Fin 18) (s : State) : Res :=
  .next (s.modTxLane fiber line fun l => { l with margin := 255 })

/-- The calibration step of the OE goes on without the receive ring of a fiber that lost its light: an acquisition under way ends in
DARK (R192; DEDUCED, log entry 137). -/
def State.skipDark (s : State) (f : Nat) : State :=
  match (s.oe (f / 8)).cal with
  | none => s
  | some c =>
    let k := ringAt true f c.line
    let s := if c.skipped.contains (true, f) then s else s.skipRing (f / 8) true f
    let s := s.modCal (f / 8) fun c => { c with asked := c.asked.filter (· ≠ f) }
    let st := (s.ring k).state
    let s := if c.phase = 2 ∧ st ≠ 4 ∧ st ≠ 6 then s.modRing k fun x => { x with state := 0, heat := 0 } else s
    s.calAdvance (f / 8)

/-- LOSS_OF_SIGNAL_SET: event 0x5011, the count, every receive lane DOWN; a checker on the fiber has no pattern any more. -/
def execLossOfSignalSet (fiber : Fin 96) (s : State) : Res :=
  if (s.fiber fiber).los then .next s
  else
    let s := ((s.log 0x5011 srcHub fiber).count 0x5014 (fiber + 1) 1).modFiber fiber fun x => { x with los := true }
    let s := if s.test.checker.any fun c => c.1 == fiber.val then s.prbsUnlock 0 else s
    .next (((upTo 18 s fun line s => s.rxTo fiber line 0).noteLock fiber).skipDark fiber)

/-- LOSS_OF_SIGNAL_CLEAR: event 0x5012, the shutter stays open, lanes whose rings are LOCKED hunt, those under test too. -/
def execLossOfSignalClear (fiber : Fin 96) (s : State) : Res :=
  if !(s.fiber fiber).los then .next s
  else
    let s := ((s.log 0x5012 srcHub fiber).modFiber fiber fun x => { x with los := false }).reopen fiber
    .next (upTo 18 s fun line s => s.rxHunt fiber line)

/-- LANE_RETURN_TIMEOUT (R215): ASK with REASON 5. -/
def execLaneReturnTimeout (fiber : Fin 96) (line : Fin 18) (s : State) : Res :=
  let st := (s.rxLane fiber line).state
  match laneOn (s.fiber fiber).rxMap line with
  | some i =>
    if st = 4 || (s.fiber fiber).los || (s.fiber fiber).training || !s.locked true fiber line then .next s
    else .next (s.ask fiber i line 255 5)
  | none => .next s

/-! ## Tests (R219, R220) -/

/-- The line carries a lane at this end, is part of an exchange, or its laser is not lit. -/
def State.lineBusy (s : State) (rx : Bool) (f line : Nat) : Bool :=
  let x := s.fiber f
  if rx then x.rxMap.contains line || x.exchRx.any fun e => e.toLine == line || e.fromLine == line
  else x.txMap.contains line || x.exchTx.any (fun e => e.toLine == line || e.fromLine == line)
    || x.restoring.any (fun r => r.2.2 == line) || x.modeDue.any (fun m => m.2.2 == line) || x.modeEnd.any (fun m => m.2.2 == line)
    || decide ((s.laser (f / 8) line).state ≥ 2)

/-- PRBS_START: the counts are cleared, and those of a lock that lasts count from now (R219; log entry 42); the generator starts from
its seed. A line whose ring is not LOCKED stays DOWN until it is (Table 09.4). -/
def execPrbsStart (slot : Nat) (s : State) : Res :=
  .next (s.command slot 0xF052 0 fun s =>
    let (rx, f, line) := s.selected
    if s.lineBusy rx f line then (s, 0xF0000030)
    else
      let s := s.endTest rx f line
      let s := { s with test := { s.test with
        running := s.test.running ++ [(rx, f, line, s.gov 0xF051 0)]
        checker := if rx then some (f, line) else s.test.checker } }
      let s := (s.setNum 0xF054 0 0).setNum 0xF055 0 0
      if rx then (({ s with test := { s.test with lockAt := none } }.setNum 0xF056 0 0).rxTo f line (if s.locked true f line then 6 else 0), 0)
      else (({ s with test := { s.test with lockAt := s.test.lockAt.map fun _ => s.clock } }.txUse f line 6 31).modTxLane f line fun l =>
        { l with prbs := ({} : LaneSt).prbs }, 0))

/-- PRBS_STOP: the test on the selected line. -/
def execPrbsStop (slot : Nat) (s : State) : Res :=
  .next (s.command slot 0xF053 0 fun s =>
    let (rx, f, line) := s.selected
    (s.endTest rx f line, 0))

/-- PRBS_PATTERN_LOCK: the checker counts from now. A lane that hunts after a loss of light needs no block lock for it in raw mode
(DEDUCED, log entry 137). -/
def execPrbsPatternLock (s : State) : Res :=
  match s.test.checker with
  | some (f, line) =>
    if s.test.on true f line && s.test.lockAt.isNone then
      let s := if (s.rxLane f line).state = 1 then s.rxTo f line 6 else s
      .next { s.setNum 0xF056 0 1 with
        test := { s.test with lockAt := some s.clock, lockDraw := s.fresh }, fresh := s.fresh + 1 }
    else .next s
  | none => .next s

/-- PRBS_PATTERN_LOCK_LOST: the 1,024 bits that lost it are not counted. -/
def execPrbsPatternLockLost (s : State) : Res := .next (s.prbsUnlock 1024)

/-- A reserved value of the injection word (Table 09.6). -/
def injectionReserved (v : Nat) : Bool :=
  field v 30 2 == 3 || field v 28 2 == 3 || (field v 30 2 == 2 && field v 0 28 == 0)

/-- INJECTION_WORD: arms an injection on the selected transmit lane, replacing one that has not fired. -/
def execInjectionWord (slot : Nat) (value : BitVec 32) (s : State) : Res :=
  .next (s.writeValue slot 0xF057 0 (.num value.toNat) fun _ => if injectionReserved value.toNat then 0xF0000031 else 0)

/-- The bit of the next block that an injection inverts: header bit 0, or a payload bit that the spec leaves open, counted from
the block's first (log entry 115). -/
def injectedBit (target draw : Nat) : Nat := if target = 2 then 0 else 2 + draw % 128

/-- INJECTION_FIRE: the next block of a lane in TEST or SERVICE is sent with its bit inverted; a single injection is spent. -/
def execInjectionFire (s : State) : Res :=
  match s.test.injection with
  | none => .next s
  | some v =>
    let f := s.test.injFiber
    let line := s.test.injLine
    let st := (s.txLane f line).state
    let target := field v.toNat 28 2
    let fits := (st = 6 ∧ target ≠ 1) ∨ (st = 4 ∧ target ≠ 0)
    if fits then
      let r := s.free
      let s := (r.2.modTxLane f line fun l => { l with flip := some (injectedBit target r.1.toNat) }).send (.injected f line target)
      .next (if field v.toNat 30 2 = 1 then { s with test := { s.test with injection := none } } else s)
    else .next s

end Sys2Proof.Machine
end

