-- ==== Sys2Proof/Machine/Schedule.lean ====
section
/-! DEFINITION. Slot schedules and flights as data: schedule images and their checks (R249–R253), membership lists
(R247), forwarding (R246, R248). -/

namespace Sys2Proof.Machine

/-! ## Schedule images (R251) -/

/-- A schedule entry (Table 11.6). -/
structure SchedEntry where
  first : Nat
  count : Nat
  stride : Nat
  stream : Nat
  flit : Nat
  src : Nat
  dst : Nat
  kind : Nat
  rsvOk : Bool
deriving DecidableEq, Repr

/-- The entry of 16 bytes. -/
def schedEntryOf (b : List Byte) : SchedEntry :=
  let v := leNat b
  { first := field v 108 20, count := field v 88 20, stride := field v 68 20, stream := field v 56 8, flit := field v 32 16
    src := field v 24 8, dst := field v 16 8, kind := field v 0 8
    rsvOk := field v 64 4 == 0 && field v 48 8 == 0 && field v 8 8 == 0 }

/-- Entries of 16 bytes each, `n` of them. -/
def schedEntries : Nat → List Byte → List SchedEntry
  | 0, _ => []
  | n + 1, b => schedEntryOf (b.take 16) :: schedEntries n (b.drop 16)

/-- Header of an image as a number. -/
def schedHeader (img : List Byte) : Nat := leNat (img.take 64)

def schedNent (img : List Byte) : Nat := field (schedHeader img) 256 32
def schedEpoch (img : List Byte) : Nat := field (schedHeader img) 192 64
def schedPeriod (img : List Byte) : Nat := field (schedHeader img) 160 32
def schedSetcrc (img : List Byte) : Nat := field (schedHeader img) 352 32

/-- All entries of an image. -/
def entriesOf (img : List Byte) : List SchedEntry := schedEntries (schedNent img) (img.drop 8256)

/-- Outbound and inbound stream descriptors. -/
def outboundOf (img : List Byte) (i : Nat) : Nat := leNat ((img.drop (64 + 16 * i)).take 16)
def inboundOf (img : List Byte) (i : Nat) : Nat := leNat ((img.drop (4160 + 16 * i)).take 16)

/-- The occurrence of an entry that falls at a slot. -/
def SchedEntry.occurs (e : SchedEntry) (slot : Nat) : Option Nat :=
  if slot < e.first then none
  else if slot = e.first then (if e.count = 0 then none else some 0)
  else if e.stride = 0 then none
  else if (slot - e.first) % e.stride = 0 ∧ (slot - e.first) / e.stride < e.count then some ((slot - e.first) / e.stride)
  else none

/-- The slots of an entry. -/
def SchedEntry.slots (e : SchedEntry) : List Nat := (List.range e.count).map fun i => e.first + i * e.stride

/-- The schedule in force. -/
def State.schedule (s : State) : List SchedEntry := entriesOf (s.blob 0x2031 0)

/-- In-port and out-port phases (R249). -/
def State.phiIn (s : State) (f : Nat) : Nat := s.num 0x2043 (f + 1)
def State.phiOut (s : State) (f : Nat) : Nat := s.num 0x2047 (f + 1)

/-- The slot of a port with a phase: its first cycles after a tick belong to the last slot of the tread before (R249). -/
def State.portSlot (s : State) (phase : Nat) : Option Nat :=
  if !s.tick.running || !s.tick.begun then none
  else if phase ≤ s.sinceTick then some ((s.sinceTick - phase) / 4)
  else s.tick.prevTick.map fun t => (s.clock - t - phase) / 4

/-- The out-fiber row of a RELAY from an arrival slot: captured at phase 2, away on the first row from 8 cycles on
(R250). -/
def relayRow (phiIn phiOut slot : Nat) : Nat := (4 * slot + phiIn + 2 + 8 + 3 - phiOut) / 4

/-- Rows of an out-fiber that an entry takes. -/
def State.rowsOf (s : State) (e : SchedEntry) : List Nat :=
  if e.kind = 1 then e.slots.map (relayRow (s.phiIn e.src) (s.phiOut e.dst)) else if e.kind = 3 then [] else e.slots

/-! ## The checks of R252 -/

/-- The fields of an entry hold values of its KIND. -/
def SchedEntry.ok (e : SchedEntry) : Bool :=
  let near (x : Nat) : Bool := decide (x ≤ 95)
  e.rsvOk && 1 ≤ e.count && decide (e.count ≤ 1000000) && (e.count == 1 || (1 ≤ e.stride && decide (e.stride ≤ 1000000)))
    && match e.kind with
      | 1 => near e.src && near e.dst && e.stream == 0 && e.flit == 0
      | 2 => e.src == 255 && near e.dst
      | 3 => near e.src && e.dst == 255
      | 4 => e.src == 255 && near e.dst && e.stream == 0 && e.flit == 0
      | _ => false

/-- Reserved fields of the stream descriptors are zero, and TC is 3 or 4 where the stream is used. -/
def descriptorsOk (img : List Byte) : Bool :=
  (List.range 256).all fun i =>
    let o := outboundOf img i
    let d := inboundOf img i
    field o 96 32 == 0 && field o 35 13 == 0 && field o 0 32 == 0
      && (field o 48 16 == 0 || field o 32 3 == 3 || field o 32 3 == 4) && field d 38 10 == 0 && field d 0 32 == 0

/-- Cause 0x20: the header. -/
def State.schedFormatOk (s : State) (img : List Byte) : Bool :=
  let h := schedHeader img
  field h 0 32 == 0x48435347 && field h 32 16 == 1 && field h 48 96 == 0 && field h 384 128 == 0
    && decide (schedNent img ≤ 65536) && field h 288 32 == 8256 + 16 * schedNent img
    && img.length == 8256 + 16 * schedNent img && field h 320 32 == crc32c (img.drop 64)
    && field h 144 16 == s.num 0x2041 0 && decide (schedEpoch img > s.epoch) && descriptorsOk img
    && (entriesOf img).all (·.ok)

/-- Last slot of an entry. -/
def SchedEntry.last (e : SchedEntry) : Nat := e.first + (e.count - 1) * e.stride

/-- Cause 0x21: slots inside the tread, and fibers whose links have been measured. -/
def State.schedReachOk (s : State) (img : List Byte) : Bool :=
  (entriesOf img).all fun e =>
    decide (2 * e.last < schedPeriod img)
      && (e.src == 255 || (s.link e.src).measured.isSome) && (e.dst == 255 || (s.link e.dst).measured.isSome)

/-- Nothing stands twice in a list. -/
def noRepeat : List Nat → Bool
  | [] => true
  | a :: t => !t.contains a && noRepeat t

/-- All rows of an out-fiber. -/
def State.outRows (s : State) (l : List SchedEntry) (f : Nat) : List Nat :=
  (l.filter fun e => e.dst == f).flatMap s.rowsOf

/-- Cause 0x22. -/
def State.schedRowsOk (s : State) (img : List Byte) : Bool :=
  (List.range 96).all fun f => noRepeat (s.outRows (entriesOf img) f)

/-- The window W of a link (R229). -/
def State.window (s : State) (f : Nat) : Nat :=
  if (s.link f).direct then 1024 else min (2 ^ 20) (1024 + 4096 * s.spillMib f)

/-- Round-trip time of a link in ns by its measured one-way delay, less the 12 cycles of the two modules' stages (R244,
Table 11.2). -/
def State.creditLoop (s : State) (f : Nat) : Nat := ((s.link f).measured.getD 0 - 12) + 396

/-- The ack loop in ns (R244). -/
def State.ackLoop (s : State) (f : Nat) : Nat :=
  s.creditLoop f + if (s.link f).direct then 0 else s.num 0x5033 0

/-- Cause 0x23: the load of an out-fiber against its fraction, and free rows for calibration. -/
def State.schedLoadOk (s : State) (img : List Byte) : Bool :=
  (List.range 96).all fun f =>
    let rows := s.outRows (entriesOf img) f
    let heavy := rows.any fun r =>
      let n := (rows.filter fun x => decide (r ≤ x) && decide (x < r + 4096)).length
      decide (n * s.ackLoop f > 4096 * 2 * s.window f) || decide (n * s.creditLoop f > 4096 * 4096)
    let full := s.num 0x5008 0 == 1 && rows.any fun r => (List.range 16).all fun i => rows.contains (r + i)
    !heavy && !full

/-- Flit indices that the entries of a kind name on a stream. -/
def flitsOf (l : List SchedEntry) (kind stream : Nat) : List Nat :=
  (l.filter fun e => e.kind == kind && e.stream == stream).flatMap fun e => (List.range e.count).map (e.flit + ·)

/-- Cause 0x24: the streams. -/
def State.schedStreamsOk (s : State) (img : List Byte) : Bool :=
  let l := entriesOf img
  let use (kind i cap : Nat) : Bool :=
    let f := flitsOf l kind i
    f.length % 18 == 0 && decide (f.length ≤ 18 * cap) && noRepeat f
  (List.range 256).all fun i =>
    let o := outboundOf img i
    let d := inboundOf img i
    use 2 i (field o 48 16) && use 3 i (field d 48 16)
      && (field o 48 16 == 0 || (field o 64 32 % 64 == 0 && decide (field o 64 32 + 4160 * field o 48 16 ≤ 0x8000000)))
      && (field d 48 16 == 0 || (field d 64 32 % 64 == 0 && field d 96 32 % 64 == 0
        && decide (field d 64 32 + 4096 * field d 48 16 ≤ s.stagingBase)
        && decide (field d 96 32 + 64 * field d 48 16 ≤ s.stagingBase)))

/-- The abort code of a schedule image (R252); 0 for a valid one. The image lies in the hub cores' own memory, outside the module's
address map (log entry 147). -/
def State.scheduleRule (s : State) (img : List Byte) : Nat :=
  if !s.schedFormatOk img || s.badIn (2 ^ 43) (2 ^ 20) then 0x20000020
  else if !s.schedReachOk img then 0x20000021
  else if !s.schedRowsOk img then 0x20000022
  else if !s.schedLoadOk img then 0x20000023
  else if !s.schedStreamsOk img then 0x20000024
  else 0

/-! ## The flight (R246, R247) -/

/-- A membership entry (Table 11.1). -/
structure Member where
  modid : Nat
  bins : Nat
  binp : Nat
  role : Nat
  addr : Nat
  rsvOk : Bool
deriving DecidableEq, Repr

/-- The entry of 16 bytes. -/
def memberOf (b : List Byte) : Member :=
  let v := leNat b
  { modid := field v 64 64, bins := field v 48 8, binp := field v 40 8, role := field v 24 8, addr := field v 0 16
    rsvOk := field v 56 8 == 0 && field v 32 8 == 0 && field v 16 8 == 0 }

/-- Entries, `n` of them. -/
def membersOf : Nat → List Byte → List Member
  | 0, _ => []
  | n + 1, b => memberOf (b.take 16) :: membersOf n (b.drop 16)

/-- The membership list in force. -/
def State.members (s : State) : List Member := let b := s.blob 0x2040 0; membersOf (b.length / 16) b

/-- R247 on a list: `lost` admits ROLE 3, which only an active master's update may hold. -/
def membershipOk (lost : Bool) (b : List Byte) : Bool :=
  let l := membersOf (b.length / 16) b
  b.length % 16 == 0 && (l.filter fun m => m.role == 1).length == 1 && decide ((l.filter fun m => m.role == 2).length ≤ 1)
    && l.all (fun m => m.rsvOk && decide (m.role ≤ if lost then 3 else 2)
      && (decide (m.bins ≤ 95) || m.bins == 255) && (decide (m.binp ≤ 95) || m.binp == 255)
      && m.addr / 256 == (l.headD { modid := 0, bins := 0, binp := 0, role := 0, addr := 0, rsvOk := true }).addr / 256)
    && ((l.map (·.addr % 256)) == List.range l.length) && l.all fun m => m.addr / 256 != 0

/-- MEMBD: the list's digest. -/
def State.membd (s : State) : Nat := crc32c (s.blob 0x2040 0)

/-- The module's own flight address, as applied at Start treads, and position. -/
def State.faddr (s : State) : Nat := s.tick.faddr
def State.position (s : State) : Nat := s.faddr % 256

/-- The entry of this module. -/
def State.me (s : State) : Option Member := s.members.find? fun m => m.addr == s.faddr

/-- Addresses of the primary and the standby. -/
def State.roleAddr (s : State) (role : Nat) : Option Nat := (s.members.find? fun m => m.role == role).map (·.addr)

/-- The fiber on which the beacons of a master arrive: the primary's or the standby's. -/
def State.beaconFiber (s : State) (standby : Bool) : Option Nat :=
  match s.me with
  | none => none
  | some m => let f := if standby then m.bins else m.binp; if f ≤ 95 then some f else none

/-! ## Forwarding (R248) -/

/-- The fiber toward a position: the lowest-numbered UP one to a neighbour on that side. -/
def State.hopTo (s : State) (dst : Nat) : Option Nat :=
  (List.range 96).find? fun f =>
    (s.link f).state == 3 && match (s.link f).peerAddr with
      | some a => a / 256 == s.faddr / 256 && (if dst % 256 > s.position then decide (a % 256 > s.position)
          else decide (a % 256 < s.position))
      | none => false

/-- Send an envelope on toward its destination, or discard it (event 0x2014). -/
def State.forward (s : State) (dst : Nat) (q : QFlit) : State :=
  match s.hopTo dst with
  | some f => s.enqueue f q
  | none => s.log 0x2014 srcHub dst

/-- Originate an envelope. -/
def State.sendEnvelope (s : State) (tc dst : Nat) (inner : List Byte) : State :=
  s.forward dst
    { tc := tc, slot := 0, own := true
      payload := pad240 (leBytes 16 (0x60 + dst % 2 ^ 16 * 2 ^ 16 + s.faddr % 2 ^ 16 * 2 ^ 32) ++ inner) }

/-! ## Members and their home (R295) -/

/-- A module without a flight, or at position 0: it holds its own sessions. -/
def State.isHome (s : State) : Bool := s.faddr == 0 || s.position == 0

/-- The flight address of position 0. -/
def State.homeAddr (s : State) : Nat := s.faddr / 256 * 256

/-- A member sends its home a message in a MGMT envelope. -/
def State.tellHome (s : State) (inner : List Byte) : State :=
  if s.isHome then s else s.sendEnvelope 2 s.homeAddr (inner.take 224)

/-- A member reports the state of a model to its home. -/
def State.reportModel (s : State) (i : Nat) : State :=
  s.tellHome (Config.reportMessage i (s.model i).modelid (s.model i).state)

/-- Every other member that is not lost has reported LOADED for the model of the index. -/
def State.flightLoaded (s : State) (i : Nat) : Bool :=
  s.faddr == 0 || s.members.all fun m => m.addr == s.faddr || m.role == 3
    || tabGet (fun _ => (0, 0)) s.service.reports (16 * m.addr + i) == ((s.model i).modelid, 2)

/-- The home takes a member's MGMT message: a report of a model, a list of sessions to end, which with the overflow
flag is every open session (R295, R368; log entry 49). -/
def State.onMember (s : State) (src : Nat) (inner : List Byte) : State :=
  if !s.isHome || s.faddr == 0 then s
  else
    let s := match Config.modelReport inner with
      | some (i, id, st) => { s with service := { s.service with
          reports := tabSet (fun _ => (0, 0)) s.service.reports (16 * src + i % 16) (id, st) } }
      | none => s
    let r := Config.suspectList inner
    let l : List (Nat × Nat) := if r.1 then s.service.sessions.map fun e => (e.1, 0) else r.2
    forEach (l.filter fun e => (s.session e.1).isSome) s fun e s => s.endAtLanding e.1 0x0014 e.2

/-- A job's lists as they lie in a plan: views, bale list, session set, successors (Table 04.11). -/
def planLists (sessions : List Nat) (j : Config.PlanJob) : List Byte :=
  j.views.flatMap (leBytes 32) ++ j.bales.flatMap (leBytes 16) ++ sessions.flatMap (leBytes 2) ++ j.succ.flatMap (leBytes 2)

/-- Its descriptor, with its lists at an offset of the plan (Table 04.11). -/
def planDesc (sessions : List Nat) (j : Config.PlanJob) (off : Nat) : List Byte :=
  let blist := off + 32 * j.views.length
  let sset := blist + 16 * j.bales.length
  let succ := sset + 2 * sessions.length
  leBytes 64 (atBit j.jobId 32 0 + atBit j.cycb 32 32 + atBit j.energy 32 64 + atBit j.entry 16 96 + atBit j.nin 8 112
    + atBit j.nout 8 120 + atBit j.seed 64 128 + atBit j.prog 32 192 + atBit j.mig.toNat 1 240 + atBit j.scr.toNat 1 241
    + atBit j.gal.toNat 1 242 + atBit j.home 4 244 + atBit j.views.length 6 250 + atBit blist 32 256 + atBit sset 32 288
    + atBit sessions.length 16 320 + atBit j.npred 16 336 + atBit succ 24 352 + atBit j.succ.length 8 376 + atBit off 32 384
    + atBit j.ncmt 16 416 + atBit j.arg0 64 448)

/-- The plan of a tile for a tread (R93, Table 04.10): header, descriptors, lists. A job's session set is that of the batch's steps
that it serves. -/
def planBytes (tile epoch : Nat) (batch : List (Nat × Nat)) (jobs : List Config.PlanJob) : List Byte :=
  let sessions (j : Config.PlanJob) : List Nat := distinct (j.steps.filterMap fun k => (batch[k]?).map (·.1))
  let base := 64 + 64 * jobs.length
  let r := jobs.foldl (fun (a : List Byte × List Byte) j =>
    (a.1 ++ planDesc (sessions j) j (base + a.2.length), a.2 ++ planLists (sessions j) j)) ([], [])
  let body := r.1 ++ r.2
  leBytes 64 (atBit 0x4E4C5054 32 0 + atBit 1 16 32 + atBit tile 8 48 + atBit epoch 64 64 + atBit jobs.length 16 128
    + atBit (jobs.map (·.ncmt)).sum 32 160 + atBit (jobs.map (·.energy)).sum 32 192 + atBit 64 32 224
    + atBit (64 + body.length) 32 256 + atBit (crc32c body) 32 288) ++ body

/-- Write bytes to a tile's pasture below its staging area. -/
def State.writePlan (s : State) (t off : Nat) (b : List Byte) : State :=
  if off + b.length ≤ s.stagingBase then s.write (sramBase t + off) b else s

/-- The models loaded, as their templates are known: MODELID and ICRC. -/
def State.templates (s : State) : List Nat :=
  (List.range 16).map fun i => let m := s.model i; if m.state = 2 then m.modelid * 2 ^ 32 + m.icrc else 0

/-- The plans of the next tread, and the sampling inputs of its steps (R292, R293; log entry 53): nothing else than the batch, the
inputs and the images decides them (R294). -/
def State.writePlans (s : State) (b : List (Nat × Nat)) (inputs : List Config.SampleInput) : State :=
  upTo 64 s fun t s =>
    if !(s.tile t).flockOn then s
    else
      let p := Config.planJobs s.templates t b
      let s := if p.2.isEmpty then s else s.writePlan t p.1 (planBytes t (s.epoch + 1) b p.2)
      forEach inputs.zipIdx s fun e s => s.writePlan t (Config.sampleLayout s.templates t b e.2) (Config.sampleBytes s.templates e.1)

/-- A member takes the batch of its home: it writes its plans (R292, R295; log entry 49). -/
def State.onBatch (s : State) (src : Nat) (inner : List Byte) : State :=
  if s.isHome || src != s.homeAddr then s
  else let r := Config.readBatch inner; s.writePlans r.1 r.2

/-- STAGED_SCHEDULE_WRITE (R252): the write is refused as a whole, or the schedule is staged for its EPOCH. -/
def execStagedScheduleWrite (slot : Nat) (data : List Byte) (s : State) : Res :=
  let t := s.writeValue slot 0x2030 0 (.bytes data) fun s => s.scheduleRule data
  .next (if (s.authority slot).isSome then t.dropBad (2 ^ 43) (2 ^ 20) else t)

/-- MEMBERSHIP_LIST_WRITE (R247). -/
def execMembershipListWrite (slot : Nat) (data : List Byte) (s : State) : Res :=
  .next (s.writeValue slot 0x2040 0 (.bytes data) fun _ => if membershipOk false data then 0 else 0x20000030)

end Sys2Proof.Machine
end

