-- ==== Sys2Proof/Machine/Link.lean ====
section
/-! DEFINITION. The link layer: flits and verdicts, acknowledgement, replay and spill, credits, the row's choice, start,
breaks and retirement (R222–R243). -/

namespace Sys2Proof.Machine

/-! ## The flit (R222–R226) -/

/-- A flit header (Table 10.2). -/
structure FlitHead where
  slot : Nat
  ccum : Nat
  ccls : Nat
  tc : Nat
  late : Bool
  lc : Bool
  av : Bool
  ack : Nat
  seq : Nat
  rsvOk : Bool
deriving DecidableEq, Repr

/-- The header of a flit's bytes. -/
def flitHead (b : List Byte) : FlitHead :=
  let v := leNat (b.take 12)
  { slot := field v 76 20, ccum := field v 62 14, ccls := field v 59 3, tc := field v 56 3, late := bit v 51, lc := bit v 49
    av := bit v 48, ack := field v 24 24, seq := field v 0 24, rsvOk := field v 52 4 == 0 && !bit v 50 }

/-- The bytes of a header. -/
def FlitHead.bytes (h : FlitHead) : List Byte :=
  let b (x : Bool) (i : Nat) : Nat := if x then 2 ^ i else 0
  leBytes 12 (h.seq % 2 ^ 24 + h.ack % 2 ^ 24 * 2 ^ 24 + b h.av 48 + b h.lc 49 + b h.late 51 + h.tc % 2 ^ 3 * 2 ^ 56
    + h.ccls % 2 ^ 3 * 2 ^ 59 + h.ccum % 2 ^ 14 * 2 ^ 62 + h.slot % 2 ^ 20 * 2 ^ 76)

/-- The flit CRC (R223). -/
def flitCrc (b : List Byte) : Nat := crcRun 0xEDB88320 (b.take 252) 0xFFFFFFFF ^^^ 0xFFFFFFFF

/-- The payload of a flit. -/
def flitPayload (b : List Byte) : List Byte := (b.drop 12).take 240

/-- A whole flit; `stomp` puts the stomp code in place of the CRC. -/
def flitBytes (h : FlitHead) (payload : List Byte) (stomp : Bool) : List Byte :=
  let b := h.bytes ++ pad240 payload
  b ++ leBytes 4 (if stomp then 0xFFFFFFFF - flitCrc b else flitCrc b)

/-- A verdict (R223). -/
inductive Verdict where
  | good | stomp | bad
deriving DecidableEq, Repr

/-- The verdict on an arriving flit. -/
def verdict (b : List Byte) : Verdict :=
  let c := leNat ((b.drop 252).take 4)
  if b.length ≠ 256 then .bad
  else if c = flitCrc b then .good
  else if c = 0xFFFFFFFF - flitCrc b then .stomp
  else .bad

/-! ## Sequence numbers (R229) -/

/-- Distance modulo 2^24. -/
def seqDist (a b : Nat) : Nat := (a % 2 ^ 24 + 2 ^ 24 - b % 2 ^ 24) % 2 ^ 24

/-- The outstanding count. -/
def LinkSt.outstanding (l : LinkSt) : Nat := seqDist l.next l.oldest

/-- A retained entry. -/
def LinkSt.entry (l : LinkSt) (seq : Nat) : Option QFlit := tabGet (fun _ => none) l.replay seq

/-- The entry lies in the spill region. -/
def LinkSt.inSpill (l : LinkSt) (seq : Nat) : Bool :=
  decide (l.unreadable ≤ seqDist seq l.oldest) && decide (seqDist seq l.oldest < l.unreadable + l.spilled)

/-- Spill mode with an empty spill: what lay in the region before cannot be read any more (R236). -/
def LinkSt.emptySpill (l : LinkSt) : LinkSt :=
  { l with direct := false, spillLost := false, unreadable := l.unreadable + l.spilled, spilled := 0 }

/-- Put a link's spilled count where object 0x5046 reports it. -/
def State.noteSpill (s : State) (f : Nat) : State := s.setNum 0x5046 (f + 1) (s.link f).spilled

/-- Release the `n` oldest entries. -/
def LinkSt.release (l : LinkSt) (n : Nat) : LinkSt :=
  { l with
    oldest := (l.oldest + n) % 2 ^ 24, spilled := l.spilled - (n - l.unreadable), unreadable := l.unreadable - n
    replay := l.replay.filter fun e => decide (n ≤ seqDist e.1 l.oldest)
    replayAt := match l.replayAt with
      | some r => if seqDist r l.oldest < n then (if n < l.outstanding then some ((l.oldest + n) % 2 ^ 24) else none) else some r
      | none => none }

/-- A valid ACK releases every entry through it (R231). -/
def State.takeAck (s : State) (f a : Nat) : State :=
  let l := s.link f
  let d := seqDist a l.oldest
  if d < l.outstanding then (s.setLink f (l.release (d + 1))).noteSpill f else s

/-! ## Credits (R237, R238) -/

/-- Outstanding credits of a class. -/
def LinkSt.out (l : LinkSt) (c : Nat) : Int := (l.sent.getD c 0 : Int) - l.credited.getD c 0

/-- A flit of a class may be transmitted. -/
def LinkSt.credit (l : LinkSt) (c : Nat) : Bool :=
  let excess : Int := ((List.range 5).map fun k => max 0 (l.out k - (l.resMin.getD k 0 : Nat))).sum
  decide (l.out c < (l.resMin.getD c 0 : Nat)) || decide (excess < (2048 : Int) - (l.resMin.sum : Nat))

/-- Credits that a header returns. -/
def LinkSt.takeCredit (l : LinkSt) (h : FlitHead) : LinkSt :=
  if h.ccls < 5 then
    { l with
      credited := l.credited.set h.ccls (l.credited.getD h.ccls 0 + ((h.ccum + 2 ^ 14 - l.lastCcum.getD h.ccls 0) % 2 ^ 14 : Nat))
      lastCcum := l.lastCcum.set h.ccls h.ccum }
  else l

/-- The class that the next outgoing flit reports: one whose freed count has changed, in rotation. -/
def LinkSt.report (l : LinkSt) : Nat :=
  let order := (List.range 5).map fun i => (l.rotate + i) % 5
  (order.find? fun c => l.freed.getD c 0 != l.freedSent.getD c 0).getD l.rotate

/-- A sequence number may be assigned (R229, R235). -/
def State.windowOpen (s : State) (f : Nat) : Bool :=
  decide ((s.link f).outstanding < s.window f) && decide ((s.link f).spillWaiting ≤ 64)

/-! ## Sending -/

/-- The row of an out-fiber now, in a tread. -/
def State.outRow (s : State) (f : Nat) : Option Nat :=
  if s.tick.running ∧ s.tick.begun ∧ s.phiOut f ≤ s.sinceTick then some ((s.sinceTick - s.phiOut f) / 4) else none

/-- Blocks join the transmit stream of a fiber (R204). -/
def State.streamIn (s : State) (f : Nat) (l : List StreamBlock) : State :=
  s.modFiber f fun x => { x with stream := x.stream ++ l }

/-- The SLOT that a flit carries: of one that the module originates outside the schedule the launch slot, 0 while no tread
runs (R224, R249; log entry 116). -/
def State.slotOf (s : State) (f : Nat) (q : QFlit) : Nat := if q.own then (s.portSlot (s.phiOut f)).getD 0 else q.slot

/-- Send a flit: AV, ACK, CCLS and CCUM are the receive side's (R224, R231, R238); a transmission that is no link control
debits a credit (R237). -/
def State.transmit (s : State) (f : Nat) (q : QFlit) (lc : Bool) (seq : Nat) (stomp : Bool) : State :=
  let l := s.link f
  let c := l.report
  let av := l.rxState && (l.peerDirect || l.ackDue)
  let h : FlitHead := { slot := s.slotOf f q, ccum := l.freed.getD c 0, ccls := c, tc := q.tc, late := q.late, lc := lc, av := av
                        ack := (l.expect + 2 ^ 24 - 1) % 2 ^ 24, seq := seq, rsvOk := true }
  let bytes := flitBytes h q.payload stomp
  let s := (s.send (.flit f bytes)).streamIn f ((flitBlocks bytes).map .data)
  let s := s.setLink f
    { l with
      sent := if lc then l.sent else bump l.sent q.tc 1
      freedSent := l.freedSent.set c (l.freed.getD c 0), rotate := (c + 1) % 5
      ackDue := l.ackDue && !av, sinceAck := if av then 0 else l.sinceAck }
  if q.late && !lc then s.count 0x5050 (f + 1) 1 else s

/-- The payload of a link-control flit (Table 10.4). -/
def State.lcPayload (s : State) (f ltype : Nat) : List Byte :=
  let l := s.link f
  let start := ltype = 4 ∨ ltype = 5
  let word (c : Nat) : Nat :=
    if ltype = 3 then l.sent.getD c 0 % 2 ^ 32
    else if start then atBit (s.num 0x5034 (c + 1)) 16 16 + l.held.getD c 0 % 2 ^ 16
    else 0
  leBytes 32 (ltype + atBit (if ltype = 2 ∨ ltype = 5 then l.expect else 0) 24 16
    + (if l.direct ∧ (ltype = 3 ∨ start) then 2 ^ 40 else 0) + (if start then 2048 * 2 ^ 48 else 0)
    + atBit (word 0) 32 64 + atBit (word 1) 32 96 + atBit (word 2) 32 128 + atBit (word 3) 32 160 + atBit (word 4) 32 192)

def State.modTick (s : State) (f : TickSt → TickSt) : State := { s with tick := f s.tick }

/-- The module's own master, its keeper or its hub, had a fault in this tread (R39, log entry 121). -/
def State.ownFaulted (s : State) : State := s.modTick fun t => { t with ownFault := true }

/-- SOURCE of a probe or a reply: while treads are stopped, as at the flight build that precedes their start (R250), object
0x2041 itself (DEDUCED, log entry 136). -/
def State.probeSource (s : State) : Nat := if s.tick.running then s.faddr else s.num 0x2041 0

/-- Queue a probe on a fiber; its launch time is taken when it leaves. -/
def State.sendProbe (s : State) (f : Nat) : State :=
  if (s.link f).state ≠ 3 then s
  else
    let pid := s.tick.nextPid
    let p := leBytes 32 (3 + atBit s.probeSource 16 16 + atBit f 8 80 + atBit 0xFF 8 88 + atBit pid 32 96)
    (s.modLink f fun l => { l with tickOut := l.tickOut ++ [(none, pad240 p)] }).modTick fun t =>
      { t with nextPid := (pid + 1) % 2 ^ 32
               probes := (pid, f, s.clock, s.epoch) :: t.probes.filter fun e => decide (s.epoch < e.2.2.2 + 1024) }

/-- A link that has sent and received its start is UP (R227); a flight build probes it (R250). -/
def State.linkUp (s : State) (f : Nat) : State :=
  let l := s.link f
  if l.state = 2 && l.sentStart && l.gotStart then
    let s := (s.log 0x5030 srcHub f).modLink f fun l => { l with state := 3, rxState := true }
    if s.gallery.building then s.sendProbe f else s
  else s

/-- Send a waiting link-control flit. INIT tells the peer to number from 0, which is then expected (R228; log entry 45). -/
def State.sendLc (s : State) (f ltype : Nat) : State :=
  let s := s.transmit f { tc := 0, slot := 0, payload := s.lcPayload f ltype } true 0 false
  let s := if ltype = 4 then s.modLink f fun l => { l with expect := 0, nakPending := false } else s
  let s := s.modLink f fun l =>
    { l with lcDue := l.lcDue.filter fun e => e.1 != ltype, sentStart := l.sentStart || ltype == 4 || ltype == 5 }
  s.linkUp f

/-- Let a link-control flit wait. -/
def State.dueLc (s : State) (f ltype : Nat) : State := s.modLink f fun l => l.due ltype s.clock

/-! ## Replay and spill (R228, R232, R235, R236) -/

/-- The buffer as under INIT: every entry is lost, numbering starts at 0. -/
def State.emptyBuffer (s : State) (f : Nat) : State :=
  let s := s.loseLogged f (s.link f).outstanding
  (s.modLink f fun l =>
    { l with next := 0, oldest := 0, replay := [], spilled := 0, unreadable := 0, spillRead := false, replayAt := none, lastReplay := none
             noProgress := 0 }).noteSpill f

/-- Retransmission begins at the oldest entry: object 0x5043 counts it; the eighth from one entry breaks the link. Spilled
entries that direct mode cannot read are lost, and the peer learns it from an INIT. -/
def State.startReplay (s : State) (f : Nat) : State :=
  let l := s.link f
  if l.outstanding = 0 then s
  else if (l.direct && decide (l.spilled > 0)) || decide (l.unreadable > 0) then (s.emptyBuffer f).dueLc f 4
  else
    let n := match l.lastReplay with
      | some r => if r.1 = l.oldest then l.noProgress + 1 else 1
      | none => 1
    let s := (s.count 0x5043 (f + 1) 1).setLink f
      { l with replayAt := some l.oldest, lastReplay := some (l.oldest, s.clock), noProgress := n, spillRead := false
               replaysInTread := l.replaysInTread + 1 }
    if n ≥ 8 then s.breakLink f else s

/-- Address of a spilled entry. -/
def State.spillAddr (s : State) (f seq : Nat) : Nat :=
  let a := s.spillBase f + 256 * (seq % (4096 * s.spillMib f))
  match s.translate a false with
  | .ok b => b
  | .error _ => a

/-- The oldest entry in SRAM goes to the spill region when all 1,024 are in use. -/
def State.spillOldest (s : State) (f : Nat) : State :=
  let l := s.link f
  let gone := l.unreadable + l.spilled
  let seq := (l.oldest + gone) % 2 ^ 24
  if l.direct || decide (l.outstanding - gone < 1024) then s
  else match l.entry seq with
    | none => s
    | some q =>
      let h : FlitHead := { slot := q.slot, ccum := 0, ccls := 0, tc := q.tc, late := q.late, lc := false, av := false
                            ack := 0, seq := seq, rsvOk := true }
      ((s.write (s.spillAddr f seq) (flitBytes h q.payload false)).modLink f fun l =>
        { l with replay := tabSet (fun _ => none) l.replay seq none, spilled := l.spilled + 1
                 spillWaiting := l.spillWaiting + 1 }).noteSpill f

/-- A first transmission of a sequenced flit: it takes the next number and an entry of the replay buffer. -/
def State.sendNew (s : State) (f : Nat) (q : QFlit) : State :=
  let s := s.spillOldest f
  let seq := (s.link f).next
  let slot := s.slotOf f q
  let s := s.transmit f q false seq false
  let s := s.modLink f fun l =>
    { l with next := (seq + 1) % 2 ^ 24
             replay := tabSet (fun _ => none) l.replay seq (some { q with slot := slot, own := false, pool := none, late := true }) }
  s.freePool q.pool q.tc

/-- The flit of a replay in progress that can go now; a spilled one is read first, and one that cannot be read any more leaves the
buffer as under INIT (R236). -/
def State.nextReplay (s : State) (f : Nat) : State × Option (Nat × QFlit) :=
  let l := s.link f
  match l.replayAt with
  | none => (s, none)
  | some seq =>
    match l.entry seq with
    | some q => (s, if l.credit q.tc then some (seq, q) else none)
    | none =>
      if l.direct || decide (seqDist seq l.oldest < l.unreadable) then ((s.emptyBuffer f).dueLc f 4, none)
      else (s.setLink f { l with spillRead := true }, none)

/-- Send a retransmission; the replay ends after the last number assigned. -/
def State.sendReplay (s : State) (f seq : Nat) (q : QFlit) : State :=
  let s := s.transmit f q false seq false
  s.modLink f fun l =>
    let nxt := (seq + 1) % 2 ^ 24
    { l with replay := if l.inSpill seq then tabSet (fun _ => none) l.replay seq none else l.replay
             replayAt := if nxt = l.next then none else some nxt }

/-- SPILL_READ_COMPLETE (R235): the entry is there to be retransmitted; a bad one puts the link in direct mode. -/
def execSpillReadComplete (fiber : Fin 96) (entryGood : Bool) (s : State) : Res :=
  let l := s.link fiber
  match l.replayAt with
  | none => .next s
  | some seq =>
    if !l.spillRead then .next s
    else
      let b := s.read (s.spillAddr fiber seq) 256
      if l.direct || decide (seqDist seq l.oldest < l.unreadable) then .next ((s.emptyBuffer fiber).dueLc fiber 4)
      else if entryGood && verdict b == .good then
        let h := flitHead b
        .next (s.setLink fiber
          { l with spillRead := false
                   replay := tabSet (fun _ => none) l.replay seq
                     (some { tc := h.tc, slot := h.slot, late := true, payload := flitPayload b }) })
      else .next (((s.enterDirect fiber).emptyBuffer fiber).dueLc fiber 4)

/-- SPILL_WRITE_COMPLETE (R235): one spill write fewer waits. -/
def execSpillWriteComplete (fiber : Fin 96) (s : State) : Res :=
  .next (s.modLink fiber fun l => { l with spillWaiting := l.spillWaiting - 1 })

/-- The conditions of R235 on a spill region. -/
def State.spillRegionOk (s : State) (f base mib : Nat) : Bool :=
  let n := mib * 2 ^ 20
  base % 2 ^ 20 == 0 && inLpddr base n && base / 2 ^ 36 % 8 == 7
    && s.regions.any (fun r => r.kind == 4 && decide (r.base ≤ base) && decide (base + n ≤ r.base + r.len))
    && (List.range 96).all fun g =>
      g == f || s.spillBase g == 0 || s.spillMib g == 0 || !overlaps base n (s.spillBase g) (s.spillMib g * 2 ^ 20)


/-- A link's region is new: spill mode begins with an empty spill where it is valid and can be reached; else direct mode
(R235, R236). Entries spilled into another region cannot be read any more. -/
def State.respillTo (s : State) (f : Nat) : State :=
  if s.spillReachable f then (s.modLink f LinkSt.emptySpill).noteSpill f else s.enterDirect f

/-- SPILL_REGION_WRITE (R235): base or size; with both set the region must be valid, and decides the link's mode. -/
def execSpillRegionWrite (slot : Nat) (fiber : Fin 96) (isSize : Bool) (value : Nat) (s : State) : Res :=
  let base := if isSize then s.spillBase fiber else value
  let mib := if isSize then value else s.spillMib fiber
  .next (s.writeThen slot (if isSize then 0x5041 else 0x5040) (fiber + 1) (.num value)
    (fun s => if base = 0 ∨ mib = 0 ∨ s.spillRegionOk fiber base mib then 0 else 0x50000020)
    fun u => if value = (if isSize then s.spillMib fiber else s.spillBase fiber) then u else u.respillTo fiber)

/-- RESERVED_MINIMUM_WRITE (R237). -/
def execReservedMinimumWrite (slot : Nat) (cls : Fin 5) (value : Nat) (s : State) : Res :=
  .next (s.writeValue slot 0x5034 (cls + 1) (.num value) fun s =>
    let others := ((List.range 5).map fun c => if c = cls.val then 0 else s.num 0x5034 (c + 1)).sum
    if others + value ≤ 1024 then 0 else 0x50000021)

/-! ## The row (R240) -/

/-- A TICK flit is discarded: event 0x5039 once per tread. -/
def State.dropTick (s : State) (f : Nat) : State :=
  if (s.link f).tickDiscarded then s
  else (s.log 0x5039 srcHub f).modLink f fun l => { l with tickDiscarded := true }

/-- A cut-through flit loses its row: a TICK flit is discarded, another waits in its class queue with LATE; one that carries
the stomp code goes no further (R234). -/
def State.loseCut (s : State) (f : Nat) (c : CutFlit) : State :=
  let s := s.modLink f fun l => { l with cut := l.cut.erase c }
  if c.flit.tc = 0 then (s.dropTick f).freePool c.flit.pool 0
  else if c.stomp then s
  else s.enqueue f { c.flit with late := true }

/-- A cut-through flit's row is this one, or has passed. -/
def CutFlit.now (c : CutFlit) (clock : Nat) : Bool := decide (c.mark ≤ clock) && decide (clock < c.mark + 4)
def CutFlit.stale (c : CutFlit) (clock : Nat) : Bool := decide (c.mark + 4 ≤ clock)

/-- Flits whose row has passed lose it. -/
def State.dropStale (s : State) (f : Nat) : State :=
  let past (e : Option Nat × List Byte) : Bool := match e.1, s.outRow f with | some r, some n => decide (r < n) | _, _ => false
  let s := if (s.link f).tickOut.any past then
      (s.dropTick f).modLink f fun l => { l with tickOut := l.tickOut.filter fun e => !past e }
    else s
  forEach ((s.link f).cut.filter fun c => c.stale s.clock) s fun c s => s.loseCut f c

/-- A link-control flit of rank 1: it has waited 64 ns. -/
def State.rankOne (s : State) (f : Nat) : Option Nat :=
  ((s.link f).lcDue.find? fun e => e.1 != 1 && decide (s.clock ≥ e.2 + 128)).map (·.1)

/-- The TICK flit of the schedule that goes in a row: a beacon of this module's, or a probe or a reply of its own where there
is none (R33). -/
def State.tickFor (s : State) (f : Nat) (row : Option Nat) : Option (Option Nat × List Byte) :=
  if !(s.link f).credit 0 then none
  else match (s.link f).tickOut.find? fun e => e.1.isSome && e.1 == row with
    | some e => some e
    | none => (s.link f).tickOut.find? fun e => e.1.isNone

/-- The cut-through flit whose row is this one: a TICK flit or another. -/
def State.cutNow (s : State) (f : Nat) (tick : Bool) : Option CutFlit :=
  (s.link f).cut.find? fun c => c.now s.clock && (c.flit.tc == 0) == tick

/-- The queued flit that may go: the highest class with a credit and a free window. -/
def State.queuedFor (s : State) (f : Nat) : Option QFlit :=
  if !s.windowOpen f then none
  else
    (([1, 2, 3, 4].filter fun c => (s.link f).credit c).filterMap fun c => ((s.link f).queue c).head?).head?

/-- The header of a void bale (R256). -/
def voidHeader (stream epoch : Nat) : BitVec 512 := poisonHeader (1 + 0x7FF * 2 ^ 21) 0x0020 stream epoch

/-- Part m of a bale image (R254). -/
def balePart (image : List Byte) (m : Nat) : List Byte := pad240 ((image.drop (240 * m)).take 240)

/-- The schedule's LAUNCH on a fiber in a row: its flit, none for the later parts of a void bale. -/
def State.launchAt (s : State) (f row : Nat) : Option QFlit :=
  match s.schedule.findSome? fun e => if e.kind = 2 ∧ e.dst = f then (e.occurs row).map fun i => (e, i) else none with
  | none => none
  | some (e, i) =>
    let j := e.flit + i
    let tc := field (outboundOf (s.blob 0x2031 0) e.stream) 32 3
    let a := hubBase + field (outboundOf (s.blob 0x2031 0) e.stream) 64 32 + 4160 * (j / 18)
    if tabGet (fun _ => false) s.gallery.launch (256 * (j / 18) + e.stream) then
      some { tc := tc, slot := row, payload := balePart (s.read a 4160) (j % 18) }
    else if j % 18 = 0 then
      some { tc := tc, slot := row, payload := pad240 (headerBytes (voidHeader e.stream (s.epoch - 1))) }
    else none

/-- The launch of the current row that has not gone yet. -/
def State.launchNow (s : State) (f : Nat) : Option (Nat × QFlit) :=
  match s.outRow f with
  | none => none
  | some r =>
    let mark := 2 ^ 20 * s.epoch + r + 1
    if s.gallery.quiet || (s.link f).launched == mark then none else (s.launchAt f r).map fun q => (mark, q)

/-- Launches of the row that lost it wait in their class queue (R234). -/
def State.queueLaunch (s : State) (f : Nat) : State :=
  match s.launchNow f with
  | none => s
  | some (mark, q) => (s.modLink f fun l => { l with launched := mark }).enqueue f { q with late := true }

/-- The row's scheduled flits lose it to another (R240). -/
def State.yieldRow (s : State) (f : Nat) : State :=
  let s := s.queueLaunch f
  forEach ((s.link f).cut.filter fun c => c.now s.clock) s fun c s => s.loseCut f c

/-- Margins of the receive lanes by lane number, for IDLE blocks (R213). -/
def State.idleInfo (s : State) (f : Nat) : List Nat :=
  (List.range 16).map fun i =>
    let line := lineOf (s.fiber f).rxMap i
    if line ≠ 255 ∧ (s.rxLane f line).state = 4 then (s.rxLane f line).margin else 255

/-- A control group begins: 16 blocks of one kind join the stream. -/
def State.sendGroup (s : State) (f ctype : Nat) (map : List Nat) (rxrdy thin : Bool) (dlane : Nat) (info : List Nat) : State :=
  (s.send (.group f ctype map rxrdy thin dlane info)).streamIn f (List.replicate 16 (.ctrl ctype map rxrdy thin dlane))

/-- An IDLE control group. -/
def State.sendIdle (s : State) (f : Nat) : State := s.sendGroup f 1 [] false false 0 (s.idleInfo f)

/-- A MODE group: the new map; the new striping begins after the row of its last block (R207). -/
def State.sendMode (s : State) (f : Nat) (thin : Bool) (lane line : Nat) : State :=
  let m := (s.fiber f).txMap.set lane (if thin then 255 else line)
  (s.sendGroup f 3 m false thin (if thin then lane else 0) []).modFiber f fun x =>
    { x with modeDue := none, modeEnd := some (thin, lane, line) }

/-- The new striping begins (R207). -/
def State.changeStriping (s : State) (f : Nat) (thin : Bool) (lane line : Nat) : State :=
  let n := f / 8
  let m := (s.fiber f).txMap.set lane (if thin then 255 else line)
  let s := (s.log 0x5015 srcHub f).modFiber f fun x => { x with txMap := m, txState := if thin then 1 else 0, modeEnd := none }
  let s := if thin then (if (s.txLane f line).state = 0 then s else s.txTo f line 5)
    else if (s.txLane f line).state = 0 then s else s.txServe f line lane
  let s := s.modCal n fun c =>
    if c.line ≠ line then c
    else if thin then (if c.phase = 0 then { c with dropped := c.dropped ++ [(f, lane)] } else c)
    else { c with dropped := c.dropped.filter (· ≠ (f, lane)) }
  ((if thin then s.switchOffFaded n line else s).nextMove f).calAdvance n

/-! ## The row on the lines (R202–R204, R207, R217, R219, R220) -/

/-- The block that a line sends in a row, and its lane after it; none where it sends no block. -/
def State.lineSends (s : State) (f line : Nat) (content : Nat → Option (BitVec 2 × BitVec 128)) : Option (BitVec 130 × LaneSt) :=
  let l := s.txLane f line
  let invert (b : BitVec 130) : BitVec 130 := match l.flip with | some i => b ^^^ BitVec.ofNat 130 (2 ^ i) | none => b
  if l.state = 0 ∨ l.state = 5 then none
  else if l.burst > 0 then some (burstBlock l.burst, { l with burst := l.burst - 1 })
  else if l.state = 6 then
    let cfg := (s.test.running.find? fun e => !e.1 && e.2.1 == f && e.2.2.1 == line).elim 0 (·.2.2.2)
    let t := l.testBlock cfg
    some (invert t.1, { t.2 with flip := none })
  else match content l.lane with
    | some (h, p) =>
      let u := l.scrambled p
      some (invert (blockOf h u.1), { l with scrambler := u.2, flip := none })
    | none => none

/-- One row: every line that sends takes its block, and ROW rises. -/
def State.laneRow (s : State) (f : Nat) (content : Nat → Option (BitVec 2 × BitVec 128)) : State :=
  let out := (List.range 18).filterMap fun line => (s.lineSends f line content).map fun e => (line, e)
  let s := forEach out s fun e s => s.modTxLane f e.1 fun _ => e.2.2
  let s := if out.isEmpty then s else s.send (.row f (out.map fun e => (e.1, e.2.1)))
  s.modFiber f fun x => { x with row := x.row + 1 }

/-- What lane `lane` carries in a row of the stream: its block, an IDLE block after the last block of a MODE group, TRAIN
blocks on a line that is being restored (R207; log entry 117). -/
def FiberSt.content (x : FiberSt) (f : Nat) (margins : List Nat) (blocks : List StreamBlock) (lane : Nat) :
    Option (BitVec 2 × BitVec 128) :=
  let lanes := lanesOfMap x.txMap
  let train (l line : Nat) : StreamBlock := .ctrl 2 (x.txMap.set l line) false false 0
  if lanes.contains lane then
    some ((blocks.getD (lanes.idxOf lane) (.ctrl 1 [] false false 0)).onLane f lane x.row margins)
  else match x.restoring, x.modeDue, x.modeEnd with
    | some (_, l, line), _, _ => if l = lane then some ((train l line).onLane f lane x.row margins) else none
    | none, some (false, l, line), _ => if l = lane then some ((train l line).onLane f lane x.row margins) else none
    | none, _, some (false, l, line) => if l = lane then some ((train l line).onLane f lane x.row margins) else none
    | _, _, _ => none

/-- A row of the stream leaves: one block on each mapped lane; with the last block of a MODE group its striping ends. -/
def State.emitRow (s : State) (f : Nat) : State :=
  let x := s.fiber f
  let n := (mapped x.txMap).length
  let u := (s.laneRow f (x.content f (s.idleInfo f) (x.stream.take n))).modFiber f fun x => { x with stream := x.stream.drop n }
  match (u.fiber f).modeEnd with
  | some (thin, lane, line) => if (u.fiber f).stream.isEmpty then u.changeStriping f thin lane line else u
  | none => u

/-- A TRAIN row: the map, RXRDY and the global fiber id on every line that trains. A transmitter that has sent RXRDY, and has
received it in 64 rows, sends this one further row (R216). -/
def State.trainRow (s : State) (f : Nat) : State :=
  let x := s.fiber f
  let rdy := s.rxReady f
  let block : StreamBlock := .ctrl 2 x.txMap rdy false 0
  let s := s.send (.group f 2 x.txMap rdy false 0 [f])
  let s := s.laneRow f fun lane => some (block.onLane f lane x.row [])
  let s := s.modFiber f fun x => { x with rxrdySent := rdy }
  if x.rxrdySent && decide (x.rxrdyRows ≥ 64) then s.trained f else s

/-- The hub-cycle counter (R33). -/
def State.hubCycles (s : State) : Nat := (s.clock - s.boot.hubStart) % 2 ^ 64

/-- A TICK flit is launched: a probe's launch time is taken, a reply's TLAUNCH written (R33). -/
def State.stampTick (s : State) (payload : List Byte) : State × List Byte :=
  let p := leNat (payload.take 32)
  if field p 0 8 = 4 then
    (s, leBytes 32 (p % 2 ^ 192 + s.hubCycles * 2 ^ 192) ++ payload.drop 32)
  else if field p 0 8 = 3 then
    ({ s with tick := { s.tick with
      probes := s.tick.probes.map fun e => if e.1 = field p 96 32 then (e.1, e.2.1, s.clock, e.2.2.2) else e } }, payload)
  else (s, payload)

/-- Send the oldest queued flit of a class. -/
def State.sendQueued (s : State) (f : Nat) (q : QFlit) : State :=
  ((s.yieldRow f).modLink f fun l => l.setQueue q.tc ((l.queue q.tc).drop 1)).sendNew f q

/-- Send this module's beacon, probe or reply of a row. -/
def State.sendTick (s : State) (f : Nat) (e : Option Nat × List Byte) : State :=
  let s := s.modLink f fun l => { l with tickOut := l.tickOut.erase e }
  let r := s.stampTick e.2
  r.1.transmit f { tc := 0, slot := e.1.getD 0, payload := r.2, own := e.1.isNone } false 0 false

/-- The scheduled cut-through or originated flit of a row may go: its class queue is empty, a credit and a free window are
there (R233). -/
def State.mayCut (s : State) (f tc : Nat) (stomp : Bool) : Bool :=
  ((s.link f).queue tc).isEmpty && (s.link f).credit tc && (stomp || s.windowOpen f)

/-- Send a cut-through flit: its pool entry is free; one with another verdict than good takes the stomp code, no number and no
entry of the replay buffer (R233, R237). -/
def State.sendCut (s : State) (f : Nat) (c : CutFlit) : State :=
  let s := s.modLink f fun l => { l with cut := l.cut.erase c }
  if c.flit.tc = 0 then (s.freePool c.flit.pool 0).transmit f c.flit false 0 c.stomp
  else if c.stomp then s.transmit f c.flit false (s.link f).next true
  else s.sendNew f c.flit

/-- The row's launch, and whether it has gone; one that cannot go waits (R234). -/
def State.sendLaunch (s : State) (f : Nat) : State × Bool :=
  match s.launchNow f with
  | some (mark, q) =>
    if s.mayCut f q.tc false then ((s.modLink f fun l => { l with launched := mark }).sendNew f q, true)
    else (s.queueLaunch f, false)
  | none => (s, false)

/-- Rank 5: the row's cut-through flit, else its launch, and whether one has gone; what cannot go, or loses the row to the other,
waits (R234). -/
def State.sendScheduled (s : State) (f : Nat) : State × Bool :=
  match s.cutNow f false with
  | some c => if s.mayCut f c.flit.tc c.stomp then ((s.sendCut f c).queueLaunch f, true) else (s.loseCut f c).sendLaunch f
  | none => s.sendLaunch f

/-- Ranks 6 and 7: pending link control, an IDLE group. -/
def State.sendRest (s : State) (f : Nat) : State :=
  match (s.link f).lcDue with
  | (t, _) :: _ => s.sendLc f t
  | [] => s.sendIdle f

/-- The group that begins in a row of an UP link: the first of R240's ranks that applies. -/
def State.sendRow (s : State) (f : Nat) : State :=
  let s := s.dropStale f
  match s.rankOne f with
  | some t => (s.yieldRow f).sendLc f t
  | none =>
    match (if (s.link f).credit 0 then s.cutNow f true else none) with
    | some c => (s.queueLaunch f).sendCut f c
    | none =>
      match s.tickFor f (s.outRow f) with
      | some e => (s.yieldRow f).sendTick f e
      | none =>
        let r := s.nextReplay f
        match r.2 with
        | some (seq, q) => (r.1.yieldRow f).sendReplay f seq q
        | none =>
          match r.1.queuedFor f with
          | some q => r.1.sendQueued f q
          | none =>
            let t := r.1.sendScheduled f
            if t.2 then t.1 else t.1.sendRest f

/-- A DROP notice of this end (R187). -/
def dropNotice (q : QFlit) : Bool := q.own && (noticeOf q.payload).type == nDrop

/-- The group that begins in a row: none while blocks of the last one fill it; a MODE group that is due, one that thins once its
DROP notice has gone; a start, from Ready on, while the link waits (R204, R207, R227). -/
def State.beginGroup (s : State) (f : Nat) : State :=
  let x := s.fiber f
  if x.modeEnd.isSome || decide ((mapped x.txMap).length ≤ x.stream.length) then s.yieldRow f
  else match x.modeDue with
    | some (thin, lane, line) =>
      if thin && ((s.link f).queue 2).any dropNotice then s.sendRow f else (s.yieldRow f).sendMode f thin lane line
    | none =>
      if (s.link f).state = 3 then s.sendRow f
      else match (s.link f).lcDue.find? fun e => s.ready && (e.1 == 4 || e.1 == 5) with
        | some e => (s.yieldRow f).sendLc f e.1
        | none => (s.yieldRow f).sendIdle f

/-- ROW_SEND (R204, R216, R234, R240): flits that are due while the link is not UP are lost. -/
def execRowSend (fiber : Fin 96) (s : State) : Res :=
  let f := fiber.val
  let st := (s.link f).state
  if (s.fiber f).training then .next ((s.yieldRow f).trainRow f)
  else if st ≠ 2 ∧ st ≠ 3 then .next ((s.yieldRow f).laneRow f fun _ => none)
  else .next ((s.beginGroup f).emitRow f)

/-! ## Arrivals (R223, R225, R228, R230–R232, R238, R239) -/

/-- A flit's row is delivered to the link logic: lanes in SERVICE, the link WAIT or UP. -/
def State.delivered (s : State) (f : Nat) : Bool :=
  s.delivers f && ((s.link f).state == 2 || (s.link f).state == 3)

/-- The receiver of an UP link enters NAK-pending and sends NAK(e), unless it is there already. -/
def State.nak (s : State) (f : Nat) : State :=
  if (s.link f).nakPending || (s.link f).state != 3 then s
  else (s.modLink f fun l => { l with nakPending := true }).dueLc f 2

/-- A bad verdict. -/
def State.badArrival (s : State) (f : Nat) : State :=
  ((s.count 0x5044 (f + 1) 1).modLink f fun l => { l with badInTread := l.badInTread + 1 }).nak f

/-- A header that arrived intact: its credits and its ACK, and one arrival of its class. -/
def State.headerIn (s : State) (f : Nat) (h : FlitHead) : State :=
  let s := s.modLink f fun l =>
    let l := l.takeCredit h
    if h.lc || h.tc ≥ 5 then l else { l with arrivals := bump l.arrivals h.tc 1 }
  if h.av then s.takeAck f h.ack else s

/-- An arrival's pool entry is free at once. -/
def State.freeArrival (s : State) (f tc : Nat) : State :=
  if tc ≥ 5 then s else s.modLink f fun l => { l with freed := bump l.freed tc 1 }

/-- A header with a reserved value (R225). -/
def FlitHead.reserved (h : FlitHead) : Bool := !h.rsvOk || decide (h.tc ≥ 5) || decide (h.ccls ≥ 5)

/-- An invalid arrival; the sixteenth within 1,024 good ones breaks the link (R241). -/
def State.invalidArrival (s : State) (f : Nat) : State :=
  let s := (s.log 0x5037 srcHub f).modLink f fun l =>
    { l with invalids := l.goods :: l.invalids.filter fun g => decide (l.goods < g + 1024) }
  if (s.link f).invalids.length ≥ 16 then s.breakLink f else s

/-- What arrives before a flit's kind is looked at: the blocks, the verdict, the header, the class counts. `good` acts on a
good flit, `cut` on any other that a relay has begun to send on (R206, R223, R233). -/
def State.arrive (s : State) (f : Nat) (b : List Byte) (headers : List (BitVec 2)) (good cut : State → FlitHead → State) : State :=
  let s := s.takeFlitBlocks f b headers
  if mixed headers then s.discardGroup f
  else
    let s := s.streamRow f
    if !s.delivered f then s
    else
      let h := flitHead b
      match verdict b with
      | .bad => (cut s h).badArrival f
      | .stomp => (((cut s h).count 0x5045 (f + 1) 1).headerIn f h).freeArrival f (if h.lc then 5 else h.tc)
      | .good =>
        let s := (s.headerIn f h).modLink f fun l => { l with goods := l.goods + 1 }
        if h.reserved then (s.log 0x5037 srcHub f).freeArrival f (if h.lc then 5 else h.tc) else good s h

/-- Start of a transmit direction by the peer's receive state: class words (R228). A start of this end that would only repeat one
already sent is not sent any more: both ends have started (R227). -/
def LinkSt.restart (l : LinkSt) (p : Nat) : LinkSt :=
  let word (c : Nat) : Nat := field p (64 + 32 * c) 32
  { l with
    sent := [0, 0, 0, 0, 0], lastCcum := [0, 0, 0, 0, 0]
    credited := (List.range 5).map fun c => -((word c % 2 ^ 16 : Nat) : Int)
    resMin := (List.range 5).map fun c => word c / 2 ^ 16
    arrivals := [0, 0, 0, 0, 0], freed := [0, 0, 0, 0, 0], freedSent := [0, 0, 0, 0, 0]
    peerDirect := bit p 40, gotStart := true
    lcDue := if l.sentStart then l.lcDue.filter fun e => e.1 != 4 && e.1 != 5 else l.lcDue }

/-- INIT: the peer holds no receive state and numbers from 0 in turn (log entry 45). -/
def State.onInit (s : State) (f p : Nat) : State :=
  let s := (s.emptyBuffer f).modLink f fun l => { l.restart p with expect := 0, nakPending := false }
  s.linkUp f

/-- RESUME: entries before NSEQ are released and replay begins there; a number out of range is answered with INIT. -/
def State.onResume (s : State) (f p : Nat) : State :=
  let n := field p 16 24
  let l := s.link f
  let d := seqDist n l.oldest
  let s := s.modLink f fun l => l.restart p
  let s := if d ≤ l.outstanding then (((s.modLink f fun l => l.release d).noteSpill f).startReplay f)
    else (s.emptyBuffer f).dueLc f 4
  s.linkUp f

/-- NAK(n): entries before n are released, then retransmission from n unless one began within the repeat interval; a
CMARK follows. -/
def State.onNak (s : State) (f n : Nat) : State :=
  let l := s.link f
  let d := seqDist n l.oldest
  let s := s.dueLc f 3
  if d > l.outstanding then s
  else
    let s := (s.modLink f fun l => l.release d).noteSpill f
    let recent := match l.lastReplay with
      | some (a, c) => a == n && decide (s.clock < c + 2000 * s.gov 0x5031 0)
      | none => false
    if recent then s else s.startReplay f

/-- CMARK: what did not arrive or arrived bad is counted as arrived and freed. -/
def State.onCmark (s : State) (f p : Nat) : State :=
  let d (l : LinkSt) (c : Nat) : Nat := (field p (64 + 32 * c) 32 + 2 ^ 32 - l.arrivals.getD c 0 % 2 ^ 32) % 2 ^ 32
  let l := s.link f
  let s := s.modLink f fun l => { l with peerDirect := bit p 40 }
  if (List.range 5).any fun c => d l c > 2048 then s.breakLink f
  else s.modLink f fun l =>
    { l with arrivals := (List.range 5).map fun c => l.arrivals.getD c 0 + d l c
             freed := (List.range 5).map fun c => l.freed.getD c 0 + d l c }

/-- Reserved fields of a link-control flit are zero: SEQ, TC, SLOT, and payload bits outside Table 10.4's fields. -/
def lcReserved (h : FlitHead) (p : Nat) : Bool :=
  h.seq != 0 || h.tc != 0 || h.slot != 0 || field p 8 8 != 0 || field p 41 7 != 0 || decide (p / 2 ^ 224 ≠ 0)

/-- A good link-control flit (R226): only the start is taken while the link waits. -/
def State.onLc (s : State) (f : Nat) (h : FlitHead) (b : List Byte) : State :=
  let p := leNat (flitPayload b)
  let t := field p 0 8
  if lcReserved h p || t = 0 || t > 5 then s.log 0x5037 srcHub f
  else if t = 4 then s.onInit f p
  else if t = 5 then s.onResume f p
  else if (s.link f).state ≠ 3 then s
  else if t = 2 then s.onNak f (field p 16 24)
  else if t = 3 then s.onCmark f p
  else s

/-- A link-control flit of one LTYPE arrives; another flit is not this command's. -/
def State.lcArrives (s : State) (f ltype : Nat) (b : List Byte) (headers : List (BitVec 2)) : State :=
  if (flitHead b).lc && leNat ((flitPayload b).take 1) == ltype || verdict b == .bad then
    s.arrive f b headers (fun s h => s.onLc f h b) fun s _ => s
  else s

/-- ACKONLY_RECEIVED (R231). -/
def execAckonlyReceived (fiber : Fin 96) (flit : List Byte) (headers : List (BitVec 2)) (s : State) : Res :=
  .next (s.lcArrives fiber 1 flit headers)

/-- NAK_RECEIVED (R232). -/
def execNakReceived (fiber : Fin 96) (flit : List Byte) (headers : List (BitVec 2)) (s : State) : Res :=
  .next (s.lcArrives fiber 2 flit headers)

/-- CMARK_RECEIVED (R239). -/
def execCmarkReceived (fiber : Fin 96) (flit : List Byte) (headers : List (BitVec 2)) (s : State) : Res :=
  .next (s.lcArrives fiber 3 flit headers)

/-- INIT_RECEIVED (R228). -/
def execInitReceived (fiber : Fin 96) (flit : List Byte) (headers : List (BitVec 2)) (s : State) : Res :=
  .next (s.lcArrives fiber 4 flit headers)

/-- RESUME_RECEIVED (R228). -/
def execResumeReceived (fiber : Fin 96) (flit : List Byte) (headers : List (BitVec 2)) (s : State) : Res :=
  .next (s.lcArrives fiber 5 flit headers)

/-! ## Timers -/

/-- INIT_RESEND_TIMER (R227): from Ready on, INIT or RESUME until both ends have started. -/
def execInitResendTimer (fiber : Fin 96) (s : State) : Res :=
  let l := s.link fiber
  if s.ready && l.state == 2 then .next (s.dueLc fiber (if l.rxState then 5 else 4)) else .next s

/-- NAK_REPEAT (R232). -/
def execNakRepeat (fiber : Fin 96) (s : State) : Res :=
  if (s.link fiber).nakPending && (s.link fiber).state == 3 then .next (s.dueLc fiber 2) else .next s

/-- REPLAY_TIMEOUT (R232). -/
def execReplayTimeout (fiber : Fin 96) (s : State) : Res :=
  if (s.link fiber).state = 3 then .next (s.startReplay fiber) else .next s

/-- ACK_COALESCE_TIMEOUT (R231). -/
def execAckCoalesceTimeout (fiber : Fin 96) (s : State) : Res :=
  if (s.link fiber).state = 3 ∧ (s.link fiber).sinceAck > 0 then .next (s.modLink fiber fun l => { l with ackDue := true }) else .next s

/-- ACKONLY_TIMER (R231): no reverse flit carried a due acknowledgement. -/
def execAckonlyTimer (fiber : Fin 96) (s : State) : Res :=
  let l := s.link fiber
  if l.state == 3 && (l.ackDue || (l.peerDirect && decide (l.sinceAck > 0))) then .next (s.dueLc fiber 1) else .next s

/-- CMARK_TIMER (R239): while any credit is outstanding. -/
def execCmarkTimer (fiber : Fin 96) (s : State) : Res :=
  let l := s.link fiber
  if l.state == 3 && (List.range 5).any fun c => decide (l.out c > 0) then .next (s.dueLc fiber 3) else .next s

/-- CREDIT_TIMEOUT (R241): a queued flit has lacked a credit for 64 µs. -/
def execCreditTimeout (fiber : Fin 96) (s : State) : Res :=
  let l := s.link fiber
  if l.state == 3 && [1, 2, 3, 4].any fun c => !(l.queue c).isEmpty && !l.credit c then .next (s.breakLink fiber)
  else .next s

/-- LINK_RESTORE (R243): a retired link trains and starts with INIT. -/
def execLinkRestore (slot : Nat) (fiber : Fin 96) (s : State) : Res :=
  .next (s.command slot 0x5048 (fiber + 1) fun s =>
    let x := s.fiber fiber
    if (s.link fiber).state ≠ 5 ∨ x.txState = 2 ∨ x.rxState = 2 then (s, 0x50000022)
    else
      let l := s.link fiber
      let s := s.setLink fiber
        { state := 1, direct := !s.spillReachable fiber, resMin := l.resMin, measured := l.measured, peerAddr := l.peerAddr }
      ((s.modFiber fiber fun x => { x with attempts := 0 }).startTraining fiber, 0))

end Sys2Proof.Machine
end

