-- ==== Sys2Proof/Machine/Ticks.lean ====
section
/-! DEFINITION. The step tick: its state, starting and stopping treads, the tick group, beacons, delay probes, the
interlock of the two masters and their comparison (R21–R42). -/

namespace Sys2Proof.Machine

/-! ## Objects held in the tick generator -/

/-- Tick state (object 0x2006). -/
def State.tickState (s : State) : Nat :=
  let t := s.tick
  if t.lost then 3 else if !t.running then 0 else if t.active then 4 else if t.flywheel then 2 else 1

/-- Interlock status (object 0x200E). -/
def State.interlock (s : State) : Nat := (if s.tick.claimOut then 1 else 0) + if s.tick.claimIn then 2 else 0

/-- Flywheel count (object 0x200C) and clean tread count (object 0x200D). -/
def State.flywheelCount (s : State) : Nat := s.num 0x200C 0
def State.cleanCount (s : State) : Nat := s.num 0x200D 0

/-! ## Predicted occupancy (R297) -/

/-- U_t of a model on a tile, ns: the greater of CYC_t / f and S_t / 104 GB/s. -/
def Model.useOf (m : Model) (f : Rat) (t : Nat) : Rat :=
  ratSum ((m.tiles.filter fun e => e.1 == t).map fun e => max (1000 * e.2.1 / f) ((e.2.2 : Nat) / 104))

/-- Largest, over tiles, of the sum of U_t over models, ns. -/
def tileOccupancy (l : List Model) (f : Rat) : Rat :=
  ((List.range 64).map fun t => ratSum (l.map fun m => m.useOf f t)).foldl max 0

/-- Models that serve; `loading` counts those that load, too. -/
def State.loadedModels (s : State) (loading : Bool) : List Model :=
  ((List.range 16).map s.model).filter fun m => (2 ≤ m.state && m.state ≤ 4) || (loading && m.state == 1)

/-- Predicted tread occupancy of models in ns, rounded up (log entry 56): 0 with no model. -/
def State.predict (s : State) (l : List Model) : Nat :=
  if l.isEmpty then 0 else (tileOccupancy l s.targetMhz).ceil.toNat + s.landNs

/-- Predicted tread occupancy (object 0xB00A). -/
def State.occupancy (s : State) (loading : Bool) : Nat := s.predict (s.loadedModels loading)

/-! ## The tick group (R30, R31) -/

/-- New values govern from the following tick, or at once while treads are stopped. -/
def State.putTread (s : State) (period land : Nat) : State :=
  let s := ((s.setNum 0x2001 0 period).setNum 0x2002 0 land).modTick fun t => { t with nextPeriod := period, nextLand := land }
  if s.tick.running then s else s.modTick fun t => { t with period := period, land := land }

/-- The agreement check of the tick group (R30): the period holds the predicted occupancy of the loaded models (R297). -/
def tickRule (s : State) : Nat :=
  let period := s.stagedNum 0x2003 0x2001 0
  let land := s.stagedNum 0x2003 0x2002 0
  if 2000 * land > period then 0x20000010
  else if period < s.occupancy false then 0x20000011
  else if s.tick.role = 3 ∨ (s.tick.role ≠ 0 ∧ !s.tick.active) then 0x20000012
  else if s.tick.change.isSome then 0x20000013
  else 0

/-- The tick group is applied: at once on a stand-alone module; on the active master a change that counts down, one more
than the lead so that the next beacon carries the lead. -/
def tickApply (s : State) : State :=
  let period := s.stagedNum 0x2003 0x2001 0
  let land := s.stagedNum 0x2003 0x2002 0
  if s.tick.role = 0 then s.putTread period land
  else s.modTick fun t => { t with change := some (period, land, s.num 0x2008 0 + 1) }

/-- TICK_GROUP_COMMIT. -/
def execTickGroupCommit (slot : Nat) (s : State) : Res :=
  .next (s.commitCommand slot 0x2003 tickRule tickApply (.tickCommit slot none))

/-- A pending change takes effect. -/
def State.applyChange (s : State) : State :=
  match s.tick.change with
  | none => s
  | some (p, l, _) => (s.putTread p l).modTick fun t => { t with change := none }

/-- The count falls by one at a tick. -/
def State.countDown (s : State) : State :=
  match s.tick.change with
  | none => s
  | some (p, l, c) =>
    if c ≤ 1 then s.applyChange else s.modTick fun t => { t with change := some (p, l, c - 1) }

/-- CHANGE_COUNTDOWN_ZERO (R31): the count reaches zero and the new values govern. -/
def execChangeCountdownZero (s : State) : Res :=
  match s.tick.change with
  | some (_, _, c) => if c ≤ 1 then .next s.applyChange else .next s
  | none => .next s

/-! ## Start and stop (R22, R37) -/

/-- A master becomes active: it holds its claim and sees none (R35). -/
def State.noteActive (s : State) : State :=
  let t := s.tick
  if t.claimOut && !t.claimIn && (t.role == 1 || t.role == 2) then
    s.modTick fun t => { t with active := true, claiming := false } else s

/-- Release the claim. A primary that is demoted counts its clean treads from zero (R39). -/
def State.releaseClaim (s : State) : State :=
  let s := if s.tick.active ∧ s.tick.role = 1 then s.setNum 0x200D 0 0 else s
  s.modTick fun t => { t with claimOut := false, claiming := false, active := false }

/-- START_TREADS (R22, R35, R37): the role and the beacon mode are fixed; only the primary claims, and none claims against a
claim that it sees: then a flight runs already, and it reclaims under R40 (DEDUCED, log entry 136). The references of in-field tests
begin again (R367). -/
def execStartTreads (slot : Nat) (s : State) : Res :=
  .next (s.command slot 0x2020 0 fun s =>
    if s.tick.running || s.boot.cutOff then (s, 0)
    else
      let role := s.num 0x2005 0
      let mode := if role = 0 then 0 else if s.members.length ≤ 16 then 1 else 2
      let s := ((s.setNum 0x2007 0 mode).setNum 0x200C 0 0).setNum 0x200D 0 0
      let s : State := { s with stagingInForce := s.num 0xA010 0 }
      let s := s.modTick fun t =>
        { t with running := true, stopReq := false, begun := false, inLanding := false, lost := false, flywheel := false
                 tickAt := s.clock, role := role, period := s.num 0x2001 0, land := s.num 0x2002 0
                 nextPeriod := s.num 0x2001 0, nextLand := s.num 0x2002 0, change := none
                 claimOut := role == 1 && !t.claimIn, claiming := role == 1 && !t.claimIn, reclaiming := false, reclaimSent := false
                 confirmed := true, active := false, heard := [], everBeacon := false, activeRole := 1
                 reclaimSeen := false, ownFault := false, schd := none, cmpFails := 0, disputes := [], claimDue := false
                 prevTick := none, faddr := s.num 0x2041 0 }
      let s : State := forEach (s.pens.map (·.1)) s fun p (s : State) => s.modPen p fun q => { q with reference := none }
      let f := s.clockTarget
      let s := if f ≠ s.drover.clockNext then s.log 0x3007 srcHub f.floor.toNat else s
      let s := s.setClock f
      let s : State := { s with drover := { s.drover with clockNext := f } }
      let s := if s.num 0x2042 0 = 4 then
          upTo 16 s fun i s =>
            if (s.model i).state = 4 then (s.modModel i fun m => { m with state := 2 }).reportModel i else s
        else s
      (s.noteActive, 0))

/-- Treads stop: the tick generator rests and the claim is released. -/
def State.stopTicks (s : State) : State :=
  (s.releaseClaim).modTick fun t => { t with running := false, stopReq := false, begun := false, inLanding := false }

/-- Tick lost (R41): event 0x2004; the landing in progress completes, then treads stop. -/
def State.loseTick (s : State) : State :=
  if !s.tick.running || s.tick.lost || s.tick.role == 0 then s
  else (s.log 0x2004 srcHub s.epoch).modTick fun t => { t with lost := true, stopReq := true }

/-- TICK_LOST (R41). -/
def execTickLost (s : State) : Res := .next s.loseTick

/-! ## Beacons (R32, R36–R41) -/

/-- A number's bits from a place on, for payloads. -/
def flagBit (b : Bool) (i : Nat) : Nat := if b then 2 ^ i else 0

/-- The payload of this module's beacon for the tick that has just begun (Table 02.2). -/
def State.beaconPayload (s : State) : List Byte :=
  let t := s.tick
  let (np, nl, c) := t.change.getD (0, 0, 0)
  leBytes 32 (1 + atBit t.role 2 8 + flagBit t.active 10 + flagBit (s.num 0x2007 0 == 1) 11 + flagBit t.reclaiming 12
    + atBit s.faddr 16 16 + atBit s.epoch 64 32 + atBit t.period 32 96 + atBit np 32 128 + atBit t.land 8 160
    + atBit nl 8 168 + atBit c 8 176 + atBit (schedSetcrc (s.blob 0x2031 0)) 32 192 + atBit s.membd 32 224)

/-- BEACON_LAUNCH: the active master, and in dual-send mode both, on every route of the schedule; a primary that reclaims
sets RECLAIM. DESIGN CHOICE (log entry 136): it sends that beacon in single-send mode too, where R37 lets only the active master
send and R40 has the primary set RECLAIM in its next beacon. -/
def State.launchBeacons (s : State) : State :=
  let t := s.tick
  let sends := (t.role == 1 || t.role == 2) && (t.active || s.num 0x2007 0 == 1 || t.reclaiming)
  if !sends || s.gallery.quiet then s
  else
    let p := s.beaconPayload
    let s := forEach (s.schedule.filter fun e => e.kind == 4) s fun e s =>
      if (s.link e.dst).state = 3 then
        s.modLink e.dst fun l => { l with tickOut := l.tickOut ++ e.slots.map fun r => (some r, pad240 p) }
      else s.lose e.dst e.count
    s.modTick fun t => { t with reclaimSent := t.reclaiming }

/-- The role that a module has: the one fixed at Start treads while treads run, else object 0x2005 (R22). -/
def State.roleNow (s : State) : Nat := if s.tick.running then s.tick.role else s.num 0x2005 0

/-- A beacon that a receiver discards: reserved TYPE or ROLE, or no master of its flight (R32). -/
def State.badBeacon (s : State) (b : Beacon) : Bool :=
  b.type != 1 || (b.role != 1 && b.role != 2) || s.roleAddr b.role != some b.source

/-- A schedule does not fit: event 0x2011, and the module is quiet (R251, R258). -/
def State.goQuiet (s : State) : State :=
  { (s.log 0x2011 srcHub s.epoch) with gallery := { s.gallery with quiet := true } }

/-- What the beacon in use brings: mirrored state (R36), the landing length in force among it, the tick offset, a tread period that is not the one announced (R41),
a SCHD that is not the schedule's (R258).
A beacon may come before or after the tick that it marks. DESIGN CHOICE (log entry 121): the first beacon sets the period and
the landing length that govern, not objects 0x2001 and 0x2002 of the member. -/
def State.followBeacon (s : State) (b : Beacon) (offset : Int) : State :=
  let s := (s.setInt 0x200B 0 offset).setNum 0x200C 0 0
  let first := !s.tick.everBeacon && !s.tick.begun
  let s := if first then
      (s.setNum 0x2004 0 (b.epoch - 1)).modTick fun t =>
        { t with period := b.period, land := b.land, nextPeriod := b.period, nextLand := b.land }
    else s
  let ahead := decide (b.epoch > s.epoch)
  let due : Option (Nat × Nat × Nat) := match s.tick.change with
    | some (p, _, c) => if c ≤ 1 then some (p, b.land, c) else none
    | none => none
  let expected := if ahead then (due.map (·.1)).getD s.tick.nextPeriod else s.tick.period
  let s := s.modTick fun t =>
    if ahead then { t with nextLand := b.land }
    else { t with land := b.land, nextLand := if t.nextLand = t.land then b.land else t.nextLand }
  let s := s.modTick fun t =>
    { t with schd := some b.schd, membd := b.membd, activeRole := if b.active then b.role else t.activeRole, everBeacon := true, flywheel := false
             change := if b.chgIn = 0 then (if ahead then due else none)
               else some (b.nextPeriod, b.nextLand, b.chgIn + if ahead then 1 else 0) }
  let s := if !ahead && s.tick.begun && !s.gallery.quiet && schedSetcrc (s.blob 0x2031 0) != b.schd then s.goQuiet else s
  if b.epoch ≤ s.epoch + 1 ∧ b.period ≠ expected then s.loseTick else s

/-- A beacon that arrives: a stand-alone module ignores it (R22). Of the valid ones (R37), in dual-send mode a receiver uses the first of an epoch and compares the second, which is otherwise
a duplicate; the masters themselves, and every receiver in single-send mode, use the active master's. -/
def State.onBeacon (s : State) (b : Beacon) (offset : Int) : State :=
  let t := s.tick
  if s.roleNow = 0 then s
  else if s.badBeacon b then s.log 0x2006 srcHub b.epoch
  else if !t.running then s
  else if !t.heard.isEmpty && decide (b.epoch < t.beaconEpoch) then s
  else
    let fresh := t.heard.isEmpty || decide (b.epoch > t.beaconEpoch)
    let heard := if fresh then [] else t.heard
    if heard.any fun h => h.role == b.role then s
    else
      let s := s.modTick fun t =>
        { t with heard := heard ++ [⟨b.role, b.active, offset⟩], beaconEpoch := b.epoch }
      let s := if b.reclaim && t.active && t.role == 2 then s.modTick fun t => { t with reclaimSeen := true } else s
      let uses := if t.role == 3 && s.num 0x2007 0 == 1 then fresh else b.active
      if t.active then s
      else if uses then s.followBeacon b offset
      else if b.active then s.modTick fun t => { t with activeRole := b.role }
      else s

/-- Path delay in ps: the sum of the hop delays along the beacon route (R32), this module's own hop and those above it. -/
def State.pathDelay (s : State) (f : Nat) (upstream : Int) : Int :=
  (tabGet (fun _ => none) s.tick.hopDelay f).getD 0 + upstream

/-- A beacon's offset in hub cycles after path-delay correction, to the nearest cycle (log entry 121). -/
def State.corrected (s : State) (f : Nat) (raw upstream : Int) : Int := raw - (s.pathDelay f upstream + 250) / 500

/-- BEACON_RECEIVED: `raw` is the capture less the module's own tick, hub cycles; `upstream` the hop delays of the beacon route
beyond the module's own hop, ps. -/
def execBeaconReceived (fiber : Fin 96) (b : Beacon) (raw upstream : Int) (s : State) : Res :=
  if (s.link fiber).state = 3 then .next (s.onBeacon b (s.corrected fiber raw upstream)) else .next s

/-- What a comparison at the tick of an epoch finds (R38): none where it holds, else DIFF and KIND. The standby compares with
its own flywheel, a member in dual-send mode the two masters. DESIGN CHOICE (log entry 121): with both beacons absent KIND names
the active master's. -/
def State.compareTick (s : State) : Option (Nat × Nat) :=
  let t := s.tick
  let heard := if t.beaconEpoch = s.epoch then t.heard else []
  let of (r : Nat) : Option Int := (heard.find? fun h => h.role == r).map (·.offset)
  let diff (d : Int) : Nat := intBits 2 (max (-32767) (min 32767 d))
  if t.role = 2 then
    match of t.activeRole with
    | none => some (0x8000, 2)
    | some d => if d.natAbs > 4 then some (diff d, 1) else none
  else if t.role = 3 ∧ s.num 0x2007 0 = 1 then
    match of 1, of 2 with
    | some a, some b => if (b - a).natAbs > 4 then some (diff (b - a), 1) else none
    | none, none => some (0x8000, 2)
    | a, _ => some (0x8000, if a.isNone == (t.activeRole == 1) then 2 else 3)
  else none

/-- A tick-dispute notice (Table 02.6), one to each master. -/
def State.sendDispute (s : State) (diff kind : Nat) : State :=
  let inner := leBytes 32 (0x61 + atBit kind 8 16 + atBit diff 16 32 + atBit s.epoch 64 64)
  let s := s.log 0x2006 srcHub s.epoch
  forEach ((s.roleAddr 1).toList ++ (s.roleAddr 2).toList) s fun a s => s.sendEnvelope 1 a inner

/-- TICK_COMPARISON and FLYWHEEL_TICK at the tick that begins an epoch. A primary's tread is clean (R39) when the active beacon
agrees within 4 hub cycles and the primary had no fault of its own since the tick before. -/
def State.alignTick (s : State) : State :=
  let t := s.tick
  if t.role = 0 ∨ t.active then s
  else
    let heard : Bool := t.beaconEpoch == s.epoch && !t.heard.isEmpty
    let s := match s.compareTick with
      | none => s.modTick fun t => { t with cmpFails := 0 }
      | some (d, k) =>
        let n := t.cmpFails + 1
        let s := s.modTick fun t => { t with cmpFails := n, claimDue := t.claimDue || (t.role == 2 && decide (n ≥ 3)) }
        if t.role = 3 ∧ n = 3 then s.sendDispute d k else s
    let s := if t.role = 1 then
        let off : Option Int := ((if t.beaconEpoch = s.epoch then t.heard else []).find? (·.active)).map (·.offset)
        let clean : Bool := match off with
          | some d => decide (d.natAbs ≤ 4)
          | none => false
        (s.setNum 0x200D 0 (if clean && !t.ownFault then min 64 (s.cleanCount + 1) else 0)).modTick fun t =>
          { t with ownFault := false }
      else s
    if heard then (s.setNum 0x200C 0 0).modTick fun t => { t with flywheel := false }
    else
      let n : Nat := min 8 (s.flywheelCount + 1)
      let s := (s.setNum 0x200C 0 n).modTick fun t => { t with flywheel := true }
      if n = 8 then s.loseTick else s

/-- TICK_DISPUTE_RECEIVED (R38, R39): the standby counts notices by epoch and source. -/
def State.onDispute (s : State) (d : Dispute) : State :=
  if d.rsv ≠ 0 ∨ d.kind < 1 ∨ 3 < d.kind then s.log 0x2006 srcHub d.epoch
  else if s.tick.role ≠ 2 ∨ s.tick.active ∨ !s.members.any (fun m => m.addr == d.src) then s
  else
    let s := s.modTick fun t =>
      { t with disputes := if t.disputes.contains (d.epoch, d.src) then t.disputes else (d.epoch, d.src) :: t.disputes }
    let n := (s.tick.disputes.filter fun e => e.1 == d.epoch).length
    if 2 * n > s.members.length then s.modTick fun t => { t with claimDue := true } else s

def execTickDisputeReceived (d : Dispute) (s : State) : Res := .next (s.onDispute d)

/-! ## Delay probes (R32–R34) -/

/-- DELAY_PROBE_PERIOD: a probe to each neighbour on the beacon route. -/
def execDelayProbePeriod (s : State) : Res :=
  let route := (s.beaconFiber false).toList ++ (s.beaconFiber true).toList
  .next (forEach (distinct route) s fun f s => s.sendProbe f)

/-- A captured probe is answered on the same fiber pair. -/
def State.onProbe (s : State) (f : Nat) (p : Probe) : State :=
  if p.type ≠ 3 then s.log 0x2006 srcHub f
  else
    let r := leBytes 32 (4 + atBit s.probeSource 16 16 + atBit f 8 80 + atBit f 8 88 + atBit p.pid 32 96 + atBit s.hubCycles 64 128)
    s.modLink f fun l => { l with peerAddr := some p.source, tickOut := l.tickOut ++ [(none, pad240 r)] }

def execDelayProbeReceived (fiber : Fin 96) (p : Probe) (s : State) : Res :=
  if (s.link fiber).state = 3 then .next (s.onProbe fiber p) else .next s

/-- A reply: half the round trip less the turnaround, plus the trims of the pair's two fibers, both of number f, in ps (R33, log
entry 48); within one hub cycle it replaces the delay in use at the next landing, else event 0x2007 (R34). DESIGN CHOICE (log
entry 121): a first measurement, and one while treads are stopped, is used at once; a PID of another fiber's probe matches none. -/
def State.onReply (s : State) (f : Nat) (p : Probe) : State :=
  match s.tick.probes.find? fun e => e.1 == p.pid && decide (s.epoch < e.2.2.2 + 1024) with
  | none => s.log 0x2006 srcHub f
  | some (pid, g, t0, _) =>
    if p.type ≠ 4 ∨ g ≠ f then s.log 0x2006 srcHub f
    else
      let trip : Int := ((s.clock : Int) - t0) - ((p.tlaunch : Int) - p.tcapt)
      let hop := trip * 250 + 2 * s.int 0x2011 (f + 1)
      let s := s.modTick fun t => { t with probes := t.probes.filter fun e => e.1 != pid }
      let s := s.modLink f fun l => { l with peerAddr := some p.source, measured := some (trip / 2).toNat }
      match tabGet (fun _ => none) s.tick.hopDelay f with
      | none => s.modTick fun t => { t with hopDelay := tabSet (fun _ => none) t.hopDelay f (some hop) }
      | some old =>
        if (hop - old).natAbs > 500 then
          (s.log 0x2007 srcHub f).modTick fun t => { t with remeasure := t.remeasure.filter (· ≠ f) ++ [f] }
        else if s.tick.running then
          s.modTick fun t => { t with newDelay := t.newDelay.filter (fun e => e.1 != f) ++ [(f, hop)] }
        else s.modTick fun t => { t with hopDelay := tabSet (fun _ => none) t.hopDelay f (some hop) }

def execProbeReplyReceived (fiber : Fin 96) (p : Probe) (s : State) : Res :=
  if (s.link fiber).state = 3 then .next (s.onReply fiber p) else .next s

/-- New hop delays come into use at a landing. -/
def State.applyDelays (s : State) : State :=
  let s := forEach s.tick.newDelay s fun e s =>
    s.modTick fun t => { t with hopDelay := tabSet (fun _ => none) t.hopDelay e.1 (some e.2) }
  s.modTick fun t => { t with newDelay := [] }

/-- Fibers measured again at a tick. -/
def State.remeasureNow (s : State) : State :=
  let l := s.tick.remeasure
  (forEach l s fun f s => s.sendProbe f).modTick fun t => { t with remeasure := [] }

/-! ## The interlock (R35, R38, R40) -/

/-- TREAD_CONFIRM: the active master's firmware confirms the tread to its keeper. -/
def execTreadConfirm (s : State) : Res :=
  if s.tick.active && s.tick.running && !s.tick.inLanding then .next (s.modTick fun t => { t with confirmed := true })
  else .next s

/-- The claimant's CLAIM_IN is released: it is active, with its event (R38, R40). -/
def State.takeClaim (s : State) : State :=
  let t := s.tick
  if !(t.claimOut && t.claiming && !t.claimIn) then s
  else
    let s := if t.reclaiming then s.log 0x2005 srcKeeper s.epoch
      else if t.role = 2 then s.log 0x2002 srcKeeper s.epoch else s
    (s.modTick fun t => { t with reclaiming := false, reclaimSent := false, claimDue := false, cmpFails := 0 }).noteActive

/-- CLAIM_IN_CHANGE: an active master that sees a claim stops and releases; one it does not expect is a fault. -/
def execClaimInChange (asserted : Bool) (s : State) : Res :=
  let s := s.modTick fun t => { t with claimIn := asserted }
  if asserted then
    if s.tick.active then
      let s := if s.tick.reclaimSeen then s else (s.log 0x2008 srcKeeper s.epoch).ownFaulted
      .next ((s.releaseClaim).modTick fun t => { t with reclaimSeen := false })
    else .next s
  else .next s.takeClaim

/-- CLAIM_TIMEOUT: 10 µs after its claim the other is still there. -/
def execClaimTimeout (s : State) : Res :=
  if s.tick.claiming && s.tick.claimIn then
    let s := if s.tick.reclaiming then s.setNum 0x200D 0 0 else s
    .next (((s.log 0x2008 srcKeeper s.epoch).ownFaulted.releaseClaim).modTick fun t =>
      { t with reclaiming := false, reclaimSent := false, claimDue := false })
  else .next s

/-- RECLAIM (R40): a primary with 64 clean treads sets RECLAIM in its next beacon. -/
def execReclaim (s : State) : Res :=
  if s.tick.role == 1 && s.tick.running && !s.tick.active && s.cleanCount == 64 then
    .next (s.modTick fun t => { t with reclaiming := true })
  else .next s

/-- The claims that a landing makes: of a standby whose comparison failed, of a primary whose beacon set RECLAIM; and the
keeper's check of the confirmation. -/
def State.landingClaims (s : State) : State :=
  let s := if s.tick.active && !s.tick.confirmed then (s.log 0x2003 srcKeeper s.epoch).ownFaulted.releaseClaim else s
  let t := s.tick
  if (t.role == 2 && t.claimDue && !t.active) || (t.role == 1 && t.reclaimSent && !t.active) then
    (s.modTick fun t => { t with claimOut := true, claiming := true }).takeClaim
  else s

end Sys2Proof.Machine
end

