-- ==== Sys2Proof/Machine/Gallery.lean ====
section
/-! DEFINITION. The gallery: relay and deposit of flits (R230, R233, R234, R253–R257), envelopes and membership updates
(R248, R260), lost members (R259), the flight build (R250). -/

namespace Sys2Proof.Machine

/-! ## Deposits (R254, R257) -/

def State.modInbound (s : State) (k : Nat) (f : Inbound → Inbound) : State :=
  { s with gallery := { s.gallery with
    inbound := tabSet (fun _ => {}) s.gallery.inbound k (f (tabGet (fun _ => {}) s.gallery.inbound k)) } }

/-- A TAKE that waits in a void position ends at once with 0x30. -/
def State.endTakes (s : State) (stream k : Nat) : State :=
  forEach (s.pens.map (·.1)) s fun p s =>
    match (s.pen p).run with
    | none => s
    | some r =>
      forEach (s.pen p).reads s fun e s => match e.2 with
        | some b =>
          let entry := r.inboundEntry e.1
          if b.cls = 3 ∧ entryStream entry = stream ∧ entrySeq entry = k then
            (s.setPen p ((s.pen p).closeRead e.1)).except p b.order b.index 0x30 0
          else s
        | none => s

/-- A complete inbound bale goes through the gateway's check into its tile's pasture (R257). -/
def State.placeInbound (s : State) (f stream k : Nat) : State :=
  let x := s.inbound stream k
  let image := readTab x.bytes 0 4160
  let h := leNat (image.take 64)
  let payload := image.drop 64
  match s.inboundPlace stream k with
  | none => s
  | some (_, pa, ha) =>
    let s := s.modInbound (inboundKey stream k) fun x => { x with deposited := true }
    match checkBale payload h with
    | .good => (s.store pa payload).store ha (headerBytes (BitVec.ofNat 512 h))
    | .poisoned => (s.store pa payload).store ha (headerBytes (BitVec.ofNat 512 h))
    | _ =>
      (((s.store pa payload).store ha (headerBytes (poisonHeader h 0x0021 f s.epoch))).notePoison 0x0021 f).log 0x5051
        srcHub (256 * stream + f)
        |>.count 0x5051 0 1

/-- One accepted flit of an inbound stream: part j mod 18 of bale j / 18; a void part 0 marks its position. -/
def State.deposit (s : State) (f stream j : Nat) (payload : List Byte) : State :=
  let k := j / 18
  let m := j % 18
  let h := leNat (payload.take 64)
  let x := s.inbound stream k
  if x.deposited || x.void then s
  else if m = 0 ∧ hcrcGood h ∧ isPoisoned h ∧ field h 320 16 = 0x0020 then
    ((s.modInbound (inboundKey stream k) fun x => { x with void := true }).count 0x5052 0 1).endTakes stream k
  else
    let part := payload.take (if m = 17 then 80 else 240)
    let s := s.modInbound (inboundKey stream k) fun x =>
      { x with parts := if x.parts.contains m then x.parts else x.parts ++ [m], bytes := writeTab x.bytes (240 * m) part }
    if (s.inbound stream k).parts.length = 18 then s.placeInbound f stream k else s

/-! ## Relay (R233, R234, R253) -/

/-- The arrival slot of a flit captured now on a fiber (R249). -/
def State.arrivalSlot (s : State) (f : Nat) : Option Nat := s.portSlot (s.phiIn f)

/-- The RELAY entry of a fiber in its arrival slot. -/
def State.relayNow (s : State) (f : Nat) : Option SchedEntry :=
  match s.arrivalSlot f with
  | none => none
  | some a => s.schedule.find? fun e => e.kind == 1 && e.src == f && (e.occurs a).isSome

/-- The DEPOSIT of an origin slot on a fiber: stream and flit index. -/
def State.depositOf (s : State) (f slot : Nat) : Option (Nat × Nat) :=
  s.schedule.findSome? fun e => if e.kind = 3 ∧ e.src = f then (e.occurs slot).map fun i => (e.stream, e.flit + i) else none

/-- First slot of an entry at or after another. -/
def SchedEntry.after (e : SchedEntry) (x : Nat) : Option Nat :=
  if x ≤ e.first then some e.first
  else if e.stride = 0 then none
  else
    let i := (x - e.first + e.stride - 1) / e.stride
    if i < e.count then some (e.first + i * e.stride) else none

/-- The RELAY that a flit out of its slot belongs to: the nearest one not before the arrival of its origin slot over one
hop (log entry 44). -/
def State.relayLate (s : State) (f slot : Nat) : Option SchedEntry :=
  let x := ((4 * (slot : Int) + s.int 0x2045 (f + 1) - (s.phiIn f : Nat)) / 4).toNat
  let l := (s.schedule.filter fun e => e.kind == 1 && e.src == f).filterMap fun e => (e.after x).map fun a => (a, e)
  (l.foldl (fun b c => match b with
    | none => some c
    | some d => if c.1 < d.1 then some c else some d) none).map (·.2)

/-- Clock of the row of an out-fiber on which a flit captured now leaves: the first that begins 8 cycles on or later
(R250). -/
def State.rowAfter (s : State) (f : Nat) : Nat :=
  let c := s.clock + 8
  c + (s.tick.tickAt % 4 + s.phiOut f + 8 - c % 4) % 4

/-- A flit takes the crossbar to its row on an out-fiber; what stands against it there decides when the row comes (R233). -/
def State.addCut (s : State) (f : Nat) (q : QFlit) (stomp : Bool) : State :=
  s.modLink f fun l => { l with cut := l.cut ++ [{ mark := s.rowAfter f, flit := q, stomp := stomp }] }

/-- Relay an accepted flit: in its slot it goes to its row cut-through, else it is stored and queued with LATE (R233, R234). -/
def State.relay (s : State) (f dst : Nat) (h : FlitHead) (payload : List Byte) (onTime : Bool) : State :=
  let q : QFlit := { tc := h.tc, slot := h.slot, late := h.late, payload := payload, pool := some f }
  let s := s.modLink f fun l => { l with held := bump l.held h.tc 1 }
  if onTime && (s.link dst).state == 3 then s.addCut dst q false else s.enqueue dst { q with late := true }

/-- Where an accepted ACT or KV flit goes: by its arrival slot, its DEPOSIT, or the RELAY that it missed. -/
def State.route (s : State) (f : Nat) (h : FlitHead) (payload : List Byte) : State :=
  if s.gallery.quiet then s.freeArrival f h.tc
  else
    match s.relayNow f with
    | some e => s.relay f e.dst h payload true
    | none => match s.depositOf f h.slot with
      | some (stream, j) => (s.freeArrival f h.tc).deposit f stream j payload
      | none => match s.relayLate f h.slot with
        | some e => s.relay f e.dst h payload false
        | none => (s.freeArrival f h.tc).count 0x5051 0 1

/-- A TICK flit in a relay slot goes to its row; toward a link that is not UP it is lost (R234). -/
def State.relayTick (s : State) (f : Nat) (h : FlitHead) (payload : List Byte) : State :=
  match s.relayNow f with
  | none => s
  | some e =>
    if (s.link e.dst).state = 3 then s.addCut e.dst { tc := 0, slot := h.slot, late := h.late, payload := payload } false
    else (s.dropTick e.dst).lose e.dst 1

/-- A flit whose verdict is not good has begun to leave by the time the verdict is known: it goes on with the stomp code
(R233). CTRL and MGMT flits are never relayed (R251). -/
def State.relayStomped (s : State) (f : Nat) (h : FlitHead) (payload : List Byte) : State :=
  let inOrder := decide (h.tc < 5) && h.tc != 1 && h.tc != 2 && !h.lc && (h.tc == 0 || (!s.gallery.quiet && h.seq == (s.link f).expect))
  match s.relayNow f with
  | none => s
  | some e =>
    if inOrder && (s.link f).state == 3 && (s.link e.dst).state == 3 then
      s.addCut e.dst { tc := h.tc, slot := h.slot, late := h.late, payload := payload } true
    else s

/-- A CTRL or MGMT flit goes to the hub control cores, an envelope with the header fields that a flit sent on keeps (R224). -/
def State.handOver (s : State) (f : Nat) (h : FlitHead) (payload : List Byte) : State :=
  let s := s.freeArrival f h.tc
  if leNat (payload.take 1) ≠ 0x60 then s
  else s.modLink f fun l =>
    { l with handed := l.handed ++ [{ tc := h.tc, slot := h.slot, late := h.late, payload := payload }] }

/-- A good sequenced flit (Table 10.6). -/
def State.onSequenced (s : State) (f : Nat) (h : FlitHead) (b : List Byte) : State :=
  let l := s.link f
  let d := seqDist h.seq l.expect
  if d = 0 then
    let s := s.modLink f fun l =>
      { l with expect := (l.expect + 1) % 2 ^ 24, nakPending := false, lcDue := l.lcDue.filter fun e => e.1 != 2
               sinceAck := l.sinceAck + 1, ackDue := l.ackDue || decide (l.sinceAck + 1 ≥ s.gov 0x5032 0) }
    if h.tc = 1 ∨ h.tc = 2 then s.handOver f h (flitPayload b) else s.route f h (flitPayload b)
  else if d < 0x100000 then (s.freeArrival f h.tc).nak f
  else if 0xF00000 ≤ d then (s.freeArrival f h.tc).modLink f fun l => { l with ackDue := true }
  else (s.freeArrival f h.tc).invalidArrival f

/-- FLIT_RECEIVED (R230). What the hub control cores do with a TICK, CTRL or MGMT flit delivered to them is the step of its
own row (log entry 43). -/
def execFlitReceived (fiber : Fin 96) (flit : List Byte) (headers : List (BitVec 2)) (s : State) : Res :=
  .next (s.arrive fiber flit headers
    (fun s h =>
      if h.lc then s.onLc fiber h flit
      else if (s.link fiber).state ≠ 3 then s.freeArrival fiber h.tc
      else if h.tc = 0 then (s.freeArrival fiber 0).relayTick fiber h (flitPayload flit)
      else s.onSequenced fiber h flit)
    fun s h => s.relayStomped fiber h (flitPayload flit))

/-! ## Membership (R247, R259, R260) -/

/-- End every session of a model at the next landing with status 0x0015 (R299). -/
def State.endModelSessions (s : State) (m : Nat) : State :=
  forEach s.service.sessions s fun e s => match e.2 with
    | some x =>
      if x.model ≠ m ∨ x.state = 4 then s
      else if s.tick.inLanding then
        { s with service := { s.service with endsLater := s.service.endsLater ++ [(e.1, 0x0015, 0)] } }
      else s.endAtLanding e.1 0x0015 0
    | none => s

/-- A list with a lost member suspends the models that the flight serves (R299). -/
def State.suspendModels (s : State) : State :=
  upTo 16 s fun i s =>
    if (s.model i).state = 2 then ((s.log 0xB003 srcHub i).modModel i fun m => { m with state := 4 }).reportModel i |>.endModelSessions i else s

/-- A membership list comes into force. -/
def State.putMembers (s : State) (b : List Byte) : State :=
  let s := s.setBlob 0x2040 0 b
  if s.members.any fun m => m.role == 3 then (s.setNum 0x2042 0 3).suspendModels else s

/-- A waiting list comes into force: at a landing, at the active master at its next tick. -/
def State.takeNewList (s : State) : State :=
  match s.gallery.newList with
  | none => s
  | some b => { s.putMembers b with gallery := { s.gallery with newList := none } }

/-- Entries `first` to `first + 12` of a list as an update message's inner bytes (Table 11.9). -/
def updateMessage (list : List Byte) (upd first : Nat) : List Byte :=
  let nent := list.length / 16
  let n := min 13 (nent - first)
  leBytes 16 (0x62 + atBit upd 32 32 + atBit n 8 64 + atBit first 8 72 + atBit nent 16 80 + atBit (crc32c list) 32 96)
    ++ (list.drop (16 * first)).take (16 * n)

/-- The active master sends a list to the other members that are not lost (R260). -/
def State.sendUpdate (s : State) (list : List Byte) : State :=
  let upd := s.gallery.upd + 1
  let s := { s with gallery := { s.gallery with upd := upd } }
  let nent := list.length / 16
  forEach ((membersOf nent list).filter fun m => m.addr != s.faddr && m.role != 3) s fun m s =>
    forEach (List.range ((nent + 12) / 13)) s fun i s => s.sendEnvelope 2 m.addr (updateMessage list upd (13 * i))

/-- The entry of a position with ROLE 3. -/
def loseEntry (list : List Byte) (i : Nat) : List Byte := list.take (16 * i + 3) ++ [3#8] ++ list.drop (16 * i + 4)

/-- MEMBER_LOST (R259): the active master's list changes from the next tick. -/
def execMemberLost (position : Fin 256) (s : State) : Res :=
  let list := (s.gallery.newList).getD (s.blob 0x2040 0)
  let i := position.val
  if !s.tick.active || decide (list.length / 16 ≤ i) || i == s.position || (membersOf (list.length / 16) list).any (fun m =>
      m.addr % 256 == i && m.role == 3) then .next s
  else
    let list := loseEntry list i
    let s := (s.log 0x2012 srcHub i).sendUpdate list
    .next { s with gallery := { s.gallery with newList := some list } }

/-- An update is discarded (event 0x2014). -/
def State.dropUpdate (s : State) : State := s.log 0x2014 srcHub s.gallery.upd

/-- A membership update message: assembled by the highest UPD, put in force whole at the next landing. -/
def State.onUpdate (s : State) (inner : List Byte) : State :=
  let v := leNat (inner.take 16)
  let upd := field v 32 32
  let n := field v 64 8
  let first := field v 72 8
  let nent := field v 80 16
  let head := (field v 96 32, nent)
  let body := (inner.drop 16).take (16 * n)
  let g := s.gallery
  if field v 0 8 ≠ 0x62 ∨ field v 8 24 ≠ 0 ∨ nent < 1 ∨ 256 < nent ∨ n < 1 ∨ 13 < n ∨ first + n > nent
    ∨ (membersOf n body).any (fun m => !m.rsvOk || decide (m.role > 3)) ∨ upd < g.upd
    ∨ (upd = g.upd ∧ g.updHead ≠ some head) then s.dropUpdate
  else
    let s := if upd > g.upd ∧ g.updHead.isSome then s.dropUpdate else s
    let kept := if upd > g.upd then [] else g.updEntries
    let entries := (List.range n).foldl (fun t j =>
      tabSet (fun _ => []) t (first + j) ((body.drop (16 * j)).take 16)) kept
    if entries.length < nent then
      { s with gallery := { s.gallery with upd := upd, updHead := some head, updEntries := entries } }
    else
      let list := entries.flatMap (·.2)
      let s := { s with gallery := { s.gallery with upd := upd, updHead := none, updEntries := [] } }
      if crc32c list = head.1 then
        { s with gallery := { s.gallery with newList := some list } }
      else s.dropUpdate

/-- MEMBERSHIP_UPDATE_RECEIVED (R260). -/
def execMembershipUpdateReceived (inner : List Byte) (s : State) : Res := .next (s.onUpdate inner)

/-- MEMBERSHIP_UPDATE_TIMEOUT (R260): not complete within 8 treads. -/
def execMembershipUpdateTimeout (s : State) : Res :=
  if s.gallery.updHead.isSome then
    .next (s.dropUpdate |> fun s => { s with gallery := { s.gallery with updHead := none, updEntries := [] } })
  else .next s

/-- The notice in an envelope (Table 02.6). -/
def disputeOf (src : Nat) (inner : List Byte) : Dispute :=
  let v := leNat (inner.take 32)
  { src := src, epoch := field v 64 64, diff := signed 16 (field v 32 16), kind := field v 16 8
    rsv := field v 8 8 + field v 24 8 + field v 48 16 + field v 128 128 + leNat (inner.drop 32) }

/-- The envelope that a flit brought, out of those handed over; its fields as they came. -/
def State.takeHanded (s : State) (f tc : Nat) (payload : List Byte) : State × QFlit :=
  match (s.link f).handed.find? fun q => q.tc == tc && q.payload == pad240 payload with
  | some q => (s.modLink f fun l => { l with handed := l.handed.erase q }, q)
  | none => (s, { tc := tc, slot := 0, payload := pad240 payload })

/-- FORWARDING_ENVELOPE (R248): delivered here or sent on with its SLOT and LATE (R224). An inner message that no table types is a member's report or list, or
the home's batch (R295, R368; log entry 49). -/
def execForwardingEnvelope (fiber : Fin 96) (tc : Nat) (payload : List Byte) (s : State) : Res :=
  let v := leNat (payload.take 16)
  let dst := field v 16 16
  let src := field v 32 16
  let inner := payload.drop 16
  let (s, q) := s.takeHanded fiber tc payload
  if (s.link fiber).state ≠ 3 then .next s
  else if field v 0 8 ≠ 0x60 ∨ field v 8 8 ≠ 0 ∨ v / 2 ^ 48 ≠ 0 ∨ (tc ≠ 1 ∧ tc ≠ 2) then .next (s.log 0x2014 srcHub dst)
  else if dst ≠ s.faddr then .next (s.forward dst q)
  else if leNat (inner.take 1) = 0x61 then .next (s.onDispute (disputeOf src inner))
  else if leNat (inner.take 1) = 0x62 then .next (s.onUpdate inner)
  else .next (if tc = 2 then s.onMember src inner else s.onBatch src inner)

/-! ## The flight build (R250) -/

/-- BUILD_FLIGHT: links train, those that are UP are probed. -/
def execBuildFlight (slot : Nat) (s : State) : Res :=
  .next (s.command slot 0x2046 0 fun s =>
    let s := { s with gallery := { s.gallery with building := true } }
    (upTo 96 s fun f s =>
      if !(s.fiber f).inService then s
      else if (s.link f).state = 0 then
        ((s.modLink f fun l => { l with state := 1 }).modFiber f fun x => { x with attempts := 0 }).startTraining f
      else s.sendProbe f, 0))

/-- FLIGHT_BUILD_COMPLETE: arrival offsets, φi and φo, and flight state 4. -/
def execFlightBuildComplete (arrivalOffsets : List (Fin 96 × Int)) (s : State) : Res :=
  if !s.gallery.building then .next s
  else
    let s := forEach arrivalOffsets s fun e s =>
      (s.setInt 0x2045 (e.1 + 1) e.2).setNum 0x2043 (e.1 + 1) ((e.2 - 2) % 4).toNat
    let s := upTo 96 s fun f s =>
      let src := s.num 0x2044 (f + 1)
      s.setNum 0x2047 (f + 1) (if src ≤ 95 then (s.phiIn src + 2) % 4 else 0)
    .next ({ s with gallery := { s.gallery with building := false } }.setNum 0x2042 0 4)

end Sys2Proof.Machine
end

