-- ==== Sys2Proof/Machine/Ethernet.lean ====
section
/-! DEFINITION. The Ethernet and RDMA blocks: ports, frames, neighbours, connections, RC packets as responder and requester,
windows, flow and congestion control (R262–R280). -/

namespace Sys2Proof.Machine

/-! ## Logical ports (R262) -/

/-- Logical ports of a mode. -/
def modePorts (mode : Nat) : Nat := if mode = 0 then 1 else if mode = 1 then 2 else 4

/-- Mode of the port of a logical port. -/
def State.portMode (s : State) (lport : Nat) : Nat := s.num 0x6001 (lport / 4 + 1)

/-- A logical port exists in its port's mode. -/
def State.portThere (s : State) (lport : Nat) : Bool := decide (lport % 4 < modePorts (s.portMode lport))

/-- Link state (object 0x6002): 0 absent, 1 down, 2 up. -/
def State.portState (s : State) (lport : Nat) : Nat := s.num 0x6002 (lport + 1)

/-- Line rate, Mb/s (Table 12.1). -/
def State.lineRate (s : State) (lport : Nat) : Nat := 400000 / modePorts (s.portMode lport)

/-- A frame is dropped. -/
def State.dropFrame (s : State) (lport : Nat) : State := s.count 0x6051 (lport + 1) 1

/-! ## QPs -/

/-- QPs in use and open connections (objects 0x6050, 0xB013). -/
def State.noteQps (s : State) : State :=
  let n := (s.eth.qps.filter fun e => e.2.state != 0).length
  (s.setNum 0x6050 0 n).setNum 0xB013 0 n

/-- Count a session that ended with an error or with its QP. -/
def State.countEnd (s : State) : State :=
  { s with service := { s.service with endErrors := s.service.endErrors + 1 } }

/-- A session leaves: with treads stopped no plan holds it, so its id and reservation are free at once (log entry 57). -/
def State.leave (s : State) (i : Nat) : State :=
  if s.tick.running then s.modSession i fun x => { x with state := 4, closing := false, endedAt := some s.epoch }
  else s.setSession i none

/-- Event 0xB005, once per landing. -/
def State.logEnds (s : State) : State :=
  let n := s.service.endErrors
  if n = 0 then s else { s.log 0xB005 srcHub n with service := { s.service with endErrors := 0 } }

/-- The sessions of a QP lose it: they end at the next landing without a record (R291), at once with treads stopped (log entry 57). -/
def State.orphanSessions (s : State) (q : Nat) : State :=
  let s := forEach s.service.sessions s fun e s => match e.2 with
    | some x =>
      if x.qp ≠ q then s
      else if s.tick.running then s.modSession e.1 fun x => { x with orphan := true }
      else s.countEnd.leave e.1
    | none => s
  if s.tick.running then s else s.logEnds

/-- A QP enters the error state: event 0x6003, and its sessions end (R270, R291). -/
def State.qpError (s : State) (q : Nat) : State :=
  let st := (s.qp q).state
  if st = 0 ∨ st = 3 then s
  else ((s.log 0x6003 srcHub q).modQp q fun x => { x with state := 3, inWrite := none, replies := [], unacked := [] }).orphanSessions q

/-! ## Receive buffers and priority flow control (R275, R276) -/

/-- A logical port's share of its port's buffer, bytes. -/
def State.share (s : State) (lport : Nat) : Nat := 2097152 / modePorts (s.portMode lport)

/-- Bytes that a priority holds in the buffer. -/
def State.held (s : State) (lport prio : Nat) : Nat :=
  ((s.eth.buffer.filter fun e => e.1 == lport && e.2.1 == prio).map (·.2.2)).sum

/-- A priority is lossless. -/
def State.lossless (s : State) (prio : Nat) : Bool := (s.num 0x6010 0).testBit prio

/-- The send level of a logical port. -/
def State.pfcLevel (s : State) (lport : Nat) : Nat := s.share lport - 1024 * s.num 0x6014 0

def pfcKey (lport prio : Nat) : Nat := 8 * lport + prio
def State.pfcOf (s : State) (lport prio : Nat) : PfcSt := tabGet (fun _ => {}) s.eth.pfc (pfcKey lport prio)
def State.modPfc (s : State) (lport prio : Nat) (f : PfcSt → PfcSt) : State :=
  { s with eth := { s.eth with pfc := tabSet (fun _ => {}) s.eth.pfc (pfcKey lport prio) (f (s.pfcOf lport prio)) } }

/-- A priority's occupancy has risen. -/
def State.pfcRise (s : State) (lport prio : Nat) : State :=
  if s.lossless prio && !(s.pfcOf lport prio).sent && decide (s.held lport prio ≥ s.pfcLevel lport) then
    (s.send (.pfc lport prio 0xFFFF)).modPfc lport prio fun x => { x with sent := true }
  else s

/-- A priority's occupancy has fallen. -/
def State.pfcFall (s : State) (lport prio : Nat) : State :=
  if (s.pfcOf lport prio).sent && decide (s.held lport prio + 65536 ≤ s.pfcLevel lport) then
    (s.send (.pfc lport prio 0)).modPfc lport prio fun x => { x with sent := false }
  else s

/-- A step takes the oldest frame of a logical port out of the buffer (log entry 50). -/
def State.takeFrame (s : State) (lport : Nat) : State :=
  match s.eth.buffer.find? fun e => e.1 == lport with
  | none => s
  | some e => ({ s with eth := { s.eth with buffer := s.eth.buffer.erase e } }).pfcFall lport e.2.1

/-- Send what a priority held back. -/
def State.flushHeld (s : State) (lport prio : Nat) : State :=
  let mine (e : Nat × Nat × Out) : Bool := e.1 == lport && e.2.1 == prio
  let l := s.eth.heldOut.filter mine
  let s := { s with eth := { s.eth with heldOut := s.eth.heldOut.filter fun e => !mine e } }
  forEach l s fun e s => if s.portState lport = 2 then s.send e.2.2 else s

/-- Send a packet of a priority: held while the partner's pause lasts, lost while the watchdog has released it or the link is
down. A pause whose quanta have run out holds nothing more. -/
def State.sendOn (s : State) (lport prio : Nat) (o : Out) : State :=
  let x := s.pfcOf lport prio
  if s.portState lport ≠ 2 ∨ x.released then s
  else if x.paused ∧ s.clock < x.until_ then { s with eth := { s.eth with heldOut := s.eth.heldOut ++ [(lport, prio, o)] } }
  else if x.paused then ((s.modPfc lport prio fun x => { x with paused := false }).flushHeld lport prio).send o
  else s.send o

/-- MAC and addresses of a logical port. -/
def State.macOf (s : State) (lport : Nat) : Nat := s.num 0x6003 (lport + 1)
def State.ip4Of (s : State) (lport : Nat) : Nat := s.num 0x6004 (lport + 1)
def State.ip6Of (s : State) (lport : Nat) : Nat := leNat (s.blob 0x6005 (lport + 1)).reverse

/-- Where a port sends what goes to an IP address: to the peer, or to the gateway where the peer is on another subnet (R265); which
peers are is a free value (log entry 133). A gateway for IPv4 is IPv4-mapped (Table 12.4). -/
def State.nextHop (s : State) (lport ip : Nat) : Nat :=
  let gateway := leNat (s.blob 0x6007 (lport + 1)).reverse
  if ip < 2 ^ 32 then if Config.sameSubnet (s.ip4Of lport) ip then ip else gateway % 2 ^ 32
  else if Config.sameSubnet (s.ip6Of lport) ip then ip else gateway

/-- A frame of a logical port to an IP address with the port's VLAN (R264); MOP and the answers of the control cores go at PCP 0. -/
def State.plainFrame (s : State) (lport ip : Nat) (o : Out) : Out :=
  .frame lport { hop := s.nextHop lport ip, vlan := s.num 0x6006 (lport + 1) } o

/-- The same to a neighbour on the link, as ARP and Neighbour Discovery send. -/
def State.linkFrame (s : State) (lport ip : Nat) (o : Out) : Out := .frame lport { hop := ip, vlan := s.num 0x6006 (lport + 1) } o

/-- A RoCE packet of a queue pair number to an address, with a class's PCP and DSCP (object 0x6011 or 0x6012) and ECT(0) where ECN
is on. -/
def State.roceHdr (s : State) (lport ip qpn class_ : Nat) : EthHdr :=
  { hop := s.nextHop lport ip, vlan := s.num 0x6006 (lport + 1), pcp := s.num class_ 0, dscp := s.num class_ 1, ect := s.gov 0x6013 0 == 1
    srcPort := 0xC000 + qpn % 16384 }

/-- A RoCE packet of a QP, a CNP of it, and a connection message, which is QP1's. -/
def State.roceFrame (s : State) (q : Nat) (o : Out) : Out :=
  .frame (s.qp q).lport (s.roceHdr (s.qp q).lport (s.qp q).srcAddr (0x10000 + q) 0x6011) o
def State.cnpFrame (s : State) (q : Nat) : Out :=
  .frame (s.qp q).lport (s.roceHdr (s.qp q).lport (s.qp q).srcAddr (0x10000 + q) 0x6012) (.cnp q)
def State.cmFrame (s : State) (lport ip : Nat) (o : Out) : Out := .frame lport (s.roceHdr lport ip 1 0x6011) o

/-- Send a connection message: it carries the PCP of RoCE packets, so their pauses hold it (R275, R276). -/
def State.cmOut (s : State) (lport ip : Nat) (o : Out) : State := s.sendOn lport (s.num 0x6011 0) (s.cmFrame lport ip o)

/-- Send a RoCE packet of a QP. -/
def State.rdmaOut (s : State) (q : Nat) (o : Out) : State := s.sendOn (s.qp q).lport (s.num 0x6011 0) (s.roceFrame q o)

/-- Lossless priorities times the headroom reach some share (R275). -/
def headroomTooLarge (mask headroom : Nat) (modes : List Nat) : Bool :=
  let n := ((List.range 8).filter fun i => mask.testBit i).length
  modes.any fun m => decide (n * headroom ≥ 2048 / modePorts m)

/-- Modes of the four ports. -/
def State.modes (s : State) : List Nat := (List.range 4).map fun p => s.num 0x6001 (p + 1)

/-- PORT_MODE_WRITE (R262): the port retrains, QPs of removed logical ports enter the error state. -/
def execPortModeWrite (slot : Nat) (port : Fin 4) (mode : Nat) (s : State) : Res :=
  let old := s.num 0x6001 (port + 1)
  .next (s.writeThen slot 0x6001 (port + 1) (.num mode)
    (fun s => if headroomTooLarge (s.num 0x6010 0) (s.num 0x6014 0) (s.modes.set port mode) then 0x60000013 else 0)
    fun s =>
      if old = mode then s
      else
        let s := upTo 4 s fun k s =>
          let i := 4 * port.val + k
          let s := if s.portState i = 2 then s.log 0x6002 srcHub i else s
          s.setNum 0x6002 (i + 1) (if k < modePorts mode then 1 else 0)
        forEach (s.eth.qps.filter fun e => e.2.lport / 4 == port.val && decide (e.2.lport % 4 ≥ modePorts mode)) s
          fun e s => s.qpError e.1)

/-- ETHERNET_LINK_UP (R263). -/
def execEthernetLinkUp (lport : Fin 16) (s : State) : Res :=
  if s.portThere lport && s.boot.refEth && s.boot.hubUp && s.portState lport != 2 then
    .next ((s.log 0x6001 srcHub lport).setNum 0x6002 (lport + 1) 2)
  else .next s

/-- A logical port's link goes down; its QPs are kept. -/
def State.portDown (s : State) (lport : Nat) : State :=
  if s.portState lport = 2 then (s.log 0x6002 srcHub lport).setNum 0x6002 (lport + 1) 1 else s

/-- ETHERNET_LINK_DOWN (R263). -/
def execEthernetLinkDown (lport : Fin 16) (s : State) : Res := .next (s.portDown lport)

/-! ## Frames (R264, R265) -/

/-- A destination address is one of the port's own; a zero address is unused. -/
def State.ownIp (s : State) (lport ip : Nat) : Bool := ip != 0 && (ip == s.ip4Of lport || ip == s.ip6Of lport)

/-- The MAC takes frames to a destination. -/
def State.ownMac (s : State) (lport dst : Nat) : Bool :=
  dst == s.macOf lport || dst == 0xFFFFFFFFFFFF
    || (s.ip6Of lport != 0 && dst == 0x3333FF000000 + s.ip6Of lport % 2 ^ 24)

/-- Untagged on VLAN 0, or with the port's one tag. -/
def State.vlanOk (s : State) (lport : Nat) (tags : List Nat) : Bool :=
  match tags with
  | [] => true
  | t :: _ => t == s.num 0x6006 (lport + 1) && t != 0

/-- The solicited-node multicast address of the port's own IPv6 address. -/
def State.solicitedNode (s : State) (lport : Nat) : Nat := 0xFF0200000000000000000001FF000000 + s.ip6Of lport % 2 ^ 24

/-- The IP traffic that the module takes; Neighbour Discovery (ICMPv6) also at the solicited-node address. -/
def State.ipOk (s : State) (lport : Nat) (f : EthFrame) : Bool :=
  !f.fragment
    && (s.ownIp lport f.dstIp || (f.protocol == 58 && s.ip6Of lport != 0 && f.dstIp == s.solicitedNode lport))
    && ((f.protocol == 17 && (f.udpPort == 4791 || f.udpPort == s.num 0x6032 0)) || f.protocol == 1 || f.protocol == 58)

/-- A known EtherType: IPv4, IPv6, ARP, MAC control. -/
def knownType (t : Nat) : Bool := t == 0x0800 || t == 0x86DD || t == 0x0806 || t == 0x8808

/-- ETHERNET_FRAME_RECEIVED (R264, R265, R275): accepted into the buffer, filtered, or dropped and counted. -/
def execEthernetFrameReceived (lport : Fin 16) (f : EthFrame) (s : State) : Res :=
  if s.portState lport ≠ 2 then .next s
  else if !f.fcsGood || decide (f.vlanTags.length > 1) || !knownType f.etherType then .next (s.dropFrame lport)
  else if !s.ownMac lport f.dst || !s.vlanOk lport f.vlanTags || decide (f.length > 9216) then .next s
  else if (f.etherType == 0x0800 || f.etherType == 0x86DD) && !s.ipOk lport f then .next (s.dropFrame lport)
  else
    let prio := f.pcp % 8
    let total := ((s.eth.buffer.filter fun e => e.1 == lport.val).map (·.2.2)).sum
    if total + f.length > s.share lport then .next (s.dropFrame lport)
    else
      let s := { s with eth := { s.eth with buffer := s.eth.buffer ++ [(lport.val, prio, f.length)] } }
      .next (s.pfcRise lport prio)

/-- The hub control cores answer on a port. -/
def State.answers (s : State) (lport : Nat) : Bool := s.portState lport == 2 && s.boot.hubAnswering

/-- A neighbour is used: its entry is the newest. -/
def State.noteNeighbour (s : State) (lport ip mac : Nat) : State :=
  { s with eth := { s.eth with
    neighbours := (s.eth.neighbours.filter fun e => !(e.1 == lport && e.2.1 == ip)) ++ [(lport, ip, mac)] } }

/-- The keeper has booted and the address is its own on the field network (R310). -/
def State.fieldAnswers (s : State) (ip : Nat) : Bool := s.boot.booted && ip == s.num 0x0F02 0

/-- ARP_REQUEST: on a logical port the hub control cores answer (R265), on the field network (no port) the keeper (R310). -/
def execArpRequest (port : Option (Fin 16)) (senderIp senderMac targetIp : Nat) (s : State) : Res :=
  match port with
  | none => .next (if s.fieldAnswers targetIp then s.send (.field (.arpReply 0 senderIp senderMac)) else s)
  | some lport =>
    let s := s.takeFrame lport
    if s.answers lport && targetIp != 0 && targetIp == s.ip4Of lport then
      .next ((s.noteNeighbour lport senderIp senderMac).send (s.linkFrame lport senderIp (.arpReply lport senderIp senderMac)))
    else .next s

/-- NEIGHBOUR_SOLICITATION (R265). -/
def execNeighbourSolicitation (lport : Fin 16) (senderIp senderMac targetIp : Nat) (s : State) : Res :=
  let s := s.takeFrame lport
  if s.answers lport && targetIp != 0 && targetIp == s.ip6Of lport then
    .next ((s.noteNeighbour lport senderIp senderMac).send (s.linkFrame lport senderIp (.neighbourAdvert lport senderIp senderMac)))
  else .next s

/-- ICMP_ECHO_REQUEST: on a logical port (R265), or on the field network (no port), which carries IPv4 only (R310). -/
def execIcmpEchoRequest (port : Option (Fin 16)) (v6 : Bool) (srcIp dstIp : Nat) (data : List Byte) (s : State) : Res :=
  match port with
  | none => .next (if s.fieldAnswers dstIp && !v6 then s.send (.field (.echoReply 0 srcIp data)) else s)
  | some lport =>
    let s := s.takeFrame lport
    if s.answers lport && dstIp != 0 && dstIp == (if v6 then s.ip6Of lport else s.ip4Of lport) then
      .next (s.send (s.plainFrame lport srcIp (.echoReply lport srcIp data)))
    else .next s

/-- NEIGHBOUR_ENTRY_EXPIRY (R265): unused for 60 s. -/
def execNeighbourEntryExpiry (lport : Fin 16) (ip : Nat) (s : State) : Res :=
  .next { s with eth := { s.eth with
    neighbours := s.eth.neighbours.filter fun e => !(e.1 == lport.val && e.2.1 == ip) } }

/-! ## Connections (R269, R281, R282) -/

/-- Base and size in bytes of the ring pool. -/
def State.poolBase (s : State) : Nat := s.num 0xB010 0
def State.poolBytes (s : State) : Nat := s.num 0xB011 0 * 2 ^ 30

/-- First free run of `n` units of 64 KiB in a pool of `total`: scan from the lowest, past allocations in the way. -/
def firstFit (l : List (Nat × Nat)) (total n : Nat) : Nat → Nat → Option Nat
  | 0, _ => none
  | k + 1, at_ =>
    if at_ + n > total then none
    else match l.find? fun e => decide (e.1 < at_ + n) && decide (at_ < e.1 + e.2) with
      | none => some at_
      | some e => firstFit l total n k (e.1 + e.2)

/-- The fields of the request's private data, or its abort code (Tables 13.1, 13.3). -/
def State.connRule (s : State) (priv : List Byte) : Except Nat (Conn × Nat × Nat) :=
  let v := leNat (priv.take 56)
  let parea := field v 192 16
  let nrec := field v 160 32
  let depth := field v 48 16
  let saddr := field v 64 64
  if s.faddr ≠ 0 ∧ s.position ≠ 0 then .error 0xB0000013
  else if priv.length < 56 ∨ field v 0 32 ≠ 0x4E454B54 ∨ field v 32 16 ≠ 1 ∨ v / 2 ^ 208 ≠ 0 ∨ parea > 256
    ∨ !((List.range 17).any fun k => decide (6 ≤ k) && nrec == 2 ^ k) ∨ saddr % 64 ≠ 0 ∨ depth < 4 ∨ 64 < depth then
    .error 0xB0000010
  else if s.poolBytes = 0 then .error 0xB0000012
  else
    let n := (depth * 4096 + parea * 65536 + 65535) / 65536
    match firstFit s.service.pool (s.poolBytes / 65536) n (s.service.pool.length + 1) 0 with
    | none => .error 0xB0000011
    | some u =>
      .ok ({ depth := depth, saddr := saddr, srkey := field v 128 32, nrec := nrec, parea := parea
             base := s.poolBase + 65536 * u }, u, n)

/-- R_Key in force of a window. -/
def State.windowAt (s : State) (i : Nat) : BitVec 256 := tabGet (fun _ => 0) s.eth.windows i
def State.rkeyOf (s : State) (i : Nat) : Nat := field (s.windowAt i).toNat 128 32

/-- The private data of a reply (Table 13.2). -/
def State.repPrivate (s : State) (c : Conn) : List Byte :=
  let a := if c.parea = 0 then 0 else s.rkeyOf 4095 * 2 ^ 160 + c.base * 2 ^ 192
  leBytes 32 (0x4E454B54 + 2 ^ 32 + a) ++ List.replicate 164 0#8

/-- The path MTU (R268): the smaller of the request's and the largest whose packet fits the port's IP MTU. -/
def State.pathMtu (s : State) (lport wanted : Nat) (v6 : Bool) : Nat :=
  let room := s.num 0x6008 (lport + 1)
  let fit := [256, 512, 1024, 2048, 4096].filter fun m =>
    decide (m ≤ wanted) && decide ((if v6 then 40 else 20) + 40 + m ≤ room)
  fit.foldl max 256

/-- Refuse a connection request: event 0x6005. -/
def State.reject (s : State) (lport ip reason : Nat) (priv : List Byte) : State :=
  (s.log 0x6005 srcHub lport).cmOut lport ip (.cmRej lport reason priv)

/-- The RDMA CM service id of a port number in the port space of reliable connections; the IBTA's, PRESUMED (log entry 140). -/
def cmServiceId (port : Nat) : Nat := 0x0000000001060000 + port

/-- CM_REQ (R269). -/
def execCmReq (lport : Fin 16) (r : CmReq) (s : State) : Res :=
  let s := s.takeFrame lport
  let same := s.eth.qps.find? fun e => e.2.state == 1 && e.2.srcQp == r.srcQp && e.2.srcAddr == r.srcAddr
  if !s.answers lport then .next s
  else if !s.ready then .next (s.reject lport r.srcAddr 28 (leBytes 4 0x10000001))
  else if r.service ≠ cmServiceId (s.num 0x6030 0) then .next (s.reject lport r.srcAddr 8 [])
  else match same with
    | some (q, x) => match x.conn with
      | some c => .next (s.cmOut lport r.srcAddr (.cmRep lport q x.respRes 0 (s.repPrivate c)))
      | none => .next s
    | none =>
      match (List.range 65536).find? fun q => (s.qp q).state == 0 with
      | none => .next (s.reject lport r.srcAddr 1 [])
      | some q =>
        if !r.rc || r.altPath then .next (s.reject lport r.srcAddr 27 [])
        else match s.connRule r.priv with
          | .error a => .next (s.reject lport r.srcAddr 28 (leBytes 4 a))
          | .ok (c, u, n) =>
            let (psn, s) := s.free
            let rate := s.lineRate lport
            let x : QpSt :=
              { state := 1, lport := lport, srcQp := r.srcQp, srcAddr := r.srcAddr, respRes := min 16 r.respRes
                mtu := s.pathMtu lport r.mtu r.v6, retry := r.retry, rnrRetry := r.rnrRetry, retryLeft := r.retry
                rnrLeft := r.rnrRetry, expectPsn := r.startPsn % 2 ^ 24, sendPsn := psn.toNat % 2 ^ 24
                rc := rate, rt := rate, conn := some c }
            let s := (s.setQp q x).noteQps
            let s := { s with service := { s.service with pool := s.service.pool ++ [(u, n)] } }
            .next (s.cmOut lport r.srcAddr (.cmRep lport q x.respRes 0 (s.repPrivate c)))

/-- CM_RTU (R269): the QP is ready to send. -/
def execCmRtu (qp : Fin 65536) (s : State) : Res :=
  let s := s.takeFrame (s.qp qp).lport
  if (s.qp qp).state = 1 then .next (s.modQp qp fun x => { x with state := 2 }) else .next s

/-- CM_DREQ (R269): DREP, the QP and its pool space are released, its sessions end. -/
def execCmDreq (qp : Fin 65536) (s : State) : Res :=
  let s := s.takeFrame (s.qp qp).lport
  let x := s.qp qp
  if x.state = 0 then .next s
  else
    let s := (s.orphanSessions qp).cmOut x.lport x.srcAddr (.cmDrep qp)
    let u := match x.conn with | some c => (c.base - s.poolBase) / 65536 | none => 0
    let s := { s with service := { s.service with pool := s.service.pool.filter fun e => e.1 != u || x.conn.isNone } }
    .next ((s.setQp qp {}).noteQps)

/-- The conditions of R282 on a ring pool. -/
def State.poolRule (s : State) (base gib : Nat) : Nat :=
  let n := gib * 2 ^ 30
  if s.num 0xB013 0 ≠ 0 then 0xB0000015
  else if gib = 0 then 0
  else if base % 2 ^ 30 == 0 && inLpddr base n
      && s.regions.any (fun r => r.kind == 4 && decide (r.base ≤ base) && decide (base + n ≤ r.base + r.len)) then 0
  else 0xB0000014

/-- The fields of a window descriptor that a client's access depends on: BASE, LEN, QPN, RWR, RRD. -/
def windowTerms (v : Nat) : Nat × Nat × Nat × Bool × Bool :=
  (field v 0 43, field v 64 64, field v 168 24, bit v 62, bit v 61)

/-- A window change takes effect: GEN advances where a term changes or EN is cleared (R272). -/
def State.putWindow (s : State) (i : Nat) (v : BitVec 256) : State :=
  let old := (s.windowAt i).toNat
  let n := v.toNat
  let g := field old 128 8
  let gen := if windowTerms old ≠ windowTerms n ∨ (bit old 63 ∧ !bit n 63) then (if g = 255 then 1 else g + 1) else g
  let rkey := i * 2 ^ 8 + gen
  let new := n - field n 128 32 * 2 ^ 128 + rkey * 2 ^ 128
  let s := { s with eth := { s.eth with windows := tabSet (fun _ => 0) s.eth.windows i (BitVec.ofNat 256 new) } }
  s.setNum 0x6042 0 (s.eth.windows.filter fun e => bit e.2.toNat 63).length

/-- Window 4,095 over the whole ring pool, owned by the token service. -/
def State.poolWindow (s : State) : State :=
  if s.poolBytes = 0 then s.putWindow 4095 0
  else s.putWindow 4095 (BitVec.ofNat 256 (s.poolBase + 2 ^ 56 + 2 ^ 62 + 2 ^ 63 + s.poolBytes * 2 ^ 64))

/-- RING_POOL_WRITE (R282, R301). -/
def execRingPoolWrite (slot : Nat) (isSize : Bool) (value : Nat) (s : State) : Res :=
  let base := if isSize then s.poolBase else value
  let gib := if isSize then value else s.num 0xB011 0
  .next (s.writeThen slot (if isSize then 0xB011 else 0xB010) 0 (.num value) (fun s => s.poolRule base gib)
    fun s => s.poolWindow)

/-! ## Windows (R271, R272) -/

/-- A range lies in one tile's populated LPDDR, or in hub SRAM. -/
def windowRange (base len : Nat) : Bool :=
  inLpddr base len || (decide (hubBase ≤ base) && decide (base + len ≤ hubBase + 0x8000000))

/-- The abort code of a descriptor for a window (R271). -/
def State.windowRule (s : State) (i : Nat) (data : List Byte) : Nat :=
  let v := leNat data
  let len := field v 64 64
  if field v 192 64 ≠ 0 ∨ field v 160 8 ≠ 0 ∨ field v 58 3 ≠ 0 ∨ field v 43 13 ≠ 0 ∨ field v 0 12 ≠ 0 ∨ len % 4096 ≠ 0
    ∨ len = 0 ∨ len > 2 ^ 36 ∨ !windowRange (field v 0 43) len then 0x60000010
  else if field (s.windowAt i).toNat 56 2 = 1 then 0x60000011
  else 0

/-- The descriptor as a client may set it: OWNER and RKEY are the module's. -/
def windowValue (data : List Byte) : BitVec 256 :=
  let v := leNat data
  BitVec.ofNat 256 (v - field v 56 2 * 2 ^ 56 - field v 128 32 * 2 ^ 128)

/-- WINDOW_DESCRIPTOR_WRITE (R271): the selected window changes at the next landing, at once while treads are stopped. -/
def execWindowDescriptorWrite (slot : Nat) (data : List Byte) (s : State) : Res :=
  let i := s.gov 0x6040 0
  .next (s.writeWith slot 0x6041 0 (.bytes data) (fun s => s.windowRule i data) fun s _ =>
    if s.tick.running then (s.defer (.window i data)).answerWrite slot 0x6041 0 1
    else (s.putWindow i (windowValue data)).answerWrite slot 0x6041 0 0)

/-! ## RC responder (R267, R270, R272, R273) -/

/-- Step 7 of R272: every GiB can be reached. -/
def State.rangeReachable (s : State) (a n : Nat) (read : Bool) : Bool :=
  decide (a ≥ 0x40000000000) || (gibsOf a n).all fun g => match s.translate g read with
    | .ok b => (s.tile (b / 2 ^ 36)).tileOn && !s.channelBad (b / 2 ^ 36) (b / 2 ^ 33 % 8)
    | .error _ => false

/-- Where one byte address lies after the redirect map; callers have refused a LOST one. -/
def State.realAddr (s : State) (a : Nat) : Nat :=
  if a ≥ 0x40000000000 then a else match s.translate a false with | .ok b => b | .error _ => a

/-- Read a reachable range through the redirect map, GiB by GiB; callers settle the pending writes first (R118). -/
def State.readThrough (s : State) (a n : Nat) : List Byte :=
  (gibsOf a n).flatMap fun g =>
    let lo := max a g
    let hi := min (a + n) (g + 2 ^ 30)
    readTab s.mem (s.realAddr lo) (hi - lo)

/-- The hub's own read of a range: none where part of it is answered poisoned (R123, R125, R126). What a load reads in a GiB that is
being refilled is the client's new data: FILL ends only with the load (R298; log entry 141), so `fill` says whether FILL stops
it. -/
def State.hubRead (s : State) (a n : Nat) (fill : Bool) : Option (List Byte) :=
  let off := match windowTile a with | some t => !(s.tile t).flockOn | none => false
  if n != 0 && (off || !s.rangeReachable a n fill) then none else some (s.readThrough a n)

/-- An external write, GiB by GiB: what goes to a LOST GiB or a failed channel is discarded (R121, R125, R126). -/
def State.writeThrough (s : State) (a : Nat) (d : List Byte) : State :=
  forEach (gibsOf a d.length) s fun g s =>
    let lo := max a g
    let hi := min (a + d.length) (g + 2 ^ 30)
    s.store lo ((d.drop (lo - a)).take (hi - lo))

/-- The checks of R272 on a message's range: 0 good, 1 an access error, 2 an operational error. -/
def State.accessCheck (s : State) (q rkey va len : Nat) (write : Bool) : Nat :=
  let i := rkey / 2 ^ 8 % 2 ^ 12
  let w := (s.windowAt i).toNat
  let qpn := field w 168 24
  if rkey / 2 ^ 20 ≠ 0 ∨ rkey % 2 ^ 8 ≠ field w 128 8 ∨ rkey % 2 ^ 8 = 0 ∨ !bit w 63 ∨ (qpn ≠ 0 ∧ qpn ≠ 0x10000 + q)
    ∨ !bit w (if write then 62 else 61) ∨ va < field w 0 43 ∨ va + len > field w 0 43 + field w 64 64 then 1
  else if len ≠ 0 ∧ !s.rangeReachable va len (!write) then 2
  else 0

/-- NAK codes of the IBTA. -/
def nakSequence : Nat := 0x60
def nakInvalid : Nat := 0x61
def nakAccess : Nat := 0x62
def nakOperational : Nat := 0x63


/-- A CE mark is answered with a CNP, one per interval (R277). -/
def State.noteCe (s : State) (q : Nat) (ce : Bool) : State :=
  let due := match (s.qp q).lastCnp with
    | none => true
    | some t => decide (s.clock ≥ t + 2000 * s.gov 0x6015 0)
  if ce && due then
    ((s.sendOn (s.qp q).lport (s.num 0x6012 0) (s.cnpFrame q)).count 0x6052 0 1).modQp q fun x => { x with lastCnp := some s.clock }
  else s

/-! ### What a QP answers, in the order of the requests (R273) -/

/-- READ responses of a range: packets of the path MTU, opcodes 0x0D first, 0x0E middle, 0x0F last, 0x10 only (Table 12.2). -/
def readPackets (q mtu psn : Nat) (data : List Byte) : List Out :=
  let n := max 1 ((data.length + mtu - 1) / mtu)
  (List.range n).map fun i =>
    .readResponse q ((psn + i) % 2 ^ 24) (if n = 1 then 0x10 else if i = 0 then 0x0D else if i + 1 = n then 0x0F else 0x0E)
      (slice data (i * mtu) mtu)

/-- The response to an RDMA READ: the bytes as stored, once the pending writes in its range are complete (R118, R273). -/
def State.readAnswer (s : State) (q : Nat) (p : RcPacket) : State :=
  let s := if p.dmaLen = 0 then s else s.settleRange p.va p.dmaLen
  let data := if p.dmaLen = 0 then [] else s.readThrough p.va p.dmaLen
  forEach (readPackets q (s.qp q).mtu p.psn data) s fun o s => s.rdmaOut q o

/-- Send one of the answers: an acknowledgement that the next one covers is left out; a NAK that is no RNR or sequence NAK, and an
uncorrectable link error of a read, bring the error state. -/
def State.sendReply (s : State) (q : Nat) (r : RcReply) (rest : List RcReply) : State :=
  let covered := match rest with
    | .ack _ done :: _ => done
    | _ => false
  match r with
  | .ack psn _ => if covered then s else s.rdmaOut q (.rcAck q psn)
  | .nak o => s.rdmaOut q o
  | .read p bad => if bad then (s.rdmaOut q (.rcNak q p.psn nakOperational)).qpError q else s.readAnswer q p
  | .fatal psn code => (s.rdmaOut q (.rcNak q psn code)).qpError q

/-- An answer need not wait: an acknowledgement of complete data, or any other once it is the first. -/
def RcReply.ready : RcReply → Bool
  | .ack _ done => done
  | _ => true

/-- Send the answers at the front that need not wait; `n` bounds them. -/
def State.flushReplies (s : State) (q : Nat) : Nat → State
  | 0 => s
  | n + 1 =>
    let x := s.qp q
    match x.replies with
    | [] => s
    | r :: rest =>
      if !r.ready || (x.state != 1 && x.state != 2) then s
      else ((s.modQp q fun x => { x with replies := rest }).sendReply q r rest).flushReplies q n

/-- Send what can go. -/
def State.ackReady (s : State) (q : Nat) : State := s.flushReplies q (s.qp q).replies.length

/-- Queue an answer behind those that wait. -/
def State.answerRc (s : State) (q : Nat) (r : RcReply) : State :=
  (s.modQp q fun x => { x with replies := x.replies ++ [r] }).ackReady q

/-- NAK and the error state. -/
def State.fatalNak (s : State) (q psn code : Nat) : State := s.answerRc q (.fatal psn code)

/-- A failed access: its event and its NAK. -/
def State.accessFailed (s : State) (q psn kind : Nat) : State :=
  if kind = 1 then (s.log 0x6004 srcHub q).fatalNak q psn nakAccess else (s.log 0x6007 srcHub q).fatalNak q psn nakOperational

/-- A NAK that brings the error state waits to be sent. -/
def QpSt.doomed (x : QpSt) : Bool := x.replies.any fun r => match r with
  | .fatal _ _ => true
  | .read _ bad => bad
  | _ => false

/-- The common part of a request packet: state, CE, the PSN. `run` acts on one in sequence; a duplicate is acknowledged
again, one ahead draws a sequence NAK. A QP that a NAK is about to put in the error state takes nothing more, nor does a module whose
tile array is cut off (R353). -/
def State.request (s : State) (q : Nat) (p : RcPacket) (dup run : State → State) : State :=
  let s := s.takeFrame (s.qp q).lport
  let x := s.qp q
  if (x.state ≠ 1 ∧ x.state ≠ 2) ∨ s.portState x.lport ≠ 2 ∨ s.boot.cutOff then s
  else
    let s := s.noteCe q p.ce
    let d := seqDist p.psn x.expectPsn
    if x.doomed then s
    else if d = 0 then run s
    else if d ≥ 2 ^ 23 then dup s
    else s.answerRc q (.nak (.rcNak q x.expectPsn nakSequence))

/-- Acknowledge again what was received before. -/
def State.ackAgain (s : State) (q : Nat) : State :=
  let x := s.qp q
  if x.replies.isEmpty then s.rdmaOut q (.rcAck q ((x.expectPsn + 2 ^ 24 - 1) % 2 ^ 24)) else s

/-- A packet is accepted: the next PSN is expected, and its acknowledgement waits for its data. -/
def State.acceptPsn (s : State) (q psn : Nat) (done : Bool) : State :=
  (s.modQp q fun x => { x with expectPsn := (psn + 1) % 2 ^ 24 }).answerRc q (.ack psn done)

/-- Address of a request slot: after the prompt area (log entry 52). -/
def Conn.slotAddr (c : Conn) (k : Nat) : Nat := c.base + 65536 * c.parea + 4096 * (k % c.depth)

/-- ROCE_SEND_RECEIVED (R270, R283). -/
def execRoceSendReceived (qp : Fin 65536) (p : RcPacket) (s : State) : Res :=
  .next (s.request qp p (fun s => s.ackAgain qp) fun s =>
    match (s.qp qp).conn with
    | none => s.fatalNak qp p.psn nakInvalid
    | some c =>
      if p.first && decide (c.ring.length ≥ c.depth) then s.answerRc qp (.nak (.rcRnr qp p.psn (s.gov 0x600A 0)))
      else
        let d := (if p.first then [] else c.partialSend) ++ p.payload
        if d.length > 4096 then s.fatalNak qp p.psn nakInvalid
        else
          let c' := if p.last then { c with ring := c.ring ++ [d], partialSend := [] } else { c with partialSend := d }
          let s := if p.last then s.writeThrough (c.slotAddr (c.rdone + c.ring.length)) d else s
          (s.modQp qp fun x => { x with conn := some c' }).acceptPsn qp p.psn true)

/-- Leave an external write to be reported complete. -/
def State.externalWrite (s : State) (addr : Nat) (d : List Byte) (q : Option Nat) (psn : Nat) : State :=
  { s with eth := { s.eth with
    writes := s.eth.writes ++ [{ id := s.eth.nextWrite, addr := addr, data := d, qp := q, psn := psn }]
    nextWrite := s.eth.nextWrite + 1 } }

/-- RDMA_WRITE_RECEIVED (R272, R273). -/
def execRdmaWriteReceived (qp : Fin 65536) (p : RcPacket) (s : State) : Res :=
  .next (s.request qp p (fun s => s.ackAgain qp) fun s =>
    let here : Option (Nat × Nat × Nat × Nat) := if p.first then some (p.rkey, p.va, p.dmaLen, 0) else (s.qp qp).inWrite
    match here with
    | none => s.fatalNak qp p.psn nakInvalid
    | some (rkey, va, len, taken) =>
      let n := p.payload.length
      if len > 2 ^ 31 ∨ taken + n > len ∨ (p.last ∧ taken + n ≠ len) then s.fatalNak qp p.psn nakInvalid
      else
        let k := s.accessCheck qp rkey va len true
        if k ≠ 0 then s.accessFailed qp p.psn k
        else
          let s := s.modQp qp fun x => { x with inWrite := if p.last then none else some (rkey, va, len, taken + n) }
          if n = 0 then s.acceptPsn qp p.psn true
          else (s.externalWrite (va + taken) p.payload (some qp) p.psn).acceptPsn qp p.psn false)

/-- An acknowledgement's data is complete. -/
def RcReply.complete (psn : Nat) : RcReply → RcReply
  | .ack p done => .ack p (done || p == psn)
  | r => r

/-- An external write is complete: the data is visible, and the answers that waited for it may go (R121, R273). -/
def State.finishWrite (s : State) (w : ExtWrite) : State :=
  let s := { s.writeThrough w.addr w.data with eth := { s.eth with writes := s.eth.writes.filter fun x => x.id != w.id } }
  match w.qp with
  | none => s
  | some q => (s.modQp q fun x => { x with replies := x.replies.map (RcReply.complete w.psn) }).ackReady q

/-- EXTERNAL_WRITE_COMPLETE (R121, R273). -/
def execExternalWriteComplete (writer : Nat) (s : State) : Res :=
  match s.eth.writes.find? fun w => w.id == writer with
  | none => .next s
  | some w => .next (s.finishWrite w)

/-- The RDMA WRITEs of a QP are placed before a SEND that came after them is acted on (R284). -/
def State.placeWrites (s : State) (q : Nat) : State :=
  forEach (s.eth.writes.filter fun w => w.qp == some q) s fun w s => s.finishWrite w

/-- RDMA_READ_REQUEST (R272, R273): its response, or a NAK; `linkError` is an uncorrectable LPDDR link error. A duplicate's window
change apart, it is answered again. -/
def execRdmaReadRequest (qp : Fin 65536) (p : RcPacket) (linkError : Bool) (s : State) : Res :=
  let answer (s : State) (advance : Bool) : State :=
    let k := s.accessCheck qp p.rkey p.va p.dmaLen false
    if p.dmaLen > 2 ^ 31 then s.fatalNak qp p.psn nakInvalid
    else if k ≠ 0 then s.accessFailed qp p.psn k
    else
      let s := if advance then
          s.modQp qp fun x => { x with expectPsn := (p.psn + max 1 ((p.dmaLen + x.mtu - 1) / x.mtu)) % 2 ^ 24 }
        else s
      s.answerRc qp (.read p linkError)
  .next (s.request qp p (fun s => answer s false) fun s => answer s true)

/-- Opcodes with a meaning for the module (Table 12.2) and CNP. -/
def knownOpcode (o : Nat) : Bool := [0x00, 0x01, 0x02, 0x04, 0x06, 0x07, 0x08, 0x0A, 0x0C, 0x11, 0x81].contains o

/-- UNSUPPORTED_OPCODE_RECEIVED (R267). -/
def execUnsupportedOpcodeReceived (qp : Fin 65536) (opcode psn : Nat) (ce : Bool) (s : State) : Res :=
  if knownOpcode opcode then .next s
  else .next (s.request qp { psn := (s.qp qp).expectPsn, ce := ce } id fun s => s.fatalNak qp psn nakInvalid)

/-! ## RC requester (R270) -/

/-- The packets of an RDMA WRITE: of the path MTU, opcodes 0x06 first, 0x07 middle, 0x08 last, 0x0A only (Table 12.2), each with
its PSN. -/
def writePackets (q mtu psn rkey addr : Nat) (d : List Byte) : List (Nat × Out) :=
  let n := max 1 ((d.length + mtu - 1) / mtu)
  (List.range n).map fun i =>
    ((psn + i) % 2 ^ 24, .rdmaWrite q ((psn + i) % 2 ^ 24)
      (if n = 1 then 0x0A else if i = 0 then 0x06 else if i + 1 = n then 0x08 else 0x07) rkey (addr + i * mtu) (slice d (i * mtu) mtu))

/-- Send an RDMA WRITE of a QP that is ready: it takes the next PSNs and waits for its acknowledgement. -/
def State.postWrite (s : State) (q rkey addr : Nat) (d : List Byte) : State :=
  let x := s.qp q
  if x.state ≠ 2 then s
  else
    let l := writePackets q x.mtu x.sendPsn rkey addr d
    let s := s.modQp q fun x => { x with sendPsn := (x.sendPsn + l.length) % 2 ^ 24, unacked := x.unacked ++ l }
    forEach l s fun e s => s.rdmaOut q e.2

/-- Retransmit from the oldest unacknowledged PSN. -/
def State.resend (s : State) (q : Nat) : State := forEach (s.qp q).unacked s fun e s => s.rdmaOut q e.2

/-- Release the PSNs that come before one. -/
def State.releasePsns (s : State) (q psn : Nat) : State :=
  s.modQp q fun x => { x with
    unacked := x.unacked.filter fun e => decide (seqDist e.1 psn < 2 ^ 23)
    retryLeft := if x.unacked.any fun e => decide (seqDist e.1 psn ≥ 2 ^ 23) then x.retry else x.retryLeft }

/-- A retry, or the error state once they are exhausted. -/
def State.retry (s : State) (q : Nat) : State :=
  if (s.qp q).retryLeft = 0 then s.qpError q
  else (s.modQp q fun x => { x with retryLeft := x.retryLeft - 1 }).resend q

/-- A CE mark on a packet for a local QP that is no request (R277). -/
def State.noteMark (s : State) (q : Nat) (ce : Bool) : State := if (s.qp q).state = 1 ∨ (s.qp q).state = 2 then s.noteCe q ce else s

/-- RC_ACK_RECEIVED (R270): bits 6–5 of the syndrome are 0 ACK, 1 RNR NAK, 3 NAK with its code in bits 4–0. -/
def execRcAckReceived (qp : Fin 65536) (syndrome psn : Nat) (ce : Bool) (s : State) : Res :=
  let s := (s.takeFrame (s.qp qp).lport).noteMark qp ce
  if (s.qp qp).state ≠ 2 then .next s
  else match syndrome / 32 % 4 with
    | 0 => .next ((s.releasePsns qp ((psn + 1) % 2 ^ 24)).modQp qp fun x => { x with rnrLeft := x.rnrRetry })
    | 1 =>
      let s := s.releasePsns qp psn
      let x := s.qp qp
      if x.rnrRetry = 7 then .next (s.resend qp)
      else if x.rnrLeft = 0 then .next (s.qpError qp)
      else .next ((s.modQp qp fun x => { x with rnrLeft := x.rnrLeft - 1 }).resend qp)
    | _ =>
      if syndrome % 32 = 0 then .next ((s.releasePsns qp psn).retry qp) else .next (s.qpError qp)

/-- LOCAL_ACK_TIMEOUT (R270). -/
def execLocalAckTimeout (qp : Fin 65536) (s : State) : Res :=
  if (s.qp qp).state ≠ 2 ∨ (s.qp qp).unacked.isEmpty then .next s else .next (s.retry qp)

/-! ## Congestion control (R278) -/

/-- g. -/
def State.dcqcnG (s : State) : Rat := 1 / (2 ^ s.gov 0x6020 0 : Nat)

/-- increase(). -/
def State.dcqcnIncrease (s : State) (q : Nat) : State :=
  let f := s.gov 0x6024 0
  let line : Rat := (s.lineRate (s.qp q).lport : Nat)
  s.modQp q fun x =>
    let rt := if max x.tc x.bc < f then x.rt
      else if min x.tc x.bc ≥ f then x.rt + ((s.gov 0x6026 0 * (min x.tc x.bc - f + 1) : Nat) : Rat)
      else x.rt + ((s.gov 0x6025 0 : Nat) : Rat)
    let rt := min rt line
    { x with rt := rt, rc := (rt + x.rc) / 2 }

/-- A QP that the module sends on. -/
def QpSt.sends (x : QpSt) : Bool := x.state == 1 || x.state == 2

/-- CNP_RECEIVED. -/
def execCnpReceived (qp : Fin 65536) (ce : Bool) (s : State) : Res :=
  let s := ((s.takeFrame (s.qp qp).lport).noteMark qp ce).count 0x6053 0 1
  if !(s.qp qp).sends then .next s
  else
    let g := s.dcqcnG
    let rmin : Rat := (s.gov 0x6027 0 : Nat)
    .next (s.modQp qp fun x =>
      { x with rt := x.rc, rc := max rmin (x.rc * (1 - x.alpha / 2)), alpha := (1 - g) * x.alpha + g, tc := 0, bc := 0 })

/-- DCQCN_ALPHA_TIMER. -/
def execDcqcnAlphaTimer (qp : Fin 65536) (s : State) : Res :=
  if (s.qp qp).sends then .next (s.modQp qp fun x => { x with alpha := (1 - s.dcqcnG) * x.alpha }) else .next s

/-- DCQCN_RATE_TIMER. -/
def execDcqcnRateTimer (qp : Fin 65536) (s : State) : Res :=
  if (s.qp qp).sends then .next ((s.modQp qp fun x => { x with tc := x.tc + 1 }).dcqcnIncrease qp) else .next s

/-- DCQCN_BYTE_COUNTER. -/
def execDcqcnByteCounter (qp : Fin 65536) (s : State) : Res :=
  if (s.qp qp).sends then .next ((s.modQp qp fun x => { x with bc := x.bc + 1 }).dcqcnIncrease qp) else .next s

/-! ## Pauses (R275, R276) -/

/-- PFC_FRAME_RECEIVED: honoured for the priorities in the mask, for quanta of 512 bit times. -/
def execPfcFrameReceived (lport : Fin 16) (mask : BitVec 8) (quanta : List Nat) (s : State) : Res :=
  if s.portState lport ≠ 2 then .next s
  else .next (upTo 8 s fun i s =>
    if !mask.getLsbD i || !s.lossless i then s
    else if quanta.getD i 0 ≠ 0 then s.modPfc lport i fun x =>
      { x with paused := true, until_ := s.clock + 1024000 * quanta.getD i 0 / s.lineRate lport }
    else (s.modPfc lport i fun x => { x with paused := false }).flushHeld lport i)

/-- PFC_REPEAT: the occupancy stays above the level. -/
def execPfcRepeat (lport : Fin 16) (prio : Fin 8) (s : State) : Res :=
  if (s.pfcOf lport prio).sent && decide (s.held lport prio > s.pfcLevel lport) then
    .next (s.send (.pfc lport prio 0xFFFF))
  else .next s

/-- PAUSE_WATCHDOG_EXPIRY: released locally, queued frames discarded, event 0x6006. -/
def execPauseWatchdogExpiry (lport : Fin 16) (prio : Fin 8) (s : State) : Res :=
  let x := s.pfcOf lport prio
  if !x.paused || x.released then .next s
  else
    let s := (s.log 0x6006 srcHub (8 * lport.val + prio)).modPfc lport prio fun x => { x with released := true }
    .next { s with eth := { s.eth with heldOut := s.eth.heldOut.filter fun e => !(e.1 == lport.val && e.2.1 == prio.val) } }

/-- PAUSE_WATCHDOG_RESUME: no pause for 100 ms. -/
def execPauseWatchdogResume (lport : Fin 16) (prio : Fin 8) (s : State) : Res :=
  if (s.pfcOf lport prio).released then
    .next (s.modPfc lport prio fun x => { x with released := false, paused := false })
  else .next s

/-- PFC_MASK_WRITE (R275). -/
def execPfcMaskWrite (slot : Nat) (isHeadroom : Bool) (value : Nat) (s : State) : Res :=
  let mask := if isHeadroom then s.num 0x6010 0 else value
  let head := if isHeadroom then value else s.num 0x6014 0
  .next (s.writeValue slot (if isHeadroom then 0x6014 else 0x6010) 0 (.num value) fun s =>
    if decide (((List.range 8).filter fun i => mask.testBit i).length > 2) then 0x60000012
    else if headroomTooLarge mask head s.modes then 0x60000013
    else 0)

end Sys2Proof.Machine
end

