-- ==== Sys2Proof/Machine/Token.lean ====
section
/-! DEFINITION. The token service: requests, stream records, sessions, batching, models (R281–R301). -/

namespace Sys2Proof.Machine

/-! ## Stream records (R285, R286) -/

def State.modConn (s : State) (q : Nat) (f : Conn → Conn) : State :=
  s.modQp q fun x => { x with conn := x.conn.map f }

/-- What a stream record says, but for PHASE (Table 13.5). -/
structure StreamRec where
  kind : Nat
  flags : Nat := 0
  session : Nat
  status : Nat := 0
  token : Nat := 0
  pos : Nat
  tag : Nat
  text : List Byte := []
  epoch : Nat
deriving DecidableEq, Repr

/-- The 64 bytes of a record, PHASE clear. -/
def StreamRec.toBytes (r : StreamRec) (rdone : Nat) : List Byte :=
  leBytes 64 (atBit r.epoch 64 0 + atBit rdone 32 64 + atBit r.kind 8 96 + atBit r.flags 8 104 + atBit r.session 16 112
    + atBit r.status 16 128 + atBit r.token 32 144 + atBit r.pos 32 176 + atBit r.tag 32 208 + atBit (leNat r.text) 256 240
    + atBit r.text.length 8 496)

/-- Queue a record for a connection; it is posted after the landing. -/
def State.queueRec (s : State) (q : Nat) (r : StreamRec) : State :=
  s.modConn q fun c => { c with queued := c.queued ++ [r.toBytes c.rdone] }

/-- Put PHASE into record k of a ring of `nrec`. -/
def phased (b : List Byte) (k nrec : Nat) : List Byte :=
  b.take 63 ++ [BitVec.ofNat 8 (if (k / nrec + 1) % 2 = 1 then 128 else 0)]

/-- Post the records that are due and fit the client's ring, `n` at most. -/
def State.postDue (s : State) (q : Nat) : Nat → State
  | 0 => s
  | n + 1 =>
    match (s.qp q).conn with
    | none => s
    | some c =>
      match c.queued with
      | [] => s
      | b :: t =>
        let k := c.written
        if (s.qp q).state = 2 ∧ 0 < c.due ∧ (k + 2 ^ 32 - c.cons % 2 ^ 32) % 2 ^ 32 < c.nrec then
          let s := s.modConn q fun c => { c with queued := t, due := c.due - 1, written := k + 1 }
          (s.postWrite q c.srkey (c.saddr + 64 * (k % c.nrec)) (phased b k c.nrec)).postDue q n
        else s

/-- Post what is due on a QP; with treads stopped there is no landing to wait for. -/
def State.post (s : State) (q : Nat) : State :=
  let s := if s.tick.running then s else s.modConn q fun c => { c with due := c.queued.length }
  match (s.qp q).conn with
  | some c => s.postDue q c.due
  | none => s

/-- RECORD_POST at a tick: every record that waits has its landing behind it. -/
def State.postRecords (s : State) : State :=
  forEach s.eth.qps s fun e s => (s.modConn e.1 fun c => { c with due := c.queued.length }).post e.1

/-- Records of a ring that are free, counting those that wait (R292). -/
def Conn.freeRecs (c : Conn) : Nat := c.nrec - ((c.written + c.queued.length + 2 ^ 32 - c.cons % 2 ^ 32) % 2 ^ 32)

/-! ## Ends of sessions (R290, R291) -/

/-- Free KV positions of a model (object 0xB008). -/
def State.freePositions (s : State) (m : Nat) : Nat :=
  (s.model m).kvpos - (s.service.sessions.map fun e => match e.2 with
    | some x => if x.model = m then x.reserved else 0
    | none => 0).sum

/-- End a session: its END record, or IDLE where KEEP holds it; the bytes held back stay with an IDLE one for its next token (R286).
One that lost its QP ends with the landing, without a record (R291). -/
def State.endSession (s : State) (i status reason token : Nat) : State :=
  match s.session i with
  | none => s
  | some x =>
    if x.state = 4 ∨ x.orphan then s
    else
      let idle := x.keep && x.state != 3 && status == 0 && reason != 5
      let s := s.queueRec x.qp
        { kind := 3, flags := reason + if idle then 8 else 0, session := i, status := status
          token := if status = 0x0014 then token else 0, pos := x.context.length, tag := x.tag, epoch := s.epoch }
      let s := if status = 0 then s else s.countEnd
      if idle then s.modSession i fun x => { x with state := 3, closing := false, endedAt := some s.epoch }
      else s.leave i

/-- Length of an incomplete UTF-8 sequence at the end of bytes. -/
def utf8Tail (b : List Byte) : Nat :=
  let r := b.reverse
  let lead (c : Byte) : Nat := if c.toNat < 0xC0 then 1 else if c.toNat < 0xE0 then 2 else if c.toNat < 0xF0 then 3 else 4
  let cont (n : Nat) : Bool := (r.take n).all fun c => c.toNat / 64 == 2
  match [1, 2, 3].find? fun k => decide (k ≤ r.length) && cont (k - 1) && decide (lead (r.getD (k - 1) 0) > k) with
  | some k => k
  | none => 0

/-- The tokenizer of a model: its image, by MODELID and ICRC. -/
def Model.tokenizer (m : Model) : Nat := m.modelid * 2 ^ 32 + m.icrc

/-- TOKEN records of one token: its text in pieces of 32 bytes. -/
def tokenRecs (r : StreamRec) (text : List Byte) : Nat → List StreamRec
  | 0 => [{ r with text := text.take 32 }]
  | n + 1 =>
    if text.length ≤ 32 then [{ r with text := text }]
    else { r with text := text.take 32, flags := 1 } :: tokenRecs r (text.drop 32) n

/-- A committed token record (R286, R290). -/
def State.tokenCommitted (s : State) (i token flags : Nat) : State :=
  match s.session i with
  | none => s
  | some x =>
    let deaf := match x.endedAt with | some e => decide (s.epoch ≤ e + 1) | none => false
    if deaf || x.orphan || (x.state != 1 && x.state != 2) then s
    else if flags / 2 ≠ 0 then s.endSession i 0x0011 6 0
    else
      let m := s.model x.model
      let bytes := x.held ++ Config.detokenize m.tokenizer token
      let hold := utf8Tail bytes
      let text := bytes.take (bytes.length - hold)
      let pos := x.context.length
      let s := forEach (tokenRecs { kind := 2, session := i, token := token, pos := pos, tag := x.tag, epoch := s.epoch } text
        text.length) s fun r s => s.queueRec x.qp r
      let s := s.modSession i fun x =>
        { x with state := 2, context := x.context ++ [token], held := bytes.drop (bytes.length - hold), endedAt := none }
      let reason := if token = m.eosid ∨ flags % 2 = 1 then 1
        else if x.stop.contains token then 2
        else if pos + 1 ≥ x.prompt + x.maxtok then 3 else 0
      if reason = 0 then s else s.endSession i 0 reason 0

/-- Sessions that end at this landing for another reason than a token: an error, a CLOSE, a lost QP. -/
def State.endAll (s : State) : State :=
  let l := s.service.endsNow
  let s := { s with service := { s.service with endsNow := [] } }
  let s := forEach l s fun e s => s.endSession e.1 e.2.1 (if e.2.1 = 0 then 5 else 6) e.2.2
  let s := forEach s.service.sessions s fun e s => match e.2 with
    | some x => if x.closing then s.endSession e.1 0 4 0 else s
    | none => s
  forEach s.service.sessions s fun e s => match e.2 with
    | some x => if x.orphan && x.state != 4 then s.countEnd.leave e.1 else s
    | none => s

/-- With treads stopped there is no landing to wait for (log entry 57). -/
def State.endIfStopped (s : State) : State := if s.tick.running then s else s.endAll.logEnds.postRecords

/-- Withheld steps counted (R29): the eighth in a row ends the session. -/
def State.countWithheld (s : State) (withheld : List Nat) : State :=
  forEach s.service.sessions s fun e s => match e.2 with
    | none => s
    | some x =>
      if !withheld.contains e.1 then (if x.withheldRun = 0 then s else s.modSession e.1 fun x => { x with withheldRun := 0 })
      else
        let s := s.modSession e.1 fun x => { x with withheldRun := x.withheldRun + 1 }
        if x.withheldRun + 1 ≥ 8 ∧ x.state ≠ 4 then s.endAtLanding e.1 0x0010 0 else s

/-! ## Models that leave (R299) -/

/-- A model's sessions that still hold an id. -/
def State.modelBusy (s : State) (m : Nat) : Bool :=
  s.service.sessions.any fun e => match e.2 with | some x => x.model == m | none => false

/-- Region map without the entries that a model's commit wrote. -/
def State.withoutRegions (s : State) (l : List (List Byte)) : List Byte :=
  let b := s.blob 0xA030 0
  ((List.range (b.length / 32)).map fun i => (b.drop (32 * i)).take 32).filter (fun e => !l.contains e) |>.flatten

/-- An unloading model whose reservations are released becomes EMPTY. -/
def State.finishUnloads (s : State) : State :=
  upTo 16 s fun i s =>
    if (s.model i).state = 5 ∧ !s.modelBusy i then
      let s := s.setBlob 0xA030 0 (s.withoutRegions (s.model i).regions)
      ((s.log 0xB004 srcHub i).modModel i fun _ => {}).reportModel i
    else s

/-- At the end of a landing: sessions that ended one landing before give up id and reservation. -/
def State.releaseEnded (s : State) : State :=
  (forEach s.service.sessions s fun e s => match e.2 with
    | some x => match x.endedAt with
      | some n => if x.state = 4 ∧ n < s.epoch then s.setSession e.1 none else s
      | none => s
    | none => s).finishUnloads

/-! ## Requests (R283, R284, R288) -/

/-- A request header's fields. -/
structure Request where
  kind : Nat
  keep : Bool
  tokens : Bool
  area : Bool
  sid : Bool
  session : Nat
  tag : Nat
  cons : Nat
  model : Nat
  topk : Nat
  temp : Nat
  topp : Nat
  reppen : Nat
  maxtok : Nat
  seed : Nat
  stop : List Nat
  body : List Byte
  /-- Reserved content, or a length that is not 64 + BODY (log entry 55). -/
  bad : Bool
deriving DecidableEq, Repr

/-- The request that a message holds (Table 13.4). -/
def requestOf (b : List Byte) : Request :=
  let v := leNat (b.take 64)
  let flags := field v 8 8
  { kind := field v 0 8, keep := bit flags 0, tokens := bit flags 1, area := bit flags 2, sid := bit flags 3
    session := field v 32 16, tag := field v 64 32, cons := field v 96 32, model := field v 144 16, topk := field v 176 16
    temp := field v 192 32, topp := field v 224 32, reppen := field v 256 32, maxtok := field v 288 32
    seed := field v 320 64, stop := (List.range 4).map (fun j => field v (384 + 32 * j) 32) |>.filter (· ≠ 0xFFFFFFFF)
    body := b.drop 64
    bad := decide (field v 0 8 < 1) || decide (4 < field v 0 8) || field v 16 16 != 0 || field v 48 16 != 0
      || field v 128 16 != 0 || flags / 16 != 0 || decide (b.length < 64) || field v 160 16 + 64 != b.length
      || decide (field v 160 16 > 4032) }

/-- Before a prompt in the prompt area is read, the RDMA WRITEs that came before the request on its QP are placed (R284), and what is
pending in the range completes (R118). -/
def State.settlePrompt (s : State) (q : Nat) (r : Request) : State :=
  match r.area, (s.qp q).conn with
  | true, some c =>
    let off := leNat (r.body.take 4)
    let len := leNat ((r.body.drop 4).take 4)
    if r.body.length < 8 ∨ off + len > 65536 * c.parea then s else (s.placeWrites q).settleRange (c.base + off) len
  | _, _ => s

/-- Take the oldest request of a QP, if it is of a kind: its slot is free, CONS is known; one with reserved content is
discarded. -/
def State.takeRequest (s : State) (q kind : Nat) (f : State → Request → State) : State :=
  match (s.qp q).conn with
  | none => s
  | some c => match c.ring with
    | [] => s
    | b :: t =>
      let r := requestOf b
      if !s.boot.hubAnswering || ((s.qp q).state != 1 && (s.qp q).state != 2) || (!r.bad && r.kind != kind) then s
      else
        let s := s.modConn q fun c => { c with ring := t, cons := r.cons, rdone := (c.rdone + 1) % 2 ^ 32 }
        if r.bad then (s.log 0xB006 srcHub q).post q else (f (s.settlePrompt q r) r).post q

/-- Sampling fields in range. -/
def Request.samplingOk (r : Request) : Bool :=
  decide (1 ≤ r.maxtok) && decide (0x3F800000 ≤ r.reppen) && decide (r.reppen ≤ 0x40800000)
    && decide (0 < r.topp) && decide (r.topp ≤ 0x3F800000)
    && (r.temp % 2 ^ 31 == 0 || (decide (0x3C23D70A ≤ r.temp) && decide (r.temp ≤ 0x41200000)))
    && decide (1 ≤ r.topk) && decide (r.topk ≤ 1024)

/-- U32 token ids. -/
def tokenIds (b : List Byte) : List Nat := (List.range (b.length / 4)).map fun i => leNat ((b.drop (4 * i)).take 4)

/-- The prompt's bytes, from the body or from the prompt area; none where the range lies outside it, or is answered poisoned (log
entry 141). -/
def State.promptBytes (s : State) (q : Nat) (r : Request) : Option (List Byte) :=
  if !r.area then some r.body
  else match (s.qp q).conn with
    | none => none
    | some c =>
      let off := leNat (r.body.take 4)
      let len := leNat ((r.body.drop 4).take 4)
      if r.body.length < 8 ∨ off + len > 65536 * c.parea then none
      else s.hubRead (c.base + off) len true

/-- The prompt as token ids; none where it is invalid. -/
def State.promptOf (s : State) (q : Nat) (r : Request) (m : Model) : Option (List Nat) :=
  match s.promptBytes q r with
  | none => none
  | some b =>
    if r.tokens then
      let l := tokenIds b
      if b.length % 4 = 0 ∧ l.all (fun t => decide (t < m.vocab)) then some l else none
    else if utf8Ok b.length b then some (Config.tokenize m.tokenizer b) else none

/-- Positions that a session reserves: a multiple of 32. -/
def reservation (prompt maxtok : Nat) : Nat := (prompt + maxtok + 31) / 32 * 32

/-- The status of an OPEN or CONTINUE with a context before its prompt, and the prompt (R288). -/
def State.openStatus (s : State) (q : Nat) (r : Request) (mi : Nat) (context : List Nat) : Nat × List Nat :=
  let m := s.model mi
  if mi ≥ 16 ∨ m.state ≠ 2 ∨ !s.flightLoaded mi then (0x0001, [])
  else if !r.samplingOk then (0x0002, [])
  else match s.promptOf q r m with
    | none => (0x0003, [])
    | some p =>
      let n := context.length + p.length
      if n + r.maxtok > m.maxctx ∨ reservation n r.maxtok > m.kvpos then (0x0004, []) else (0, p)

/-- Queue a REPLY. -/
def State.reply (s : State) (q : Nat) (r : Request) (session status pos epoch : Nat) : State :=
  s.queueRec q { kind := 1, session := session, status := status, pos := pos, tag := r.tag, epoch := epoch }

/-- A REPLY whose POS, and where no session is meant its id, are values the spec does not state: free values (log entry 1). -/
def State.replyFree (s : State) (q : Nat) (r : Request) (session : Option Nat) (status : Nat) (epoch : Option Nat) : State :=
  let (a, s) := s.free
  let (b, s) := s.free
  s.reply q r (session.getD (a.toNat % 2 ^ 16)) status (a.toNat / 2 ^ 16 % 2 ^ 32) (epoch.getD b.toNat)

/-- The seed in force: the request's, or a non-zero one from the random source (R293). -/
def State.seedFor (s : State) (r : Request) : Nat × State :=
  if r.seed ≠ 0 then (r.seed, s)
  else
    let (f, s) := s.free
    (if f = 0 then 1 else f.toNat, s)

/-- The id of a new session: the one asked for, or the lowest free one (log entry 58); or the refusal. -/
def State.newId (s : State) (r : Request) : Except Nat Nat :=
  if (s.service.sessions.filter fun e => e.2.isSome).length ≥ 32768 then .error 0x0005
  else if r.sid then
    if r.session ≥ 32768 ∨ (s.session r.session).isSome then .error 0x0006 else .ok r.session
  else match (List.range 32768).find? fun i => (s.session i).isNone with
    | some i => .ok i
    | none => .error 0x0005

/-- The next place in the order of requests. -/
def State.nextPlace (s : State) : Nat × State :=
  (s.service.nextOrder, { s with service := { s.service with nextOrder := s.service.nextOrder + 1 } })

/-- OPEN of a request that has been taken. -/
def State.openSession (s : State) (q : Nat) (r : Request) : State :=
  let (status, p) := s.openStatus q r r.model []
  if status ≠ 0 then s.replyFree q r none status none
  else match s.newId r with
    | .error e => s.replyFree q r none e none
    | .ok i =>
      let (seed, s) := s.seedFor r
      let (o, s) := s.nextPlace
      let x : Session :=
        { qp := q, model := r.model, tag := r.tag, keep := r.keep, stop := r.stop, seed := seed, maxtok := r.maxtok
          temp := BitVec.ofNat 32 r.temp, topp := BitVec.ofNat 32 r.topp, reppen := BitVec.ofNat 32 r.reppen
          topk := r.topk, context := p, prompt := p.length, order := o }
      (s.setSession i (some x)).reply q r i 0 p.length seed

/-- OPEN (R288). -/
def execOpenReq (qp : Fin 65536) (s : State) : Res :=
  .next (s.takeRequest qp 1 fun s r => s.openSession qp r)

/-- CONTINUE of a request that has been taken. A CLOSE that was taken on the IDLE session stands: it ends at the landing (R290). -/
def State.continueSession (s : State) (q : Nat) (r : Request) : State :=
  match s.session r.session with
  | none => s.replyFree q r (some r.session) 0x0006 none
  | some x =>
    if x.qp ≠ q ∨ x.state ≠ 3 ∨ x.orphan then s.replyFree q r (some r.session) 0x0006 none
    else
      let (status, p) := s.openStatus q r x.model x.context
      if status ≠ 0 then s.replyFree q r (some r.session) status none
      else
        let (seed, s) := s.seedFor r
        let (o, s) := s.nextPlace
        let n := x.context.length + p.length
        (s.modSession r.session fun x =>
          { x with
            state := 0, tag := r.tag, keep := r.keep && !x.closing, stop := r.stop, seed := seed, maxtok := r.maxtok
            temp := BitVec.ofNat 32 r.temp, topp := BitVec.ofNat 32 r.topp, reppen := BitVec.ofNat 32 r.reppen
            topk := r.topk, done := x.context.length, context := x.context ++ p, prompt := n, lastBatch := 0, order := o }).reply q r r.session 0 n seed

/-- CONTINUE (R288). -/
def execContinueReq (qp : Fin 65536) (s : State) : Res :=
  .next (s.takeRequest qp 2 fun s r => s.continueSession qp r)

/-- CLOSE of a request that has been taken: the session ends at the next landing. -/
def State.closeSession (s : State) (q : Nat) (r : Request) : State :=
  let mine : Bool := match s.session r.session with
    | some x => x.qp == q && x.state != 4 && !x.orphan
    | none => false
  if mine then
    ((s.modSession r.session fun x => { x with closing := true }).replyFree q r (some r.session) 0
      (some s.epoch)).endIfStopped
  else s.replyFree q r (some r.session) 0x0006 (some s.epoch)

/-- CLOSE (R290). -/
def execCloseReq (qp : Fin 65536) (s : State) : Res :=
  .next (s.takeRequest qp 3 fun s r => s.closeSession qp r)

/-- NOP (R284): CONS is known and the slot is free. -/
def execNopRequest (qp : Fin 65536) (s : State) : Res :=
  .next (s.takeRequest qp 4 fun s r => s.replyFree qp r none 0 (some s.epoch))

/-! ## Admission and the batch (R289, R292) -/

/-- Sessions by state, with their ids. -/
def State.inState (s : State) (k : Nat) : List (Nat × Session) :=
  s.service.sessions.filterMap fun e => e.2.bind fun x => if x.state = k ∧ !x.orphan then some (e.1, x) else none

/-- Insert by a key, after those with a lesser or equal one. -/
def insertBy {α : Type} (key : α → Nat) (a : α) : List α → List α
  | [] => [a]
  | b :: t => if key a < key b then a :: b :: t else b :: insertBy key a t

/-- Sort by a key; equal ones keep their order. -/
def sortBy {α : Type} (key : α → Nat) (l : List α) : List α := l.foldl (fun r a => insertBy key a r) []

/-- Admit queued sessions in order while their reservations fit. -/
def State.admitList (s : State) : List (Nat × Session) → State
  | [] => s
  | (i, x) :: t =>
    let n := reservation x.prompt x.maxtok
    if n ≤ s.freePositions x.model + x.reserved then
      (s.modSession i fun x => { x with state := 1, reserved := n }).admitList t
    else s

/-- ADMISSION. -/
def State.admitSession (s : State) : State := s.admitList (sortBy (fun e => e.2.order) (s.inState 0))

/-- Tiles that a model's jobs use. -/
def Model.usedTiles (m : Model) : List Nat := (m.tiles.filter fun e => e.2.1 != 0).map (·.1)

/-- The sessions of a batch that a model serves. -/
def State.batchOf (s : State) (m : Nat) (b : List (Nat × Nat)) : List (Nat × Nat) :=
  b.filter fun e => match s.session e.1 with | some x => x.model == m | none => false

/-- What a batch takes on a tile, over all models. -/
def State.batchUsage (s : State) (b : List (Nat × Nat)) (t : Nat) : Nat × Nat × Nat :=
  (List.range 16).foldl (fun a m =>
    let u := Config.batchUse (s.model m).tokenizer (s.batchOf m b) t
    (a.1 + u.1, a.2.1 + u.2.1, a.2.2 + u.2.2)) (0, 0, 0)

/-- A batch may stand: caps and limits of the tiles of a session's model, and its predicted time. -/
def State.batchFits (s : State) (b : List (Nat × Nat)) (m : Nat) : Bool :=
  (s.model m).usedTiles.all (fun t =>
    let n := (b.filter fun e => match s.session e.1 with
      | some x => (s.model x.model).usedTiles.contains t
      | none => false).length
    let u := s.batchUsage b t
    decide (n ≤ (s.tile t).budgetBatch) && decide (u.1 ≤ 1024 * s.tick.nextLand) && decide (u.2.1 ≤ s.stagingSlots)
      && decide (u.2.2 ≤ 4096))
    && decide (Config.batchTime (s.model m).tokenizer (s.batchOf m b) ≤ s.num 0x2001 0 - 1000 * s.num 0x2002 0)

/-- The client's ring has room for a session beside those of its QP in the batch (log entry 54). -/
def State.recordRoom (s : State) (b : List (Nat × Nat)) (q : Nat) : Bool :=
  let n := (b.filter fun e => match s.session e.1 with | some x => x.qp == q | none => false).length
  match (s.qp q).conn with
  | some c => decide (c.freeRecs ≥ 4 * n)
  | none => false

/-- Add candidates in order: the batch and the prefill budget left. -/
def State.fillBatch (s : State) : List (Nat × Session) → List (Nat × Nat) → Nat → List (Nat × Nat)
  | [], b, _ => b
  | (i, x) :: t, b, budget =>
    let chunk := if x.state = 1 then min (x.prompt - x.done) budget else 0
    let step := x.state = 2 ∨ 0 < chunk ∨ (x.lastBatch = 0 ∧ x.prompt = x.done)
    if !step || !s.recordRoom b x.qp then s.fillBatch t b budget
    else if s.batchFits (b ++ [(i, chunk)]) x.model then s.fillBatch t (b ++ [(i, chunk)]) (budget - chunk)
    else b

/-- The sessions of served models, in the order of R292. -/
def State.candidates (s : State) : List (Nat × Session) :=
  let served := List.filter fun e : Nat × Session => s.flightLoaded e.2.model
  sortBy (fun e => e.2.lastBatch) (served (s.inState 2)) ++ sortBy (fun e => e.2.order) (served (s.inState 1))

/-- The position of the token that a session's next step samples: one further while its step of this tread has not committed
(log entry 53). -/
def State.samplePos (s : State) (x : Session) : Nat :=
  x.context.length + if x.state = 2 ∧ x.lastBatch = s.epoch then 1 else 0

/-- The token of a session's step that has not committed: the record its job has written, else a free value (log entry 53). -/
def State.flightToken (s : State) (i : Nat) : Nat :=
  let written := s.tiles.findSome? fun e => e.2.commits.findSome? fun c => match c.2 with
    | .token _ _ j token _ => if j = i then some token else none
    | _ => none
  written.getD (Config.flightToken s.fresh i)

/-- The sampling inputs of a session's step (R293). -/
def State.sampleInput (s : State) (i : Nat) (x : Session) : Config.SampleInput :=
  let p := s.samplePos x
  let ids := if p = x.context.length then x.context else x.context ++ [s.flightToken i]
  { greedy := x.temp.toNat % 2 ^ 31 == 0, recipT := (frcp x.temp).1, recipR := (frcp x.reppen).1, topk := x.topk
    topp := x.topp, reppen := x.reppen, seed := x.seed, position := p, session := i
    history := ids.drop (p - min 1024 p), count := min 1024 p }

/-- The sampling inputs of a batch: of its decode steps, and of the chunks that complete a prompt. -/
def State.sampleInputs (s : State) (b : List (Nat × Nat)) : List Config.SampleInput :=
  b.filterMap fun e => (s.session e.1).bind fun x =>
    if x.state = 2 ∨ x.done + e.2 = x.prompt then some (s.sampleInput e.1 x) else none

/-- The home sends the batch to the other members (R295). -/
def State.sendBatch (s : State) (b : List (Nat × Nat)) (l : List Config.SampleInput) : State :=
  if s.faddr = 0 then s
  else forEach (s.members.filter fun m => m.addr != s.faddr && m.role != 3) s fun m s =>
    s.sendEnvelope 1 m.addr ((Config.batchMessage b l).take 224)

/-- BATCH_CUT (R289, R292, R295): the home's batch for the next tread. -/
def execBatchCut (s : State) : Res :=
  if !s.tick.running || !s.isHome then .next s
  else
    let s := s.admitSession
    let b := s.fillBatch s.candidates [] (s.gov 0xB020 0)
    let inputs := s.sampleInputs b
    let s := { s with service := { s.service with batch := b, batchEpoch := s.epoch + 1 } }
    let s := forEach b s fun e s => s.modSession e.1 fun x =>
      { x with lastBatch := s.epoch + 1, done := x.done + e.2 }
    .next ((s.writePlans b inputs).sendBatch b inputs)

/-- ADMISSION_TIMEOUT (R289): status 0x0007; the sessions behind it may now fit. -/
def execAdmissionTimeout (session : Fin 32768) (s : State) : Res :=
  match s.session session with
  | some x =>
    if x.state = 0 ∧ s.gov 0xB021 0 ≠ 0 then
      .next (((s.endSession session 0x0007 6 0).admitSession.endIfStopped).post x.qp)
    else .next s
  | none => .next s

/-- IDLE_TIMEOUT (R290): reason 5. -/
def execIdleTimeout (session : Fin 32768) (s : State) : Res :=
  match s.session session with
  | some x => if x.state = 3 then .next (((s.endSession session 0 5 0).endIfStopped).post x.qp) else .next s
  | none => .next s

/-! ## Loading (R296–R298) -/

/-- The fields of an image header that the load uses (Table 13.7). -/
structure ImageHead where
  size : Nat
  nlayer : Nat
  laytab : Nat
  tiletab : Nat
  caps : Nat
  kvminp : Nat
  model : Model
deriving DecidableEq, Repr

/-- A layer entry. -/
def layerOf (v : Nat) : Layer :=
  { tile := field v 32 6, nbale := field v 0 32, pbase := field v 64 48, hbase := field v 112 48, mpbase := field v 160 48
    mhbase := field v 208 48 }

/-- Region map entries of a layer: payloads, then headers. -/
def Layer.regions (l : Layer) : List Region :=
  let mv : Bool := l.mpbase != 0
  [{ base := l.pbase, len := 4096 * l.nbale, kind := 1, mv := mv, mirror := l.mpbase, reserved := false },
   { base := l.hbase, len := 64 * l.nbale, kind := 1, mv := mv, mirror := l.mhbase, reserved := false }]

/-- The rules of Table 13.9 on a layer entry. -/
def layerOk (v : Nat) : Bool :=
  let l := layerOf v
  field v 38 26 == 0 && l.nbale % 64 == 0 && decide (64 ≤ l.nbale) && decide (l.nbale ≤ 1048576) && l.pbase % 4096 == 0
    && ((l.mpbase == 0) == (l.mhbase == 0)) && l.pbase / 2 ^ 36 == l.tile && l.hbase / 2 ^ 36 == l.tile
    && l.regions.all regionOk

/-- A table of an image: 64-byte aligned and inside SIZE. -/
def tableOk (off len size : Nat) : Bool := off % 64 == 0 && decide (128 ≤ off) && decide (off + len ≤ size)

/-- The pending writes in an image complete before it is read (R118). -/
def State.settleImage (s : State) (a : Nat) : State :=
  let s := s.settleRange a 128
  s.settleRange a (field (leNat (s.readThrough a 128)) 192 32)

/-- Read an image: its head, layer words and tile words, where it is valid; one that cannot be read is not (log entry 141). -/
def State.image (s : State) (a : Nat) : Option (ImageHead × List Nat × List Nat) :=
  let inside (n : Nat) : Bool := inLpddr a n || (decide (hubBase ≤ a) && decide (a + n ≤ hubBase + 0x8000000))
  if !inside 128 then none
  else
    let h := leNat ((s.hubRead a 128 false).getD [])
    let size := field h 192 32
    let nlayer := field h 256 32
    let laytab := field h 288 32
    let tiletab := field h 320 32
    if field h 0 32 ≠ 0x4C444D50 ∨ field h 32 16 ≠ 1 ∨ h / 2 ^ 608 ≠ 0 ∨ size < 128 ∨ !inside size ∨ nlayer < 1
      ∨ 65535 < nlayer ∨ !tableOk laytab (32 * nlayer) size ∨ !tableOk tiletab 1024 size
      ∨ !tableOk (field h 352 32) (field h 384 32) size ∨ !tableOk (field h 416 32) (field h 448 32) size then none
    else
      let b := (s.hubRead a size false).getD []
      let word (off n : Nat) : Nat := leNat ((b.drop off).take n)
      let layers := (List.range nlayer).map fun i => word (laytab + 32 * i) 32
      let tiles := (List.range 64).map fun i => word (tiletab + 16 * i) 16
      if crc32c (b.drop 128) ≠ field h 224 32 ∨ s.badIn a size ∨ !layers.all layerOk ∨ tiles.any (fun v => field v 0 32 != 0)
        ∨ !regionsApart (layers.flatMap fun v => (layerOf v).regions) then none
      else some
        ({ size := size, nlayer := nlayer, laytab := laytab, tiletab := tiletab, caps := field h 64 64, kvminp := field h 576 32
           model := { state := 1, modelid := field h 128 64, icrc := field h 224 32, eosid := field h 512 32
                      vocab := field h 480 32, maxctx := field h 544 32, image := a } }, layers, tiles)

/-- A GiB works: its tile is on, its channel good, it is not LOST. -/
def State.gibWorks (s : State) (g : Nat) : Bool :=
  match s.translate (g * 2 ^ 30) false with
  | .ok b => (s.tile (b / 2 ^ 36)).tileOn && !s.channelBad (b / 2 ^ 36) (b / 2 ^ 33 % 8)
  | .error _ => false

/-- The region map entries that a model's commit writes. -/
def Model.regionList (m : Model) : List Region :=
  (m.layers.flatMap fun l => l.regions) ++ m.kvGib.map fun g =>
    ({ base := g * 2 ^ 30, len := 2 ^ 30, kind := 2, mv := false, mirror := 0, reserved := false } : Region)

/-- The entries that the loads under way at other indices will write. -/
def State.loadingRegions (s : State) (i : Nat) : List Region :=
  (List.range 16).flatMap fun k => if k ≠ i ∧ (s.model k).state = 1 then (s.model k).regionList else []

/-- Region map entries in use by anything but the model of an index. -/
def State.othersRegions (s : State) (i : Nat) : List Region :=
  let b := s.withoutRegions (s.model i).regions
  ((regionsOf (b.length / 32) b).filter fun r => r.kind != 0 && r.kind != 5) ++ s.loadingRegions i

/-- Free whole GiB of a tile (R298) for a load at an index: covered by no region map entry, none that a load under way will write, and
no layer; working. -/
def State.freeGibs (s : State) (t i : Nat) (layers : List Layer) : List Nat :=
  let b := s.withoutRegions (s.model i).regions
  let l := (regionsOf (b.length / 32) b).filter (fun r => r.kind != 0) ++ s.loadingRegions i ++ layers.flatMap fun x =>
    x.regions ++ if x.mpbase = 0 then [] else x.regions.map fun r => { r with base := r.mirror }
  ((List.range 48).map fun i => 64 * t + i).filter fun g =>
    s.gibWorks g && !l.any fun r => overlaps (g * 2 ^ 30) (2 ^ 30) r.base r.len

/-- Where `n` bytes end in a pasture below a top and not below a floor: the highest place that meets no range taken. -/
def highestPlace (taken : List (Nat × Nat)) (top floor n : Nat) : Option Nat :=
  let fits_ (c : Nat) : Bool := decide (c ≤ top) && decide (floor + n ≤ c)
    && !taken.any fun e => decide (c < e.2 + n) && decide (e.1 < c)
  match (top :: taken.map (·.1)).filter fits_ with
  | [] => none
  | c :: l => some (l.foldl max c)

/-- Place the layers of a tile that fit its pasture, downward from the staging base past the copies of other models (R297): the
layers with their places, in order. -/
def placeLayers (t top floor : Nat) : List Layer → Int → List (Nat × Nat) → Bool → List Layer
  | [], _, _, _ => []
  | l :: r, room, taken, open_ =>
    let n := 4160 * l.nbale
    if l.tile ≠ t then l :: placeLayers t top floor r room taken open_
    else match (if open_ ∧ (n : Int) ≤ room then highestPlace taken top floor n else none) with
      | some c => { l with resident := some (c - n) } :: placeLayers t top floor r (room - n) ((c - n, c) :: taken) true
      | none => l :: placeLayers t top floor r room taken false

/-- Resident bytes of a model on a tile. -/
def Model.residentOn (m : Model) (t : Nat) : Nat :=
  ((m.layers.filter fun l => l.tile == t && l.resident.isSome).map fun l => 4160 * l.nbale).sum

/-- Where a model's resident copies lie on a tile. -/
def Model.placesOn (m : Model) (t : Nat) : List (Nat × Nat) :=
  (m.layers.filter (·.tile == t)).filterMap fun l => l.resident.map fun o => (o, o + 4160 * l.nbale)

/-- Every layer with its place, model index `i` loading. -/
def State.placeAll (s : State) (i : Nat) (wset : Nat → Nat) (l : List Layer) : List Layer :=
  let others := ((List.range 16).filter (· ≠ i)).map s.model
  (List.range 64).foldl (fun l t =>
    let used := (others.map fun m => m.residentOn t).sum
    let w := (others.map fun m => tabGet (fun _ => 0) m.wset t).foldl max (wset t)
    placeLayers t s.stagingBase w l ((s.stagingBase : Int) - w - used) (others.flatMap fun m => m.placesOn t) true) l

/-- The model that a valid image makes at an index: layers placed, streamed bytes counted, KV GiB chosen lowest first. -/
def State.modelOf (s : State) (i kvpos : Nat) (h : ImageHead) (lw tw : List Nat) : Model :=
  let wset (t : Nat) : Nat := field (tw.getD t 0) 32 32
  let layers := s.placeAll i wset (lw.map layerOf)
  let kvGib := (List.range 64).flatMap fun t =>
    let need := (kvpos * field (tw.getD t 0) 64 32 + 2 ^ 30 - 1) / 2 ^ 30
    (s.freeGibs t i layers).take need
  { h.model with
    kvpos := kvpos, layers := layers, kvGib := kvGib
    wset := (List.range 64).foldl (fun w t => tabSet (fun _ => 0) w t (wset t)) []
    tiles := (List.range 64).map fun t =>
      (t, field (tw.getD t 0) 96 32,
        ((layers.filter fun l => l.tile == t && l.resident.isNone).map fun l => 4160 * l.nbale).sum) }

/-- A load is too large (0xB0000022). -/
def State.tooLarge (s : State) (i kvpos : Nat) (lw tw : List Nat) : Bool :=
  let layers := lw.map layerOf
  let ranges := layers.flatMap fun l =>
    l.regions.map (fun r => (r.base, r.len)) ++ if l.mpbase = 0 then [] else l.regions.map fun r => (r.mirror, r.len)
  let others := s.othersRegions i
  ranges.any (fun r => !((gibsOf r.1 r.2).all fun g => s.gibWorks (g / 2 ^ 30))
      || others.any fun o => overlaps r.1 r.2 o.base o.len)
    || (List.range 64).any fun t =>
      decide ((s.freeGibs t i layers).length * 2 ^ 30 < kvpos * field (tw.getD t 0) 64 32)

/-- The tread period in force (R298): of the tread that runs, else the object's. -/
def State.treadPeriod (s : State) : Nat := if s.tick.running then s.periodNs else s.num 0x2001 0

/-- The abort code of a load and the model it makes (Table 13.11, in the table's order). -/
def State.loadRule (s : State) (i a kvpos : Nat) : Nat × Model :=
  match s.image a with
  | none => (0xB0000020, {})
  | some (h, lw, tw) =>
    let m := s.modelOf i kvpos h lw tw
    let others := ((List.range 16).filter (· ≠ i)).map s.model |>.filter fun x => 1 ≤ x.state && x.state ≤ 4
    let st := (s.model i).state
    if !bit h.caps 0 ∨ (h.caps &&& s.num 0x1008 0) ≠ h.caps then (0xB0000021, m)
    else if s.tooLarge i kvpos lw tw then (0xB0000022, m)
    else if s.predict (others ++ [m]) > s.treadPeriod then (0xB0000023, m)
    else if st ≠ 0 ∧ st ≠ 3 then (0xB0000024, m)
    else if kvpos < h.kvminp then (0xB0000025, m)
    else (0, m)

/-- LOAD_MODEL (R298). -/
def execLoadModel (slot : Nat) (s : State) : Res :=
  .next (s.command slot 0xB004 0 fun s =>
    let i := s.gov 0xB001 0
    let s := s.settleImage (s.gov 0xB002 0)
    let (ab, m) := s.loadRule i (s.gov 0xB002 0) (s.gov 0xB003 0)
    let s := s.dropBad (s.gov 0xB002 0) (field (leNat (s.readThrough (s.gov 0xB002 0) 128)) 192 32)
    if ab ≠ 0 then (s, ab) else ((s.modModel i fun old => { m with regions := old.regions }).reportModel i, 0))

/-- Payload and header of bale k of a layer, as the hub reads them: one whose range cannot be read is answered poisoned (R123, R125,
R126). -/
def State.weightBale (s : State) (l : Layer) (k : Nat) : List Byte × List Byte :=
  match s.hubRead (l.pbase + 4096 * k) 4096 false, s.hubRead (l.hbase + 64 * k) 64 false with
  | some p, some h => (p, h)
  | _, _ => ([], headerBytes (freshPoison 0x7FF s.epoch 0x0002 (failingChannel l.pbase l.hbase false)))

/-- The pending writes in a model's weights complete before they are read (R118). -/
def State.settleWeights (s : State) (m : Model) : State :=
  forEach m.layers s fun l s => (s.settleRange l.pbase (4096 * l.nbale)).settleRange l.hbase (64 * l.nbale)

/-- Address of the first weight bale of a model that fails its check. -/
def State.badWeight (s : State) (m : Model) : Option Nat :=
  m.layers.findSome? fun l => ((List.range l.nbale).find? fun k =>
    let b := s.weightBale l k
    checkBale b.1 (leNat b.2) != .good).map fun k => l.pbase + 4096 * k

/-- Copy the resident layers of a model into the pastures: bale by bale, payload and header (log entry 59). -/
def State.copyResident (s : State) (m : Model) : State :=
  forEach m.layers s fun l s => match l.resident with
    | none => s
    | some off => upTo l.nbale s fun k s =>
        let b := s.weightBale l k
        s.write (sramBase l.tile + off + 4160 * k) (b.1 ++ b.2)

/-- A region map entry's bytes. -/
def regionBytes (r : Region) : List Byte :=
  leBytes 32 (atBit r.base 64 0 + atBit (r.len / 1024) 32 64 + atBit r.kind 8 96 + (if r.mv then 2 ^ 104 else 0)
    + atBit r.mirror 64 128)

/-- The entries that a model's commit writes. -/
def Model.newRegions (m : Model) : List (List Byte) := m.regionList.map regionBytes

/-- Clear FILL of a GiB; its refill is over. -/
def State.clearFill (s : State) (g : Nat) : State :=
  let t := g / 64
  let e := s.redirect t (g % 64)
  if bit e 15 && bit e 14 then
    let b := s.blob 0xA031 (t + 1)
    let b := (b ++ List.replicate 96 0#8).take 96
    let s := s.setBlob 0xA031 (t + 1) (b.take (2 * (g % 64)) ++ leBytes 2 (e - 2 ^ 14) ++ b.drop (2 * (g % 64) + 2))
    { s with refills := s.refills.filter fun r => r.src != g }
  else s

/-- A region in use. -/
def Region.used (r : Region) : Bool := 1 ≤ r.kind && r.kind ≤ 4

/-- State of re-homing (object 0xA033). -/
def State.noteRehoming (s : State) : State :=
  let lost := s.regions.any fun r => r.used && (gibsOf r.base r.len).any fun a =>
    let e := s.redirect (a / 2 ^ 36) (a / 2 ^ 30 % 64)
    bit e 13 && !bit e 15
  s.setNum 0xA033 0 (if s.refills.isEmpty then (if lost then 2 else 0) else 1)

/-- A load that is complete takes effect: region map, FILL, state LOADED, event 0xB001. -/
def State.commitLoad (s : State) (i : Nat) : State :=
  let m := s.model i
  let s := s.setBlob 0xA030 0 (s.withoutRegions m.regions ++ m.newRegions.flatten)
  let gibs := (m.layers.flatMap fun l => l.regions.flatMap fun r => (gibsOf r.base r.len).map (· / 2 ^ 30)) ++ m.kvGib
  let n := s.refills.length
  let s := forEach (distinct gibs) s fun g s => s.clearFill g
  let s := if s.refills.length = n then s else s.noteRehoming
  ((s.log 0xB001 srcHub i).modModel i fun m => { m with state := 2, regions := m.newRegions }).reportModel i

/-- Loads that are complete take effect at a landing. -/
def State.commitLoads (s : State) : State :=
  let l := s.service.loadsDone
  forEach l { s with service := { s.service with loadsDone := [] } } fun i s => s.commitLoad i

/-- MODEL_LOAD_COMPLETE (R298): every weight bale is checked (`badBale` is one that failed on its way); a bad one returns the
index to EMPTY; else the copies are made, and the model is LOADED at the next landing, at once with treads stopped. -/
def execModelLoadComplete (index : Fin 16) (badBale : Option Nat) (s : State) : Res :=
  let i := index.val
  let m := s.model i
  if m.state ≠ 1 ∨ s.service.loadsDone.contains i then .next s
  else
   let s := s.settleWeights m
   match badBale <|> s.badWeight m with
    | some a =>
      let s := s.setBlob 0xA030 0 (s.withoutRegions m.regions)
      .next (((s.log 0xB002 srcHub a).modModel i fun _ => {}).reportModel i)
    | none =>
      let s := s.copyResident m
      let s := { s with service := { s.service with loadsDone := s.service.loadsDone ++ [i] } }
      .next (if s.tick.running then s else s.commitLoads)

/-- UNLOAD_MODEL (R299). -/
def execUnloadModel (slot : Nat) (s : State) : Res :=
  .next (s.command slot 0xB005 0 fun s =>
    let i := s.gov 0xB001 0
    let st := (s.model i).state
    if st < 2 ∨ 4 < st then (s, 0xB0000024)
    else ((((s.modModel i fun m => { m with state := 5 }).reportModel i).endModelSessions i).endIfStopped.finishUnloads, 0))

/-! ## At landings and ticks -/

/-- Event 0xB007 where the prediction has come to lie above the tread period (R297). -/
def State.checkPrediction (s : State) : State :=
  let n := s.occupancy false
  let a := decide (n > s.treadPeriod)
  let s := if a && !s.service.above then s.log 0xB007 srcHub n else s
  { s with service := { s.service with above := a } }

end Sys2Proof.Machine
end

