-- ==== Sys2Proof/Machine/Tally.lean ====
section
/-! DEFINITION. The tally units: sources, configuration, accumulation, windows, clears (R374–R384). -/

namespace Sys2Proof.Machine

/-! ## Fields of the configuration (Table 17.4) -/

def Tally.field (t : Tally) (lo n : Nat) : Nat := Machine.field t.config.toNat lo n
def Tally.src (t : Tally) : Nat := t.field 0 8
def Tally.mode (t : Tally) : Nat := t.field 24 2
def Tally.phase (t : Tally) : Nat := t.field 26 2
def Tally.scale (t : Tally) : Nat := t.field 28 1
def Tally.param (t : Tally) : Nat := t.field 32 16
def Tally.length (t : Tally) : Nat := t.field 48 16 + 1
def Tally.low (t : Tally) : Int := signed 32 (t.field 64 32)
def Tally.width (t : Tally) : Nat := t.field 96 32

/-! ## Places and sources (Tables 17.1–17.3) -/

/-- A rail id of Table 17.3. -/
def isRail (r : Nat) : Bool :=
  r < 0x82 || (0x90 ≤ r && r ≤ 0x9B) || (0xA0 ≤ r && r ≤ 0xAB) || (0xC0 ≤ r && r ≤ 0xDF)

/-- SRC with PARAM is allowed for a unit; SRC 0 selects nothing and is allowed anywhere. -/
def sourceOk (u src param : Nat) : Bool :=
  if src = 0 then true
  else if u < 128 then
    if src = 1 ∨ src = 2 then param != 0
    else if src = 0x10 then param == u / 2 || param == 0x40 + u / 2
    else src == 0x11 && param == u / 2
  else if u < 192 then
    if src = 3 then
      field param 0 8 ≤ 95 && (field param 8 3 ≤ 4 || field param 8 3 == 7) && field param 11 5 == 0
    else if src = 4 then field param 5 11 == 0
    else if src = 0x10 then isRail param
    else src == 0x11 && param ≤ 125
  else if src = 0x12 then field param 0 5 ≤ 17 && field param 9 7 == 0
  else src == 0x13 && field param 0 5 ≤ 17 && field param 5 11 == 0

/-- The unit's tile domain is on, or its OE admitted; hub units need nothing. -/
def State.tallyPlace (s : State) (u : Nat) : Bool :=
  if u < 128 then (s.tile (u / 2)).tileOn else if u < 192 then true else (s.oe ((u - 192) / 8)).admitted

/-- PARAM selects the source's event: a pen of the tile; an out-fiber with TC × 256; a logical port; a rail; a node; a
line with fiber × 32 and 256 for FMARGIN; a line. -/
def paramSelects (src param event : Nat) : Bool :=
  if src = 1 ∨ src = 2 then param.testBit event
  else if src = 3 then
    field param 0 8 == event % 256 && (field param 8 3 == 7 || field param 8 3 == event / 256)
  else if src = 4 then param.testBit 4 || field param 0 4 == event
  else src != 0 && param == event

/-- The rule of R376: 0, or the abort code. -/
def State.tallyRule (s : State) (u : Nat) (d : List Byte) : Nat :=
  let t : Tally := { config := BitVec.ofNat 128 (leNat d) }
  let bad := !sourceOk u t.src t.param || t.field 29 3 != 0 || t.phase == 3 || t.mode == 3 || t.field 8 16 != 0
    || t.width == 0 || (t.scale == 0 && decide (t.low + 62 * t.width > 2147483647)) || !s.tallyPlace u
  if bad then 0x80000010 else 0

/-! ## Windows (R380, R381) -/

/-- Empty accumulators of a configuration. -/
def Tally.emptied (t : Tally) : Tally := { t with live := {}, satLogged := false }

/-- Copy the accumulators to the snapshot with the tick that closed the window, and clear them. -/
def Tally.close (t : Tally) (epoch : Nat) : Tally :=
  let n := (t.windows + 1) % 2 ^ 32
  let snap : TallyData :=
    { t.live with incomplete := t.cut, src := t.src, param := t.param, windows := n, epoch := epoch }
  { t.emptied with snap := snap, windows := n, cut := false, closeDue := none }

/-- The unit with a window that has ended closed. -/
def Tally.settle (t : Tally) : Tally :=
  match t.closeDue with
  | some e => t.close e
  | none => t

/-- A unit at tick `epoch`: a new configuration governs and clears; else a window ends, then a clear that is due
happens. At the first tick of a run (`first`) no window ends, and one that starts between boundaries is cut short. -/
def Tally.atTick (t : Tally) (epoch : Nat) (first : Bool) : Tally :=
  let t := t.settle
  match t.newConfig with
  | some c => { config := c }
  | none =>
    let bound := epoch % t.length == 0
    let ends := t.mode == 2 && bound && !first
    let t := if first then { t with cut := !bound || t.windows == 0 } else t
    if t.clearDue then
      let t := { t with clearDue := false }
      if ends then t.close epoch else { t.emptied with cut := true }
    else if ends then { t with closeDue := some epoch } else t

/-- Every unit at a tick (R380, R381). -/
def State.talliesAtTick (s : State) : State :=
  (forEach (s.units.map fun e => e.1) s fun u s => s.modTally u fun t => t.atTick s.epoch !s.tick.begun).noteUnits

/-- Stop treads closes every window at the end of the final landing, one that has treads to come cut short (R380; log entry
60). -/
def State.talliesAtStop (s : State) : State :=
  forEach (s.units.map fun e => e.1) s fun u s =>
    s.modTally u fun t =>
      let t := t.settle
      if t.mode = 2 then ({ t with cut := t.cut || (s.epoch + 1) % t.length != 0 }).close (s.epoch + 1) else t

/-- TALLY_WINDOW_CLOSE. -/
def execTallyWindowClose (u : Fin 288) (s : State) : Res := .next (s.modTally u Tally.settle)

/-! ## Samples (R377–R379) -/

/-- The bin of a sample. -/
def Tally.binOf (t : Tally) (v : Int) : Nat :=
  let w : Int := t.width
  let edge (i : Nat) : Int := if t.scale = 0 then t.low + i * w else if i = 0 then t.low else t.low + w * 2 ^ (i - 1)
  ((List.range 63).filter fun i => decide (v ≥ edge i)).length

/-- The accumulators after an accepted sample, and whether something saturated. -/
def Tally.add (t : Tally) (v : Int) : TallyData × Bool :=
  let d := t.live
  let b := t.binOf v
  let n := tabGet (fun _ => 0) d.bins b
  let sum := d.sum + v
  let past := sum > 2 ^ 63 - 1 || sum < -(2 ^ 63)
  let full := d.count == 2 ^ 32 - 1
  let binFull := n == 2 ^ 32 - 1
  ({ d with
      sum := max (-(2 ^ 63)) (min (2 ^ 63 - 1) sum), count := if full then d.count else d.count + 1
      max := max d.max v, min := min d.min v
      bins := if binFull then d.bins else tabSet (fun _ => 0) d.bins b (n + 1)
      binsat := d.binsat || binFull, sumsat := d.sumsat || past, cntsat := d.cntsat || full },
    past || full || binFull)

/-- The phase of the tread admits a sample (R379). -/
def State.phaseOk (s : State) (t : Tally) : Bool :=
  if s.tick.running && s.tick.begun then t.phase == 0 || (t.phase == 2) == s.tick.inLanding
  else t.phase == 0 && t.mode == 1

/-- The cycle of a unit's die: a tile's clock, or the hub's (R378). -/
def State.dieCycle (s : State) (u : Nat) : Nat :=
  if u < 128 then s.tileCycles.floor.toNat else s.clock

/-- TALLY_SAMPLE (R375–R379): a source's event with its value. -/
def execTallySample (u : Fin 288) (event : Nat) (value : BitVec 32) (s : State) : Res :=
  let s := s.modTally u Tally.settle
  let t := s.tally u
  let none12 := t.src == 0x12 && value == 0xFF
  if t.mode = 0 ∨ none12 ∨ !paramSelects t.src t.param event ∨ !s.phaseOk t then .next s
  else
    let cycle := s.dieCycle u
    if t.lastSample = some cycle then
      .next (s.setTally u { t with live := { t.live with drop := (t.live.drop + 1) % 2 ^ 32 } })
    else
      let r := t.add value.toInt
      let first := r.2 && !t.satLogged
      let s := s.setTally u { t with live := r.1, lastSample := some cycle, satLogged := t.satLogged || r.2 }
      .next (if first then s.log 0x8002 srcHub u else s)

/-! ## Commands and the blobs -/

/-- TALLY_CONFIGURATION_WRITE (R376, R381). -/
def execTallyConfigurationWrite (slot : Nat) (u : Fin 288) (d : List Byte) (s : State) : Res :=
  .next (s.writeValue slot (0x8100 + u) 1 (.bytes d) fun s => s.tallyRule u d)

/-- TALLY_CLEAR (R381): answered at once, done at the next tick. -/
def execTallyClear (slot : Nat) (u : Fin 288) (s : State) : Res :=
  .next (s.command slot (0x8100 + u) 2 fun s => (s.modTally u fun t => { t with clearDue := true }, 0))

/-- TALLY_CLEAR_ALL (R381). -/
def execTallyClearAll (slot : Nat) (s : State) : Res :=
  .next (s.command slot 0x8002 0 fun s => (upTo 288 s fun u s => s.modTally u fun t => { t with clearDue := true }, 0))

/-- The 16 bytes of the configuration object. -/
def Tally.configBytes (t : Tally) : List Byte := leBytes 16 (t.newConfig.getD t.config).toNat

/-- The 296 bytes of a head and its bins (Table 17.5). -/
def TallyData.toBytes (d : TallyData) : List Byte :=
  let b (x : Bool) (i : Nat) := if x then 2 ^ i else 0
  leBytes 8 d.epoch ++ leBytes 4 d.windows ++ leBytes 2 d.param ++ leBytes 1 d.src
    ++ leBytes 1 (b d.cntsat 1 + b d.sumsat 2 + b d.binsat 3 + b d.incomplete 4) ++ leBytes 4 d.drop
    ++ leBytes 4 (intBits 4 (if d.count = 0 then 2147483647 else d.min))
    ++ leBytes 4 (intBits 4 (if d.count = 0 then -2147483648 else d.max)) ++ leBytes 4 d.count ++ leBytes 8 (intBits 8 d.sum)
    ++ (List.range 64).flatMap fun i => leBytes 4 (tabGet (fun _ => 0) d.bins i)

/-- Snapshot and live accumulators as read (R382); EPOCH of the live ones is the tread in progress, 0 for a unit at its
reset values (R383). -/
def State.tallySnapshot (s : State) (u : Nat) : List Byte := (s.tally u).settle.snap.toBytes
def State.tallyLive (s : State) (u : Nat) : List Byte :=
  let t := (s.tally u).settle
  let epoch := if s.tally u = {} then 0 else s.epoch
  ({ t.live with src := t.src, param := t.param, windows := t.windows, epoch := epoch } : TallyData).toBytes

end Sys2Proof.Machine
end

