-- ==== Sys2Proof/Machine/Boot.lean ====
section
/-! DEFINITION. Resets and shutdowns: what each keeps, the keeper's state, input and thermal shutdown (R153, R167, R170,
R171, R323, R329–R335, R370–R372, R411). -/

namespace Sys2Proof.Machine

/-! ## The keeper's own records -/

/-- Keeper state (object 0x0F00). -/
def State.keeperState (s : State) : Nat := s.num 0x0F00 0

/-- Set bits of the ALERT byte (Table 19.5). -/
def State.raiseAlert (s : State) (m : Nat) : State := { s with alert := s.alert ||| BitVec.ofNat 8 m }

/-- The keeper enters a state; HUBNA and LATCH follow it (R419). -/
def State.setKeeper (s : State) (k : Nat) : State :=
  (s.setNum 0x0F00 0 k).raiseAlert (if k = 3 then 1 else if k = 4 then 4 else 0)

/-- Write the identity record (Table 16.7, R372). -/
def State.noteIdentity (s : State) : State :=
  s.setBlob 0x0F40 0 (leBytes 4 s.keeperState ++ leBytes 1 s.stage ++ leBytes 1 (s.num 0x100A 0)
    ++ leBytes 2 (s.num 0x1002 0) ++ leBytes 2 (s.num 0x1003 0) ++ leBytes 2 (s.num 0x1004 0) ++ leBytes 4 (s.num 0x1006 0)
    ++ (s.nv.serial ++ List.replicate 16 0#8).take 16)

/-- A stage begins; the identity record follows. -/
def State.toStage (s : State) (n : Nat) : State := (s.setNum 0x1007 0 n).noteIdentity

/-- The newest 8,192 events go to the non-volatile log (R323). -/
def State.saveLog (s : State) : State := { s with nv := { s.nv with log := s.events.take 8192 } }

/-- EVENT_LOG_SAVE. -/
def execEventLogSave (s : State) : Res := .next (if s.boot.booted then s.saveLog else s)

/-! ## What resets keep (Table 15.4, R329) -/

/-- The lane maps in use are on record (R197). -/
def State.recordMaps (s : State) : State :=
  { s with nv := { s.nv with
    txMaps := s.fibers.foldl (fun t e => if e.2.inService then tabSet (fun _ => none) t e.1 (some e.2.txMap) else t) s.nv.txMaps } }

/-- All rails but VK are down: only the keeper, its memory and what waits outside the module are left. -/
def State.wipe (s : State) : State :=
  let s := s.recordMaps
  { pending := s.pending, sent := s.sent, clock := s.clock, fresh := s.fresh
    objs := s.objs.filter fun e => isKeeper (e.1 / 256) || e.1 / 256 == 0x100A
    events := s.events, nextSeq := s.nextSeq, nv := s.nv, tap := s.tap, alert := s.alert
    oes := (s.oes.filter fun e => e.2.withdrawn).map fun e => (e.1, { withdrawn := true })
    tick := { claimIn := s.tick.claimIn }
    drover := { records := s.drover.records, nextRecord := s.drover.nextRecord, latch := s.drover.latch
                latchCutBoot := s.drover.latchCutBoot, shutDue := s.drover.shutDue, diodes := s.drover.diodes, millivolts := s.drover.millivolts }
    dict := { keys := s.dict.keys, authDiscards := s.dict.authDiscards, authEventAt := s.dict.authEventAt
              plcaSeen := s.dict.plcaSeen, assemblies := s.dict.assemblies.filter fun e => e.1 / 256 == 0x0F50 }
    sec := { store := s.sec.store, heldImage := s.sec.heldImage, updState := s.sec.updState, updFail := s.sec.updFail
             installing := s.sec.installing, treeLeft := s.sec.treeLeft, nextTree := s.sec.nextTree
             generating := s.sec.generating, lowLogged := s.sec.lowLogged }
    boot := { vkUp := s.boot.vkUp, booted := s.boot.booted, silent := s.boot.silent, keeperAt := s.boot.keeperAt
              stageStart := s.clock, modrstLow := s.boot.modrstLow, refSys := s.boot.refSys, refEth := s.boot.refEth
              inputOk := s.boot.inputOk, poweredOff := s.boot.poweredOff, resetDue := s.boot.resetDue, resetAsked := s.boot.resetAsked
              powerOffDue := s.boot.powerOffDue, keeperWdog := s.boot.keeperWdog } }

/-- The key that wraps what the keeper stores: it follows the lifecycle fuses (R387; their count as one byte, log entry 3). -/
def State.kek (s : State) : List Byte :=
  hmac Config.pufKey ((("PN64-KEK".toList).map fun c => BitVec.ofNat 8 c.toNat) ++ leBytes 1 s.nv.lifecycle)

/-- A key slot takes an authority and a key, and the non-volatile memory the key wrapped; authority 0 empties both (R387, R393). -/
def State.putSlot (s : State) (k authority : Nat) (key : List Byte) : State :=
  let s := s.setKeySlot k { authority := authority, key := key }
  { s with nv := { s.nv with
    slots := tabSet (fun _ => none) s.nv.slots k (if authority = 0 then none else some (authority, keyWrap s.kek key)) } }

/-- The keeper takes its key slots out of its non-volatile memory; their counters start with the boot epoch (R320, R387). -/
def State.loadSlots (s : State) : State :=
  { s with dict := { s.dict with keys := s.nv.slots.map fun e => (e.1, match e.2 with
    | some (a, w) => { authority := a, key := (keyUnwrap s.kek w).getD [] }
    | none => ({} : KeySlot)) } }

/-- Module rein before the rails go down, where tiles run (R170 step 1, R331). -/
def State.reinDown (s : State) : State := if s.tick.running then s.assertRein else s

/-- The keeper's memory is lost or starts again, but for what is non-volatile; bring-up is to run from stage 1. -/
def State.restartKeeper (s : State) (cause : Nat) : State :=
  (({ s with
      objs := [], oes := [], alert := 0, tap := { s.tap with testMode := false, testDies := [], dtestRunning := false }
      drover := { s.drover with diodes := [], shutDue := none }
      dict := { plcaSeen := s.dict.plcaSeen }
      sec := { s.sec with heldImage := none, updState := 0, updFail := 0 }
      boot := { s.boot with
        booted := false, silent := false, poweredOff := false, resetDue := none, resetAsked := false, powerOffDue := false } }
    ).setNum 0x1007 0 1).setNum 0x100A 0 cause

/-- A module reset (R333): rails down, the event ring kept, stages from 1. -/
def State.resetModule (s : State) (cause : Nat) : State := ((s.reinDown.saveLog).wipe).restartKeeper cause

/-- A module reset, or its hold until an install ends (R391). -/
def State.askReset (s : State) (cause : Nat) : State :=
  if s.sec.installing then { s with boot := { s.boot with resetDue := some cause } } else s.resetModule cause

/-- A firmware restart (R333): rails down but VK, stages from 2; the keeper runs on. -/
def State.restartFirmware (s : State) (cause : Nat) : State :=
  ((((s.reinDown.saveLog).wipe).setNum 0x100A 0 cause).setKeeper 0).toStage 2

/-- FIRMWARE_RESTART (R333, R334): where the hub watchdog or a recovery image calls for one. -/
def execFirmwareRestart (s : State) : Res :=
  match s.boot.restartDue with
  | some c => if s.boot.booted && !s.drover.latch then .next (s.restartFirmware c) else .next s
  | none => .next s

/-- POWER_ON_RESET (R333, R411): VK comes into regulation; only non-volatile contents are kept. -/
def execPowerOnReset (s : State) : Res :=
  let s := s.wipe.restartKeeper 1
  .next { s with
    events := [], nextSeq := 0, tap := {}
    boot := { vkUp := true, stageStart := s.clock, modrstLow := s.boot.modrstLow, refSys := s.boot.refSys
              refEth := s.boot.refEth } }

/-- Leaves of a signing block that a power loss interrupts are skipped (R397). -/
def State.skipLeaves (s : State) : State :=
  let n := s.nv.leafBlockEnd - s.nv.leaves
  { s with nv := { s.nv with leaves := s.nv.leaves + n }, sec := { s.sec with treeLeft := s.sec.treeLeft - n } }

/-- POWER_LOSS (R411): the keeper loses power; an install under way leaves a store that step 1 of R389 refuses, and a thermal
latch is cut (R171). -/
def execPowerLoss (s : State) : Res :=
  let cut := s.drover.latch
  let s := s.skipLeaves
  let s := (s.wipe.restartKeeper 1).setNum 0x1007 0 0
  .next { s with
    events := [], nextSeq := 0, tap := {}
    sec := { s.sec with store := if s.sec.installing then [] else s.sec.store, installing := false }
    drover := { s.drover with latch := false, latchCutBoot := cut || s.drover.latchCutBoot }
    boot := { vkUp := false, modrstLow := s.boot.modrstLow, refSys := s.boot.refSys, refEth := s.boot.refEth } }

/-- Rails down, the keeper alive: it answers for a module that does not (R331, R372). -/
def State.powerDown (s : State) (k : Nat) : State := (((s.reinDown.saveLog).wipe).setKeeper k).toStage 0

/-! ## Keeper commands (R371, R372) -/

/-- A command of the keeper: refused while it boots. -/
def State.keeperCommand (s : State) (slot index : Nat) (f : State → State × Nat) : State :=
  s.command slot index 0 fun s => if s.keeperState = 0 then (s, 0x0F000010) else f s

/-- Event 0x0F02: a keeper command has completed. -/
def State.keeperDone (s : State) (index : Nat) : State := s.log 0x0F02 srcKeeper index

/-- MODULE_RESET: event 0x0F02 with the reset, which an install holds (R371, R391). -/
def execModuleReset (slot : Nat) (s : State) : Res :=
  .next (s.keeperCommand slot 0x0F30 fun s =>
    if s.sec.installing then ({ s.askReset 2 with boot := { (s.askReset 2).boot with resetAsked := true } }, 0)
    else ((s.keeperDone 0x0F30).resetModule 2, 0))

/-- POWER_OFF: held while an install runs. -/
def State.powerOff (s : State) : State :=
  let s := (s.keeperDone 0x0F31).powerDown (if s.drover.latch then 4 else 3)
  { s with boot := { s.boot with poweredOff := true, powerOffDue := false } }

/-- POWER_OFF (R372). -/
def execPowerOff (slot : Nat) (s : State) : Res :=
  .next (s.keeperCommand slot 0x0F31 fun s =>
    if s.sec.installing then ({ s with boot := { s.boot with powerOffDue := true } }, 0) else (s.powerOff, 0))

/-! ## Shutdown by heat or input (R153, R170, R171) -/

/-- The shutdown sequence of R170, but for the latch: the record as detection found it, event 0x4007. -/
def State.shutDown (s : State) (r : ShutdownRecord) : State :=
  let d := s.drover
  ({ s with drover := { d with
      records := ({ r with seq := d.nextRecord } :: d.records).take 4096, nextRecord := (d.nextRecord + 1) % 2 ^ 16 } }).log 0x4007
    srcKeeper r.cause

/-- THERMAL_SHUTDOWN (R170): the keeper carries out the sequence that an estimate (cause 1) or a diode (cause 2) called for; the
latch is set. -/
def execThermalShutdown (s : State) : Res :=
  match s.drover.shutDue with
  | none => .next s
  | some r =>
    let s := (s.shutDown r).powerDown 4
    .next { s with drover := { s.drover with latch := true, shutDue := none } }

/-- THERMAL_REENABLE (R171): every diode below the re-enable temperature; bring-up starts from stage 1. -/
def execThermalReenable (slot : Nat) (s : State) : Res :=
  .next (s.keeperCommand slot 0x0F20 fun s =>
    if s.drover.diodes.any fun d => decide (d ≥ 16 * s.gov 0x0F23 0) then (s, 0x40000010)
    else if !s.drover.latch then (s, 0)
    else
      let s := s.keeperDone 0x0F20
      (({ s with drover := { s.drover with latch := false } }).resetModule 5, 0))

/-- INPUT_OUT_OF_RANGE (R153): the shutdown sequence without the latch; record cause 3 or 4. -/
def execInputOutOfRange (high : Bool) (s : State) : Res :=
  if !s.boot.vkUp || !s.boot.inputOk then .next s
  else
    let s := if s.boot.booted then
        (s.shutDown (s.shutdownRecord (if high then 4 else 3) 0xFFFF)).powerDown (if s.drover.latch then 4 else 3) else s
    .next { s with boot := { s.boot with inputOk := false } }

/-- INPUT_RETURN (R153): back for 100 ms, bring-up starts from stage 1; a latch or a power-off stays. -/
def execInputReturn (s : State) : Res :=
  if s.boot.inputOk || !s.boot.vkUp then .next s
  else
    let s := { s with boot := { s.boot with inputOk := true } }
    .next (if s.drover.latch || s.boot.poweredOff then s else s.resetModule 4)

/-! ## MODRST_N (R335) -/

/-- MODRST_N_ASSERT: asserted for 10 µs. -/
def execModrstAssert (s : State) : Res :=
  if s.boot.modrstLow then .next s
  else
    let s := { s with boot := { s.boot with modrstLow := true } }
    .next (if s.boot.vkUp then s.askReset 3 else s)

/-- The keeper may go on from stage 1. -/
def State.mayBringUp (s : State) : Bool :=
  s.boot.booted && s.boot.inputOk && !s.boot.modrstLow && !s.boot.poweredOff && !s.drover.latch && !s.boot.halted

/-- From the end of stage 1 to stage 2, unless something holds bring-up. -/
def State.leaveStage1 (s : State) : State := if s.mayBringUp && s.stage == 1 then s.toStage 2 else s

/-- MODRST_N_RELEASE (R335, R346): bring-up goes on; EXTEST, CLAMP and HIGHZ end. -/
def execModrstRelease (s : State) : Res :=
  let s := { s with
    boot := { s.boot with modrstLow := false }
    tap := if s.tap.ir = 0x00 ∨ s.tap.ir = 0x03 ∨ s.tap.ir = 0x04 then { s.tap with ir := 0x01, driving := false, highz := false }
           else s.tap }
  .next s.leaveStage1

/-! ## Watchdogs (R370) -/

/-- The hub's cores fail: the keeper releases CLAIM_OUT, answers for it, and a firmware restart is due. -/
def State.hubFault (s : State) : State :=
  if !s.boot.hubUp then s
  else
    let s := ((s.ownFaulted.releaseClaim).log 0x0F01 srcKeeper 0).setKeeper 3
    { s with boot := { s.boot with hubAnswering := false, restartDue := some 7 } }

/-- HUB_WATCHDOG_EXPIRY. -/
def execHubWatchdogExpiry (s : State) : Res := .next s.hubFault

/-- KEEPER_WATCHDOG_EXPIRY: a module reset of cause 6, reported at the next boot. -/
def execKeeperWatchdogExpiry (s : State) : Res :=
  if !s.boot.vkUp then .next s
  else
    let s := s.resetModule 6
    .next { s with boot := { s.boot with keeperWdog := true } }

end Sys2Proof.Machine
end

