-- ==== Sys2Proof/Machine/Bringup.lean ====
section
/-! DEFINITION. Bring-up, stage by stage, tile restart and re-qualification of an OE (R13, R167, R197, R198, R327–R342, R367,
R389). -/

namespace Sys2Proof.Machine

/-! ## Halts (R327) -/

/-- The bring-up result (Table 15.5). -/
def State.setResult (s : State) (stage cause detail : Nat) : State :=
  s.setNum 0x1009 0 (stage * 2 ^ 24 + cause * 2 ^ 16 + detail % 2 ^ 16)

/-- Bring-up halts: event 0x1011, the result, the alert. -/
def State.halt (s : State) (cause detail : Nat) : State :=
  let s := ((s.log 0x1011 srcKeeper (cause * 2 ^ 16 + detail)).setResult s.stage cause detail).raiseAlert 8
  ({ s with boot := { s.boot with halted := true } }).noteIdentity

/-- Bring-up is in a stage: nothing halts or holds it. Stand-alone test mode holds it at the end of stage 3 (R343). -/
def State.inStage (s : State) (n : Nat) : Bool := s.mayBringUp && s.stage == n && (decide (n ≤ 3) || !s.tap.testMode)

/-! ## Stage 1 (R310, R320, R327, R370) -/

/-- What the keeper serves once it has booted. -/
def State.serveKeeper (s : State) : State :=
  let n := s.nv.bootEpoch + 1
  let s := { s with
    nv := { s.nv with bootEpoch := n }
    boot := { s.boot with booted := true, keeperAt := s.clock } }
  let s := (((s.setNum 0x0F05 0 n).setNum 0x0F04 0 s.nv.fieldAddr).setNum 0x0F01 0 s.nv.fieldMac).setNum 0x0F03 0 s.nv.fieldPort
  let s := (s.setNum 0x0F02 0 (s.nv.fieldIp.getD (0xA9FE4D10 + s.nv.fieldAddr))).setNum 0x0F23 0 s.nv.reenable
  let s := if s.boot.keeperWdog then s.log 0x0F03 srcKeeper 0 else s
  let s := if s.drover.latchCutBoot then s.log 0x4008 srcKeeper 0 else s
  let s := { s with
    boot := { s.boot with keeperWdog := false }
    drover := { s.drover with latchCutBoot := false } }
  s.loadSlots

/-- Stage 1 stops: the module is silent where its keeper failed (R327). -/
def State.haltStage1 (s : State) (cause : Nat) : State := (s.setNum 0x1007 0 1).halt cause 0

/-- KEEPER_BOOT. -/
def execKeeperBoot (romGood nvGood : Bool) (s : State) : Res :=
  if !s.boot.vkUp || s.boot.booted || s.boot.silent then .next s
  else if !romGood || !nvGood then
    .next ({ s with boot := { s.boot with silent := true } }.haltStage1 2)
  else
    let s := s.serveKeeper.setKeeper (if s.drover.latch then 4 else 0)
    .next (s.toStage 1).leaveStage1

/-! ## Stage 2 (R388, R389) -/

/-- Fields of an image header (Table 18.1). -/
def imageLen (h : Nat) : Nat := field h 96 32

/-- The first step of R389 that an image fails; 0 where it passes. An SVN above 64 is out of the range of Table 18.1 and fails
step 1 (log entry 143). -/
def State.verifyImage (s : State) (img : List Byte) : Nat :=
  let h := leNat (img.take 128)
  let len := imageLen h
  let body := img.take (128 + len)
  let key := slice img 16 60
  if img.length < 128 ∨ field h 0 32 ≠ 0x4D495746 ∨ field h 32 16 ≠ 1 ∨ field h 48 8 > 64 ∨ len % 64 ≠ 0 ∨ len < 64 ∨ 4194304 - 3732 < len
      ∨ field h 56 8 ≠ 0 ∨ field h 608 416 ≠ 0 ∨ img.length < 128 + len + 3604 then 1
  else if digestBits key ≠ s.nv.fwRoot then 2
  else if field h 48 8 < s.nv.svnFuses then 3
  else if !hssVerify key body (slice img (128 + len) 3604) then 4
  else 0

/-- FIRMWARE_VERIFICATION: the image is loaded, or recovery is entered; a store that cannot be read fails step 1 (log entry
143). -/
def execFirmwareVerification (readable : Bool) (s : State) : Res :=
  if !s.inStage 2 then .next s
  else
    let step := if readable then s.verifyImage s.sec.store else 1
    if step ≠ 0 then
      let s := (s.log 0x9001 srcKeeper step).setKeeper 1
      .next (s.halt 3 step)
    else
      let h := leNat (s.sec.store.take 128)
      let s := s.setNum 0x1006 0 (field h 64 32)
      let s := { s with sec := { s.sec with
        runSvn := Fin.ofNat 65 (field h 48 8), runDigest := sha256 (s.sec.store.take (128 + imageLen h + 3604))
        updState := if s.sec.updState = 4 then 0 else s.sec.updState } }
      .next (s.toStage 3)

/-! ## Stage 3 (R167, R327, R332) -/

/-- Eliminate row `p` (pivot column k) from a row. -/
def eliminate (p : List Rat) (k : Nat) (r : List Rat) : List Rat :=
  let f := r.getD k 0 / p.getD k 1
  (r.zip p).map fun e => e.1 - f * e.2

/-- Gauss–Jordan elimination from column k on, `n` columns more: the rows in pivot order. -/
def gauss : Nat → Nat → List (List Rat) → List (List Rat) → List (List Rat)
  | 0, _, _, done => done
  | n + 1, k, left, done =>
    match left.find? fun r => r.getD k 0 != 0 with
    | none => done
    | some p =>
      let rest := (left.erase p).map (eliminate p k)
      gauss n (k + 1) rest (done.map (eliminate p k) ++ [p])

/-- Rises above the coolant in steady state for idle powers of the nodes, by node; nodes without a path have none. -/
def State.steadyRises (s : State) (power : Nat → Rat) : List (Nat × Rat) :=
  let nodes := (List.range 125).filter fun i => s.nv.conduct.any fun c => c.1 == i || c.2.1 == i
  let rows := nodes.map fun i =>
    let g (j : Nat) : Rat := ((s.nv.conduct.filter fun c => (c.1 == i && c.2.1 == j) || (c.1 == j && c.2.1 == i)).map
      fun c => c.2.2).sum
    let total : Rat := ((s.nv.conduct.filter fun c => c.1 == i || c.2.1 == i).map fun c => c.2.2).sum
    (nodes.map fun j => if j = i then total else -(g j)) ++ [power i]
  let done := gauss nodes.length 0 rows []
  nodes.zipIdx.map fun e =>
    let r := done.getD e.2 []
    (e.1, r.getD nodes.length 0 / r.getD e.2 1)

/-- Thermal anchoring: the diode mean and the idle powers give the coolant anchor and every node. -/
def State.anchorModel (s : State) (power : Nat → Rat) (mean : Rat) : State :=
  let l := s.steadyRises power
  let rise (i : Nat) : Rat := match l.find? fun e => e.1 == i with | some e => e.2 | none => 0
  let tc := mean - ratSum ((List.range 8).map fun k => rise (diodeNode k)) / 8
  (s.setAnchor tc).setTemps fun i => if i = 125 then tc else tc + rise i

/-- The slices on record are out of service before any test (R350). -/
def State.loadSlices (s : State) : State :=
  (upTo 64 s fun t s => s.setNum 0x7051 (t + 1) (tabGet (fun _ => 0) s.nv.meshSlices t)).setNum 0x7052 0 s.nv.gatewaySlices

/-- The hub's cores answer: identity, slices on record, MAC addresses, ports down or absent. -/
def State.startHub (s : State) : State :=
  let s := (s.loadSlices.setNum 0x1002 0 0x4801).setKeeper 2
  let s := upTo 16 s fun i s =>
    (s.setNum 0x6003 (i + 1) (s.nv.macBase + i)).setNum 0x6002 (i + 1) (if s.portThere i then 1 else 0)
  let s := if s.boot.refEth then s else s.log 0x1014 srcKeeper 1
  { s with boot := { s.boot with
    v5On := true, vhOn := true, pllLocked := true, hubUp := true, hubAnswering := true, hubStart := s.clock } }

/-- HUB_BRINGUP: `rails`, `pll` and `sram` say what came up, `idle` (rail, mA) and the eight `diodes` (1/16 °C) what anchoring
measures (R167). A PLL without lock is retried (R332). -/
def execHubBringup (rails pll sram : Bool) (idle : List (Nat × Nat)) (diodes : List Int) (s : State) : Res :=
  if !s.inStage 3 || s.boot.hubUp then .next s
  else if !rails then .next ((s.setKeeper 3).halt 4 2)
  else if !pll && !s.boot.pllLocked then
    .next { s.log 0x1014 srcKeeper 0 with boot := { s.boot with v5On := true, vhOn := true } }
  else if !sram then .next ((s.setKeeper 3).halt 6 0)
  else
    let s := s.startHub.setDiodes diodes
    let rail (r : Nat) : Rat := ratSum ((idle.filter fun e => e.1 == r).map s.railPower)
    let s := s.anchorModel (s.nodePower rail) ((diodes.sum : Rat) / 128)
    .next (if s.tap.testMode then s.noteIdentity else s.toStage 4)

/-- REFERENCE_RETRY (R332): the keeper tries the 100 MHz reference again. -/
def execReferenceRetry (locked : Bool) (s : State) : Res :=
  if !s.inStage 3 || s.boot.pllLocked || !s.boot.vhOn then .next s
  else if locked then .next { s with boot := { s.boot with pllLocked := true } }
  else .next (s.log 0x1014 srcKeeper 0)

/-- ETHERNET_REFERENCE_CHANGE (R332): the ports go down with the 156.25 MHz reference; they come up by their links. -/
def execEthernetReferenceChange (present : Bool) (s : State) : Res :=
  if s.boot.refEth == present then .next s
  else
    let s := { s with boot := { s.boot with refEth := present } }
    if present || !s.boot.hubUp then .next s
    else .next (upTo 16 (s.log 0x1014 srcHub 1) fun i s => if s.portState i = 2 then s.portDown i else s)

/-! ## Stage 4: joint qualification (R336, R337, R339, R197, R198) -/

/-- Fibers that check 3 leaves. -/
def fibersAfterLoopback (r : OeChecks) : List Nat :=
  (List.range 8).filter fun f => !r.badSlices.any fun b => b.1.val == f

/-- A ring passes the optical loopback: its laser is lit and it is not listed. -/
def State.ringPasses (s : State) (n : Nat) (r : OeChecks) (rx : Bool) (f line : Nat) : Bool :=
  decide ((s.laser n line).state < 2) && !(if rx then r.badRx else r.badTx).any fun b => b.1.val == f && b.2.val == line

/-- A transmit map on the lines that work: lanes of other lines go to free standbys in order. -/
def remap (ok : Nat → Bool) (m : List Nat) : List Nat :=
  (List.range 16).foldl (fun m lane =>
    let line := lineOf m lane
    if line = 255 ∨ ok line then m
    else match [16, 17].find? fun l => ok l && !m.contains l with
      | some l => m.set lane l
      | none => m.set lane 255) m

/-- Lasers of an OE as recorded, at the bias of the waveform in force: no faded or failed one is lit (R177, R194, R197). -/
def State.lightLasers (s : State) (n : Nat) : State :=
  upTo 18 s fun line s =>
    let k := 18 * n + line
    let st := if s.nv.failedLasers.contains k then 3 else if s.nv.fadedLasers.contains k then 2
      else if s.boot.lasersOff then 4 else 0
    let b := s.factoryBias n line (s.oe n).waveform
    s.modLaser n line fun l => { l with state := st, biasFrom := b, bias := b }

/-- One ring after the optical loopback: locked, or retired and on record; a recorded one that locks is cleared (R198). -/
def State.settleRing (s : State) (n : Nat) (r : OeChecks) (rx : Bool) (f line : Nat) : State :=
  let k := ringAt rx (8 * n + f) line
  if (s.laser n line).state ≥ 2 then
    if s.nv.retiredRings.contains k then s.modRing k fun x => { x with state := 6, heat := 0 } else s
  else if s.ringPasses n r rx f line then
    (s.recordRing k false).modRing k fun x => { x with state := 4, tone := line, fails := 0, heat := x.expected }
  else
    let s := if s.nv.retiredRings.contains k then s else s.log 0x5002 (srcOe n) k
    (s.recordRing k true).modRing k fun x => { x with state := 6, heat := 0 }

/-- A fiber as the end of qualification leaves it: its shutter starts closed, its lanes carry nothing (R337, Table 09.4). -/
def State.restFiber (s : State) (f : Nat) : State := (s.modFiber f fun x => { x with shutterClosed := true, probing := false }).restLanes f

/-- One fiber after checks 3 and 4: in service with its map, its shutter closed, or withdrawn. -/
def State.settleFiber (s : State) (n : Nat) (r : OeChecks) (f : Nat) : State × Bool :=
  let g := 8 * n + f
  let s := upTo 18 s fun line s => (s.settleRing n r false f line).settleRing n r true f line
  let base := (tabGet (fun _ => none) s.nv.txMaps g).getD [0, 1, 2, 3, 4, 5, 6, 7, 8, 9, 10, 11, 12, 13, 14, 15]
  let full := (List.range 16).map fun i => if lineOf base i = 255 then i else lineOf base i
  let m := remap (s.ringPasses n r false f) full
  let tx := (mapped m).length
  let rx := min 16 ((List.range 18).filter fun l => s.ringPasses n r true f l).length
  let ok := tx ≥ 15 && rx ≥ 15
  let s := if tx ≥ 15 then s else s.log 0x5007 srcHub g
  let s := if rx ≥ 15 then s else s.log 0x5007 srcHub (g + 256)
  let st (k : Nat) : Nat := if k < 15 then 2 else if k = 15 then 1 else 0
  ((s.modFiber g fun x => { x with inService := ok, txMap := m, txState := st tx, rxState := st rx }).restFiber g, ok)

/-- The first check that fails, as FAIL of Table 15.6, among those before the fibers; `subset` the bits that R339 asks for. -/
def oeFail (r : OeChecks) (subset : BitVec 64) : Nat :=
  if !r.railVo then 4
  else if r.stepping ≠ 0x5003 ∨ !r.crcGood then 1
  else if !r.capability.getLsbD 0 ∨ r.capability &&& subset ≠ subset then 2
  else if !r.railVl then 4
  else if !r.controlGood then 3
  else 0

/-- An OE's rails go off: its lasers, rings and lanes with them, and its tallies (R337, R352, R383). -/
def State.unpowerOe (s : State) (n : Nat) : State :=
  let s := s.modOe n fun o => { o with voOn := false }
  let s := upTo 18 s fun line s =>
    let s := s.modLaser n line fun l => { l with state := if l.state < 2 then 4 else l.state }
    forEach (oeFibers n) (s.darken n line) fun f s =>
      ((s.modRing (ringAt true f line) fun r => if r.state = 6 then r else { r with state := 0, heat := 0 }).stopTest true f
        line).rxTo f line 0
  let s := upTo 8 s fun k s => s.loseTally (192 + 8 * n + k)
  s.modOe n fun o => { o with vlOn := false, admitted := false, fibers := 0, cal := none }

/-- An OE is not admitted: its rails off, its fibers DOWN, its tallies lost; event 0x1012 (R337, R383). -/
def State.rejectOe (s : State) (n fail : Nat) : State :=
  let s := (s.log 0x1012 (srcOe n) fail).setNum 0x100C (n + 1) fail
  let s := forEach (oeFibers n) s fun g s => (s.linkDown g).modFiber g fun x => { x with inService := false }
  (s.unpowerOe n).modOe n fun o => { o with fail := fail, requalPending := false, requalifying := false }

/-- The checks of R336 on an OE, and what follows (R337). -/
def State.qualify (s : State) (n : Nat) (r : OeChecks) (subset : BitVec 64) : State :=
  let s := s.modOe n fun o => { o with voOn := r.railVo, serial := r.serial, capability := r.capability }
  let fail := oeFail r subset
  if fail ≠ 0 then s.rejectOe n fail
  else
    let s := forEach r.badSlices s fun b s => s.log 0x1013 (srcOe n) (4 * b.1.val + b.2.val)
    let slices := s.nv.oeSlices.filter (fun e => e.1 / 8 != n && e.1 != 96 + n) ++ r.badSlices.map fun b => (8 * n + b.1.val, b.2.val)
    let s := { s with nv := { s.nv with oeSlices := slices } }
    let s := upTo 18 s fun i s => s.trainReceiver (264 + 18 * n + i)
    let s := s.lightLasers n
    let r4 := (fibersAfterLoopback r).foldl (fun (a : State × List Nat) f =>
      let x := a.1.settleFiber n r f
      (x.1, if x.2 then a.2 ++ [f] else a.2)) (s, [])
    let s := r4.1
    let fibers := (r4.2.map fun f => 2 ^ f).sum
    if fibers = 0 then s.rejectOe n 5
    else
      let s := upTo 8 s fun f s =>
        if r4.2.contains f then s else (s.modFiber (8 * n + f) fun x => { x with inService := false }).restFiber (8 * n + f)
      let s := (s.setNum 0x100C (n + 1) (fibers * 2 ^ 8 + 2 ^ 4)).setNum 0x1004 0 0x5003
      s.modOe n fun o =>
        { o with vlOn := true, admitted := true, fibers := BitVec.ofNat 8 fibers, fail := 0
                 requalPending := false, requalifying := false }

/-- OE_QUALIFICATION: one OE after another, in increasing order. -/
def execOeQualification (oe : Fin 12) (r : OeChecks) (s : State) : Res :=
  let n := oe.val
  if !s.inStage 4 || n != s.boot.nextOe then .next s
  else
    let s := if (s.oe n).withdrawn then s.rejectOe n 0 else s.qualify n r 1
    let s := { s with boot := { s.boot with nextOe := n + 1 } }
    .next (if n = 11 then s.toStage 5 else s)

/-- A re-qualification runs (R339): links through DOWN, the OE's rails off and on again as Table 15.3 requires, the checks, RESUME by
the links' own receive state. -/
def State.requalify (s : State) (n : Nat) (r : OeChecks) : State :=
  let s := forEach (oeFibers n) s fun f s => s.linkDown f
  (s.unpowerOe n).qualify n r (BitVec.ofNat 64 (s.num 0x1008 0))

/-- OE_REQUALIFICATION (R334, R339): one asked for before Ready waits; a withdrawn OE stays so until a module reset (R404). -/
def execOeRequalification (oe : Fin 12) (r : OeChecks) (s : State) : Res :=
  let n := oe.val
  if (s.oe n).withdrawn then .next s
  else if s.ready then .next (s.requalify n r)
  else if s.boot.waitOes.any fun e => e.1 == n then .next s
  else .next { s with boot := { s.boot with waitOes := s.boot.waitOes ++ [(n, r)] } }

/-! ## Stage 5: tiles (R13, R23, R327, R342) -/

/-- A strap word is valid on its site (Table 01.4). That a word with a reserved bit set is not is the model's choice (log entry
139). -/
def strapValid (t : Nat) (w : BitVec 16) : Bool :=
  let ones := ((List.range 8).filter fun i => w.getLsbD i).length
  ones % 2 == 1 && w.getLsbD 6 == w.getLsbD 0 && w.toNat % 64 == t && w.toNat / 256 == 0

/-- The nibbles of a port's slice byte change places: one end's receive is the other's transmit. -/
def swapEnds (m : Nat) : Nat := m % 16 * 16 + m / 16

/-- Put a byte of slices at place k of a word. -/
def putByte (w k b : Nat) : Nat := w - w / 2 ^ (8 * k) % 256 * 2 ^ (8 * k) + b * 2 ^ (8 * k)

/-- Add retired slices to a tile's port k, and to the far end of the link (R350). -/
def State.addSlices (s : State) (t k m : Nat) : State :=
  if m = 0 then s
  else if isGateway t k then
    let y := t / 8
    s.setNum 0x7052 0 (putByte (s.num 0x7052 0) y (s.gatewaySlices y ||| swapEnds m))
  else
    let s := s.setNum 0x7051 (t + 1) (putByte (s.num 0x7051 (t + 1)) k (s.portSlices t k ||| m))
    match neighbour t k with
    | some u =>
      let j := (k + 2) % 4
      s.setNum 0x7051 (u + 1) (putByte (s.num 0x7051 (u + 1)) j (s.portSlices u j ||| swapEnds m))
    | none => s

/-- The retired slices of tiles and gateways are on record (R350). -/
def State.recordSlices (s : State) : State :=
  { s with nv := { s.nv with
    gatewaySlices := s.num 0x7052 0
    meshSlices := (List.range 64).foldl (fun m t => tabSet (fun _ => 0) m t (s.num 0x7051 (t + 1))) [] } }

/-- A port runs loopback: its tile is on, and so is the die at its other end; a port that is not connected is idle (R17). -/
def State.portTested (s : State) (t k : Nat) : Bool :=
  (s.tile t).tileOn && (isGateway t k || match neighbour t k with
    | some u => (s.tile u).tileOn
    | none => false)

/-- The loopback tests the slices of a tile's ports again, retired ones too, at both ends (R350). -/
def State.clearSlices (s : State) (t : Nat) : State :=
  upTo 4 s fun k s =>
    if !s.portTested t k then s
    else if isGateway t k then s.setNum 0x7052 0 (putByte (s.num 0x7052 0) (t / 8) 0)
    else
      let s := s.setNum 0x7051 (t + 1) (putByte (s.num 0x7051 (t + 1)) k 0)
      match neighbour t k with
      | some u => s.setNum 0x7051 (u + 1) (putByte (s.num 0x7051 (u + 1)) ((k + 2) % 4) 0)
      | none => s

/-- Loopback results of a tile: its retired slices, event 0x1013 for each. -/
def State.testSlices (s : State) (t : Nat) (r : TileChecks) : State :=
  upTo 4 s fun k s =>
    if !s.portTested t k then s
    else
      let m := r.badSlices.toNat / 2 ^ (8 * k) % 256
      (upTo 8 s fun b s => if m.testBit b then s.log 0x1013 t (8 * k + b) else s).addSlices t k m

/-- Receivers of a tile's tested ports train their tables, with the far ends where `both` (R338, R342). -/
def State.trainTile (s : State) (t : Nat) (both : Bool) : State :=
  upTo 4 s fun k s =>
    if !s.portTested t k then s
    else if isGateway t k then (s.trainReceiver (4 * t + k)).trainReceiver (256 + t / 8)
    else match neighbour t k with
      | some u => let s := s.trainReceiver (4 * t + k); if both then s.trainReceiver (4 * u + (k + 2) % 4) else s
      | none => s

/-- A tile's straps are read; a valid tile's domain comes on with its launch delay. -/
def State.startTileDomain (s : State) (t : Nat) (r : TileChecks) : State :=
  let s := s.setNum 0x7002 (t + 1) r.strap.toNat
  if !strapValid t r.strap || !r.rail then s.modTile t fun x => { x with strap := r.strap }
  else
    s.modTile t fun x =>
      { x with strap := r.strap, tileOn := true, launchDelay := r.launchDelay, stepping := r.stepping
               capability := r.capability }

/-- TILE_DIE_TO_DIE_TEST: sites not listed have no tile; with no tile on a gateway bring-up halts. -/
def execTileDieToDieTest (tiles : List (Fin 64 × TileChecks)) (s : State) : Res :=
  if !s.inStage 5 then .next s
  else
    let s := forEach tiles s fun e s => s.startTileDomain e.1.val e.2
    let s := forEach tiles s fun e s => s.clearSlices e.1.val
    let s := (forEach tiles s fun e s => (s.testSlices e.1.val e.2).trainTile e.1.val false).recordSlices
    if (List.range 8).any s.gatewayUp then .next (s.reroute.toStage 6) else .next (s.halt 7 0)

/-! ## Stage 6: memory (R122–R124) -/

/-- MEMORY_TRAINING: channels listed, and those of absent tiles, fail; refresh starts. -/
def execMemoryTraining (bad : List (Fin 64 × Fin 6)) (s : State) : Res :=
  if !s.inStage 6 then .next s
  else
    let s := { s with boot := { s.boot with vmOn := true } }
    let s := upTo 64 s fun t s =>
      if (s.tile t).tileOn then (s.modTile t fun x => { x with selfRefresh := false }).refresh t
      else upTo 6 s fun c s => s.failChannel t c
    .next ((forEach bad s fun e s => s.failChannel e.1.val e.2.val).toStage 7)

/-! ## Stage 7: pens (R359, R367) -/

/-- Pens whose digests count: of flocks that are on, not fenced on record. -/
def State.testedPens (s : State) : List Nat :=
  (List.range 1024).filter fun p => (s.tile (tileOf p)).flockOn && !s.nv.fences.any fun f => f.1 == p

/-- A digest that more than `n / 2` of some pens gave. -/
def majority (l : List (BitVec 32)) (n : Nat) : Option (BitVec 32) := l.find? fun d => decide (2 * l.count d > n)

/-- Pens with another digest than the reference are fenced with cause 7. -/
def State.fenceOutliers (s : State) (pens : List Nat) (d : Nat → Option (BitVec 32)) (ref : BitVec 32) : State :=
  forEach pens s fun p s => if d p = some ref then s else s.fence p 7 false

/-- A flock comes on: pens fenced on record stay fenced. -/
def State.startFlock (s : State) (t : Nat) : State :=
  let m := ((s.nv.fences.filter fun f => tileOf f.1 == t).map fun f => 2 ^ (f.1 % 16)).foldl (· ||| ·) 0
  (s.setNum 0x7050 (t + 1) m).modTile t fun x => { x with flockOn := true, dispatchStopped := false }

/-- PEN_SELF_TEST: the reference is the majority's digest; without one, a tile's own nine. -/
def execPenSelfTest (digests : List (Fin 1024 × BitVec 32)) (s : State) : Res :=
  if !s.inStage 7 then .next s
  else
    let s := upTo 64 s fun t s => if (s.tile t).tileOn then s.startFlock t else s
    let d (p : Nat) : Option (BitVec 32) := (digests.find? fun e => e.1.val == p).map (·.2)
    let pens := s.testedPens
    let s := match majority (pens.filterMap d) pens.length with
      | some ref => s.fenceOutliers pens d ref
      | none => upTo 64 s fun t s =>
          let own := pens.filter fun p => tileOf p == t
          match (own.filterMap d).find? fun x => decide ((own.filterMap d).count x ≥ 9) with
          | some ref => s.fenceOutliers own d ref
          | none => s.flockOff t
    .next ((upTo 64 s fun t s => if s.num 0x7050 (t + 1) = 0xFFFF then s.flockOff t else s).toStage 8)

/-! ## Stages 8 and 9 (R329, R340) -/

/-- Tiles that are on. -/
def State.tilesOn (s : State) : List Nat := (List.range 64).filter fun t => (s.tile t).tileOn

/-- CAPABILITY_NEGOTIATION. -/
def execCapabilityNegotiation (s : State) : Res :=
  if !s.inStage 8 || s.boot.negotiated then .next s
  else
    let steps := s.tilesOn.map fun t => (s.tile t).stepping
    let step := steps.headD 0
    let words := (s.tilesOn.map fun t => (s.tile t).capability) ++
      ((List.range 12).filter fun n => (s.oe n).admitted).map fun n => (s.oe n).capability
    let common := words.foldl (· &&& ·) (1 : BitVec 64)
    if steps.any (· ≠ step) then .next (s.halt 9 step)
    else if step ≠ 0x5402 ∧ step ≠ 0x5403 then .next (s.halt 8 step)
    else if !common.getLsbD 0 then .next (s.halt 10 0)
    else .next { (s.setNum 0x1003 0 step).setNum 0x1008 0 common.toNat with boot := { s.boot with negotiated := true } }

/-- READY: MODRDY, the time since stage 1 began, and the re-qualifications that waited (R334). -/
def execReady (s : State) : Res :=
  if !s.inStage 8 || !s.boot.negotiated then .next s
  else
    let ms := (s.clock - s.boot.stageStart) / 2000000
    let s := ((s.toStage 9).setResult 9 0 0).setNum 0x100B 0 ms
    let s := s.log 0x1010 srcHub ms
    let f := s.clockTarget
    let s := s.setClock f
    let s := { s with drover := { s.drover with clockNext := f } }
    let waiting := s.boot.waitOes
    let s := { s with boot := { s.boot with modrdy := true, waitOes := [] } }
    .next (forEach waiting s fun e s => s.requalify e.1 e.2)

/-! ## Timeouts (R327, R330) -/

/-- STAGE_TIMEOUT: a stage that runs exceeds its limit. In stage 3 a PLL without lock is the cause (R332). -/
def execStageTimeout (s : State) : Res :=
  if !s.boot.vkUp || s.boot.halted || s.tap.testMode then .next s
  else if !s.boot.booted then .next (s.haltStage1 1)
  else if s.mayBringUp && 2 ≤ s.stage && s.stage ≤ 8 then
    let noLock := s.stage == 3 && s.boot.vhOn && !s.boot.pllLocked
    let s := if s.stage = 3 then s.setKeeper 3 else s
    .next (s.halt (if noLock then 5 else 1) 0)
  else .next s

/-- The channels on a memory package: tile and channel. Table 05.6 gives it four, where R330 speaks of six (log entry 142). -/
def packageChannels (m : Nat) : List (Nat × Nat) :=
  let q := m / 3
  let a := 8 * (q / 4) + 2 * (q % 4)
  if m % 3 = 0 then [(a, 0), (a, 1), (a, 2), (a, 3)]
  else if m % 3 = 1 then [(a, 4), (a, 5), (a + 1, 0), (a + 1, 1)]
  else [(a + 1, 2), (a + 1, 3), (a + 1, 4), (a + 1, 5)]

/-- RAIL_TIMEOUT (R330): `step` of Table 15.3; `part` an OE, a tile, or a memory package. -/
def execRailTimeout (step part : Nat) (s : State) : Res :=
  if step = 2 ∨ step = 3 then
    .next (if s.inStage 3 && !s.boot.hubUp then (s.setKeeper 3).halt 4 step else s)
  else if step = 4 then
    if s.inStage 4 && part == s.boot.nextOe && part < 12 then
      let s := s.rejectOe part 4
      let s := { s with boot := { s.boot with nextOe := part + 1 } }
      .next (if part = 11 then s.toStage 5 else s)
    else .next s
  else if step = 5 ∨ step = 7 then
    .next (if (s.inStage 5 || s.inStage 7) && part < 64 then s.tileOff part else s)
  else if step = 6 then
    .next (if (s.inStage 6 || s.inStage 7) && part < 96 then
      forEach (packageChannels part) s fun e s => s.failChannel e.1 e.2 else s)
  else .next s

/-! ## Tile restart (R338, R361) -/

/-- A channel comes back after a retrain. -/
def State.reviveChannel (s : State) (t c : Nat) : State :=
  if !s.channelBad t c then s
  else
    let s := s.setNum 0xA002 (t + 1) (s.num 0xA002 (t + 1) - 2 ^ c)
    let s := s.setNum 0xA001 (t + 1) (s.num 0xA001 (t + 1) + 8)
    s.modTile t fun x => { x with newlyFailed := x.newlyFailed &&& ~~~ BitVec.ofNat 6 (2 ^ c) }

/-- Step 6 of R338: a flock domain that is switched on runs the self-test; one with all its pens fenced on record stays off. -/
def State.restartFlock (s : State) (t : Nat) (r : TileChecks) : State :=
  if !r.flockRail || (List.range 16).all fun i => s.nv.fences.any fun f => f.1 == gpen t i then s
  else
    let s := upTo 16 (s.startFlock t) fun i s => if r.badPens.getLsbD i then s.fence (gpen t i) 7 false else s
    if s.num 0x7050 (t + 1) = 0xFFFF then s.flockOff t else s

/-- R338 on a tile whose domains are off. -/
def State.restartTile (s : State) (t : Nat) (r : TileChecks) : State :=
  let s := s.startTileDomain t r
  if !(s.tile t).tileOn then s
  else
    let s := (((s.clearSlices t).testSlices t r).recordSlices).trainTile t true
    let s := upTo 6 s fun c s => if r.badChannels.getLsbD c then s else s.reviveChannel t c
    let s := upTo 6 s fun c s => if r.badChannels.getLsbD c then s.failChannel t c else s
    let s := ((s.modTile t fun x => { x with selfRefresh := false }).refresh t).restartFlock t r
    if r.capability.toNat = s.num 0x1008 0 then s.reroute else (s.tileOff t).log 0x1011 t t

/-- TILE_RESTART (R361): the tile's domains go off, then R338 runs; until the next idle step it is in progress (log entry 145). -/
def execTileRestart (slot : Nat) (r : TileChecks) (s : State) : Res :=
  .next (s.command slot 0x7060 0 fun s =>
    let t := s.gov 0x705F 0
    if (s.tile t).restart.isSome || !strapValid t (s.tile t).strap then (s, 0x70000010)
    else ((s.tileOff t).modTile t fun x => { x with restart := some r }, 0))

/-- The restarts in progress end, in the order of the tiles. -/
def State.endRestarts (s : State) : State :=
  forEach (s.tiles.filterMap fun e => e.2.restart.map fun r => (e.1, r)) s fun e s =>
    (s.modTile e.1 fun x => { x with restart := none }).restartTile e.1 e.2

/-- A hub cycle in which no command comes: restarts in progress end, the clock goes on (log entries 6 and 145). -/
def State.idle (s : State) : State := { s.endRestarts with clock := s.clock + 1 }

end Sys2Proof.Machine
end

