-- ==== Sys2Proof/Machine/Frames.lean ====
section
/-! DEFINITION. MOP datagrams as bytes: headers, operation records, answers, replay (R313–R315, R318–R320). -/

namespace Sys2Proof.Machine

/-! ## Headers (Table 14.4) -/

/-- A header's fields. -/
structure MopHead where
  magic : Nat
  ver : Nat
  ftype : Nat
  keyid : Nat
  nop : Nat
  boot : Nat
  ctr : Nat
  len : Nat
  rsv : Nat
  target : Nat
deriving DecidableEq, Repr

/-- The header of a datagram. -/
def headOf (b : List Byte) : MopHead :=
  let h := leNat (b.take 32)
  { magic := field h 0 32, ver := field h 32 8, ftype := field h 40 8, keyid := field h 48 8, nop := field h 56 8
    boot := field h 64 32, ctr := field h 96 64, len := field h 160 16, rsv := field h 176 16, target := field h 192 64 }

/-- The bytes of a header. -/
def MopHead.toBytes (h : MopHead) : List Byte :=
  leBytes 4 h.magic ++ leBytes 1 h.ver ++ leBytes 1 h.ftype ++ leBytes 1 h.keyid ++ leBytes 1 h.nop ++ leBytes 4 h.boot
    ++ leBytes 8 h.ctr ++ leBytes 2 h.len ++ leBytes 2 h.rsv ++ leBytes 8 h.target

/-! ## Operation records (Table 14.5) -/

/-- A request record. -/
structure MopRec where
  op : Nat
  flags : Nat
  index : Nat
  sub : Nat
  type : Nat
  dlen : Nat
  offset : Nat
  data : List Byte
deriving DecidableEq, Repr

/-- A length padded to a multiple of 4. -/
def pad4 (n : Nat) : Nat := (n + 3) / 4 * 4

/-- `n` records that fill the bytes exactly; a READ carries no data, its DLEN is the bytes wanted. -/
def recordsOf : Nat → List Byte → Option (List MopRec)
  | 0, b => if b.isEmpty then some [] else none
  | n + 1, b =>
    let h := leNat (b.take 16)
    let dlen := field h 48 16
    let have_ := if field h 0 8 = opRead then 0 else dlen
    if b.length < 16 + pad4 have_ then none
    else
      let r : MopRec :=
        { op := field h 0 8, flags := field h 8 8, index := field h 16 16, sub := field h 32 8, type := field h 40 8
          dlen := dlen, offset := field h 64 32, data := (b.drop 16).take have_ }
      (recordsOf n (b.drop (16 + pad4 have_))).map fun l => r :: l

/-- An answer as a record. -/
def Response.toBytes (r : Response) : List Byte :=
  leBytes 1 r.op ++ leBytes 1 r.flags ++ leBytes 2 r.index ++ leBytes 1 r.sub ++ leBytes 1 r.type ++ leBytes 2 r.data.length
    ++ leBytes 4 r.offset ++ leBytes 4 r.abort ++ r.data ++ List.replicate (pad4 r.data.length - r.data.length) 0#8

/-- The module's own target: bytes 0 to 7 of its serial number. -/
def State.ownTarget (s : State) : Nat := leNat (s.nv.serial.take 8)

/-- The format rules of R313, and the records. -/
def State.parse (s : State) (b : List Byte) : Option (MopHead × List MopRec) :=
  let h := headOf b
  if b.length < 48 ∨ h.magic ≠ 0x31504F4D ∨ h.ver ≠ 1 ∨ h.ftype ≠ 1 ∨ h.len < 16 ∨ h.len > 1404 ∨ b.length ≠ 48 + h.len
    ∨ h.nop = 0 ∨ h.nop > 16 ∨ h.rsv ≠ 0 ∨ (h.target ≠ 0 ∧ h.target ≠ s.ownTarget) then none
  else (recordsOf h.nop ((b.drop 32).take h.len)).map fun l => (h, l)

/-! ## Tags (R319) -/

/-- The tag of a datagram's bytes under a key; zero without one. -/
def mopTag (slot : Nat) (key body : List Byte) : List Byte :=
  if slot = 0 then List.replicate 16 0#8 else (hmac key body).take 16

/-- A datagram with its tag. -/
def sealed (slot : Nat) (key body : List Byte) : List Byte := body ++ mopTag slot key body

/-! ## Answers and replay (R320) -/

/-- A slot's last requests: the newest sixteen. -/
def KeySlot.remember (k : KeySlot) (ctr : Nat) (tag : List Byte) : KeySlot :=
  { k with recent := ((ctr, tag, []) :: k.recent).take 16 }

/-- The answer of one of them. -/
def KeySlot.fill (k : KeySlot) (ctr : Nat) (tag answer : List Byte) : KeySlot :=
  { k with recent := k.recent.map fun e => if e.1 = ctr ∧ e.2.1 = tag then (ctr, tag, answer) else e }

/-- The answering datagram, in the boot epoch in which the request ran, also where it restarted the keeper (R309, R320). -/
def State.answerBytes (s : State) (f : Frame) (l : List Response) : List Byte :=
  let body := l.flatMap Response.toBytes
  let h := headOf f.head
  sealed f.slot f.key (({ h with ftype := 2, boot := s.nv.bootEpoch, len := body.length % 2 ^ 16 } : MopHead).toBytes ++ body)

/-- Send a datagram to its peer: from the keeper on the field network, or from the logical port it came in by, at PCP 0 and with the
port's VLAN (R264, R279). -/
def State.sendDatagram (s : State) (inband : Option Nat) (peer : Nat × Nat) (b : List Byte) : State :=
  match inband with
  | none => s.send (.datagram none peer.1 peer.2 b)
  | some p => if s.portState p = 2 then s.send (s.plainFrame p peer.1 (.datagram (some p) peer.1 peer.2 b)) else s

/-- Every record has completed: the answer goes out the way the request came, and is kept for a retransmission. -/
def State.finishFrame (s : State) (f : Frame) : State :=
  let b := s.answerBytes f (f.answers.filterMap id)
  let s := s.sendDatagram f.inband f.peer b
  s.setKeySlot f.slot ((s.keySlot f.slot).fill (headOf f.head).ctr f.tag b)

/-- Take the answer sent after place `n` out of what the module sends. -/
def State.takeAnswer (s : State) (n : Nat) : State × Option Response :=
  let new := s.sent.drop n
  ({ s with sent := s.sent.take n ++ new.filter fun (o : Out) => match o with
      | Out.response _ _ => false
      | _ => true },
   new.findSome? fun (o : Out) => match o with
    | Out.response _ r => some r
    | _ => none)

/-- A commit's answer goes to the datagram that waits for it; the datagram is answered once every record is (R315). -/
def State.answerFrame (s : State) (n : Nat) (frame : Option (Nat × Nat)) : State :=
  match frame with
  | none => s
  | some (id, k) =>
    match s.dict.frames.find? fun f => f.id == id with
    | none => s
    | some f =>
      let x := s.takeAnswer n
      let s := x.1
      let f := { f with answers := f.answers.set k x.2 }
      let rest := s.dict.frames.filter fun g => g.id != id
      if f.answers.all Option.isSome then ({ s with dict := { s.dict with frames := rest } }).finishFrame f
      else { s with dict := { s.dict with frames := rest ++ [f] } }

end Sys2Proof.Machine
end

