-- ==== Sys2Proof/Machine/Landing.lean ====
section
/-! DEFINITION. The landing: what is left of a tread, the seal, the release, re-homing, the next tread's placement (R24–R29,
R127, R133, R144–R147, R251, R255, R306, R362–R368). -/

namespace Sys2Proof.Machine

/-! ## Runs and jobs left over (R28, R138, R146) -/

/-- Pens whose runs have ended. -/
def State.endedPens (s : State) : List Nat :=
  (s.pens.filter fun e => match e.2.run with
    | some r => r.ended.isSome
    | none => false).map (·.1)

/-- Complete every run that has ended, and what those completions end; `n` bounds the rounds. -/
def State.completeAll (s : State) : Nat → State
  | 0 => s
  | n + 1 => if s.endedPens.isEmpty then s else (forEach s.endedPens s fun p s => s.completePen p).completeAll n

/-- A job whose result is its sessions' own: a plan's or a re-run, a replay, an SCR repetition. -/
def Job.serves (j : Job) : Bool := !j.kind.compare

/-- A job still running when the landing opens: an overrun, of which a traded job's donor hears, or a compare-mode run that is
dropped (R28, R142, R363). -/
def State.overrun (s : State) (p : Nat) : State :=
  match (s.pen p).run with
  | none => s
  | some r =>
    let t := tileOf p
    let s := s.addBusy p r
    let s := s.modPen p Pen.idle
    if !r.job.serves then s
    else
      let s := ((s.log 0x2001 t (p + r.job.jobId * 2 ^ 16)).withhold t r.job.sessions).reportTrade t r.job reportWithheld
      let s := if s.num 0x200A 0 = s.epoch then s else (s.count 0x2009 0 1).setNum 0x200A 0 s.epoch
      s.modTile t fun x => { x with overran := true }

/-- Jobs of a tile that never ran: queued and ready ones are dropped with event 0x7017; those that still wait, and those
traded out without a report, are withheld too. Answers how many were dropped. -/
def State.dropUnrun (s : State) (t : Nat) : State × Nat :=
  let x := s.tile t
  let queued := ((x.deques.flatMap fun d => d.2) ++ x.readyList).filter Job.serves
  let n := queued.length
  let s := if n = 0 then s else s.log 0x7017 t n
  let s := s.withhold t (sessionsOf (queued ++ x.waiting ++ x.tradedOut.map (·.2)))
  (s.modTile t fun x => { x with deques := [], readyList := [], waiting := [] }, n)

/-- Faults and mismatches that are not settled when the landing opens go to the in-field test (R356, R364). -/
def State.forceUnsettled (s : State) (t : Nat) : State :=
  let x := s.tile t
  let s := s.modTile t fun x => { x with cases := [], mismatches := [] }
  let s := forEach x.cases s fun c s => s.forceTest c.pen { kind := 0, pen := c.pen }
  forEach x.mismatches s fun m s =>
    (s.forceTest m.origPen { kind := 1, pen := m.origPen }).forceTest m.shadowPen { kind := 1, pen := m.shadowPen }

/-- Tests of this tread without their digests are forced again. -/
def State.retryTests (s : State) (t : Nat) : State :=
  let x := s.tile t
  let late := x.tests.filter fun c => c.epoch == s.epoch && c.epoch != 0
  let pens (c : TestCase) : List Nat := if c.kind = 3 then [c.other] else if c.kind = 2 then [c.pen, c.other] else [c.pen]
  s.modTile t fun x =>
    { x with
      tests := x.tests.map fun c => if late.contains c then { c with epoch := 0 } else c
      forceNext := (late.flatMap pens).foldl (fun f p => f ||| BitVec.ofNat 16 (2 ^ (p % 16))) x.forceNext }

/-! ## Occupancy and the batch cap (R146, R147) -/

/-- Occupancy of the tread, percent: the busy tile cycles of the pens that served, by their number times WORKC. -/
def State.occupied (s : State) (t : Nat) : Nat :=
  let pens := (List.range 16).filter (s.serves t)
  let busy := (pens.map fun i => (s.pen (gpen t i)).busy).sum
  let cycles : Rat := (busy : Rat) * synthesised s.drover.clockNow / 2000
  let all := pens.length * (s.workNs * s.drover.clockNow.floor.toNat / 1000)
  if all = 0 then 0 else min 100 (100 * cycles / (all : Nat)).floor.toNat

/-- The tile's record of short treads, and the cap where two fall short within eight. -/
def State.judgeTread (s : State) (t dropped : Nat) : State :=
  let x := s.tile t
  let occ := s.occupied t
  let short := x.overran || dropped != 0
  let cap := s.num 0x7045 (t + 1)
  let s := s.setNum 0x704D (t + 1) occ
  let s := if short && x.shortHistory.contains true then
      (s.log 0x7013 t (max 1 (3 * cap / 4))).setNum 0x7045 (t + 1) (max 1 (3 * cap / 4)) else s
  s.modTile t fun x =>
    { x with overran := false, shortHistory := (short :: x.shortHistory).take 7
             goodRun := if !short && decide (occ ≤ s.num 0x7046 0) then x.goodRun + 1 else 0 }

/-- BATCH_CAP_GROWTH (R147): after 16 good treads. -/
def execBatchCapGrowth (tile : Fin 64) (s : State) : Res :=
  let t := tile.val
  let cap := s.num 0x7045 (t + 1)
  if (s.tile t).goodRun < 16 then .next s
  else .next ((s.setNum 0x7045 (t + 1) (min (s.gov 0x7044 0) (cap + max 1 (cap / 8)))).modTile t fun x =>
    { x with goodRun := 0 })

/-! ## Withheld sessions (R24, R133, R255, R368) -/

/-- Close a set of sessions over jobs' session sets; `n` bounds the rounds. -/
def closeOver (jobs : List (List Nat)) : Nat → List Nat → List Nat
  | 0, w => w
  | n + 1, w =>
    let v := distinct (w ++ (jobs.filter fun l => l.any w.contains).flatten)
    if v.length = w.length then w else closeOver jobs n v

/-- Everything withheld, closed over the jobs of the tread on all tiles. -/
def State.withheldSet (s : State) : List Nat :=
  let jobs := s.tiles.flatMap fun e => e.2.jobs.map (·.sessions)
  closeOver jobs jobs.length (distinct (s.tiles.flatMap fun e => e.2.withheld))

/-- A pen fenced with taint ends the sessions of its log, and withholds those it served in this tread. Where the log overflowed
every open session ends: the home's own; a member sends its list with the overflow flag (log entry 49). -/
def State.applyTaint (s : State) (p : Nat) : State :=
  let t := tileOf p
  let q := s.pen p
  let served := ((s.tile t).done.filter fun d => d.1 == p).flatMap (·.2)
  let s := s.withhold t served
  let listed : List (Nat × Nat) :=
    if q.taintOver && s.isHome then (s.service.sessions.filter fun e => e.2.isSome).map fun e => (e.1, 0)
    else q.taint.filter fun e => !s.isHome || (s.session e.1).isSome
  let s := if q.taintOver then s.log 0x702A t p else s
  let s := forEach listed s fun e s => (s.withhold t [e.1]).endAtLanding e.1 0x0014 e.2
  let s := ((s.log 0x7029 t (listed.length + p * 2 ^ 32)).count 0x7061 0 listed.length).tellHome (Config.suspectMessage q.taintOver listed)
  s.modPen p fun q => { q with taint := [], taintOver := false }

/-- Every pen fenced with taint since the last landing. -/
def State.applyTaints (s : State) : State :=
  upTo 64 s fun t s =>
    let l := (s.tile t).taintPens
    if l.isEmpty then s else (forEach l s fun p s => s.applyTaint p).modTile t fun x => { x with taintPens := [] }

/-- An EMIT in its stream's order: rank key, stream, the job's key, its tile and sessions, the bale. -/
structure Emitted where
  key : Nat
  stream : Nat
  job : Nat
  tile : Nat
  sessions : List Nat
  image : List Byte
  /-- It failed the gateway's check. -/
  failed : Bool
deriving DecidableEq, Repr

/-- The outbound gateway's check of an EMIT (Table 05.2): one that fails both fetches is sent poisoned. -/
def gatewayFails (h : BitVec 512) (payload : List Byte) : Bool :=
  let f := checkBale payload h.toNat
  f == .badHeader || f == .badPayload

/-- The image of an EMIT: header, then payload (R254). -/
def State.gatewayImage (s : State) (h : BitVec 512) (payload : List Byte) : List Byte :=
  headerBytes (if gatewayFails h payload then poisonHeader h.toNat 0x0004 0x40 s.epoch else h) ++ payload

/-- Every EMIT queued, in key order; a re-run job ranks first (R255). -/
def State.emits (s : State) : List Emitted :=
  sortBy Emitted.key (s.tiles.flatMap fun e => e.2.commits.filterMap fun c => match c.2 with
    | .emit t j o stream rerun h payload =>
      let job := ((if rerun then 0 else 64) + t) * 2 ^ 32 + j
      some { key := job * 2 ^ 16 + o, stream := stream, job := job, tile := t, sessions := c.1
             image := s.gatewayImage h payload, failed := gatewayFails h payload }
    | _ => none)

/-- The schedule of the next tread: the one loaded at this landing, else the one in force (R251). -/
def State.nextSchedule (s : State) : List Byte := s.gallery.loaded.getD (s.blob 0x2031 0)

/-- Positions of an outbound stream in the next tread's schedule. -/
def State.positions (s : State) (stream : Nat) : Nat :=
  (((entriesOf s.nextSchedule).filter fun e => e.kind == 2 && e.stream == stream).map (·.count)).sum / 18

/-- EMITs of a stream that must be withheld: a second job's, or a job's that run past the last position. -/
def State.badEmits (s : State) (l : List Emitted) : List Emitted :=
  match l with
  | [] => []
  | f :: _ =>
    let own := l.filter fun e => e.job == f.job
    l.filter fun e => e.job != f.job || decide (own.length > s.positions f.stream)

/-- STREAM_SEAL's withholding; event 0x2013 once with the count of sessions. -/
def State.sealStreams (s : State) : State :=
  let l := s.emits
  let bad := (distinct (l.map (·.stream))).flatMap fun k => s.badEmits (l.filter fun e => e.stream == k)
  if bad.isEmpty then s
  else (forEach bad s fun e s => s.withhold e.tile e.sessions).log 0x2013 srcHub (distinct (bad.flatMap (·.sessions))).length

/-! ## Release (R25, R120, R255) -/

/-- The key of R120. -/
def Commit.key : Commit → Nat
  | .bale t j o _ _ _ => (t * 2 ^ 32 + j) * 2 ^ 16 + o
  | _ => 0

/-- Header address of a bale write. -/
def Commit.header : Commit → Option Nat
  | .bale _ _ _ _ h _ => some h
  | _ => none

/-- Release a bale write: its staging slot is released, marked where a greater key has its header. -/
def State.releaseWrite (s : State) (all : List Commit) (c : Commit) : State :=
  match c with
  | .bale t _ _ i h _ =>
    let loser := all.any fun d => d.header == some h && decide (d.key > c.key)
    s.modTile t fun x =>
      { x with staging := tabSet (fun _ => none) x.staging i ((tabGet (fun _ => none) x.staging i).map fun b =>
          { b with released := true, loser := loser }) }
  | _ => s

/-- Write the released bales of the streams to their launch buffers, through the gateway's check. -/
def State.fillLaunch (s : State) (l : List Emitted) : State :=
  forEach (distinct (l.map (·.stream))) s fun k s =>
    forEach ((l.filter fun e => e.stream == k).zipIdx) s fun e s =>
      let hoff := field (outboundOf s.nextSchedule k) 64 32
      let s := if e.1.failed then (s.notePoison 0x0004 0x40).log 0xA002 0x40 (hubBase + hoff + 4160 * e.2) else s
      { (s.write (hubBase + hoff + 4160 * e.2) e.1.image) with
        gallery := { s.gallery with
          launchNext := tabSet (fun _ => false) s.gallery.launchNext (256 * e.2 + k) true } }

/-- COMMIT_RELEASE: commits of jobs without a withheld session are released, the others' outputs are discarded. -/
def State.releaseCommits (s : State) (withheld : List Nat) : State :=
  let all := s.tiles.flatMap fun e => e.2.commits.map fun c => (e.1, c)
  let keeps (l : List Nat) : Bool := !l.any withheld.contains
  let go := (all.filter fun e => keeps e.2.1).map fun e => e.2.2
  let bales := go.filter fun c => c.header.isSome
  let s := forEach bales s fun c s => s.releaseWrite bales c
  let s := s.fillLaunch (s.emits.filter fun e => keeps e.sessions)
  let s := forEach go s fun c s => match c with
    | .token _ _ i token flags => s.tokenCommitted i token flags
    | _ => s
  upTo 64 s fun t s =>
    if (s.tile t).commits.isEmpty && (s.tile t).staging.isEmpty then s
    else s.modTile t fun x => { x.freeUnreleased with commits := [] }

/-! ## Clean points and taint logs (R364, R368) -/

/-- The taint log takes a session whose commits stand after the pen's clean point. A member other than the home does not
hold the session: its position is a free value (log entry 49). -/
def State.noteTaint (s : State) (p : Nat) (i : Nat) : State :=
  let add (pos : Nat) (q : Pen) : Pen :=
    if q.taint.any fun e => e.1 == i then q
    else if q.taint.length ≥ 4096 then { q with taintOver := true }
    else { q with taint := q.taint ++ [(i, pos)] }
  match s.session i with
  | some x => s.modPen p (add x.context.length)
  | none => if s.isHome then s else let (v, s) := s.free; s.modPen p (add (v.toNat % 2 ^ 32))

/-- A flock's sampled pens are clean or stay sampled; the taint logs take what the others commit. -/
def State.noteClean (s : State) (t : Nat) (withheld : List Nat) : State :=
  let s := upTo 16 s fun i s =>
    let p := gpen t i
    let q := s.pen p
    if !q.sampled then s
    else if q.shadowsOpen = 0 && !q.mismatch then (s.cleanPoint p).modPen p fun q => { q with dirty := false }
    else s.modPen p fun q => { q with dirty := true }
  forEach (s.tile t).done s fun d s =>
    if (s.pen d.1).clean = s.epoch then s
    else forEach (if d.2.any withheld.contains then [] else d.2) s fun i s => s.noteTaint d.1 i

/-! ## Re-homing (R127) -/

/-- GiB numbers of a channel of a tile. -/
def channelGibs (t c : Nat) : List Nat := (List.range 8).map fun i => 64 * t + 8 * c + i

/-- Write a GiB's redirect entry. -/
def State.setRedirect (s : State) (g v : Nat) : State :=
  let t := g / 64
  let b := ((s.blob 0xA031 (t + 1)) ++ List.replicate 96 0#8).take 96
  s.setBlob 0xA031 (t + 1) (b.take (2 * (g % 64)) ++ leBytes 2 v ++ b.drop (2 * (g % 64) + 2))

/-- Regions that share a byte with a GiB. -/
def State.regionsIn (s : State) (g : Nat) : List Region := s.regions.filter fun r => overlaps (g * 2 ^ 30) (2 ^ 30) r.base r.len

/-- Spare GiB left, the nearest to a tile first, then the lowest. -/
def State.spares (s : State) (t : Nat) : List Nat :=
  let whole := (s.regions.filter fun r => r.kind == 5).flatMap fun r =>
    (List.range (r.len / 2 ^ 30)).map fun i => r.base / 2 ^ 30 + i
  let taken (g : Nat) : Bool := (List.range 64).any fun u => (List.range 48).any fun i =>
    bit (s.redirect u i) 15 && s.redirect u i % 2 ^ 13 == g
  sortBy (fun g => meshHops t (g / 64) * 2 ^ 16 + g) (whole.filter fun g => s.gibWorks g && !taken g && bit (s.redirect (g / 64) (g % 64)) 15 == false)

/-- Re-home one GiB in use: the nearest spare, or it stays LOST. -/
def State.rehome (s : State) (t g : Nat) : State :=
  match s.spares t with
  | [] => s
  | h :: _ =>
    let l := (s.regionsIn g).filter Region.used
    let bare := l.any fun r => r.kind == 1 && !r.mv
    let copies := !bare && l.any fun r => r.kind == 1
    { s.setRedirect g (0xC000 + h) with refills := s.refills ++ [{ src := g, tgt := h, copies := copies, held := bare }] }

/-- Models and sessions that a lost range concerns (R127 steps 4 and 5); where a session's positions lie the image's template
says (log entry 61). -/
def State.loseRange (s : State) (gibs : List Nat) : State :=
  upTo 16 s fun i s =>
    let m := s.model i
    let hit (l : Layer) : Bool := l.mpbase == 0 && l.regions.any fun r =>
      gibs.any fun g => overlaps (g * 2 ^ 30) (2 ^ 30) r.base r.len
    let s := if (m.state = 2 ∨ m.state = 4) ∧ m.layers.any hit then
        ((s.log 0xB003 srcHub i).modModel i fun m => { m with state := 3 }).reportModel i |>.endModelSessions i else s
    if m.kvGib.any gibs.contains then
      forEach s.service.sessions s fun e s => match e.2 with
        | some x =>
          let here := gibs.any fun g => m.kvGib.contains g && Config.kvHolds i e.1 g
          if x.model = i ∧ x.reserved ≠ 0 ∧ x.state ≠ 4 ∧ here then s.endAtLanding e.1 0x0013 0 else s
        | none => s
    else s

/-- REHOMING_START: the GiB of newly failed channels of a tile. -/
def State.rehomeTile (s : State) (t : Nat) : State :=
  let failed := (s.tile t).newlyFailed
  if failed = 0 then s
  else
    let gibs := ((List.range 6).filter fun c => failed.getLsbD c).flatMap (channelGibs t)
    let s := s.modTile t fun x => { x with newlyFailed := 0 }
    let s := forEach gibs s fun g s =>
      let e := s.redirect t (g % 64)
      s.setRedirect g (e ||| 0x2000)
    let used := gibs.filter fun g => (s.regionsIn g).any Region.used && !bit (s.redirect t (g % 64)) 15
    let s := forEach used s fun g s => s.rehome t g
    let s := if used.any fun g => !bit (s.redirect t (g % 64)) 15 then s.log 0xA007 t used.length else s
    s.loseRange gibs

/-- The landing's part of re-homing: FILL clears where nothing is copied or the copy is complete, then new failures. Event 0xA008 comes
once, when no copy is left running (log entry 139). -/
def State.rehomeAtLanding (s : State) : State :=
  let ended := s.refills.filter fun r => !r.held && (!r.copies || r.done)
  let copied := ended.any (·.copies)
  let s := forEach ended s fun r s => s.clearFill r.src
  let s := if copied && !s.refills.any (·.copies) then s.log 0xA008 srcHub ended.length else s
  let before := s.tiles.any fun e => e.2.newlyFailed != 0
  let s := upTo 64 s fun t s => s.rehomeTile t
  if before || !ended.isEmpty then s.noteRehoming else s

/-- Writes discarded for a failed channel since the last landing (R125). -/
def State.reportDiscards (s : State) : State :=
  upTo 64 s fun t s =>
    let l := (s.tile t).discards
    if l.isEmpty then s
    else (forEach l s fun e s => s.log 0xA005 t (8 * t + e.1 + e.2 * 2 ^ 16)).modTile t fun x => { x with discards := [] }

/-- A re-homed spill region is available again (R236): spill mode with an empty spill; what lay in the old place is gone. -/
def State.respill (s : State) : State :=
  upTo 96 s fun f s =>
    let l := s.link f
    if !l.direct || !l.spillLost || s.spillBase f == 0 || s.spillMib f == 0 then s
    else
      let ok := (gibsOf (s.spillBase f) (s.spillMib f * 2 ^ 20)).all fun a =>
        let e := s.redirect (a / 2 ^ 36) (a / 2 ^ 30 % 64)
        bit e 15 && !bit e 14
      if ok && s.spillReachable f then ((s.log 0x503A srcHub f).modLink f fun l => l.emptySpill.due 3 s.clock).setNum 0x5046 (f + 1) 0 else s

/-! ## Configuration (R251, R306, R309) -/

/-- What waits for the landing is applied in the order of acceptance, each against the state that those before it left
(R309): a value that those before it have made wrong is dropped, and so is one for a tally whose place is gone. -/
def State.applyDeferred (s : State) : State :=
  let l := s.dict.deferred
  let s := { s with dict := { s.dict with deferred := [], governing := [] } }
  forEach l s fun d s => match d with
    | .write index sub v =>
      let ok := match v with
        | .num n => index != 0x3001 || capRule s n == 0
        | .bytes b => (index != 0x2030 || s.scheduleRule b == 0)
          && !(decide (0x8100 ≤ index) && decide (index ≤ 0x821F) && !s.tallyPlace (index - 0x8100))
      if !ok then s
      else
        let s := { s.putInForce index sub v with
          dict := { s.dict with governing := s.dict.governing ++ [(objKey index sub, s.num index sub)] } }
        if index = 0x3001 then s.recap else s
    | .window i b => if s.windowRule i b = 0 then s.putWindow i (windowValue b) else s
    | .tickCommit slot frame => (s.applyCommit slot 0x2003 true tickRule tickApply).answerFrame s.sent.length frame
    | .redirectCommit slot frame => (s.applyCommit slot 0xA032 true redirectRule redirectApply).answerFrame s.sent.length frame

/-- A pending change that takes effect at the coming tick is known to the landing before it (R31). -/
def State.foresee (s : State) : State :=
  match s.tick.change with
  | some (p, l, c) => if c ≤ 1 then s.modTick fun t => { t with nextPeriod := p, nextLand := l } else s
  | none => s

/-- SCHEDULE_LOAD: a staged schedule is loaded at landing EPOCH − 1; at that tick it comes into force (R251). -/
def State.loadSchedule (s : State) : State :=
  let b := s.blob 0x2030 0
  if b.isEmpty || schedEpoch b != s.epoch + 1 then s
  else if schedPeriod b != s.tick.nextPeriod then { s.goQuiet with gallery := { s.goQuiet.gallery with loaded := none } }
  else { (s.log 0x2010 srcHub (s.epoch + 1)) with gallery := { s.gallery with loaded := some b } }

/-- A loaded schedule governs from its tick. -/
def State.putSchedule (s : State) : State :=
  match s.gallery.loaded with
  | none => s
  | some b => { s.setBlob 0x2031 0 b with gallery := { s.gallery with loaded := none } }

/-! ## Placement of the next tread (R26, R133, R144) -/

/-- Drop planned jobs from the last until the limits hold, each with all that share its sessions; `n` bounds the rounds.
Answers the jobs left and the sessions withheld. -/
def dropToFit (land slots : Nat) (rerun : List Job) : Nat → List Job → List Nat → List Job × List Nat
  | 0, l, w => (l, w)
  | n + 1, l, w =>
    if fits land slots (rerun ++ l) then (l, w)
    else match l.getLast? with
      | none => (l, w)
      | some j =>
        let out := closeOver (l.map (·.sessions)) l.length j.sessions
        dropToFit land slots rerun n ((l.filter fun k => !k.sessions.any out.contains).filter fun k => !k.same j)
          (distinct (w ++ out))

/-- Jobs of a tile to run again, in the order of their treads and indices: those with a withheld session. A job traded in is its
donor's. -/
def State.rerunOf (s : State) (t : Nat) (withheld : List Nat) : List Job :=
  sortBy (fun j => j.planEpoch * 2 ^ 16 + j.index)
    ((((s.tile t).jobs ++ (s.tile t).dropped).filter fun j => j.donor.isNone && j.sessions.any withheld.contains).map fun j =>
      { j with kind := .plan, pinned := false, against := [] })

/-- The re-run set, the plan that fits beside it, and the demand record. Where the re-run set alone breaks a limit, its own last jobs
are deferred too (R26). -/
def State.placeNext (s : State) (t : Nat) (withheld : List Nat) : State :=
  let x := s.tile t
  let again := s.rerunOf t withheld
  let planned := match x.plan with | some p => p.jobs | none => []
  let r := dropToFit s.tick.nextLand s.stagingSlots again planned.length planned []
  let q := dropToFit s.tick.nextLand s.stagingSlots r.1 again.length again []
  let q := if r.1.isEmpty then q else (again, [])
  s.modTile t fun x =>
    { x with rerun := q.1, plan := x.plan.map fun p => { p with jobs := r.1 }
             dropNext := (again.filter fun j => !q.1.contains j) ++ planned.filter fun j => !r.1.contains j
             withheldNext := distinct (x.withheldNext ++ r.2 ++ q.2), demand := s.demandRecord t (q.1 ++ r.1) }

/-! ## LANDING_OPEN -/

/-- What each flock has left when the landing opens. -/
def State.closeFlocks (s : State) : State :=
  let s := s.completeAll 1024
  let s := forEach (s.pens.map (·.1)) s fun p s => s.overrun p
  upTo 64 s fun t s =>
    if !(s.tile t).flockOn then s
    else
      let r := s.dropUnrun t
      ((r.1.forceUnsettled t).retryTests t).judgeTread t r.2

/-- The seal, the release and the session ends. -/
def State.sealTread (s : State) : State :=
  let s := s.applyTaints.sealStreams
  let withheld := s.withheldSet
  let s := upTo 64 s fun t s => if (s.tile t).flockOn then s.noteClean t withheld else s
  let s := ((s.releaseCommits withheld).countWithheld withheld).endAll.logEnds
  upTo 64 s fun t s => if (s.tile t).flockOn then s.placeNext t withheld else s

/-- An OE's links leave service for its re-qualification (R339). -/
def State.startRequal (s : State) (n : Nat) : State :=
  (forEach (oeFibers n) s fun f s => s.linkDown f).modOe n fun o => { o with requalPending := false, requalifying := true }

/-- Re-qualifications that violations brought (R404). -/
def State.requalAtLanding (s : State) : State := upTo 12 s fun n s => if (s.oe n).requalPending then s.startRequal n else s

/-- With the tile array cut off no landing commits (R353): every job's sessions are withheld. -/
def State.withholdAll (s : State) : State :=
  upTo 64 s fun t s => s.withhold t (sessionsOf (s.tile t).jobs)

/-- A landing begins: the values of the last one govern, and ends that model changes brought in it are due (R299, R306). -/
def State.dueEnds (s : State) : State :=
  { s with
    dict := { s.dict with governing := [] }
    service := { s.service with endsNow := s.service.endsNow ++ s.service.endsLater, endsLater := [] } }

/-- The landing of the tread opens (Table 02.1); the demand records of the tiles in `late` come late. -/
def State.openLanding (s : State) (late : BitVec 64) : State :=
  let s := (s.modTick fun t => { t with inLanding := true }).dueEnds
  let s := s.closeFlocks
  let s := if s.boot.cutOff then s.withholdAll else s
  let s := (s.applyDeferred.foresee).loadSchedule
  let s := if s.tick.active then s else s.takeNewList
  let s := (s.reportDiscards.rehomeAtLanding).respill
  let s := (s.sealTread.commitLoads).computeGrants late |>.raiseVoltage
  (s.requalAtLanding).applyDelays.landingClaims

/-- LANDING_OPEN (R21). It comes once in a tread; out of its place it has no effect (log entry 62). The demand record of a tile in
`late` reaches the drover more than 200 ns after it (R155). -/
def execLandingOpen (late : BitVec 64) (s : State) : Res :=
  if !s.tick.running || !s.tick.begun || s.tick.inLanding then .next s else .next (s.openLanding late)

end Sys2Proof.Machine
end

