-- ==== Sys2Proof/Machine/Treads.lean ====
section
/-! DEFINITION. The tick that ends one tread and begins the next: plans take effect, budgets are published, grants, clock,
bands, schedule and membership follow (R21–R23, R130, R135, R148, R149, R163, R258, R362, R380). -/

namespace Sys2Proof.Machine

/-! ## In-field test of the tread (R148) -/

/-- The pen that falls due at an epoch. -/
def State.dueAt (s : State) (t e : Nat) : Option Nat :=
  let n := s.num 0x7047 0
  let i := e % n / s.testStep
  if e % s.testStep = 0 ∧ !s.fenced (gpen t i) then some i else none

/-- The due pen of a tile at the tick of the tread: excluded where the placement leaves it free or the budget forced it, else
deferred. -/
def State.judgeDue (s : State) (t : Nat) (jobs : List Job) : State :=
  let x := s.tile t
  let force := x.force
  match x.duePen with
  | none => s.modTile t fun x => { x with excluded := force }
  | some i =>
    if s.fenced (gpen t i) then s.modTile t fun x => { x with excluded := force, duePen := none, deferrals := 0 }
    else if force.getLsbD i then s.modTile t fun x => { x with excluded := force }
    else if jobs.any fun j => j.home == i then
      (s.log 0x7014 t (gpen t i)).modTile t fun x => { x with excluded := force, deferrals := x.deferrals + 1 }
    else s.modTile t fun x => { x with excluded := force ||| BitVec.ofNat 16 (2 ^ i) }

/-- Tests whose pens this tread's budget forces run in it (R356, R361, R364, R367). -/
def State.armTests (s : State) (t : Nat) : State :=
  s.modTile t fun x =>
    { x with tests := x.tests.map fun c =>
        if c.epoch = 0 ∧ x.force.getLsbD ((if c.kind = 3 then c.other else c.pen) % 16) then { c with epoch := s.epoch } else c }

/-- Test state (object 0x7048, Table 06.3). -/
def State.noteTest (s : State) (t : Nat) : State :=
  let x := s.tile t
  let pen := match x.duePen with
    | some i => some i
    | none => (List.range 16).find? fun i => x.excluded.getLsbD i
  let due := match pen with | some i => i * 2 ^ 20 + 2 ^ 19 | none => 0
  s.setNum 0x7048 (t + 1) (due + min 3 x.deferrals * 2 ^ 16 + x.excluded.toNat)

/-! ## Admission budget (R130, Table 06.1) -/

/-- Publish a tile's budget for the next tread; a lowered maximum lowers the cap (R147). -/
def State.publish (s : State) (t : Nat) : State :=
  let cap := min (s.num 0x7045 (t + 1)) (s.num 0x7044 0)
  let s := s.setNum 0x7045 (t + 1) cap
  let s := match s.dueAt t (s.epoch + 1) with
    | some i => s.modTile t fun x => { x with duePen := some i, deferrals := 0 }
    | none => s
  let x := s.tile t
  let waits (i : Nat) : Bool := x.duePen == some i && !x.excluded.getLsbD i
  let mask (f : Nat → Bool) : Nat := (((List.range 16).filter f).map fun i => 2 ^ i).sum
  let force := x.forceNext.toNat ||| mask fun i => waits i && decide (x.deferrals ≥ 3)
  let pens := mask fun i => !s.fenced (gpen t i) && !force.testBit i
  let due := mask fun i => waits i && !force.testBit i
  let s := s.modTile t fun x =>
    { x with force := BitVec.ofNat 16 force, forceNext := 0, budgetEpoch := s.epoch + 1
             budgetPens := BitVec.ofNat 16 pens, budgetBatch := cap }
  (s.setBlob 0x704C (t + 1) (leBytes 32 (s.epoch + 1 + atBit s.workc 32 64 + atBit (1024 * s.tick.nextLand) 32 96
    + atBit s.clkt 16 128 + atBit cap 16 144 + atBit pens 16 160 + atBit force 16 176 + atBit due 16 192
    + atBit s.stagingSlots 16 208))).noteTest t

/-! ## Placement (R133, R135, R362) -/

/-- Re-run jobs count only predecessors among themselves. -/
def recount (l : List Job) : List Job :=
  l.map fun j => { j with npred := ((l.filter fun k => k.planEpoch == j.planEpoch).map fun k => k.succ.count j.index).sum }

/-- Pen i of a flock is sampled in this tread (R362). -/
def State.isSampled (s : State) (t i : Nat) : Bool :=
  let v := s.num 0x7056 0
  let m := 128 / 2 ^ v
  s.serves t i && v != 0 && (s.epoch % m == i * m / 16 || (s.pen (gpen t i)).dirty)

/-- Samples and clean counts of a flock's pens for the new tread. -/
def State.samplePens (s : State) (t : Nat) : State :=
  upTo 16 s fun i s =>
    let on := s.isSampled t i
    s.modPen (gpen t i) fun q => { q with sampled := on, shadowsOpen := 0, mismatch := false, busy := 0 }

/-- A tile's new tread: the re-run set and the plan take effect, ready jobs are placed in order of index. -/
def State.startTile (s : State) (t : Nat) : State :=
  let x := s.tile t
  let again := recount x.rerun
  let planned := match x.plan with | some p => p.jobs | none => []
  let jobs := again ++ planned
  let s := s.judgeDue t jobs
  let s := (s.modTile t fun x =>
    { x with
      epochSeen := s.epoch, plan := x.held, held := none, jobs := jobs, dropped := x.dropNext, dropNext := [], rerun := [], deques := [], readyList := []
      waiting := jobs.filter fun j => j.npred != 0
      treadOut := [], done := [], tradedIn := [], tradedOut := [], requested := [] }).armTests t
  let s := s.samplePens t
  let force := (s.tile t).force
  let s := if jobs.any fun j => j.scr && force.getLsbD j.home then s.log 0x7015 t t else s
  forEach (jobs.filter fun j => j.npred == 0) s fun j s => s.placeReady t j

/-- Sessions withheld in the new tread: those that the treads before left for it, whether the flock is on or off. -/
def State.turnWithheld (s : State) (t : Nat) : State :=
  if (s.tile t).withheld.isEmpty && (s.tile t).withheldNext.isEmpty && (s.tile t).withheldLater.isEmpty then s
  else s.modTile t fun x => { x with withheld := x.withheldNext, withheldNext := x.withheldLater, withheldLater := [] }

/-- A plan held for the tread whose budget is published now is held to its BATCH (R131). -/
def State.checkHeld (s : State) (t : Nat) : State :=
  match (s.tile t).plan with
  | none => s
  | some p =>
    if (sessionsOf p.jobs).length > (s.tile t).budgetBatch then
      (s.modTile t fun x => { x with plan := none }).refusePlan t false (sessionsOf p.jobs)
    else s

/-- Every flock's new tread, the budget of the one after it, and the first grant. -/
def State.startTiles (s : State) : State :=
  upTo 64 s fun t s =>
    let s := s.turnWithheld t
    if !(s.tile t).flockOn then s.putGrant t 0
    else
      let s := (((s.startTile t).publish t).checkHeld t).putGrant t 0
      s.modTile t fun x => { x with balance := x.grant, tradeDelta := 0 }

/-! ## The rest of the tick -/

/-- TICK_PATH_FAULT (R23): the shepherd stops dispatch, and its flock goes off (R360). -/
def State.pathFaults (s : State) (faults : BitVec 64) : State :=
  if faults = 0 then s
  else upTo 64 s fun t s =>
    if faults.getLsbD t && (s.tile t).flockOn then
      ((s.log 0x2009 t s.epoch).flockOff t).modTile t fun x => { x with dispatchStopped := true }
    else s

/-- What the links report of the tread that ends. -/
def State.linksAtTick (s : State) : State :=
  upTo 96 s fun f s =>
    let l := s.link f
    if l.badInTread = 0 ∧ l.replaysInTread = 0 ∧ !l.tickDiscarded then s
    else
      let s := if l.badInTread = 0 then s else s.log 0x5031 srcHub (f + l.badInTread * 2 ^ 16)
      let s := if l.replaysInTread = 0 then s else s.log 0x5032 srcHub (f + l.replaysInTread * 2 ^ 16)
      s.modLink f fun l => { l with badInTread := 0, replaysInTread := 0, tickDiscarded := false }

/-- SCHD of the beacon that a module uses at a tick: the active master's and a stand-alone module's is its own; a module on its
flywheel has none. -/
def State.schdUsed (s : State) : Option Nat :=
  if s.tick.active || s.tick.role == 0 then some (schedSetcrc (s.blob 0x2031 0))
  else if s.tick.flywheel then none
  else s.tick.schd

/-- The schedule in force fits the tread period in force (R251; log entry 118). -/
def State.schedFits (s : State) : Bool :=
  !(s.blob 0x2031 0).isEmpty && schedPeriod (s.blob 0x2031 0) == s.tick.period

/-- QUIET_CHECK (R258), and the flight state of a module in a flight, which reads 2 while it is quiet. -/
def State.checkQuiet (s : State) : State :=
  let s := match s.schdUsed with
    | none => s
    | some c =>
      if schedSetcrc (s.blob 0x2031 0) ≠ c then (if s.gallery.quiet then s else s.goQuiet)
      else if s.gallery.quiet && s.schedFits then { s with gallery := { s.gallery with quiet := false } }
      else s
  if s.tick.role = 0 then s else s.setNum 0x2042 0 (if s.members.any (fun m => m.role == 3) then 3 else 1)

/-- The next epoch begins with its period and landing length. -/
def State.nextEpoch (s : State) : State :=
  let s := (s.setNum 0x2004 0 (s.epoch + 1)).countDown
  s.modTick fun t =>
    { t with period := t.nextPeriod, land := t.nextLand, prevTick := if t.begun then some t.tickAt else none, tickAt := s.clock
             inLanding := false, confirmed := false }

/-- Gallery buffers of the new tread. -/
def State.turnGallery (s : State) : State :=
  { s with gallery := { s.gallery with launch := s.gallery.launchNext, launchNext := [], inbound := [] } }

/-- A tread ends, another begins. -/
def State.beginTread (s : State) (faults : BitVec 64) : State :=
  let s := if s.tick.begun then s else s.loadSchedule
  let s := ((s.releaseEnded.droverTick).linksAtTick.nextEpoch).putSchedule
  let s := (s.pathFaults faults).alignTick
  let s := if s.tick.active then s.takeNewList else s
  let s := (s.checkQuiet.turnGallery).talliesAtTick
  let s := (s.bandsAtTick.limitAtTick.clockAtTick).foresee.startTiles
  let s := (s.launchBeacons.remeasureNow).postRecords.checkPrediction
  s.modTick fun t => { t with begun := true }

/-- Sessions that have ended leave at once (log entry 57). -/
def State.dismiss (s : State) : State :=
  (forEach s.service.sessions s fun e s => match e.2 with
    | some x => if x.state = 4 then s.leave e.1 else s
    | none => s).finishUnloads

/-- Treads stop at the end of a landing (R22): windows close, records are posted, what waits comes into force; a schedule loaded
for the tick that does not come is staged still. -/
def State.endTreads (s : State) : State :=
  let s := if s.tick.begun then (s.talliesAtStop.releaseEnded.droverTick).linksAtTick else s
  let s := (s.stopTicks).turnGallery
  let s : State := { s with gallery := { s.gallery with loaded := none } }
  let s := s.applyDeferred.takeNewList.commitLoads
  s.endAll.logEnds.postRecords.dismiss

/-- TICK (R21). It ends a landing, or starts the first tread; inside a work phase there is none (log entry 62). -/
def execTick (pathFault : BitVec 64) (s : State) : Res :=
  if !s.tick.running || (s.tick.begun && !s.tick.inLanding) then .next s
  else if s.tick.stopReq then .next s.endTreads
  else .next (s.beginTread pathFault)

/-- STOP_TREADS (R22): treads stop at the end of the landing of this tread. -/
def execStopTreads (slot : Nat) (s : State) : Res :=
  .next (s.command slot 0x2021 0 fun s => (if s.tick.running then s.modTick fun t => { t with stopReq := true } else s, 0))

end Sys2Proof.Machine
end

