-- ==== Sys2Proof/Machine/Failures.lean ====
section
/-! DEFINITION. Failures that the hub or the keeper contains: die-to-die slices, tile parts, control cores, and the
keeper's own switch-offs (R349–R353, R360, R370–R372). -/

namespace Sys2Proof.Machine

/-! ## Die-to-die slices (R349, R350, R352) -/

/-- The event of a retired slice: die, port, direction (16 for transmit) and slice (log entry 64). -/
def sliceDetail (die port : Nat) (tx : Bool) (slice : Nat) : Nat :=
  2 ^ 16 * die + 2 ^ 8 * port + (if tx then 16 else 0) + slice

/-- A retired slice of a tile's port k, as a bit of `m`: the direction is narrowed, on record; without a slice left the
link or gateway goes out of service (Table 16.2). -/
def State.retireTileSlice (s : State) (t k b detail source : Nat) : State :=
  let now (s : State) : Nat := if isGateway t k then swapEnds (s.gatewaySlices (t / 8)) else s.portSlices t k
  if !(s.tile t).tileOn || (now s).testBit b || s.portCond t k == .absent then s
  else
    let up := portAlive (now s)
    let s := ((s.log 0x7020 source detail).addSlices t k (2 ^ b)).recordSlices
    if up && !portAlive (now s) then (s.log 0x7021 source (2 ^ 8 * t + k)).reroute else s

/-- A retired slice of an OE's fiber port withdraws the fiber (Table 16.2). -/
def State.retireFiberSlice (s : State) (n f slice detail : Nat) : State :=
  let g := 8 * n + f
  if !(s.oe n).admitted || s.nv.oeSlices.contains (g, slice) then s
  else
    let s := s.log 0x7020 (srcOe n) detail
    let s := { s with nv := { s.nv with oeSlices := s.nv.oeSlices ++ [(g, slice)] } }
    let s := (s.retireLink g).modFiber g fun x => { x with inService := false }
    let s := s.setNum 0x100C (n + 1) (s.num 0x100C (n + 1) &&& (2 ^ 16 - 1 - 2 ^ (8 + f)))
    s.modOe n fun o => { o with fibers := o.fibers &&& ~~~(BitVec.ofNat 8 (2 ^ f)) }

/-- The control port's slice retired: the OE is withdrawn, and re-qualified at the next landing (Table 16.2). -/
def State.retireControlSlice (s : State) (n detail : Nat) : State :=
  if !(s.oe n).admitted then s
  else
    let s := s.log 0x7020 (srcOe n) detail
    let s := { s with nv := { s.nv with oeSlices := s.nv.oeSlices ++ [(96 + n, 0)] } }
    let s := forEach (oeFibers n) s fun g s => if (s.fiber g).inService then s.retireLink g else s
    ((s.unpowerOe n).setNum 0x100C (n + 1) 0).modOe n fun o => { o with requalPending := true }

/-- SLICE_RETIRED. `die` is 0–63 a tile with ports 0–3, 0x40 the hub with gateways 0–7, 0x50 + n OE n with fiber ports
0–7 and the control port 8 (Tables 14.8 and 15.8). -/
def execSliceRetired (die port : Nat) (tx : Bool) (slice : Fin 4) (s : State) : Res :=
  let k := slice.val
  let d := sliceDetail die port tx k
  if !s.boot.hubUp then .next s
  else if die < 64 ∧ port < 4 then .next (s.retireTileSlice die port (k + if tx then 4 else 0) d die)
  else if die = 64 ∧ port < 8 then .next (s.retireTileSlice (8 * port + 7) 1 (k + if tx then 0 else 4) d srcHub)
  else if 80 ≤ die ∧ die < 92 ∧ port < 8 ∧ k < 2 then .next (s.retireFiberSlice (die - 80) port k d)
  else if 80 ≤ die ∧ die < 92 ∧ port = 8 ∧ k = 0 then .next (s.retireControlSlice (die - 80) d)
  else .next s

/-! ## Tiles and control cores (R360, R370) -/

/-- TILE_PLL_UNLOCK: the tile's PLL has been out of lock for 1 µs. -/
def execTilePllUnlock (tile : Fin 64) (s : State) : Res := .next (s.tileOff tile.val)

/-- MEMORY_CONTROLLER_TIMEOUT: no answer for 50 µs. -/
def execMemoryControllerTimeout (tile : Fin 64) (s : State) : Res := .next (s.tileOff tile.val)

/-- SHEPHERD_WATCHDOG_EXPIRY. -/
def execShepherdWatchdogExpiry (tile : Fin 64) (s : State) : Res := .next (s.flockOff tile.val)

/-- UNCORRECTABLE_ECC_ERROR: an error in a word that is no bale data, with the address in event 0x7024 (R104, R370). `site` 0 is
the shepherd of tile `unit`, 1 a hub control core, 2 the router and 3 the memory controller of tile `unit`: core faults; 4 is a
read of pen `unit`, whose job takes exception 0x12; 5 a control core's read of a structure with a CRC of its own, which the
next command that reads it refuses as its CRC fails (log entry 147). -/
def execUncorrectableEccError (site : Fin 6) (unit address : Nat) (s : State) : Res :=
  if site.val = 5 then
    .next { s.log 0x7024 srcHub address with badWords := if s.badWords.contains address then s.badWords else s.badWords ++ [address] }
  else if site.val = 1 then .next (if s.boot.hubUp then (s.log 0x7024 srcHub address).hubFault else s)
  else if site.val = 4 then
    let t := tileOf unit
    let s := (s.count 0x7055 (t + 1) 1).log 0x7024 t address
    .next (if unit < 1024 ∧ (s.tile t).flockOn then s.except unit (s.pen unit).order (s.pen unit).pc 0x12 0 else s)
  else if unit ≥ 64 ∨ !(s.tile unit).tileOn then .next s
  else
    let s := (s.count 0x7055 (unit + 1) 1).log 0x7024 unit address
    .next (if site.val = 0 then s.flockOff unit else s.tileOff unit)

/-! ## The keeper's switch-offs (R371, R372) -/

/-- The VL rails of every sled go off: lasers dark, every link DOWN. -/
def State.lasersOff (s : State) : State :=
  let s := upTo 12 s fun n s =>
    let s := upTo 18 s fun line s =>
      (s.modLaser n line fun l => { l with state := if l.state < 2 then 4 else l.state }).darken n line
    s.modOe n fun o => { o with vlOn := false, cal := none }
  let s := upTo 96 s fun f s => s.linkDown f
  { s with boot := { s.boot with lasersOff := true } }

/-- ALL_LASERS_OFF. -/
def execAllLasersOff (slot : Nat) (s : State) : Res :=
  .next (s.keeperCommand slot 0x0F32 fun s => (s.lasersOff.keeperDone 0x0F32, 0))

/-- TILE_POWER_DOWN: flock, then tile domains of the masked tiles. -/
def execTilePowerDown (slot : Nat) (s : State) : Res :=
  .next (s.keeperCommand slot 0x0F34 fun s =>
    let mask := s.gov 0x0F33 0
    if mask = 0 then (s, 0x0F000010)
    else ((upTo 64 s fun t s => if mask.testBit t then s.tileOff t else s).keeperDone 0x0F34, 0))

/-! ## SMBus (R419) -/

/-- SMBUS_STATUS_READ: command 0x00 of Table 19.4. The voltage is in 0.1 V. -/
def execSmbusStatusRead (s : State) : Res :=
  if !s.boot.booted then .next s
  else
    .next (s.send (.smbus (leBytes 1 s.keeperState ++ leBytes 1 s.stage ++ [s.alert] ++ [0#8]
      ++ leBytes 2 (intBits 2 s.hottest) ++ leBytes 2 (s.drover.millivolts / 100)
      ++ (s.nv.serial ++ List.replicate 8 0#8).take 8)))

/-- SMBUS_ALERT_CLEAR: command 0x01, a W1C mask; a wrong PEC discards it. A condition that holds sets its bit again at
the keeper's next reading, which is the next diode read. -/
def execSmbusAlertClear (mask : BitVec 8) (pecGood : Bool) (s : State) : Res :=
  .next (if s.boot.booted && pecGood then { s with alert := s.alert &&& ~~~mask } else s)

/-- SMBUS_ALERT_RESPONSE: while SMB_ALERT_N is asserted, the target answers 0x0C with its address and bit 0 clear. -/
def execSmbusAlertResponse (s : State) : Res :=
  .next (if s.boot.booted && s.alert != 0 then s.send (.smbus (leBytes 1 (2 * (0x40 + s.nv.fieldAddr)))) else s)

end Sys2Proof.Machine
end

