-- ==== Sys2Proof/Machine/Segments.lean ====
section
/-! DEFINITION. Values longer than one record: their segments and the holds of their reads (R316). -/

namespace Sys2Proof.Machine

/-- The assembly under way of an object. -/
def State.assembly (s : State) (index sub : Nat) : Option Assembly :=
  tabGet (fun _ => none) s.dict.assemblies (objKey index sub)

/-- Replace it. -/
def State.setAssembly (s : State) (index sub : Nat) (a : Option Assembly) : State :=
  { s with dict := { s.dict with assemblies := tabSet (fun _ => none) s.dict.assemblies (objKey index sub) a } }

/-- The update state follows the image's assembly, unless an install runs (Table 18.2). -/
def State.noteImage (s : State) (index n : Nat) : State :=
  if index = 0x0F50 then
    { s with sec := { s.sec with updState := if s.sec.installing then s.sec.updState else n, heldImage := none } }
  else s

/-- An assembly is given up. -/
def State.dropAssembly (s : State) (index sub : Nat) : State :=
  if (s.assembly index sub).isSome then (s.setAssembly index sub none).noteImage index 0 else s

/-- A segment of a STR or BLOB (R316): the checks of R321 up to the access class, then its place in the assembly; the
LAST one hands the whole value to `finish`, which answers. `own` is a check of the slot. -/
def State.writeSegment (s : State) (slot index sub offset : Nat) (last : Bool) (data : List Byte) (own : State → Nat)
    (finish : State → List Byte → State) : State :=
  match s.authority slot with
  | none => s.discardAuth
  | some a =>
    match s.mopCheck a opWrite index sub, objectRow index sub with
    | some ab, _ => s.answer slot opWrite index sub ab
    | none, none => s.answer slot opWrite index sub 0x10000003
    | none, some r =>
      let refuse (s : State) (ab : Nat) := s.answer slot opWrite index sub ab
      let before := match s.assembly index sub with | some x => x.data | none => []
      let value := if offset = 0 then data else before ++ data
      if !r.type.isBytes || decide (data.length > 1024) then refuse s 0x10000005
      else if r.access = .rws ∧ s.tick.running then refuse s 0x10000007
      else if (s.assembly index sub).any fun x => x.slot != slot then refuse s 0x1000000B
      else if own s ≠ 0 then refuse s (own s)
      else if offset ≠ 0 ∧ ((s.assembly index sub).isNone ∨ offset ≠ before.length) then
        refuse (s.dropAssembly index sub) 0x1000000C
      else if decide ((value.length : Int) > r.max) then refuse (s.dropAssembly index sub) 0x10000005
      else
        let s := if offset = 0 then s.noteImage index 1 else s
        if last then finish (s.setAssembly index sub none) value
        else (s.setAssembly index sub (some { slot := slot, data := value, last := s.clock })).answerWrite slot index sub 0

/-- ASSEMBLY_TIMEOUT: no segment for 10 s; event 0x1004. -/
def execAssemblyTimeout (index sub : Nat) (s : State) : Res :=
  .next (if (s.assembly index sub).isSome then (s.dropAssembly index sub).log 0x1004 srcHub (objKey index sub) else s)

/-- Whether a hold is that of a key slot on an object. -/
def holdOf (slot index sub : Nat) (e : Nat × Nat × Nat × List Byte × Nat) : Bool :=
  e.1 == slot && e.2.1 == index && e.2.2.1 == sub

/-- The version of a value that a segmented read of a key slot holds. -/
def State.heldValue (s : State) (slot index sub : Nat) : Option (List Byte) :=
  (s.dict.holds.find? (holdOf slot index sub)).map fun e => e.2.2.2.1

/-- A hold ends. -/
def State.endHold (s : State) (slot index sub : Nat) : State :=
  { s with dict := { s.dict with holds := s.dict.holds.filter fun e => !holdOf slot index sub e } }

/-- A hold begins. -/
def State.beginHold (s : State) (slot index sub : Nat) (b : List Byte) : State :=
  { s with dict := { s.dict with
    holds := (s.dict.holds.filter fun e => !holdOf slot index sub e) ++ [(slot, index, sub, b, s.clock)] } }

/-- READ_HOLD_TIMEOUT: 10 s after the read at OFFSET 0. -/
def execReadHoldTimeout (slot index sub : Nat) (s : State) : Res := .next (s.endHold slot index sub)

/-- STAGING_TIMEOUT (R308): no write to the group for the staging timeout; event 0x1002. -/
def execStagingTimeout (tickGroup : Bool) (s : State) : Res :=
  let c := if tickGroup then 0x2003 else 0xA032
  .next (if (s.group c).staged.isEmpty then s else (s.setGroup c {}).log 0x1002 srcHub c)

end Sys2Proof.Machine
end

