-- ==== Sys2Proof/Machine/Security.lean ====
section
/-! DEFINITION. Firmware update, key slots, attestation, lifecycle, and the stile (R389–R405). -/

namespace Sys2Proof.Machine

/-! ## Firmware image and install (R390–R392) -/

/-- The image and the install are the owner's alone (R390). -/
def ownerOnly (slot : Nat) (s : State) : Nat := if s.authority slot = some 3 then 0 else 0x90000010

/-- The whole image has arrived: verified and held, or discarded (R390). -/
def State.takeImage (s : State) (slot : Nat) (img : List Byte) : State :=
  let step := s.verifyImage img
  if step = 0 then
    ({ s with sec := { s.sec with
      heldImage := some img, updState := if s.sec.installing then 3 else 2, updFail := 0 } }).answerWrite slot 0x0F50 0 0
  else
    ({ s with sec := { s.sec with
      heldImage := none, updState := if s.sec.installing then 3 else 0, updFail := step } }).answer slot opWrite
        0x0F50 0 0x90000010

/-- FIRMWARE_IMAGE_WRITE. -/
def execFirmwareImageWrite (slot offset : Nat) (last : Bool) (data : List Byte) (s : State) : Res :=
  .next (s.writeSegment slot 0x0F50 0 offset last data (ownerOnly slot) fun s img => s.takeImage slot img)

/-- INSTALL_IMAGE (R391): the board store takes the held image. -/
def execInstallImage (slot : Nat) (s : State) : Res :=
  .next (s.keeperCommand slot 0x0F51 fun s =>
    match s.sec.heldImage with
    | some img =>
      if ownerOnly slot s ≠ 0 ∨ s.sec.installing then (s, 0x90000010)
      else ({ s with sec := { s.sec with store := img, installing := true, updState := 3 } }, 0)
    | none => (s, 0x90000010))

/-- What the install held back happens now (R391). -/
def State.afterInstall (s : State) : State :=
  match s.boot.resetDue with
  | some c => (if s.boot.resetAsked then s.keeperDone 0x0F30 else s).resetModule c
  | none => if s.boot.powerOffDue then s.powerOff else s

/-- The update state when an install has ended, `idle` where no image is held and none is being sent (Table 18.2): an image sent
while it ran is held or in assembly still (log entry 143). -/
def State.updAfter (s : State) (idle : Nat) : Nat :=
  if s.sec.heldImage.isSome then 2 else if (s.assembly 0x0F50 0).isSome then 1 else idle

/-- INSTALL_COMPLETE: the read-back matched, or did not, or the store did not answer. -/
def execInstallComplete (matched answered : Bool) (s : State) : Res :=
  if !s.sec.installing then .next s
  else
    let good := matched && answered
    let s := if good then
        { s.log 0x9002 srcKeeper 0 with sec := { s.sec with
          installing := false, heldImage := if s.sec.heldImage = some s.sec.store then none else s.sec.heldImage, updFail := 0 } }
      else { s with sec := { s.sec with installing := false, store := [], updFail := if answered then 5 else 6 } }
    let s := { s with sec := { s.sec with updState := s.updAfter (if good then 4 else 0) } }
    let s := if good && s.keeperState == 1 then { s with boot := { s.boot with restartDue := some 8 } } else s
    .next s.afterInstall

/-- RAISE_FLOOR (R392): fuses are blown up to the running image's version. -/
def execRaiseFloor (slot : Nat) (s : State) : Res :=
  .next (s.command slot 0x9006 0 fun s =>
    if s.sec.runSvn ≤ s.nv.svnFuses then (s, 0x90000010)
    else ({ s.log 0x9007 srcKeeper s.sec.runSvn with nv := { s.nv with svnFuses := s.sec.runSvn } }, 0))

/-! ## Key slots (R393) -/

/-- The key that an install brings: wrapped under the sender's key, or in clear while every slot is empty. -/
def State.newKey (s : State) (slot : Nat) (data : List Byte) : Option (List Byte) :=
  let k := data.drop 1
  if k.length = 32 then (if s.noKeys then some k else none)
  else if (s.keySlot slot).authority = 0 then none
  else keyUnwrap (s.keySlot slot).key k

/-- The rule of R393 on an install. -/
def keyRule (slot : Nat) (data : List Byte) (s : State) : Nat :=
  let a := (data.headD 0).toNat
  if data.length ≠ 33 ∧ data.length ≠ 41 then 0x10000005
  else if a = 0 ∨ a > 3 ∨ (s.newKey slot data).isNone then 0x90000010
  else 0

/-- KEY_INSTALL: the slot's replay state starts again; event 0x9004. -/
def execKeyInstall (slot : Nat) (target : Fin 8) (data : List Byte) (s : State) : Res :=
  let t := target.val + 1
  .next (s.writeWith slot 0x9003 t (.bytes data) (keyRule slot data) fun s _ =>
    match s.newKey slot data with
    | some k =>
      ((s.putSlot t (data.headD 0).toNat k).log 0x9004 srcKeeper t).answerWrite slot 0x9003 t 0
    | none => s.answer slot opWrite 0x9003 t 0x90000010)

/-- Key slots of owner authority. -/
def State.owners (s : State) : Nat := (s.dict.keys.filter fun e => e.2.authority == 3).length

/-- KEY_CLEAR: not the sender's slot, and not the last owner's. -/
def execKeyClear (slot : Nat) (target : Fin 8) (s : State) : Res :=
  let t := target.val + 1
  .next (s.command slot 0x9004 t fun s =>
    if t = slot ∨ ((s.keySlot t).authority = 3 ∧ s.owners = 1) then (s, 0x90000010)
    else ((s.putSlot t 0 []).log 0x9004 srcKeeper t, 0))

/-! ## Attestation (R396, R397) -/

/-- MODELS: the digest of the sixteen model records. -/
def State.modelsDigest (s : State) : List Byte :=
  sha256 ((List.range 16).flatMap fun i =>
    let m := s.model i
    leBytes 8 m.modelid ++ leBytes 4 m.icrc ++ leBytes 1 m.state ++ List.replicate 3 0#8)

/-- The report (Table 18.3). -/
def State.report (s : State) (nonce : List Byte) : List Byte :=
  leBytes 4 0x54535441 ++ leBytes 2 1 ++ leBytes 1 s.nv.lifecycle ++ leBytes 1 s.sec.runSvn ++ leBytes 4 (s.num 0x0F05 0)
    ++ leBytes 4 0 ++ leBytes 2 (s.num 0x1002 0) ++ leBytes 2 (s.num 0x1003 0) ++ leBytes 2 (s.num 0x1004 0) ++ leBytes 2 0
    ++ ((List.range 8).map fun i => BitVec.ofNat 8 (s.keySlot (i + 1)).authority) ++ leBytes 8 (s.num 0x1008 0)
    ++ leBytes 8 (if s.tick.running then s.epoch else 0) ++ (s.nv.serial ++ List.replicate 16 0#8).take 16 ++ s.sec.runDigest
    ++ s.modelsDigest ++ nonce

/-- Signatures that the device key can still make. -/
def State.signaturesLeft (s : State) : Nat := 2 ^ 40 - s.nv.leaves

/-- An attestation takes its leaf: the next tree where the active one is spent, and a new block where the last is used up. -/
def State.takeLeaf (s : State) : State :=
  let s := if s.sec.treeLeft = 0 then { s with sec := { s.sec with treeLeft := 2 ^ 20, nextTree := false } } else s
  let s := if s.nv.leaves ≥ s.nv.leafBlockEnd then { s with nv := { s.nv with leafBlockEnd := s.nv.leaves + 64 } } else s
  let s := { s with
    nv := { s.nv with leaves := s.nv.leaves + 1 }
    sec := { s.sec with treeLeft := s.sec.treeLeft - 1 } }
  if s.sec.treeLeft ≤ 2 ^ 16 ∧ !s.sec.nextTree ∧ !s.sec.generating then { s with sec := { s.sec with generating := true } } else s

/-- ATTEST: the report is built and signing starts, or the attestation is refused. -/
def execAttest (slot : Nat) (s : State) : Res :=
  .next (s.command slot 0x9011 0 fun s =>
    if s.sec.attState = 1 then (s, 0x90000010)
    else match s.sec.nonce with
      | some n =>
        if s.nv.lifecycle ≠ 1 ∨ s.nv.deviceKey.isNone ∨ s.signaturesLeft = 0 ∨ (s.sec.treeLeft = 0 ∧ !s.sec.nextTree) then
          ({ s with sec := { s.sec with attState := 3 } }, 0x90000010)
        else
          let s := s.takeLeaf
          ({ s with sec := { s.sec with nonce := none, attState := 1, attReport := s.report n } }, 0)
      | none => ({ s with sec := { s.sec with attState := 3 } }, 0x90000010))

/-- The device key's signature with the leaf last taken: the keeper unwraps seed and identifier to use them (R387, R395). -/
def State.deviceSign (s : State) (msg : List Byte) : List Byte :=
  match s.nv.deviceKey with
  | some (seed, id) => hssSign ((keyUnwrap s.kek seed).getD []) (((keyUnwrap s.kek id).getD []).take 16) (s.nv.leaves - 1) msg
  | none => []

/-- ATTESTATION_COMPLETE: report and signature are placed; event 0x9005 once when few signatures remain. -/
def execAttestationComplete (s : State) : Res :=
  if s.sec.attState ≠ 1 then .next s
  else
    let s := { s with sec := { s.sec with attState := 2, attResult := s.sec.attReport ++ s.deviceSign s.sec.attReport } }
    .next (if s.signaturesLeft < 2 ^ 20 ∧ !s.sec.lowLogged then
      { s.log 0x9005 srcKeeper s.signaturesLeft with sec := { s.sec with lowLogged := true } } else s)

/-- TREE_GENERATION_COMPLETE. -/
def execTreeGenerationComplete (s : State) : Res :=
  .next (if s.sec.generating then { s with sec := { s.sec with generating := false, nextTree := true } } else s)

/-! ## Lifecycle (R398, R399) -/

/-- The state that a good token names: this module, this boot, a transition of Table 18.4. -/
def State.tokenTarget (s : State) : Option Nat :=
  let t := s.sec.token
  let m := t.take 32
  let target := (m.getD 16 0).toNat
  if t.length = 3636 ∧ m.take 16 = s.nv.serial ∧ leNat (slice m 17 3) = 0 ∧ leNat (slice m 20 4) = s.num 0x0F05 0
    ∧ leNat (slice m 24 8) = 0 ∧ target = s.nv.lifecycle + 1 ∧ target ≤ 2 ∧ digestBits Config.serviceKey = s.nv.svcRoot
    ∧ hssVerify Config.serviceKey m (t.drop 32) then
    some target
  else none

/-- The lifecycle fuses take a count; the stored secrets are wrapped again under the key that follows them (R387; DEDUCED, log entry
143). -/
def State.setLifecycle (s : State) (l : Nat) : State :=
  let t := { s with nv := { s.nv with lifecycle := l } }
  let again (w : List Byte) : List Byte := match keyUnwrap s.kek w with | some k => keyWrap t.kek k | none => w
  { t with nv := { t.nv with
    slots := t.nv.slots.map fun e => (e.1, e.2.map fun x => (x.1, again x.2))
    deviceKey := t.nv.deviceKey.map fun x => (again x.1, again x.2) } }

/-- LIFECYCLE_TRANSITION: RETURN erases every secret first; it takes effect through a module reset. -/
def execLifecycleTransition (slot : Nat) (s : State) : Res :=
  .next (s.command slot 0x9024 0 fun s =>
    match s.tokenTarget with
    | none => (s, 0x90000010)
    | some l =>
      let s := if l = 2 then { s with dict := { s.dict with keys := [] }, nv := { s.nv with deviceKey := none, slots := [] } } else s
      let s := (s.log 0x9006 srcKeeper l).setLifecycle l
      (s.askReset 2, 0))

/-! ## The stile (R403, R404) -/

/-- NOTIFY frames of the second under way. -/
def OeSt.notifiesNow (o : OeSt) (second : Nat) : Nat := if o.notifySecond = second then o.notifies else 0

/-- The cause of a violation, by Table 18.7; none where the frame is accepted. A matching answer comes within 100 µs of a
request to that OE of its kind. -/
def State.frameCause (s : State) (n : Nat) (f : OeFrame) : Option Nat :=
  let o := s.oe n
  if f.opc ≠ 0x81 ∧ f.opc ≠ 0x82 ∧ f.opc ≠ 0xC0 then some 1
  else if f.rsv ≠ 0 ∨ f.addr ≠ 0 then some 5
  else if f.len > 64 ∨ f.data.length ≠ f.len then some 2
  else if f.opc = 0xC0 then
    if o.notifiesNow (s.clock / 2000000000) ≥ 65536 then some 3 else none
  else if o.requests.any fun e => e.1 == f.tag && e.2.1 == f.opc - 0x80 && decide (s.clock ≤ e.2.2 + 200000) then none
  else some 4

/-- A violation (R404): counted; for an admitted OE logged, with its cause, and a re-qualification or a withdrawal. -/
def State.violate (s : State) (n cause : Nat) : State :=
  let s := s.modOe n fun o => { o with violations := (o.violations + 1) % 2 ^ 16 }
  if !(s.oe n).admitted then s
  else
    let s := s.log 0x9003 (srcOe n) cause
    let s := s.modOe n fun o =>
      { o with lastCause := cause
               violTimes := s.clock :: o.violTimes.filter fun t => decide (s.clock ≤ t + 3600 * 2000000000) }
    if (s.oe n).violTimes.length ≥ 3 then (s.rejectOe n 0).modOe n fun o => { o with withdrawn := true }
    else if (s.oe n).requalPending || (s.oe n).requalifying then s
    else s.modOe n fun o => { o with requalPending := true }

/-- OE_CONTROL_FRAME: accepted, or a violation; before admission every frame is one. -/
def execOeControlFrame (oe : Fin 12) (f : OeFrame) (s : State) : Res :=
  let n := oe.val
  match s.frameCause n f with
  | some c => .next (s.violate n c)
  | none =>
    if !(s.oe n).admitted then .next (s.violate n 0)
    else if f.opc = 0xC0 then
      let second := s.clock / 2000000000
      .next (s.modOe n fun o =>
        { o with mailbox := o.mailbox ++ [f.data], notifies := o.notifiesNow second + 1, notifySecond := second })
    else .next (s.modOe n fun o => { o with requests := o.requests.filter fun e => e.1 != f.tag })

/-- OE_RESPONSE_TIMEOUT: the request is no longer outstanding. -/
def execOeResponseTimeout (oe : Fin 12) (tag : Nat) (s : State) : Res :=
  .next (s.modOe oe fun o => { o with requests := o.requests.filter fun e => e.1 != tag })

end Sys2Proof.Machine
end

