-- ==== Sys2Proof/Machine/Tap.lean ====
section
/-! DEFINITION. The test access port and the stand-alone test mode (R343–R346, R400). Log entry 63 says what is shifted
out, and which values of DTEST count as reserved. -/

namespace Sys2Proof.Machine

/-- The bits of a data register, least significant first. -/
def shiftOut (n v : Nat) : List Bool := (List.range n).map v.testBit

/-- An instruction is in force and its data register is shifted out; the pins are driven only as it says. -/
def State.tapSelect (s : State) (ir : BitVec 8) (driving highz : Bool) (bits : List Bool) : State :=
  { s with tap := { s.tap with ir := ir, driving := driving, highz := highz } }.send (.tdo bits)

/-- The bypass register is selected. -/
def State.tapBypass (s : State) : State := s.tapSelect 0xFF false false [false]

/-- An instruction on the port, which the keeper's rail feeds (R345): outside its gating it acts as BYPASS with event
0x1016. -/
def State.tapDo (s : State) (open_ : Bool) (f : State → State) : State :=
  if !s.boot.vkUp then s
  else if open_ then f s
  else (s.log 0x1016 srcKeeper 0).tapBypass

/-- Lifecycle states that count as debug-open (R400): BLANK and RETURN. -/
def State.debugOpen (s : State) : Bool := s.nv.lifecycle == 0 || s.nv.lifecycle == 2

/-- The instructions of Table 15.10; every other opcode acts as BYPASS. -/
inductive TapOp where
  | extest | idcode | samplePreload | clamp | highz | dtest | dstat | bypass
deriving DecidableEq, Repr

/-- The instruction of an opcode (Table 15.10). -/
def tapOp (opcode : BitVec 8) : TapOp :=
  match opcode.toNat with
  | 0x00 => .extest
  | 0x01 => .idcode
  | 0x02 => .samplePreload
  | 0x03 => .clamp
  | 0x04 => .highz
  | 0x20 => .dtest
  | 0x21 => .dstat
  | _ => .bypass

/-- BYPASS: 0xFF, and every opcode that names no other instruction (R346); one that names another is that row's command. -/
def execBypass (opcode : BitVec 8) (s : State) : Res :=
  if tapOp opcode ≠ .bypass then .next s else .next (s.tapDo true fun s => s.tapSelect opcode false false [false])

/-- IDCODE (R345). -/
def execIdcode (s : State) : Res := .next (s.tapDo true fun s => s.tapSelect 0x01 false false (shiftOut 32 0x1646445B))

/-- SAMPLE/PRELOAD: the pins as captured go out, the loaded bits stay in the boundary register. -/
def execSamplePreload (captured loaded : BitVec 21) (s : State) : Res :=
  .next (s.tapDo true fun s =>
    let s := s.tapSelect 0x02 false false (shiftOut 21 captured.toNat)
    { s with tap := { s.tap with boundary := loaded } })

/-- EXTEST: the boundary register drives the pins while MODRST_N is held. -/
def execExtest (s : State) : Res :=
  .next (s.tapDo s.boot.modrstLow fun s => s.tapSelect 0x00 true false (shiftOut 21 s.tap.boundary.toNat))

/-- CLAMP: the pins hold the boundary register, bypass selected. -/
def execClamp (s : State) : Res := .next (s.tapDo s.boot.modrstLow fun s => s.tapSelect 0x03 true false [false])

/-- HIGHZ: the outputs float, bypass selected. -/
def execHighz (s : State) : Res := .next (s.tapDo s.boot.modrstLow fun s => s.tapSelect 0x04 false true [false])

/-! ## Stand-alone test mode -/

/-- The mode is entered: event 0x1015, bring-up is held (R343). -/
def State.enterTest (s : State) : State :=
  if s.tap.testMode then s
  else { s.log 0x1015 srcKeeper 0 with tap := { s.tap with testMode := true } }

/-- A die in the mode takes no part in module operation (R343): a tile's domains go off, an OE's links, or with the hub all of them
and the hub's answers (log entry 146). -/
def State.enterDie (s : State) (die id : Nat) : State :=
  if s.tap.testDies.contains (die, id) then s
  else
    let s := { s with tap := { s.tap with testDies := s.tap.testDies ++ [(die, id)] } }
    if die = 0 then s.tileOff id
    else if die = 1 then
      let s := upTo 96 s fun f s => s.linkDown f
      { s with
        boot := { s.boot with hubAnswering := false }
        tick := { s.tick with stopReq := true } }
    else (forEach (oeFibers id) s fun f s => s.linkDown f).modOe id fun o => { o with admitted := false }

/-- DTEST names no pattern, die, port or id that Table 15.8 reserves. -/
def dtestValid (v : Nat) : Bool :=
  let die := field v 6 2
  let port := field v 16 4
  let id := field v 0 6
  let slice := field v 14 2
  field v 29 2 != 3
    && (if die = 0 then decide (port < 4)
        else if die = 1 then id == 0 && (decide (port < 8) || (decide (port < 12) && decide (slice < 3)))
        else if die = 2 then decide (id < 12) && decide (port < 9)
        else false)

/-- The tile port that a DTEST word names, by package direction: DP numbers stand for it by the tile's ROT bit (R14). -/
def State.dtestPort (s : State) (v : Nat) : Option (Nat × Nat) :=
  if field v 6 2 = 0 then some (field v 0 6, packageSide ((s.tile (field v 0 6)).strap.getLsbD 6) (field v 16 4)) else none

/-- DTEST (R343, R344): the register goes out as it was; GO starts the loopback; a reserved value is refused in DSTAT. -/
def execDtest (value : BitVec 32) (s : State) : Res :=
  .next (s.tapDo s.debugOpen fun s =>
    let s := (s.tapSelect 0x20 false false (shiftOut 32 s.tap.dtest.toNat)).enterTest
    let v := value.toNat
    let s := { s with tap := { s.tap with dtest := value &&& 0x70FFC0FF#32 } }
    if !dtestValid v then { s with tap := { s.tap with dstat := 0xE0000000 } }
    else
      let s := s.enterDie (field v 6 2) (field v 0 6)
      if v.testBit 31 then { s with tap := { s.tap with dstat := 0, dtestRunning := true, port := s.dtestPort v } } else s)

/-- DSTAT. -/
def execDstat (s : State) : Res :=
  .next (s.tapDo s.debugOpen fun s => s.tapSelect 0x21 false false (shiftOut 32 s.tap.dstat.toNat))

/-- DTEST_COMPLETE: the run's result; a pass names no wire. -/
def execDtestComplete (result : Fin 3) (nfail first : Nat) (s : State) : Res :=
  if !s.tap.dtestRunning then .next s
  else
    let wires := if result.val = 0 then 0 else min nfail 130 * 2 ^ 8 + first % 2 ^ 8
    .next { s with tap := { s.tap with
      dtestRunning := false, port := none, dstat := BitVec.ofNat 32 (2 ^ 31 + result.val * 2 ^ 29 + wires) } }

end Sys2Proof.Machine
end

