-- ==== Sys2Proof/Machine/Owners.lean ====
section
/-! DEFINITION. What each object reads as, and the owner's rule and command of each object (R302, R306, and the object
tables of the chapters). -/

namespace Sys2Proof.Machine

/-! ## Values -/

/-- A shutdown record's 32 bytes (Table 07.6). -/
def ShutdownRecord.toBytes (r : ShutdownRecord) : List Byte :=
  let b := leBytes 4 0 ++ leBytes 2 r.seq ++ leBytes 1 0 ++ leBytes 1 r.cause ++ leBytes 2 r.node ++ leBytes 2 (intBits 2 r.test)
    ++ leBytes 2 (intBits 2 r.dmax) ++ leBytes 2 r.pin ++ leBytes 4 r.uptime ++ leBytes 8 r.epoch
  leBytes 4 (crc32c b) ++ b

/-- A ring of `n` event records, each at 32 × (SEQ mod n); those never written read as zeros (R323). -/
def eventRing (n : Nat) (l : List Event) : List Byte :=
  (List.range n).flatMap fun i => match l.find? fun e => e.seq % n == i with
    | some e => e.toBytes
    | none => List.replicate 32 0#8

/-- A string of stated length. -/
def fixedBytes (n : Nat) (b : List Byte) : List Byte := (b ++ List.replicate n 0#8).take n

/-- Rails in the order of Table 17.3. -/
def railIds : List Nat :=
  List.range 130 ++ (List.range 12).map (0x90 + ·) ++ (List.range 12).map (0xA0 + ·) ++ (List.range 32).map (0xC0 + ·)

/-- A ring's status word (Table 08.5). -/
def RingSt.word (r : RingSt) : Nat :=
  r.state % 16 + r.fails % 4 * 2 ^ 12 + r.tone % 32 * 2 ^ 14 + r.heat % 2 ^ 13 * 2 ^ 19

/-- A lane's status word (Table 09.8). -/
def LaneSt.word (l : LaneSt) (rx : Bool) : Nat :=
  l.state % 16 + l.lane % 32 * 2 ^ 8 + (if rx then intBits 1 l.skew * 2 ^ 16 else 0) + l.margin % 256 * 2 ^ 24

/-- A fiber's state (object 0x5012). -/
def FiberSt.byte (f : FiberSt) : Nat :=
  f.txState % 4 + (if f.shutterClosed then 4 else 0) + f.rxState % 4 * 8 + if f.los then 32 else 0

/-- Receive condition (object 0x5016): loss of lock, training. -/
def FiberSt.condition (f : FiberSt) : Nat := (if f.rxLossOfLock then 1 else 0) + if f.training then 2 else 0

/-- Treads since the clean point, the worst pen of a tile (object 0x7057). -/
def State.sinceClean (s : State) (t : Nat) : Nat :=
  if s.tick.running then ((List.range 16).map fun i => s.epoch - (s.pen (gpen t i)).clean).foldl max 0 else 0

/-- Stile status (Table 18.7). -/
def OeSt.stile (o : OeSt) : Nat :=
  (if o.withdrawn then 2 else if o.admitted then 1 else 0) + o.lastCause * 2 ^ 8 + o.violations * 2 ^ 16

/-- Die capability words: hub, tiles, OEs; 0 where absent (R340). -/
def State.capabilityWords (s : State) : List Byte :=
  leBytes 8 (if s.boot.hubUp then 1 else 0)
    ++ (List.range 64).flatMap (fun t => leBytes 8 (if (s.tile t).tileOn then (s.tile t).capability.toNat else 0))
    ++ (List.range 12).flatMap fun n => leBytes 8 (if (s.oe n).admitted then (s.oe n).capability.toNat else 0)

/-- Checked and errored bits of the PRBS checker, with those of a lock that lasts (R219). -/
def State.checkedBits (s : State) : Nat := (s.num 0xF055 0 + s.lockBits 0) % 2 ^ 64
def State.erroredBits (s : State) : Nat := (s.num 0xF054 0 + s.lockErrors (s.lockBits 0)) % 2 ^ 32

/-- Where an object of OE tables lies: global fiber and line, from the OE and the subindex. -/
def laneSub (oe sub : Nat) : Nat × Nat := (8 * oe + (sub - 1) / 18, (sub - 1) % 18)

/-- A tile's count of parity errors or of corrected errors: those of every hub cycle since the hub started, modulo 2³²
(R104, R349, R370; log entry 105). -/
def State.errorCount (s : State) (index sub : Nat) : Nat :=
  if !s.boot.hubUp then 0
  else ((List.range (s.clock - s.boot.hubStart)).map fun i => Config.smallErrors index sub (s.boot.hubStart + i)).sum % 2 ^ 32

/-- Flight state (object 0x2042): 2 while the module is quiet (R258), but for a flight just built, whose state 4 stands until
the first tick (R250). -/
def State.flightState (s : State) : Nat := let n := s.num 0x2042 0; if s.gallery.quiet && n != 4 then 2 else n

/-- The identity record before the keeper has written it: its reset values (Table 16.7). -/
def State.blankIdentity (s : State) : List Byte := leBytes 16 (2 ^ 40) ++ (s.nv.serial ++ List.replicate 16 0#8).take 16

/-- Keeper, identity, tick and drover objects whose home is not `objs`. -/
def State.valueA (s : State) (index : Nat) : Option Value :=
  match index with
  | 0x0F10 => some (.bytes (eventRing 65536 s.events))
  | 0x0F11 => some (.num s.nextSeq)
  | 0x0F12 => some (.bytes (eventRing 8192 s.nv.log))
  | 0x0F21 => some (.bytes (s.drover.records.flatMap ShutdownRecord.toBytes))
  | 0x0F40 => if (s.blob 0x0F40 0).isEmpty then some (.bytes s.blankIdentity) else none
  | 0x0F52 => some (.num (s.sec.updState + s.sec.updFail * 2 ^ 8))
  | 0x1001 => some (.bytes (fixedBytes 16 s.nv.serial))
  | 0x1005 => some (.bytes (("MLC-PN64-A".toList).map fun c => BitVec.ofNat 8 c.toNat))
  | 0x100D => some (.bytes s.capabilityWords)
  | 0x2006 => some (.num s.tickState)
  | 0x200E => some (.num s.interlock)
  | 0x2042 => some (.num s.flightState)
  | 0x3010 => some (.num (if s.boot.modrdy then (ratF32 s.targetMhz).toNat else 0))
  | 0x3014 => some (.bytes (fixedBytes 256 (s.nv.vf.flatMap fun e => leBytes 2 e.1 ++ leBytes 2 e.2)))
  | 0x3015 => some (.bytes (railIds.flatMap fun r => leBytes 4 (ratF32 (s.eff r)).toNat))
  | 0x6041 => some (.bytes (leBytes 32 (s.windowAt (s.gov 0x6040 0)).toNat))
  | 0xB00A => some (.num (s.occupancy false))
  | 0xB012 => some (.num s.service.sessions.length)
  | 0xF054 => some (.num s.erroredBits)
  | 0xF055 => some (.num s.checkedBits)
  | _ => none

/-- Optical, lane, link, tile and model objects, by subindex. -/
def State.valueB (s : State) (index sub : Nat) : Option Value :=
  let f := sub - 1
  let laser := s.laser (f / 18) (f % 18)
  let model := s.model f
  match index with
  | 0x5010 => some (.bytes ((s.fiber f).txMap.map (BitVec.ofNat 8)))
  | 0x5011 => some (.bytes ((s.fiber f).rxMap.map (BitVec.ofNat 8)))
  | 0x5012 => some (.num (s.fiber f).byte)
  | 0x5016 => some (.num (s.fiber f).condition)
  | 0x5020 => some (.num (intBits 2 laser.d))
  | 0x5021 => some (.num (intBits 2 laser.trend))
  | 0x5022 => some (.num (if laser.state ≥ 2 ∨ !(s.oe (f / 18)).vlOn then laser.state else if (s.lanesOf (f / 18) (f % 18)).isEmpty then 1 else 0))
  | 0x5023 => some (.num (s.biasNow (f / 18) (f % 18) % 2 ^ 16))
  | 0x5042 => some (.num ((s.link f).state + if (s.link f).direct && (s.link f).state != 0 then 128 else 0))
  | 0x7053 => some (.num (s.errorCount index sub))
  | 0x7054 => some (.num (s.errorCount index sub))
  | 0x7057 => some (.num (s.sinceClean f))
  | 0x9030 => some (.num (s.oe f).stile)
  | 0xA011 => some (.num (s.stagingFree f))
  | 0xB006 => some (.num model.state)
  | 0xB007 => some (.num (if 2 ≤ model.state ∧ model.state ≤ 4 then s.predict [model] else 0))
  | 0xB008 => some (.num (s.freePositions f))
  | 0xB009 => some (.num model.modelid)
  | _ => none

/-- Security objects. -/
def State.valueC (s : State) (index sub : Nat) : Option Value :=
  match index with
  | 0x9000 => some (.num s.nv.lifecycle)
  | 0x9001 => some (.num (s.keySlot sub).authority)
  | 0x9002 => some (.num (s.keySlot sub).h)
  | 0x9005 => some (.num s.nv.svnFuses)
  | 0x9007 => some (.num s.sec.runSvn)
  | 0x9008 => some (.bytes (fixedBytes 32 s.sec.runDigest))
  | 0x9012 => some (.bytes s.sec.attResult)
  | 0x9013 => some (.num s.sec.attState)
  | 0x9014 => some (.num s.signaturesLeft)
  | 0x9015 => some (.bytes (fixedBytes 60 s.nv.devicePub))
  | 0x9016 => some (.bytes (fixedBytes 3680 s.nv.certificate))
  | _ => none

/-- Objects with an index for each OE or tally unit. -/
def State.valueD (s : State) (index sub : Nat) : Option Value :=
  let oe := index % 16
  let x := laneSub oe sub
  let u := index - 0x8100
  if 0x5100 ≤ index ∧ index ≤ 0x510B then some (.num (s.ring (ringAt false x.1 x.2)).word)
  else if 0x5110 ≤ index ∧ index ≤ 0x511B then some (.num (s.ring (ringAt true x.1 x.2)).word)
  else if 0x5200 ≤ index ∧ index ≤ 0x520B then some (.num ((s.rxLane x.1 x.2).word true))
  else if 0x5210 ≤ index ∧ index ≤ 0x521B then some (.num ((s.txLane x.1 x.2).word false))
  else if 0x5220 ≤ index ∧ index ≤ 0x522B then some (.num ((s.rxLane x.1 x.2).headerErrors % 2 ^ 32))
  else if 0x5230 ≤ index ∧ index ≤ 0x523B then some (.num ((s.rxLane x.1 x.2).lockLosses % 2 ^ 16))
  else if 0x8100 ≤ index ∧ index ≤ 0x821F then
    if sub = 1 then some (.bytes (s.tally u).configBytes)
    else if sub = 3 then some (.bytes (s.tallySnapshot u))
    else some (.bytes (s.tallyLive u))
  else none

/-- A BLOB or STR that nothing has written reads as zeros of its least length (log entry 10). -/
def padded (r : ObjRow) (v : Value) : Value :=
  if r.type.isBytes then
    let b := match v with | .bytes b => b | .num _ => []
    .bytes (b ++ List.replicate (r.min.toNat - b.length) 0#8)
  else v

/-- The value in force of Index:Sub. -/
def State.valueOf (s : State) (index sub : Nat) (r : ObjRow) : Value :=
  padded r (((((s.valueA index).orElse fun _ => s.valueB index sub).orElse fun _ => s.valueC index sub).orElse fun _ =>
    s.valueD index sub).getD (s.obj index sub))

/-- A member's staged value, if one is staged. -/
def State.stagedOf (s : State) (index sub : Nat) (r : ObjRow) : Option Value :=
  if r.access = .rwg then ((s.group r.group).staged.find? fun e => e.1 == index && e.2.1 == sub).map fun e => e.2.2 else none

/-! ## Writes -/

/-- The state a command leaves; this model's commands neither fault nor refuse. -/
def ran (r : Res) (s : State) : State :=
  match r with
  | .next t => t
  | _ => s

/-- Rules of owners whose objects have no row of their own: reserved lane selectors and PRBS configurations (R220). -/
def ownRule (index : Nat) (v : Value) : Nat :=
  let n := match v with | .num n => n | .bytes _ => 0
  if index = 0xF050 then if n / 2 ^ 13 ≠ 0 ∨ field n 8 4 > 11 ∨ field n 0 5 > 17 then 0xF0000031 else 0
  else if index = 0xF051 then if field n 0 3 > 3 ∨ n / 2 ^ 4 ≠ 0 then 0xF0000031 else 0
  else 0

/-- A write of a whole value to an object without a row of its own. -/
def State.writePlain (s : State) (slot index sub : Nat) (v : Value) : State :=
  s.writeValue slot index sub v fun _ => ownRule index v

/-- A write of a number, by the object's own row where it has one. -/
def State.writeNum (s : State) (slot index sub n : Nat) : State :=
  let f := sub - 1
  if index = 0x3001 ∧ sub = 0 then ran (execPowerCapWrite slot n s) s
  else if h : index = 0x6001 ∧ 1 ≤ sub ∧ f < 4 then ran (execPortModeWrite slot ⟨f, h.2.2⟩ n s) s
  else if (index = 0xB010 ∨ index = 0xB011) ∧ sub = 0 then ran (execRingPoolWrite slot (index == 0xB011) n s) s
  else if (index = 0x6010 ∨ index = 0x6014) ∧ sub = 0 then ran (execPfcMaskWrite slot (index == 0x6014) n s) s
  else if h : (index = 0x5040 ∨ index = 0x5041) ∧ 1 ≤ sub ∧ f < 96 then
    ran (execSpillRegionWrite slot ⟨f, h.2.2⟩ (index == 0x5041) n s) s
  else if h : index = 0x5034 ∧ 1 ≤ sub ∧ f < 5 then ran (execReservedMinimumWrite slot ⟨f, h.2.2⟩ n s) s
  else if index = 0xF057 ∧ sub = 0 ∧ n < 2 ^ 32 then ran (execInjectionWord slot (BitVec.ofNat 32 n) s) s
  else if index = 0xF030 ∧ sub = 0 ∧ n < 2 ^ 32 then ran (execMacFaultInjection slot (BitVec.ofNat 32 n) s) s
  else s.writePlain slot index sub (.num n)

/-- REGISTER_WRITE (R306, R307): a number written to an object, under the rules of its own. -/
def execRegisterWrite (slot index sub value : Nat) (s : State) : Res := .next (s.writeNum slot index sub value)

/-- A write of a whole byte string, by the object's own row where it has one. -/
def State.writeBytes (s : State) (slot index sub : Nat) (b : List Byte) : State :=
  let f := sub - 1
  let u := index - 0x8100
  if index = 0x2030 ∧ sub = 0 then ran (execStagedScheduleWrite slot b s) s
  else if index = 0x2040 ∧ sub = 0 then ran (execMembershipListWrite slot b s) s
  else if index = 0xA030 ∧ sub = 0 then ran (execRegionMapWrite slot b s) s
  else if index = 0x6041 ∧ sub = 0 then ran (execWindowDescriptorWrite slot b s) s
  else if h : 0x8100 ≤ index ∧ sub = 1 ∧ u < 288 then ran (execTallyConfigurationWrite slot ⟨u, h.2.2⟩ b s) s
  else if h : index = 0x9003 ∧ 1 ≤ sub ∧ f < 8 then ran (execKeyInstall slot ⟨f, h.2.2⟩ b s) s
  else s.writePlain slot index sub (.bytes b)

/-! ## Commands -/

/-- What a tile restart finds, where the command does not bring it: its straps, stepping and capability as they were, the
rest a free value (log entry 66). -/
def State.drawChecks (s : State) (t : Nat) : TileChecks × State :=
  let a := s.free
  let b := a.2.free
  let x := s.tile t
  ({ strap := x.strap, rail := a.1.getLsbD 63, badSlices := a.1.setWidth 32, launchDelay := x.launchDelay, stepping := x.stepping
     capability := x.capability, badChannels := b.1.setWidth 6, badPens := (b.1 >>> 16).setWidth 16 }, b.2)

/-- The command of an object. -/
def State.commandOn (s : State) (slot index sub : Nat) : State :=
  let f := sub - 1
  let u := index - 0x8100
  let other (s : State) := s.command slot index sub fun s => (s, 0x10000004)
  match index with
  | 0x0F20 => ran (execThermalReenable slot s) s
  | 0x0F30 => ran (execModuleReset slot s) s
  | 0x0F31 => ran (execPowerOff slot s) s
  | 0x0F32 => ran (execAllLasersOff slot s) s
  | 0x0F34 => ran (execTilePowerDown slot s) s
  | 0x0F51 => ran (execInstallImage slot s) s
  | 0x2003 => ran (execTickGroupCommit slot s) s
  | 0x2020 => ran (execStartTreads slot s) s
  | 0x2021 => ran (execStopTreads slot s) s
  | 0x2046 => ran (execBuildFlight slot s) s
  | 0x5007 => ran (execManualMove slot s) s
  | 0x5048 => if h : f < 96 then ran (execLinkRestore slot ⟨f, h⟩ s) s else other s
  | 0x705D => ran (execPenFence slot s) s
  | 0x705E => ran (execPenRestore slot s) s
  | 0x7060 =>
    let r := s.drawChecks (s.gov 0x705F 0)
    ran (execTileRestart slot r.1 r.2) s
  | 0x8002 => ran (execTallyClearAll slot s) s
  | 0x9004 => if h : f < 8 then ran (execKeyClear slot ⟨f, h⟩ s) s else other s
  | 0x9006 => ran (execRaiseFloor slot s) s
  | 0x9011 => ran (execAttest slot s) s
  | 0x9024 => ran (execLifecycleTransition slot s) s
  | 0xA032 => ran (execRedirectGroupCommit slot s) s
  | 0xB004 => ran (execLoadModel slot s) s
  | 0xB005 => ran (execUnloadModel slot s) s
  | 0xF052 => ran (execPrbsStart slot s) s
  | 0xF053 => ran (execPrbsStop slot s) s
  | _ =>
    if h : 0x8100 ≤ index ∧ sub = 2 ∧ u < 288 then ran (execTallyClear slot ⟨u, h.2.2⟩ s) s
    else other s

end Sys2Proof.Machine
end

