-- ==== Sys2Proof/Machine/Dictionary.lean ====
section
/-! DEFINITION. The MOP operations, one record each, and the datagrams that carry them (R306–R322). -/

namespace Sys2Proof.Machine

/-! ## A record on an object -/

/-- An answer to a key slot. -/
def State.answerWith (s : State) (slot : Nat) (r : Response) : State := s.send (.response slot r)

/-- The steps of R321 that every record on an object shares; then its own part, under the object's row. -/
def State.onObject (s : State) (slot op index sub : Nat) (f : State → ObjRow → State) : State :=
  match s.authority slot with
  | none => s.discardAuth
  | some a =>
    match s.mopCheck a op index sub, objectRow index sub with
    | some ab, _ => s.answer slot op index sub ab
    | none, none => s.answer slot op index sub 0x10000003
    | none, some r => f s r

/-- The type of a record: the object's, or 0 for any where the operation allows it (R321 step 7). -/
def typeOk (r : ObjRow) (type : Nat) (any : Bool) : Bool := type == r.type.code || (any && type == 0)

/-- READ of a number: the value in force, or the staged one where it is asked for and waits. -/
def State.readNum (s : State) (slot index sub : Nat) (r : ObjRow) (staged : Bool) : State :=
  let w := if staged then s.stagedOf index sub r else none
  let n := match w.getD (s.valueOf index sub r) with | .num n => n | .bytes b => leNat b
  let flags := (if r.access = .rw ∧ s.isPending index sub then 1 else 0) + if w.isSome then 4 else 0
  s.answerWith slot
    { op := opRead, index := index, sub := sub, abort := 0, flags := flags, type := r.type.code, data := leBytes r.type.size n }

/-- READ of a STR or BLOB (R316): DLEN bytes from OFFSET, MORE if more follow; the version of the read at OFFSET 0 is held
for the key slot until MORE is clear. -/
def State.readBytes (s : State) (slot index sub : Nat) (r : ObjRow) (offset dlen : Nat) (staged : Bool) : State :=
  let w := if staged then s.stagedOf index sub r else none
  let fresh := match w.getD (s.valueOf index sub r) with | .bytes b => b | .num _ => []
  let whole := if offset = 0 then fresh else (s.heldValue slot index sub).getD fresh
  let data := (whole.drop offset).take dlen
  let more := decide (offset + data.length < whole.length)
  let s := if !more then s.endHold slot index sub else if offset = 0 then s.beginHold slot index sub whole else s
  let flags := (if r.access = .rw ∧ s.isPending index sub then 1 else 0) + (if more then 2 else 0) + if w.isSome then 4 else 0
  s.answerWith slot
    { op := opRead, index := index, sub := sub, abort := 0, flags := flags, type := r.type.code, offset := whole.length
      data := data }

/-- MOP_READ. -/
def execMopRead (slot index sub type offset dlen : Nat) (stagedFlag : Bool) (s : State) : Res :=
  .next (s.onObject slot opRead index sub fun s r =>
    if !typeOk r type true || decide (dlen > 1024) then s.answer slot opRead index sub 0x10000005
    else if r.type.isBytes then s.readBytes slot index sub r offset dlen stagedFlag
    else s.readNum slot index sub r stagedFlag)

/-- MOP_WRITE: a whole number, or a segment of a STR or BLOB. -/
def execMopWrite (slot index sub type offset : Nat) (last : Bool) (data : List Byte) (s : State) : Res :=
  .next (s.onObject slot opWrite index sub fun s r =>
    if !typeOk r type false then s.answer slot opWrite index sub 0x10000005
    else if index = 0x0F50 then ran (execFirmwareImageWrite slot offset last data s) s
    else if r.type.isBytes then
      s.writeSegment slot index sub offset last data (fun _ => 0) fun s whole => s.writeBytes slot index sub whole
    else if data.length ≠ r.type.size then s.answer slot opWrite index sub 0x10000005
    else s.writeNum slot index sub (leNat data))

/-- The 48 bytes of DESCRIBE (Table 14.7). -/
def State.described (s : State) (index : Nat) (r : ObjRow) : List Byte :=
  let wide (v : Int) : List Byte := leBytes 8 (intBits 8 v)
  let base : Int := if index = 0x0F02 then r.default + s.nv.fieldAddr else if r.type.isBytes then 0 else r.default
  leBytes 1 r.type.code ++ leBytes 1 r.access.code ++ leBytes 2 0 ++ leBytes 2 r.group ++ leBytes 2 0 ++ wide r.min ++ wide r.max
    ++ wide base ++ fixedBytes 16 (r.unit.toList.map fun c => BitVec.ofNat 8 c.toNat)

/-- DESCRIBE. -/
def execDescribe (slot index sub type dlen : Nat) (s : State) : Res :=
  .next (s.onObject slot opDescribe index sub fun s r =>
    if !typeOk r type true || dlen != 0 then s.answer slot opDescribe index sub 0x10000005
    else s.answerWith slot { op := opDescribe, index := index, sub := sub, abort := 0, type := r.type.code, data := s.described index r })

/-- DISCARD (R308): the group's staging area is emptied, whichever key slot it is bound to. -/
def execDiscard (slot index sub type dlen : Nat) (s : State) : Res :=
  .next (s.onObject slot opDiscard index sub fun s r =>
    if !typeOk r type false || dlen != 0 then s.answer slot opDiscard index sub 0x10000005
    else (s.setGroup index {}).answer slot opDiscard index sub 0)

/-! ## Memory operations (R317) -/

/-- Where a byte of a tile window's scratch part lies: the pen and the offset. -/
def scratchAt (a : Nat) : Nat × Nat :=
  let o := (a - 0x40000000000) % 0x2000000 - 0x1800000
  (16 * ((a - 0x40000000000) / 0x2000000) + o / 0x80000, o % 0x80000)

/-- A range lies in the pen scratch of one tile window. -/
def inScratch (a n : Nat) : Bool :=
  decide (0x40000000000 ≤ a) && decide (a + n ≤ 0x40080000000) && (a - 0x40000000000) / 0x2000000 == (a + n - 1 - 0x40000000000) / 0x2000000
    && decide ((a - 0x40000000000) % 0x2000000 ≥ 0x1800000)

/-- A byte of LPDDR can be had: not lost, its channel working, its tile on (R317). -/
def State.lpddrOk (s : State) (a : Nat) : Bool :=
  match s.translate a false with
  | .ok b => (s.tile (b / 2 ^ 36)).tileOn && !s.channelBad (b / 2 ^ 36) (b / 2 ^ 33 % 8)
  | .error _ => false

/-- The abort code of a memory range (R317). -/
def State.memRule (s : State) (a n : Nat) : Nat :=
  let tile := (a - 0x40000000000) / 0x2000000
  if inLpddr a n then if s.lpddrOk a && s.lpddrOk (a + n - 1) then 0 else 0xA0000013
  else match s.place a n with
    | some .hub => 0
    | some (.pasture t) => if (s.tile t).flockOn then 0 else 0xA0000013
    | _ =>
      if inScratch a n && !s.tick.running then if (s.tile tile).flockOn then 0 else 0xA0000013
      else 0x1000000E

/-- A memory operation from a key slot: the steps of R321, its length, its range, and its own part. -/
def State.onMemory (s : State) (slot op a n most : Nat) (f : State → State) : State :=
  match s.authority slot with
  | none => s.discardAuth
  | some auth =>
    match s.memCheck auth op with
    | some ab => s.answer slot op 0 0 ab
    | none =>
      if n = 0 ∨ n > most then s.answer slot op 0 0 0x10000005
      else if s.memRule a n ≠ 0 then s.answer slot op 0 0 (s.memRule a n)
      else f s

/-- MEMREAD: the bytes as stored, once the pending writes in the range are complete (R118). -/
def execMemread (slot addr len : Nat) (s : State) : Res :=
  .next (s.onMemory slot opMemread addr len 1024 fun s =>
    let s := s.settleRange addr len
    let data := if inScratch addr len then
        (List.range len).map fun i => tabGet memDefault (s.pen (scratchAt (addr + i)).1).scratch (scratchAt (addr + i)).2
      else s.readThrough addr len
    s.answerWith slot { op := opMemread, index := 0, sub := 0, abort := 0, data := data })

/-- MEMWRITE: an external write, complete when it is answered (R121). -/
def execMemwrite (slot addr : Nat) (data : List Byte) (s : State) : Res :=
  .next (s.onMemory slot opMemwrite addr data.length 1016 fun s =>
    let s := if inScratch addr data.length then
        forEach data.zipIdx s fun e s =>
          let x := scratchAt (addr + e.2)
          s.modPen x.1 fun q => { q with scratch := tabSet memDefault q.scratch x.2 e.1 }
      else s.writeThrough addr data
    s.answerWith slot { op := opMemwrite, index := 0, sub := 0, abort := 0 })

/-! ## The two paths (R310, R312) -/

/-- HUB_FORWARD_TIMEOUT: an operation that the keeper passed on and the hub has not answered for 10 ms. -/
def execHubForwardTimeout (slot op index sub : Nat) (s : State) : Res :=
  match s.authority slot with
  | none => .next s.discardAuth
  | some _ =>
    if isKeeper index && op != opMemread && op != opMemwrite then .next s
    else if s.drover.latch then .next (s.answer slot op index sub 0x40000011)
    else if !s.ready then .next (s.answer slot op index sub 0x10000001)
    else .next (s.answer slot op index sub 0x0F000001)

/-- PLCA node ids: the module's own, and how many the segment has (R310). -/
def State.plcaNode (s : State) : Nat := s.num 0x0F04 0 + 1
def plcaNodes : Nat := 9

/-- The module sends on the field segment in its PLCA transmit opportunity, or by CSMA/CD while no beacon is seen (R310). -/
def State.fieldTurn (s : State) : Option Nat := if s.dict.plcaSeen then some s.plcaNode else none

/-- PLCA_BEACON_CHANGE: CSMA/CD while no beacon is seen. -/
def execPlcaBeaconChange (seen : Bool) (s : State) : Res := .next { s with dict := { s.dict with plcaSeen := seen } }

/-! ## Datagrams (R313–R321) -/

/-- COMMAND as a record. -/
def State.commandRecord (s : State) (slot : Nat) (r : MopRec) : State :=
  s.onObject slot opCommand r.index r.sub fun s _ =>
    if r.type ≠ 0x0A ∨ r.dlen ≠ 0 then s.answer slot opCommand r.index r.sub 0x10000005
    else s.commandOn slot r.index r.sub

/-- Reserved bits of a record's head. -/
def MopRec.reserved (r : MopRec) : Bool :=
  !(r.flags / 2 ^ 3 == 0 && decide (r.flags % 2 ^ 3 ≤ (if r.op = opRead then 1 else if r.op = opWrite then 3 else 0))
    && (r.op != opWrite || r.flags % 2 == 0))

/-- The lengths of a memory record (Table 14.6). -/
def MopRec.memFits (r : MopRec) : Bool :=
  if r.op = opMemread then r.dlen == 8 && decide (1 ≤ r.offset) && decide (r.offset ≤ 1024)
  else decide (9 ≤ r.dlen) && decide (r.dlen ≤ 1024)

/-- Step 7 of R321 for a record on an object: type and length (Table 14.6). -/
def MopRec.fits (r : MopRec) (row : ObjRow) : Bool :=
  let bytes := r.data.length
  if r.op = opRead then typeOk row r.type true && decide (r.dlen ≤ 1024)
  else if r.op = opWrite then typeOk row r.type false
    && (if row.type.isBytes then decide (bytes ≤ 1024) && decide (((r.offset + bytes : Nat) : Int) ≤ row.max)
        && (!r.flags.testBit 1 || decide (row.min ≤ ((r.offset + bytes : Nat) : Int)))
      else bytes == row.type.size)
  else if r.op = opDescribe then typeOk row r.type true && r.dlen == 0
  else if r.op = opCommand ∨ r.op = opDiscard then typeOk row r.type false && r.dlen == 0
  else true

/-- Steps 1 to 8 of R321 pass. -/
def State.passesEight (s : State) (slot : Nat) (r : MopRec) : Bool :=
  match s.authority slot with
  | none => false
  | some a =>
    if r.op = opMemread ∨ r.op = opMemwrite then (s.memCheck a r.op).isNone && r.memFits
    else match s.mopCheck a r.op r.index r.sub, objectRow r.index r.sub with
      | none, some row => r.fits row && !(row.access == .rws && r.op == opWrite && s.tick.running)
      | _, _ => false

/-- Reserved bits of a record's head (R321 step 9), but where an earlier step applies. -/
def State.reservedHead (s : State) (slot : Nat) (r : MopRec) (f : State → State) : State :=
  if r.reserved && s.passesEight slot r then s.answer slot r.op r.index r.sub 0x10000008 else f s

/-- The answers sent after place `n` echo a record's INDEX and SUB (R314). -/
def State.echo (s : State) (n : Nat) (r : MopRec) : State :=
  { s with sent := s.sent.take n ++ (s.sent.drop n).map fun (o : Out) => match o with
    | .response slot a => .response slot { a with index := r.index, sub := r.sub }
    | o => o }

/-- One record, by its operation (Table 14.6). A memory record of the wrong length is answered as one of no bytes. -/
def State.record (s : State) (slot : Nat) (r : MopRec) : State :=
  s.reservedHead slot r fun s =>
    if r.op = opRead then ran (execMopRead slot r.index r.sub r.type r.offset r.dlen (r.flags.testBit 0) s) s
    else if r.op = opWrite then ran (execMopWrite slot r.index r.sub r.type r.offset (r.flags.testBit 1) r.data s) s
    else if r.op = opCommand then s.commandRecord slot r
    else if r.op = opDescribe then ran (execDescribe slot r.index r.sub r.type r.dlen s) s
    else if r.op = opDiscard then ran (execDiscard slot r.index r.sub r.type r.dlen s) s
    else if r.op = opMemread then
      (ran (execMemread slot (leNat r.data) (if r.memFits then r.offset else 0) s) s).echo s.sent.length r
    else if r.op = opMemwrite then
      (ran (execMemwrite slot (leNat (r.data.take 8)) (if r.memFits then r.data.drop 8 else []) s) s).echo s.sent.length r
    else s.onObject slot r.op r.index r.sub fun s _ => s.answer slot r.op r.index r.sub 0x10000008

/-- The commit that the record left for the landing is this datagram's. -/
def Deferred.label (d : Deferred) (frame : Nat × Nat) : Deferred :=
  match d with
  | .write i j v => .write i j v
  | .window i b => .window i b
  | .tickCommit slot _ => .tickCommit slot (some frame)
  | .redirectCommit slot _ => .redirectCommit slot (some frame)

/-- Run a record of a datagram and take its answer; none where it waits for the landing. -/
def State.runRecord (s : State) (slot frame k : Nat) (r : MopRec) : State × Option Response :=
  let x := (s.record slot r).takeAnswer s.sent.length
  match x.2 with
  | some a => (x.1, some a)
  | none =>
    let l := x.1.dict.deferred
    let marked := match l.getLast? with
      | some d => l.dropLast ++ [d.label (frame, k)]
      | none => []
    ({ x.1 with dict := { x.1.dict with deferred := marked } }, none)

/-- The records of a datagram in order, each on its own (R315). -/
def State.runRecords (s : State) (slot frame : Nat) (l : List MopRec) : State × List (Option Response) :=
  l.zipIdx.foldl (fun (a : State × List (Option Response)) r =>
    let x := a.1.runRecord slot frame r.2 r.1
    (x.1, a.2 ++ [x.2])) (s, [])

/-- An accepted request runs; it is answered now, or when the commit it holds is done. -/
def State.runFrame (s : State) (inband : Option Nat) (peer : Nat × Nat) (slot : Nat) (h : MopHead) (l : List MopRec) (bytes tag : List Byte) :
    State :=
  let n := s.dict.nextFrame
  let key := (s.keySlot slot).key
  let auth := s.authority slot
  let s := s.setKeySlot slot ((s.keySlot slot).remember h.ctr tag)
  let s := { s with dict := { s.dict with nextFrame := n + 1, frameAuth := auth } }
  let x := s.runRecords slot n l
  let s := { x.1 with dict := { x.1.dict with frameAuth := none } }
  let f : Frame := { id := n, inband := inband, peer := peer, slot := slot, key := key, head := bytes.take 32, tag := tag, answers := x.2 }
  if x.2.all Option.isSome then s.finishFrame f else { s with dict := { s.dict with frames := s.dict.frames ++ [f] } }

/-- The counter of R320: the slot with the CTR accepted, or none. -/
def KeySlot.accept (k : KeySlot) (ctr : Nat) : Option KeySlot :=
  if ctr = 0 then none
  else if ctr > k.h then some { k with h := ctr, seen := ctr :: k.seen.filter fun c => decide (c + 64 > ctr) }
  else if ctr + 63 ≥ k.h ∧ !k.seen.contains ctr then some { k with seen := ctr :: k.seen }
  else none

/-- Steps 2 and 3 of R321 on a request of good format. -/
def State.admitFrame (s : State) (inband : Option Nat) (peer : Nat × Nat) (h : MopHead) (l : List MopRec) (bytes : List Byte) : State :=
  let slot := h.keyid
  let tag := bytes.drop (32 + h.len)
  let k := s.keySlot slot
  if (s.authority slot).isNone || tag != mopTag slot k.key (bytes.take (32 + h.len)) then s.discardAuth
  else if h.boot ≠ s.num 0x0F05 0 then
    s.sendDatagram inband peer (sealed slot k.key
      (({ h with ftype := 3, nop := 0, len := 0, boot := s.num 0x0F05 0 } : MopHead).toBytes))
  else match k.accept h.ctr with
    | some k' => (s.setKeySlot slot k').runFrame inband peer slot h l bytes tag
    | none =>
      match k.recent.find? fun e => e.1 == h.ctr && e.2.1 == tag with
      | some (_, _, b) => if b.isEmpty then s else s.sendDatagram inband peer b
      | none => s.discardAuth

/-- A datagram that a path serves: format first. -/
def State.takeDatagram (s : State) (inband : Option Nat) (peer : Nat × Nat) (bytes : List Byte) : State :=
  match s.parse bytes with
  | none => s.discardFrame
  | some (h, l) => s.admitFrame inband peer h l bytes

/-- In-band requests of the second under way on a logical port (R279). -/
def State.mopThisSecond (s : State) (lport : Nat) : Nat :=
  if s.eth.mopSecond = s.clock / 2000000000 then tabGet (fun _ => 0) s.eth.mopCount lport else 0

/-- Count an in-band request. -/
def State.countMop (s : State) (lport : Nat) : State :=
  let second := s.clock / 2000000000
  let t := if s.eth.mopSecond = second then s.eth.mopCount else []
  let n := s.mopThisSecond lport + 1
  { s with eth := { s.eth with mopSecond := second, mopCount := tabSet (fun _ => 0) t lport n } }

/-- MOP_DATAGRAM: on the field network the keeper answers from its boot on, and discards a frame that finds its queue of 32
`full` (R310); in-band the hub does, through an enabled port, up to 1,000 requests a second (R279, R311, R328). -/
def execMopDatagram (inband : Option (Fin 16)) (full : Bool) (srcIp srcPort : Nat) (bytes : List Byte) (s : State) : Res :=
  match inband with
  | none => .next (if !s.boot.booted then s else if full then s.discardFrame else s.takeDatagram none (srcIp, srcPort) bytes)
  | some p =>
    let s := s.takeFrame p
    if !s.boot.hubUp || !s.boot.hubAnswering || !(s.gov 0x6033 0).testBit p || s.portState p != 2 then .next s
    else if s.mopThisSecond p ≥ 1000 then .next (s.count 0x6051 (p + 1) 1)
    else .next ((s.countMop p).takeDatagram (some p.val) (srcIp, srcPort) bytes)

end Sys2Proof.Machine
end

