-- ==== Sys2Proof/Machine/Mma.lean ====
section
/-! DEFINITION. The MAC array (R49–R51), its checksum (R58–R60, R76) and the fault injection (Table 03.5). -/

namespace Sys2Proof.Machine

/-- Class of a format as an MMA operand: 1 FP8, MXFP8 and MXFP6; 2 INT8 and MXINT8; 3 MXFP4; 4 BF16; 5 FP16; 0 none. -/
def mmaClass (f : Nat) : Nat :=
  match f with
  | 1 => 4 | 2 => 5 | 3 => 1 | 4 => 1 | 5 => 2 | 6 => 1 | 7 => 1 | 8 => 1 | 9 => 1 | 10 => 3 | 11 => 2 | _ => 0

/-- FP8 or MXFP8. -/
def isFp8 (f : Nat) : Bool := f == 3 || f == 4 || f == 6 || f == 7

/-- The accepted pairs of Table 03.3, in either order. -/
def mmaPair (f g : Nat) : Bool :=
  (mmaClass f != 0 && mmaClass f == mmaClass g) || (f == 10 && isFp8 g) || (isFp8 f && g == 10)

/-- What the products of a block come to: NaN seen, Inf × 0 seen, infinities seen, the exact sum v · 2^e, and whether
every product was −0. -/
structure BlockSum where
  nan : Bool := false
  bad : Bool := false
  posInf : Bool := false
  negInf : Bool := false
  v : Int := 0
  e : Int := 0
  allNegZero : Bool := true
deriving DecidableEq, Repr

/-- Add an exact term to a block sum. -/
def BlockSum.add (s : BlockSum) (neg : Bool) (m : Nat) (e : Int) : BlockSum :=
  if m = 0 then { s with allNegZero := s.allNegZero && neg }
  else if s.v = 0 then { s with v := smag neg m, e := e, allNegZero := false }
  else
    let f := min s.e e
    { s with v := s.v * 2 ^ (s.e - f).toNat + smag neg m * 2 ^ (e - f).toNat, e := f, allNegZero := false }

/-- Add an infinite product. -/
def BlockSum.addInf (s : BlockSum) (neg : Bool) : BlockSum :=
  { s with posInf := s.posInf || !neg, negInf := s.negInf || neg, allNegZero := false }

/-- One product a·b into the block sum (R50, R51). -/
def BlockSum.mac (s : BlockSum) (a b : FVal) : BlockSum :=
  match a, b with
  | .nan, _ => { s with nan := true }
  | _, .nan => { s with nan := true }
  | .inf x, .inf y => s.addInf (x ^^ y)
  | .inf x, .fin y m _ => if m = 0 then { s with bad := true } else s.addInf (x ^^ y)
  | .fin x m _, .inf y => if m = 0 then { s with bad := true } else s.addInf (x ^^ y)
  | .fin x m e, .fin y n f => s.add (x ^^ y) (m * n) (e + f)

/-- The products of a block. -/
def blockSum : List FVal → List FVal → BlockSum → BlockSum
  | a :: as, b :: bs, s => blockSum as bs (s.mac a b)
  | _, _, s => s

/-- Step 4 for one element under R51: the new C, its counts, whether it saturated. `ints` marks an integer pair, whose
products have no signed zero (R50). -/
def mmaElem (ints sat : Bool) (x : Int) (nanScale : Bool) (s : BlockSum) (c : F32) : F32 × Cnt × Bool :=
  let z : Cnt := {}
  if s.nan ∨ nanScale then (nan32, { z with nan := 1 }, false)
  else if isNan c then (nan32, z, false)
  else if s.bad then (nan32, { z with nan := 1 }, false)
  else if s.posInf ∧ s.negInf then (nan32, { z with nan := 1 }, false)
  else if s.posInf ∨ s.negInf then
    if fval c = .inf (!s.negInf) then (nan32, { z with nan := 1 }, false)
    else if sat then (max32 s.negInf, { z with sat := 1 }, true) else (inf32 s.negInf, z, false)
  else
    match fval c with
    | .fin n m e =>
      let neg := if s.v = 0 then s.allNegZero && !ints else decide (s.v < 0)
      let r := exactAdd n m e neg s.v.natAbs (s.e + x)
      let w := round32 r.1 r.2.1 r.2.2
      if w.2 then
        if sat then (max32 r.1, { z with sat := 1 }, true) else (inf32 r.1, { z with inf := 1 }, false)
      else (w.1, z, false)
    | _ => (c, z, false)

/-- A row's (or column's) data for one block: exact element values, scale byte, and FP32 value-domain elements. -/
structure Strip where
  vals : List FVal
  scale : Nat
  words : List F32
deriving DecidableEq, Repr

/-- Row i of an operand over block b; absent rows are zero elements (R76). -/
def stripOf (mem : Tab Byte) (p : Pen) (q : Placed) (b i : Nat) : Strip :=
  if i < q.v.ext1 then
    let es := (List.range 32).map fun k => i * q.v.ext0 + 32 * b + k
    { vals := es.map fun e => q.exact mem p e
      scale := q.scale mem p (i * q.v.ext0 + 32 * b)
      words := es.map fun e => (q.value mem p e).1 }
  else { vals := List.replicate 32 (.fin false 0 0), scale := 0x7F, words := List.replicate 32 0 }

/-- The lanes of an accumulator's checksum while an MMA runs, and the rows and columns that saturated. -/
structure Lanes where
  r : List F32
  rm : List F32
  q : List F32
  qm : List F32
  satRows : List Nat := []
  satCols : List Nat := []

/-- FP32 sum in increasing index, each addition rounded (R58). -/
def seqSum (xs : List F32) : F32 := (xs.tail).foldl fplus (xs.headD 0)

/-- Product and sum, each rounded, without counters (R58). -/
def lane (acc a b : F32) : F32 := fplus acc (fmul a b).1

/-- Lanes after K step k of a block (R58). -/
def laneStep (as bs : List Strip) (l : Lanes) (k : Nat) : Lanes :=
  let ak := as.map fun s => s.words.getD k 0
  let bk := bs.map fun s => s.words.getD k 0
  let b := seqSum bk
  let b' := seqSum (bk.map fabs)
  let a := seqSum ak
  let a' := seqSum (ak.map fabs)
  { l with
    r := List.zipWith (fun x y => lane x y b) l.r ak
    rm := List.zipWith (fun x y => lane x (fabs y) b') l.rm ak
    q := List.zipWith (fun x y => lane x a y) l.q bk
    qm := List.zipWith (fun x y => lane x a' (fabs y)) l.qm bk }

/-- Accumulate one block into the elements of An (R50) and note what saturated. -/
def blockInto (n : Nat) (ints sat : Bool) (as bs : List Strip) (st : Pen × Lanes) : Pen × Lanes :=
  as.zipIdx.foldl (fun st (a, i) => bs.zipIdx.foldl (fun (st : Pen × Lanes) (b, j) =>
    let p := st.1
    let x : Int := (a.scale : Int) + b.scale - 254
    let r := mmaElem ints sat x (a.scale == 0xFF || b.scale == 0xFF) (blockSum a.vals b.vals {}) (p.accAt n (32 * i + j))
    let p := (p.setAcc n (32 * i + j) r.1).setCnt
      ⟨p.satc + r.2.1.sat, p.nanc + r.2.1.nan, p.infc + r.2.1.inf, p.rng⟩
    (p, if r.2.2 then { st.2 with satRows := i :: st.2.satRows, satCols := j :: st.2.satCols } else st.2)) st) st

/-- All blocks in increasing k. -/
def mmaBlocks (mem : Tab Byte) (q0 : Pen) (a b : Placed) (n : Nat) (ints sat : Bool) :
    Nat → Nat → Pen × Lanes → Pen × Lanes
  | 0, _, st => st
  | k + 1, blk, st =>
    let as := (List.range 32).map (stripOf mem q0 a blk)
    let bs := (List.range 32).map (stripOf mem q0 b blk)
    let st := blockInto n ints sat as bs st
    mmaBlocks mem q0 a b n ints sat k (blk + 1) (st.1, (List.range 32).foldl (laneStep as bs) st.2)

/-- Row i and column j of an accumulator. -/
def accRow (p : Pen) (n i : Nat) : List F32 := (List.range 32).map fun j => p.accAt n (32 * i + j)
def accCol (p : Pen) (n j : Nat) : List F32 := (List.range 32).map fun i => p.accAt n (32 * i + j)

/-- A stored lane as its 32 words, and back. -/
def laneList (t : Tab F32) : List F32 := (List.range 32).map (tabGet (fun _ => 0) t)
def laneTab (l : List F32) : Tab F32 := l.zipIdx.foldl (fun t x => tabSet (fun _ => 0) t x.2 x.1) []

/-- The lanes an MMA starts from: the stored ones, or reseeded from a void accumulator (R76). -/
def startLanes (p : Pen) (n : Nat) : Lanes :=
  let x := p.sideOf n
  if x.void then
    { r := (List.range 32).map fun i => (sum83 (accRow p n i)).1
      rm := (List.range 32).map fun i => (sum83 ((accRow p n i).map fabs)).1
      q := (List.range 32).map fun j => (sum83 (accCol p n j)).1
      qm := (List.range 32).map fun j => (sum83 ((accCol p n j).map fabs)).1 }
  else { r := laneList x.rowLane, rm := laneList x.rowMag, q := laneList x.colLane, qm := laneList x.colMag }

/-- ACLR's effect: elements +0, checksum lanes, depth and void mark cleared (R76). -/
def clearAcc (p : Pen) (n : Nat) : Pen :=
  (List.range 1024).foldl (fun p e => p.setAcc n e 0) (p.setSide n {})

/-- |a − b| ≤ t of finite words, exactly. -/
def withinTol (a b t : F32) : Bool :=
  match fval a, fval b, fval t with
  | .fin n1 m1 e1, .fin n2 m2 e2, .fin _ m3 e3 =>
    let d := exactAdd n1 m1 e1 (!n2) m2 e2
    let e := min d.2.2 e3
    decide (d.2.1 * 2 ^ (d.2.2 - e).toNat ≤ m3 * 2 ^ (e3 - e).toNat)
  | .fin _ _ _, .fin _ _ _, .inf false => true
  | _, _, _ => false

/-- NaN or infinite. -/
def nonFinite (a : F32) : Bool := match fval a with | .fin _ _ _ => false | _ => true

/-- The tolerance τ (R59). -/
def tolerance (depth : Nat) (mag : F32) : F32 :=
  let k := max 1 ((depth + 65535) / 65536)
  fplus (fmul (fmul 0x39800000#32 (ofInt32 k)).1 mag).1 0x03800000#32

/-- Whether a row or column passes the comparison of R59. -/
def linePasses (saturated : Bool) (xs : List F32) (lane mag : F32) (depth : Nat) : Bool :=
  if saturated then true
  else
    let s := (sum83 xs).1
    let accSide := xs.any nonFinite || nonFinite s
    if accSide && nonFinite lane then true
    else if accSide || nonFinite lane then false
    else withinTol lane s (tolerance depth mag)

/-- Mask of the failing lines. -/
def failMask (pass : Nat → Bool) : Nat := (List.range 32).foldl (fun m i => if pass i then m else m + 2 ^ i) 0

/-- Invert the bit of an injection in its cell (Table 03.5): an accumulator element, or a signed lane. -/
def inject (inj : BitVec 32) (n : Nat) (st : Pen × Lanes) : Pen × Lanes :=
  let row := field inj.toNat 12 6
  let col := field inj.toNat 6 6
  let flip (w : F32) : F32 := w ^^^ BitVec.ofNat 32 (2 ^ field inj.toNat 0 6)
  if row = 32 then (st.1, { st.2 with q := st.2.q.set col (flip (st.2.q.getD col 0)) })
  else if col = 32 then (st.1, { st.2 with r := st.2.r.set row (flip (st.2.r.getD row 0)) })
  else (st.1.setAcc n (32 * row + col) (flip (st.1.accAt n (32 * row + col))), st.2)

/-- MMA on a pen: shapes (R76), formats (R49), sum lanes, blocks, then the comparison of R59. DESIGN CHOICE: a view fault 0x04 goes
before 0x03 where both hold, since R90 orders nothing inside its group (log entry 125); the detail word of 0x10 holds the row
mask in bits 31–0 and the column mask in bits 63–32 (log entry 24). -/
def mmaOp (mem : Tab Byte) (tile : Nat) (inj : Option (BitVec 32)) (w : PenWord) (p : Pen) : Try Pen := do
  let a ← placeView tile p (p.view w.a.toNat)
  let b ← placeView tile p (p.view w.b.toNat)
  need (a.v.ext2 == 1 && b.v.ext2 == 1 && !a.v.z0 && !b.v.z0 && decide (a.v.ext1 ≤ 32) && decide (b.v.ext1 ≤ 32)
    && a.v.ext0 == b.v.ext0) 0x04
  need (mmaPair a.v.fmt b.v.fmt && a.v.ext0 % 32 == 0) 0x03
  let p ← touch mem p [.view a, .view b]
  let n := w.d.toNat
  let p := if w.mod.getLsbD 0 then clearAcc p n else p
  let k := a.v.ext0
  let st := mmaBlocks mem p a b n (mmaClass a.v.fmt == 2) w.sat (k / 32) 0 (p, startLanes p n)
  let st := match inj with
    | some x => inject x n st
    | none => st
  let depth := (p.sideOf n).depth + k
  let rows := failMask fun i => linePasses (st.2.satRows.contains i) (accRow st.1 n i) (st.2.r.getD i 0)
    (st.2.rm.getD i 0) depth
  let cols := failMask fun j => linePasses (st.2.satCols.contains j) (accCol st.1 n j) (st.2.q.getD j 0)
    (st.2.qm.getD j 0) depth
  if rows ≠ 0 ∨ cols ≠ 0 then .error (.exc 0x10 (rows + cols * 2 ^ 32 + n * 2 ^ 64))
  else .ok (st.1.setSide n { rowLane := laneTab st.2.r, rowMag := laneTab st.2.rm, colLane := laneTab st.2.q
                             colMag := laneTab st.2.qm, depth := depth, void := false })

/-- MMA. An injection armed for this pen fires once, whatever the comparison says (R63). DESIGN CHOICE (log entry 125): an MMA that
raises an exception before its array runs leaves it armed. -/
def execMma (p : Fin 1024) (w : PenWord) (s : State) : Res :=
  let inj := match s.macFault with
    | some x => if field x.toNat 18 10 = p.val then some x else none
    | none => none
  let s' := issue p { d := 2, a := 1, b := 1, modOk := fun m => m ≤ 1 } w false
    (onPen p fun s q => mmaOp s.mem (tileOf p) inj w q) s
  let fired := match mmaRan s p w with
    | true => inj.isSome
    | false => false
  .next (if fired then { s' with macFault := none } else s')
where
  /-- Whether the MMA issues and reaches its array: the faults shown before the array is used aside. -/
  mmaRan (s : State) (p : Nat) (w : PenWord) : Bool :=
    let s' := issue p { d := 2, a := 1, b := 1, modOk := fun m => m ≤ 1 } w false
      (onPen p fun s q => mmaOp s.mem (tileOf p) none w q) s
    match (s.pen p).run, (s'.pen p).run with
    | some r, some r' =>
      r.ended.isNone && match r'.ended with
        | none => (s'.pen p).pc != (s.pen p).pc
        | some (.exc c _ _) => c == 0x10
        | some .done => false
    | _, _ => false

/-- ACLR. -/
def execAclr (p : Fin 1024) (w : PenWord) (s : State) : Res :=
  .next (issue p { d := 2 } w false (onPen p fun _ q => .ok (clearAcc q w.d.toNat)) s)

end Sys2Proof.Machine
end

