-- ==== Sys2Proof/Machine/Vector.lean ====
section
/-! DEFINITION. The V unit (R77, R83–R86, R88): elementwise, reduction, selection, random and check instructions. -/

namespace Sys2Proof.Machine

/-- Results and the special values made on the way. -/
abbrev Val := F32 × Made

/-- Counts of several operations together. -/
def Made.plus (a b : Made) : Made := ⟨a.nan + b.nan, a.inf + b.inf⟩

/-- Run one step of elements e … e + k − 1: read them all, count, write (R77). `pend` holds the results of an MX block
that no step has completed. -/
def vecStep (elem : Pen → Nat → Val) (dst : Opnd) (sr sat : Bool) (e k : Nat) (pend : List F32) (p : Pen) :
    List F32 × Pen :=
  let rs := (List.range k).map fun i => elem p (e + i)
  let p := p.setCnt (rs.foldl (fun c r => c.made r.2) p.cnt)
  let ws := rs.map (·.1)
  match dst with
  | .view q =>
    if isMx q.v.fmt then
      let all := pend ++ ws
      let n := all.length / 32
      (all.drop (32 * n), writeBlocks sr sat q n (e + k - all.length) (all.take (32 * n)) p)
    else ([], writeResults sr sat dst e ws p)
  | _ => ([], writeResults sr sat dst e ws p)

/-- The steps of an instruction in increasing e. -/
def vecSteps (elem : Pen → Nat → Val) (dst : Opnd) (sr sat : Bool) (step n : Nat) : Nat → Nat → List F32 → Pen → Pen
  | 0, _, _, p => p
  | k + 1, e, pend, p =>
    let m := min step (n - e)
    let (pend, p) := vecStep elem dst sr sat e m pend p
    vecSteps elem dst sr sat step n k (e + m) pend p

/-- All n elements, `step` at a time. -/
def vecAll (elem : Pen → Nat → Val) (dst : Opnd) (sr sat : Bool) (step n : Nat) (p : Pen) : Pen :=
  vecSteps elem dst sr sat step n ((n + step - 1) / step) 0 [] p

/-- Integer mode's steps: codes in, codes out (R77). -/
def intSteps (elem : Pen → Nat → BitVec 32) (q : Placed) (step n : Nat) : Nat → Nat → Pen → Pen
  | 0, _, p => p
  | k + 1, e, p =>
    let m := min step (n - e)
    let rs := (List.range m).map fun i => (elem p (e + i)).toNat
    intSteps elem q step n k (e + m) (q.setCodes p e rs)

/-- Mark a destination accumulator void (R76). -/
def finishDst (dst : Opnd) (p : Pen) : Pen :=
  match dst with
  | .acc n => p.voidAcc n
  | _ => p

/-- Integer mode: every view operand and the destination are INT32 (R77). -/
def intMode (dst : Opnd) (os : List Opnd) : Option Placed :=
  match dst with
  | .view q => if q.v.fmt = 12 ∧ os.all (fun o => o.fmt == none || o.fmt == some 12) then some q else none
  | _ => none

/-- An elementwise instruction (R77): operand shapes, sum lanes, then integer mode or FP32. `ints` is none where integer
mode is not accepted. -/
def elementwise (mem : Tab Byte) (w : PenWord) (dst : Opnd) (reads : List Opnd) (step : Nat)
    (elem : Pen → Nat → Val) (ints : Option (Pen → Nat → BitVec 32)) (p : Pen) : Try Pen := do
  need (reads.all fun o => o.matches dst.shape) 0x04
  match intMode dst reads with
  | some q =>
    match ints with
    | none => raise 0x03
    | some f =>
      let p ← touch mem p reads
      .ok (intSteps f q step dst.size ((dst.size + step - 1) / step) 0 p)
  | none =>
    let p ← touch mem p reads
    .ok (finishDst dst (vecAll elem dst w.sr w.sat step dst.size p))

/-- Two operands read, then an operation. -/
def calc2 (mem : Tab Byte) (a b : Opnd) (f : F32 → F32 → Val) (p : Pen) (e : Nat) : Val :=
  let x := a.value mem p e
  let y := b.value mem p e
  let r := f x.1 y.1
  (r.1, (x.2.plus y.2).plus r.2)

/-- VOP's FP32 operation by MOD. -/
def vopOp (m : Nat) (a b : F32) : Val :=
  match m with
  | 0 => fadd a b
  | 1 => fsub a b
  | 2 => fmul a b
  | 3 => (fmin a b, {})
  | _ => (fmax a b, {})

/-- VOP's integer operation by MOD: wrapping, MIN and MAX signed (R77). -/
def vopInt (m : Nat) (a b : BitVec 32) : BitVec 32 :=
  match m with
  | 0 => a + b
  | 1 => a - b
  | 2 => a * b
  | 3 => if a.toInt ≤ b.toInt then a else b
  | _ => if a.toInt ≥ b.toInt then a else b

/-- VOP. -/
def execVop (p : Fin 1024) (w : PenWord) (s : State) : Res :=
  .next (issue p { d := 3, a := 15, b := 15, modOk := fun m => m ≤ 4 } w false (onPen p fun s q => do
    let d ← opndD (tileOf p) q w
    let a ← opndA (tileOf p) q w
    let b ← opndB (tileOf p) q w
    elementwise s.mem w d [a, b] 64 (calc2 s.mem a b (vopOp w.mod.toNat))
      (some fun q e => vopInt w.mod.toNat (a.int s.mem q e) (b.int s.mem q e)) q) s)

/-- VFMA: FP32 only (log entry 23). -/
def execVfma (p : Fin 1024) (w : PenWord) (s : State) : Res :=
  .next (issue p { d := 3, a := 15, b := 15, c := 15 } w false (onPen p fun s q => do
    let d ← opndD (tileOf p) q w
    let a ← opndA (tileOf p) q w
    let b ← opndB (tileOf p) q w
    let c ← opndC (tileOf p) q w
    elementwise s.mem w d [a, b, c] 64 (fun q e =>
      let z := c.value s.mem q e
      let r := calc2 s.mem a b (fun x y => ffma x y z.1) q e
      (r.1, r.2.plus z.2)) none q) s)

/-- VUN's FP32 operation by MOD. -/
def vunOp (m : Nat) (a : F32) : Val :=
  match m with
  | 0 => (a, {})
  | 1 => (fneg a, {})
  | 2 => (fabs a, {})
  | 3 => fexp2 a
  | 4 => fexp a
  | 5 => frcp a
  | _ => frsq a

/-- VUN's integer operation by MOD; the most negative number has no stated negation or absolute value (log entry 1). -/
def vunInt (m : Nat) (a : BitVec 32) : BitVec 32 :=
  if m = 0 then a
  else if a = 0x80000000#32 then Config.negMin a
  else if m = 1 then -a
  else if a.toInt < 0 then -a else a

/-- VUN. -/
def execVun (p : Fin 1024) (w : PenWord) (s : State) : Res :=
  .next (issue p { d := 3, a := 15, modOk := fun m => m ≤ 6 } w false (onPen p fun s q => do
    let d ← opndD (tileOf p) q w
    let a ← opndA (tileOf p) q w
    elementwise s.mem w d [a] (if w.mod.toNat ≤ 2 then 64 else 16) (fun q e =>
      let x := a.value s.mem q e
      let r := vunOp w.mod.toNat x.1
      (r.1, x.2.plus r.2))
      (if w.mod.toNat ≤ 2 then some fun q e => vunInt w.mod.toNat (a.int s.mem q e) else none) q) s)

/-- Element compare (Table 04.4, R52): false with a NaN, but for not-equal. -/
def elemCond (c : Nat) (a b : F32) : Bool :=
  if isNan a || isNan b then c == 1
  else match c with
    | 0 => decide (forder a = forder b)
    | 1 => decide (forder a ≠ forder b)
    | 2 => decide (forder a < forder b)
    | 3 => decide (forder a ≥ forder b)
    | 4 => decide (forder a ≤ forder b)
    | _ => decide (forder a > forder b)

/-- Element compare of signed integers. -/
def intCond (c : Nat) (a b : BitVec 32) : Bool :=
  match c with
  | 0 => a == b
  | 1 => a != b
  | 2 => decide (a.toInt < b.toInt)
  | 3 => decide (a.toInt ≥ b.toInt)
  | 4 => decide (a.toInt ≤ b.toInt)
  | _ => decide (a.toInt > b.toInt)

/-- VSEL: D keeps its element where the condition fails. -/
def execVsel (p : Fin 1024) (w : PenWord) (s : State) : Res :=
  .next (issue p { d := 3, a := 15, b := 15, c := 15, cnds := 6 } w false (onPen p fun s q => do
    let d ← opndD (tileOf p) q w
    let a ← opndA (tileOf p) q w
    let b ← opndB (tileOf p) q w
    let c ← opndC (tileOf p) q w
    elementwise s.mem w d [a, b, c, d] 64 (fun q e =>
      let x := a.value s.mem q e
      let y := b.value s.mem q e
      let z := c.value s.mem q e
      let o := d.value s.mem q e
      (if elemCond w.cnd.toNat x.1 y.1 then z.1 else o.1, (x.2.plus y.2).plus (z.2.plus o.2)))
      (some fun q e => if intCond w.cnd.toNat (a.int s.mem q e) (b.int s.mem q e) then c.int s.mem q e
        else d.int s.mem q e) q) s)

/-- CVT: INT32 to INT32 moves the code, as MOV does (log entry 23). -/
def execCvt (p : Fin 1024) (w : PenWord) (s : State) : Res :=
  .next (issue p { d := 3, a := 3 } w false (onPen p fun s q => do
    let d ← opndD (tileOf p) q w
    let a ← opndA (tileOf p) q w
    elementwise s.mem w d [a] 64 (fun q e => a.value s.mem q e) (some fun q e => a.int s.mem q e) q) s)

/-! ## Reductions (R83) -/

/-- The extents of a shaped operand. -/
def Opnd.dims (o : Opnd) : Nat × Nat × Nat := o.shape.getD (1, 1, 1)

/-- Extents with dimension k set to 1. -/
def reducedDims (k : Nat) (d : Nat × Nat × Nat) : Nat × Nat × Nat :=
  match k with
  | 0 => (1, d.2.1, d.2.2)
  | 1 => (d.1, 1, d.2.2)
  | _ => (d.1, d.2.1, 1)

/-- Length of dimension k. -/
def dimLen (k : Nat) (d : Nat × Nat × Nat) : Nat :=
  match k with
  | 0 => d.1
  | 1 => d.2.1
  | _ => d.2.2

/-- View-order index in A of element t along dimension k, for element e of the reduced shape. -/
def alongDim (k : Nat) (d : Nat × Nat × Nat) (e t : Nat) : Nat :=
  match k with
  | 0 => e * d.1 + t
  | 1 => e / d.1 * (d.1 * d.2.1) + t * d.1 + e % d.1
  | _ => t * (d.1 * d.2.1) + e

/-- One reduction of R83 over values in increasing index. -/
def redOp (op : Nat) (xs : List F32) : Val :=
  match op with
  | 0 => sum83 xs
  | 1 => (xs.tail.foldl fmax (xs.headD 0), {})
  | 2 => (xs.tail.foldl fmin (xs.headD 0), {})
  | _ => sum83 (xs.map fabs)

/-- RED's value for element e of D. -/
def redCalc (mem : Tab Byte) (a : Opnd) (m : Nat) (p : Pen) (e : Nat) : Val :=
  let k := m % 4
  let rs := (List.range (dimLen k a.dims)).map fun t => a.value mem p (alongDim k a.dims e t)
  let r := redOp (m / 4) (rs.map (·.1))
  (r.1, rs.foldl (fun c x => c.plus x.2) r.2)

/-- Bytes that element e of a placed view and its scale byte lie in: in scratch or not, first and last. -/
def Placed.bytesOf (q : Placed) (e : Nat) : List (Nat × Nat) :=
  let b := q.elemBit e
  (q.origin + b / 8, q.origin + (b + fmtWidth q.v.fmt - 1) / 8)
    :: (if isMx q.v.fmt then [(q.origin + q.scaleAt e, q.origin + q.scaleAt e)] else [])

/-- Two placed views share a byte. -/
def overlap (x y : Placed) : Bool :=
  x.scratch == y.scratch && (List.range x.v.count).any fun i => (List.range y.v.count).any fun j =>
    (x.bytesOf i).any fun a => (y.bytesOf j).any fun b => decide (a.1 ≤ b.2 ∧ b.1 ≤ a.2)

/-- Leave free codes in every element of D (R83). -/
def freeFill (fresh : Nat) (q : Placed) (p : Pen) : Pen :=
  (List.range q.v.count).foldl (fun p e =>
    let c := (Config.freeCode fresh e).toNat
    let p := q.setCode p e c
    if isMx q.v.fmt then
      { p with scratch := tabSet memDefault p.scratch (q.origin + q.scaleAt e) (BitVec.ofNat 8 (c / 2 ^ 16)) }
    else p) p

/-- RED: where D overlaps A, only D's values are free; counters and generator go as without the overlap. -/
def execRed (p : Fin 1024) (w : PenWord) (s : State) : Res :=
  .next (issue p { d := 1, a := 3, modOk := fun m => m ≤ 15 && m % 4 != 3 } w false (fun s => do
    let q := s.pen p
    let d ← opndD (tileOf p) q w
    let a ← opndA (tileOf p) q w
    let m := w.mod.toNat
    need (d.shape == some (reducedDims (m % 4) a.dims)) 0x04
    let q ← touch s.mem q [a]
    let q' := vecAll (fun _ => redCalc s.mem a m q) d w.sr w.sat 64 d.size q
    match d, a with
    | .view x, .view y =>
      if overlap x y then .ok { s.setPen p (freeFill s.fresh x q') with fresh := s.fresh + 1 }
      else .ok (s.setPen p q')
    | _, _ => .ok (s.setPen p q')) s)

/-- CSUM's steps: the running sum (or the wrapping integer sum) is never read back from D. -/
def csumSteps (mem : Tab Byte) (a d : Opnd) (sr sat : Bool) (n : Nat) :
    Nat → Nat → Option F32 → List F32 → Pen → Pen
  | 0, _, _, _, p => p
  | k + 1, e, run, pend, p =>
    let m := min 64 (n - e)
    let vals := (List.range m).map fun i => a.value mem p (e + i)
    let sums := vals.foldl (fun (acc : List Val × Option F32) x =>
      match acc.2 with
      | none => (acc.1 ++ [x], some x.1)
      | some r => let t := fadd r x.1; (acc.1 ++ [(t.1, x.2.plus t.2)], some t.1)) ([], run)
    let (pend, p) := vecStep (fun _ i => sums.1.getD (i - e) (0, {})) d sr sat e m pend p
    csumSteps mem a d sr sat n k (e + m) sums.2 pend p

/-- CSUM in integer mode. -/
def csumInt (mem : Tab Byte) (a : Opnd) (q : Placed) (n : Nat) : Nat → Nat → BitVec 32 → Pen → Pen
  | 0, _, _, p => p
  | k + 1, e, run, p =>
    let m := min 64 (n - e)
    let vals := (List.range m).map fun i => a.int mem p (e + i)
    let sums := vals.foldl (fun (acc : List Nat × BitVec 32) x => (acc.1 ++ [(acc.2 + x).toNat], acc.2 + x)) ([], run)
    csumInt mem a q n k (e + m) sums.2 (q.setCodes p e sums.1)

/-- CSUM. -/
def execCsum (p : Fin 1024) (w : PenWord) (s : State) : Res :=
  .next (issue p { d := 1, a := 3 } w false (onPen p fun s q => do
    let d ← opndD (tileOf p) q w
    let a ← opndA (tileOf p) q w
    need (d.shape == a.shape) 0x04
    let q ← touch s.mem q [a]
    match intMode d [a] with
    | some x => .ok (csumInt s.mem a x d.size ((d.size + 63) / 64) 0 0 q)
    | none => .ok (csumSteps s.mem a d w.sr w.sat d.size ((d.size + 63) / 64) 0 none [] q)) s)

/-! ## Index instructions (R85) -/

/-- The first element index from e on that matches, or n. -/
def firstMatch (test : Nat → Bool) : Nat → Nat → Nat
  | 0, e => e
  | k + 1, e => if test e then e else firstMatch test k (e + 1)

/-- FIND. DESIGN CHOICE (log entry 138): only the elements up to the first match count in NANC and INFC. -/
def execFind (p : Fin 1024) (w : PenWord) (s : State) : Res :=
  .next (issue p { d := 4, a := 1, b := 15, cnds := 6 } w false (onPen p fun s q => do
    let a ← opndA (tileOf p) q w
    let b ← opndB (tileOf p) q w
    need (b.matches a.shape) 0x04
    let q ← touch s.mem q [a, b]
    let ints := a.fmt == some 12 && (b.fmt == none || b.fmt == some 12)
    let test (e : Nat) := if ints then intCond w.cnd.toNat (a.int s.mem q e) (b.int s.mem q e)
      else elemCond w.cnd.toNat (a.value s.mem q e).1 (b.value s.mem q e).1
    let k := firstMatch test a.size 0
    let made := if ints then ({} : Made) else (List.range (min (k + 1) a.size)).foldl (fun m e =>
      m.plus ((a.value s.mem q e).2.plus (b.value s.mem q e).2)) {}
    .ok ((q.setCnt (q.cnt.made made)).setReg w.d.toNat (BitVec.ofNat 64 k))) s)

/-- Rank of a value for TOPK: NaN below −Inf, the zeros equal. -/
def topkRank (w : F32) : Int := if isNan w then -(2 ^ 33) else forder w

/-- Insert (value, index) behind every entry that ranks as high, keeping k entries. -/
def topkInsert (x : F32 × Nat) : Nat → List (F32 × Nat) → List (F32 × Nat)
  | 0, _ => []
  | _ + 1, [] => [x]
  | k + 1, y :: t => if topkRank y.1 < topkRank x.1 then x :: (y :: t).take k else y :: topkInsert x k t

/-- Whether a format is a float format. -/
def isFloat (f : Nat) : Bool := f ≤ 4 || (6 ≤ f && f ≤ 10)

/-- TOPK: k is bits [31:0] of B. -/
def execTopk (p : Fin 1024) (w : PenWord) (s : State) : Res :=
  .next (issue p { d := 1, a := 1, b := 12, c := 1 } w false (onPen p fun s q => do
    let d ← opndD (tileOf p) q w
    need (decide ((viewOf (q.view w.c.toNat)).space ≠ 1 ∧ (viewOf (q.view w.c.toNat)).space ≠ 2)) 0x02
    let a ← opndA (tileOf p) q w
    let c ← opndC (tileOf p) q w
    let k := (low32 (scalarOrImm q w w.bk.toNat w.b.toNat)).toNat
    need (isFloat (a.fmt.getD 0) && c.fmt == some 12) 0x03
    need (decide (a.size ≤ 2 ^ 20) && decide (1 ≤ k ∧ k ≤ 1024) && d.size == k && c.size == k) 0x04
    let q ← touch s.mem q [a]
    let vals := (List.range a.size).map fun e => a.value s.mem q e
    let top := (vals.zipIdx).foldl (fun l x => topkInsert (x.1.1, x.2) k l) []
    let q := q.setCnt (vals.foldl (fun c x => c.made x.2) q.cnt)
    let ws := top.map (·.1) ++ List.replicate (k - top.length) (inf32 true)
    let is := top.map (·.2) ++ List.replicate (k - top.length) 0xFFFFFFFF
    let q := (vecStep (fun _ e => (ws.getD e 0, {})) d w.sr w.sat 0 k [] q).2
    match c with
    | .view x => .ok (x.setCodes q 0 is)
    | _ => .ok q) s)

/-- The element an INT32 index names, or 0x04 (R85). -/
def indexOf (mem : Tab Byte) (p : Pen) (b : Opnd) (e n : Nat) : Try Nat :=
  let i := (b.int mem p e).toInt
  if 0 ≤ i ∧ i < n then .ok i.toNat else raise 0x04

/-- GATH's steps, one element each. -/
def gathSteps (mem : Tab Byte) (d a b : Opnd) (codes : Option Placed) (sr sat : Bool) :
    Nat → Nat → List F32 → Pen → Try Pen
  | 0, _, _, p => .ok p
  | k + 1, e, pend, p => do
    let i ← indexOf mem p b e a.size
    match codes with
    | some q => gathSteps mem d a b codes sr sat k (e + 1) [] (q.setCode p e (a.int mem p i).toNat)
    | none =>
      let (pend, p) := vecStep (fun p _ => a.value mem p i) d sr sat e 1 pend p
      gathSteps mem d a b codes sr sat k (e + 1) pend p

/-- GATH. -/
def execGath (p : Fin 1024) (w : PenWord) (s : State) : Res :=
  .next (issue p { d := 1, a := 1, b := 1 } w false (onPen p fun s q => do
    let d ← opndD (tileOf p) q w
    let a ← opndA (tileOf p) q w
    let b ← opndB (tileOf p) q w
    need (b.fmt == some 12) 0x03
    need (b.shape == d.shape) 0x04
    let q ← touch s.mem q [a, b]
    gathSteps s.mem d a b (intMode d [a]) w.sr w.sat d.size 0 [] q) s)

/-- One write of SCAT to element i of an MX destination: its block is decoded, changed and converted back (R85). -/
def scatBlock (mem : Tab Byte) (q : Placed) (sr sat : Bool) (i : Nat) (x : F32) (p : Pen) : Pen :=
  let b := i - i % 32
  let ws := (List.range 32).map fun j => if b + j = i then x else (q.value mem p (b + j)).1
  let (sc, ks, c) := mxBlock q.v.fmt sr sat ws p.cnt
  q.setBlock (p.setCnt c) b sc ks

/-- SCAT's steps, one element each. -/
def scatSteps (mem : Tab Byte) (q : Placed) (a b : Opnd) (codes sr sat : Bool) : Nat → Nat → Pen → Try Pen
  | 0, _, p => .ok p
  | k + 1, e, p => do
    let i ← indexOf mem p b e q.v.count
    if codes then scatSteps mem q a b codes sr sat k (e + 1) (q.setCode p i (a.int mem p e).toNat)
    else
      let x := a.value mem p e
      let p := p.setCnt (p.cnt.made x.2)
      scatSteps mem q a b codes sr sat k (e + 1)
        (if isMx q.v.fmt then scatBlock mem q sr sat i x.1 p else writeResults sr sat (.view q) i [x.1] p)

/-- SCAT. -/
def execScat (p : Fin 1024) (w : PenWord) (s : State) : Res :=
  .next (issue p { d := 1, a := 1, b := 1 } w false (onPen p fun s q => do
    let d ← opndD (tileOf p) q w
    let a ← opndA (tileOf p) q w
    let b ← opndB (tileOf p) q w
    need (b.fmt == some 12) 0x03
    need (b.shape == a.shape) 0x04
    let q ← touch s.mem q [a, b]
    match d with
    | .view x => scatSteps s.mem x a b (x.v.fmt == 12 && a.fmt == some 12) w.sr w.sat a.size 0 q
    | _ => .ok q) s)

/-! ## Online softmax (R84) -/

/-- An FP32 scratch view of exactly 32 elements, for OSM. -/
def osmView (o : Opnd) : Try Placed :=
  match o with
  | .view q =>
    if q.v.space ≠ 0 ∨ q.v.count ≠ 32 then raise 0x04
    else if q.v.fmt ≠ 0 then raise 0x03 else .ok q
  | _ => raise 0x04

/-- One row of OSM. -/
def osmRow (d : Nat) (sc : F32) (m l f : Placed) (i : Nat) (p : Pen) : Pen :=
  let xs := (List.range 32).map fun j => fmul sc (p.accAt d (32 * i + j))
  let mi : F32 := (m.value [] p i).1
  let li : F32 := (l.value [] p i).1
  let top := (xs.map (·.1)).tail.foldl fmax ((xs.map (·.1)).headD 0)
  let mp := fmax mi top
  let c := xs.foldl (fun c x => c.made x.2) p.cnt
  if mp = inf32 true then
    let p := p.setCnt c
    let p := f.setCode p i one32.toNat
    let p := writeResults false false (.acc d) (32 * i) (List.replicate 32 0) p
    m.setCode p i mp.toNat
  else
    let expOf (x : F32) : Val :=
      let t := fsub x mp
      let r := fexp t.1
      (r.1, t.2.plus r.2)
    let fi := expOf mi
    let es := xs.map fun x => expOf x.1
    let t := sum83 (es.map (·.1))
    let li' := ffma li fi.1 t.1
    let c := (((es.foldl (fun c x => c.made x.2) (c.made fi.2)).made t.2).made li'.2)
    let p := p.setCnt c
    let p := f.setCode p i fi.1.toNat
    let p := writeResults false false (.acc d) (32 * i) (es.map (·.1)) p
    let p := l.setCode p i li'.1.toNat
    m.setCode p i mp.toNat

/-- OSM. -/
def execOsm (p : Fin 1024) (w : PenWord) (s : State) : Res :=
  .next (issue p { d := 2, a := 1, b := 1, c := 1 } w false (onPen p fun s q => do
    let m ← (opndA (tileOf p) q w).bind osmView
    let l ← (opndB (tileOf p) q w).bind osmView
    let f ← (opndC (tileOf p) q w).bind osmView
    let q ← touch s.mem q [.view m, .view l]
    let q := (List.range 32).foldl (fun q i => osmRow w.d.toNat (low32 w.imm) m l f i q) q
    .ok (q.voidAcc w.d.toNat)) s)

/-! ## Random values (R86) -/

/-- Rounds of Philox4x32. -/
def philox : Nat → Nat × Nat × Nat × Nat → Nat → Nat → Nat × Nat × Nat × Nat
  | 0, c, _, _ => c
  | n + 1, (c0, c1, c2, c3), k0, k1 =>
    let p0 := 0xD2511F53 * c0
    let p1 := 0xCD9E8D57 * c2
    philox n ((p1 / 2 ^ 32) ^^^ c1 ^^^ k0, p1 % 2 ^ 32, (p0 / 2 ^ 32) ^^^ c3 ^^^ k1, p0 % 2 ^ 32)
      ((k0 + 0x9E3779B9) % 2 ^ 32) ((k1 + 0xBB67AE85) % 2 ^ 32)

/-- RNG's value of element e: the word's high 24 bits times 2^−24. -/
def rngValue (t key ctr : Word64) (e : Nat) : F32 :=
  let n := ((t + BitVec.ofNat 64 (e / 4))).toNat
  let (w0, w1, w2, w3) := philox 10 (n % 2 ^ 32, n / 2 ^ 32, ctr.toNat % 2 ^ 32, ctr.toNat / 2 ^ 32)
    (key.toNat % 2 ^ 32) (key.toNat / 2 ^ 32)
  let w := match e % 4 with | 0 => w0 | 1 => w1 | 2 => w2 | _ => w3
  (round32 false (w / 2 ^ 8) (-24)).1

/-- RNG. -/
def execRng (p : Fin 1024) (w : PenWord) (s : State) : Res :=
  .next (issue p { d := 1, a := 4, b := 4, c := 4 } w false (onPen p fun _ q => do
    let d ← opndD (tileOf p) q w
    need (d.fmt == some 0) 0x03
    .ok (vecAll (fun _ e => (rngValue (q.reg w.a.toNat) (q.reg w.b.toNat) (q.reg w.c.toNat) e, {})) d false false 64
      d.size q)) s)

/-! ## Range check (R88) -/

/-- The test that element x fails first, by its MOD bit. -/
def rchkElem (m : Nat) (b x : F32) : Option Nat :=
  if m.testBit 0 ∧ ¬ elemCond 4 (fabs x) b then some 0
  else if m.testBit 1 ∧ (fval x = .nan ∨ fval x = .inf true ∨ fval x = .inf false) then some 1
  else none

/-- The first failing element from e on, with its test. -/
def rchkFirst (m : Nat) (b : F32) (value : Nat → F32) : Nat → Nat → Option (Nat × Nat)
  | 0, _ => none
  | k + 1, e =>
    match rchkElem m b (value e) with
    | some t => some (e, t)
    | none => rchkFirst m b value k (e + 1)

/-- RCHK: a failure raises 0x13 with the element and the test in its detail. -/
def execRchk (p : Fin 1024) (w : PenWord) (s : State) : Res :=
  .next (issue p { a := 3, b := 12, c := 4, modOk := fun m => m ≤ 7 } w false (onPen p fun s q => do
    let a ← opndA (tileOf p) q w
    let q ← touch s.mem q [a]
    let b := low32 (scalarOrImm q w w.bk.toNat w.b.toNat)
    let made := (List.range a.size).foldl (fun m e => m.plus (a.value s.mem q e).2) ({} : Made)
    match rchkFirst w.mod.toNat b (fun e => (a.value s.mem q e).1) a.size 0 with
    | some (e, t) => .error (.exc 0x13 (e % 2 ^ 32 + t * 2 ^ 32))
    | none =>
      if w.mod.getLsbD 2 ∧ q.satc > (q.reg w.c.toNat).toNat then .error (.exc 0x13 (2 * 2 ^ 32))
      else .ok (q.setCnt (q.cnt.made made))) s)

end Sys2Proof.Machine
end

