-- ==== Sys2Proof/Machine/Dispatch.lean ====
section
/-! DEFINITION. From each command to its meaning. -/

namespace Sys2Proof.Machine

def exec (i : Instr) (s : State) : Host.Outcome State Fault Refusal :=
  match i with
  | .tick pathFault => Sys2Proof.Machine.execTick pathFault s
  | .landingOpen late => Sys2Proof.Machine.execLandingOpen late s
  | .batchCapGrowth tile => Sys2Proof.Machine.execBatchCapGrowth tile s
  | .startTreads slot => Sys2Proof.Machine.execStartTreads slot s
  | .stopTreads slot => Sys2Proof.Machine.execStopTreads slot s
  | .tickGroupCommit slot => Sys2Proof.Machine.execTickGroupCommit slot s
  | .changeCountdownZero => Sys2Proof.Machine.execChangeCountdownZero s
  | .tickLost => Sys2Proof.Machine.execTickLost s
  | .beaconReceived fiber b raw upstream => Sys2Proof.Machine.execBeaconReceived fiber b raw upstream s
  | .delayProbePeriod => Sys2Proof.Machine.execDelayProbePeriod s
  | .delayProbeReceived fiber p => Sys2Proof.Machine.execDelayProbeReceived fiber p s
  | .probeReplyReceived fiber p => Sys2Proof.Machine.execProbeReplyReceived fiber p s
  | .treadConfirm => Sys2Proof.Machine.execTreadConfirm s
  | .claimInChange asserted => Sys2Proof.Machine.execClaimInChange asserted s
  | .claimTimeout => Sys2Proof.Machine.execClaimTimeout s
  | .tickDisputeReceived d => Sys2Proof.Machine.execTickDisputeReceived d s
  | .reclaim => Sys2Proof.Machine.execReclaim s
  | .nop pen w => Sys2Proof.Machine.execNop pen w s
  | .endJob pen w => Sys2Proof.Machine.execEndJob pen w s
  | .br pen w => Sys2Proof.Machine.execBr pen w s
  | .brc pen w => Sys2Proof.Machine.execBrc pen w s
  | .loop pen w => Sys2Proof.Machine.execLoop pen w s
  | .trap pen w => Sys2Proof.Machine.execTrap pen w s
  | .trd pen w => Sys2Proof.Machine.execTrd pen w s
  | .fence pen w => Sys2Proof.Machine.execFence pen w s
  | .twait pen w => Sys2Proof.Machine.execTwait pen w s
  | .sli pen w => Sys2Proof.Machine.execSli pen w s
  | .salu pen w => Sys2Proof.Machine.execSalu pen w s
  | .sld pen w => Sys2Proof.Machine.execSld pen w s
  | .sst pen w => Sys2Proof.Machine.execSst pen w s
  | .sfp pen w => Sys2Proof.Machine.execSfp pen w s
  | .vset pen w => Sys2Proof.Machine.execVset pen w s
  | .vadv pen w => Sys2Proof.Machine.execVadv pen w s
  | .vld pen w => Sys2Proof.Machine.execVld pen w s
  | .bld pen w => Sys2Proof.Machine.execBld pen w s
  | .baleReadArrival pen slot badMoves => Sys2Proof.Machine.execBaleReadArrival pen slot badMoves s
  | .bst pen w => Sys2Proof.Machine.execBst pen w s
  | .emit pen w => Sys2Proof.Machine.execEmit pen w s
  | .take pen w => Sys2Proof.Machine.execTake pen w s
  | .tokw pen w => Sys2Proof.Machine.execTokw pen w s
  | .mma pen w => Sys2Proof.Machine.execMma pen w s
  | .aclr pen w => Sys2Proof.Machine.execAclr pen w s
  | .vop pen w => Sys2Proof.Machine.execVop pen w s
  | .vfma pen w => Sys2Proof.Machine.execVfma pen w s
  | .vun pen w => Sys2Proof.Machine.execVun pen w s
  | .vsel pen w => Sys2Proof.Machine.execVsel pen w s
  | .cvt pen w => Sys2Proof.Machine.execCvt pen w s
  | .red pen w => Sys2Proof.Machine.execRed pen w s
  | .csum pen w => Sys2Proof.Machine.execCsum pen w s
  | .find pen w => Sys2Proof.Machine.execFind pen w s
  | .osm pen w => Sys2Proof.Machine.execOsm pen w s
  | .topk pen w => Sys2Proof.Machine.execTopk pen w s
  | .gath pen w => Sys2Proof.Machine.execGath pen w s
  | .scat pen w => Sys2Proof.Machine.execScat pen w s
  | .rng pen w => Sys2Proof.Machine.execRng pen w s
  | .rchk pen w => Sys2Proof.Machine.execRchk pen w s
  | .cycleBoundExpiry pen => Sys2Proof.Machine.execCycleBoundExpiry pen s
  | .macFaultInjection slot value => Sys2Proof.Machine.execMacFaultInjection slot value s
  | .planDoorbell tile offset => Sys2Proof.Machine.execPlanDoorbell tile offset s
  | .jobDispatch pen => Sys2Proof.Machine.execJobDispatch pen s
  | .jobComplete pen => Sys2Proof.Machine.execJobComplete pen s
  | .inFieldTestComplete pen digest reference third => Sys2Proof.Machine.execInFieldTestComplete pen digest reference third s
  | .grantSlotBoundary tile => Sys2Proof.Machine.execGrantSlotBoundary tile s
  | .tradeIdleExpiry pen => Sys2Proof.Machine.execTradeIdleExpiry pen s
  | .tradeRequestReceived donor requester clkt commits staging records => Sys2Proof.Machine.execTradeRequestReceived donor requester clkt commits staging records s
  | .tradeGrantReceived receiver donor jobs => Sys2Proof.Machine.execTradeGrantReceived receiver donor jobs s
  | .tradeCompletionReport donor jobId cls => Sys2Proof.Machine.execTradeCompletionReport donor jobId cls s
  | .memoryRead pen slot linkErrors => Sys2Proof.Machine.execMemoryRead pen slot linkErrors s
  | .commitWrite tile slot badFetches => Sys2Proof.Machine.execCommitWrite tile slot badFetches s
  | .commitWriteComplete tile slot => Sys2Proof.Machine.execCommitWriteComplete tile slot s
  | .commitWriteTimeout tile slot => Sys2Proof.Machine.execCommitWriteTimeout tile slot s
  | .baleReadTimeout pen slot => Sys2Proof.Machine.execBaleReadTimeout pen slot s
  | .refreshRatePoll tile report => Sys2Proof.Machine.execRefreshRatePoll tile report s
  | .channelFailed tile channel => Sys2Proof.Machine.execChannelFailed tile channel s
  | .rehomingCopyComplete tile gib => Sys2Proof.Machine.execRehomingCopyComplete tile gib s
  | .redirectGroupCommit slot => Sys2Proof.Machine.execRedirectGroupCommit slot s
  | .regionMapWrite slot data => Sys2Proof.Machine.execRegionMapWrite slot data s
  | .senseWindow currents => Sys2Proof.Machine.execSenseWindow currents s
  | .reinHeldLimit => Sys2Proof.Machine.execReinHeldLimit s
  | .inputReading millivolts milliampsA milliampsB vkMilliwatts => Sys2Proof.Machine.execInputReading millivolts milliampsA milliampsB vkMilliwatts s
  | .tabFault => Sys2Proof.Machine.execTabFault s
  | .tabFaultClear => Sys2Proof.Machine.execTabFaultClear s
  | .inputOutOfRange high => Sys2Proof.Machine.execInputOutOfRange high s
  | .inputReturn => Sys2Proof.Machine.execInputReturn s
  | .powerCapWrite slot value => Sys2Proof.Machine.execPowerCapWrite slot value s
  | .thermalUpdate => Sys2Proof.Machine.execThermalUpdate s
  | .diodeRead readings => Sys2Proof.Machine.execDiodeRead readings s
  | .thermalShutdown => Sys2Proof.Machine.execThermalShutdown s
  | .thermalReenable slot => Sys2Proof.Machine.execThermalReenable slot s
  | .ringAcquisition ring => Sys2Proof.Machine.execRingAcquisition ring s
  | .ringSweepComplete ring dips => Sys2Proof.Machine.execRingSweepComplete ring dips s
  | .ringAcquireComplete ring converged => Sys2Proof.Machine.execRingAcquireComplete ring converged s
  | .ringVerifyComplete ring tone => Sys2Proof.Machine.execRingVerifyComplete ring tone s
  | .ringNarrowComplete ring dips => Sys2Proof.Machine.execRingNarrowComplete ring dips s
  | .ringTrack ring heat => Sys2Proof.Machine.execRingTrack ring heat s
  | .mpdSample oe line reading lowFor100us => Sys2Proof.Machine.execMpdSample oe line reading lowFor100us s
  | .laserDailyMean oe line => Sys2Proof.Machine.execLaserDailyMean oe line s
  | .marginWarningExpiry oe line => Sys2Proof.Machine.execMarginWarningExpiry oe line s
  | .dupReceived fiber n => Sys2Proof.Machine.execDupReceived fiber n s
  | .steeringCompareComplete fiber token seq => Sys2Proof.Machine.execSteeringCompareComplete fiber token seq s
  | .steeringCompareTimeout fiber token => Sys2Proof.Machine.execSteeringCompareTimeout fiber token s
  | .switchedReceived fiber n => Sys2Proof.Machine.execSwitchedReceived fiber n s
  | .refuseReceived fiber n => Sys2Proof.Machine.execRefuseReceived fiber n s
  | .askReceived fiber n => Sys2Proof.Machine.execAskReceived fiber n s
  | .dropReceived fiber n => Sys2Proof.Machine.execDropReceived fiber n s
  | .restoreReceived fiber n => Sys2Proof.Machine.execRestoreReceived fiber n s
  | .exchangeTimeout fiber rx => Sys2Proof.Machine.execExchangeTimeout fiber rx s
  | .calibrationStepTime k => Sys2Proof.Machine.execCalibrationStepTime k s
  | .calibrationWindowStart => Sys2Proof.Machine.execCalibrationWindowStart s
  | .calibrationStepTimeout oe => Sys2Proof.Machine.execCalibrationStepTimeout oe s
  | .manualMove slot => Sys2Proof.Machine.execManualMove slot s
  | .shutterClose fiber => Sys2Proof.Machine.execShutterClose fiber s
  | .shutterProbeOpen fiber => Sys2Proof.Machine.execShutterProbeOpen fiber s
  | .shutterProbeClose fiber => Sys2Proof.Machine.execShutterProbeClose fiber s
  | .idleGroupReceived fiber g => Sys2Proof.Machine.execIdleGroupReceived fiber g s
  | .trainGroupReceived fiber g => Sys2Proof.Machine.execTrainGroupReceived fiber g s
  | .modeGroupReceived fiber g => Sys2Proof.Machine.execModeGroupReceived fiber g s
  | .blockLockAcquired fiber line => Sys2Proof.Machine.execBlockLockAcquired fiber line s
  | .blockLockLost fiber line invalidHeaders => Sys2Proof.Machine.execBlockLockLost fiber line invalidHeaders s
  | .adaptComplete fiber line skew => Sys2Proof.Machine.execAdaptComplete fiber line skew s
  | .marginMeasurement fiber line margin => Sys2Proof.Machine.execMarginMeasurement fiber line margin s
  | .fmarginTimeout fiber line => Sys2Proof.Machine.execFmarginTimeout fiber line s
  | .lossOfSignalSet fiber => Sys2Proof.Machine.execLossOfSignalSet fiber s
  | .lossOfSignalClear fiber => Sys2Proof.Machine.execLossOfSignalClear fiber s
  | .laneReturnTimeout fiber line => Sys2Proof.Machine.execLaneReturnTimeout fiber line s
  | .laneTrainingStart fiber => Sys2Proof.Machine.execLaneTrainingStart fiber s
  | .trainingTimeout fiber => Sys2Proof.Machine.execTrainingTimeout fiber s
  | .prbsStart slot => Sys2Proof.Machine.execPrbsStart slot s
  | .prbsStop slot => Sys2Proof.Machine.execPrbsStop slot s
  | .injectionWord slot value => Sys2Proof.Machine.execInjectionWord slot value s
  | .injectionFire => Sys2Proof.Machine.execInjectionFire s
  | .flitReceived fiber flit headers => Sys2Proof.Machine.execFlitReceived fiber flit headers s
  | .ackonlyReceived fiber flit headers => Sys2Proof.Machine.execAckonlyReceived fiber flit headers s
  | .nakReceived fiber flit headers => Sys2Proof.Machine.execNakReceived fiber flit headers s
  | .cmarkReceived fiber flit headers => Sys2Proof.Machine.execCmarkReceived fiber flit headers s
  | .initReceived fiber flit headers => Sys2Proof.Machine.execInitReceived fiber flit headers s
  | .resumeReceived fiber flit headers => Sys2Proof.Machine.execResumeReceived fiber flit headers s
  | .initResendTimer fiber => Sys2Proof.Machine.execInitResendTimer fiber s
  | .nakRepeat fiber => Sys2Proof.Machine.execNakRepeat fiber s
  | .replayTimeout fiber => Sys2Proof.Machine.execReplayTimeout fiber s
  | .ackCoalesceTimeout fiber => Sys2Proof.Machine.execAckCoalesceTimeout fiber s
  | .ackonlyTimer fiber => Sys2Proof.Machine.execAckonlyTimer fiber s
  | .cmarkTimer fiber => Sys2Proof.Machine.execCmarkTimer fiber s
  | .rowSend fiber => Sys2Proof.Machine.execRowSend fiber s
  | .spillReadComplete fiber entryGood => Sys2Proof.Machine.execSpillReadComplete fiber entryGood s
  | .creditTimeout fiber => Sys2Proof.Machine.execCreditTimeout fiber s
  | .linkRestore slot fiber => Sys2Proof.Machine.execLinkRestore slot fiber s
  | .spillRegionWrite slot fiber isSize value => Sys2Proof.Machine.execSpillRegionWrite slot fiber isSize value s
  | .reservedMinimumWrite slot cls value => Sys2Proof.Machine.execReservedMinimumWrite slot cls value s
  | .forwardingEnvelope fiber tc payload => Sys2Proof.Machine.execForwardingEnvelope fiber tc payload s
  | .stagedScheduleWrite slot data => Sys2Proof.Machine.execStagedScheduleWrite slot data s
  | .membershipListWrite slot data => Sys2Proof.Machine.execMembershipListWrite slot data s
  | .buildFlight slot => Sys2Proof.Machine.execBuildFlight slot s
  | .flightBuildComplete arrivalOffsets => Sys2Proof.Machine.execFlightBuildComplete arrivalOffsets s
  | .memberLost position => Sys2Proof.Machine.execMemberLost position s
  | .membershipUpdateReceived inner => Sys2Proof.Machine.execMembershipUpdateReceived inner s
  | .membershipUpdateTimeout => Sys2Proof.Machine.execMembershipUpdateTimeout s
  | .portModeWrite slot port mode => Sys2Proof.Machine.execPortModeWrite slot port mode s
  | .ethernetLinkUp lport => Sys2Proof.Machine.execEthernetLinkUp lport s
  | .ethernetLinkDown lport => Sys2Proof.Machine.execEthernetLinkDown lport s
  | .ethernetFrameReceived lport f => Sys2Proof.Machine.execEthernetFrameReceived lport f s
  | .arpRequest port senderIp senderMac targetIp => Sys2Proof.Machine.execArpRequest port senderIp senderMac targetIp s
  | .neighbourSolicitation lport senderIp senderMac targetIp => Sys2Proof.Machine.execNeighbourSolicitation lport senderIp senderMac targetIp s
  | .icmpEchoRequest port v6 srcIp dstIp data => Sys2Proof.Machine.execIcmpEchoRequest port v6 srcIp dstIp data s
  | .neighbourEntryExpiry lport ip => Sys2Proof.Machine.execNeighbourEntryExpiry lport ip s
  | .cmReq lport r => Sys2Proof.Machine.execCmReq lport r s
  | .cmRtu qp => Sys2Proof.Machine.execCmRtu qp s
  | .cmDreq qp => Sys2Proof.Machine.execCmDreq qp s
  | .roceSendReceived qp p => Sys2Proof.Machine.execRoceSendReceived qp p s
  | .rdmaWriteReceived qp p => Sys2Proof.Machine.execRdmaWriteReceived qp p s
  | .rdmaReadRequest qp p linkError => Sys2Proof.Machine.execRdmaReadRequest qp p linkError s
  | .unsupportedOpcodeReceived qp opcode psn ce => Sys2Proof.Machine.execUnsupportedOpcodeReceived qp opcode psn ce s
  | .rcAckReceived qp syndrome psn ce => Sys2Proof.Machine.execRcAckReceived qp syndrome psn ce s
  | .localAckTimeout qp => Sys2Proof.Machine.execLocalAckTimeout qp s
  | .cnpReceived qp ce => Sys2Proof.Machine.execCnpReceived qp ce s
  | .dcqcnAlphaTimer qp => Sys2Proof.Machine.execDcqcnAlphaTimer qp s
  | .dcqcnRateTimer qp => Sys2Proof.Machine.execDcqcnRateTimer qp s
  | .dcqcnByteCounter qp => Sys2Proof.Machine.execDcqcnByteCounter qp s
  | .windowDescriptorWrite slot data => Sys2Proof.Machine.execWindowDescriptorWrite slot data s
  | .pfcFrameReceived lport mask quanta => Sys2Proof.Machine.execPfcFrameReceived lport mask quanta s
  | .pfcRepeat lport prio => Sys2Proof.Machine.execPfcRepeat lport prio s
  | .pauseWatchdogExpiry lport prio => Sys2Proof.Machine.execPauseWatchdogExpiry lport prio s
  | .pauseWatchdogResume lport prio => Sys2Proof.Machine.execPauseWatchdogResume lport prio s
  | .pfcMaskWrite slot isHeadroom value => Sys2Proof.Machine.execPfcMaskWrite slot isHeadroom value s
  | .openReq qp => Sys2Proof.Machine.execOpenReq qp s
  | .continueReq qp => Sys2Proof.Machine.execContinueReq qp s
  | .closeReq qp => Sys2Proof.Machine.execCloseReq qp s
  | .nopRequest qp => Sys2Proof.Machine.execNopRequest qp s
  | .batchCut => Sys2Proof.Machine.execBatchCut s
  | .admissionTimeout session => Sys2Proof.Machine.execAdmissionTimeout session s
  | .idleTimeout session => Sys2Proof.Machine.execIdleTimeout session s
  | .loadModel slot => Sys2Proof.Machine.execLoadModel slot s
  | .modelLoadComplete index badBale => Sys2Proof.Machine.execModelLoadComplete index badBale s
  | .unloadModel slot => Sys2Proof.Machine.execUnloadModel slot s
  | .ringPoolWrite slot isSize value => Sys2Proof.Machine.execRingPoolWrite slot isSize value s
  | .mopDatagram inband full srcIp srcPort bytes => Sys2Proof.Machine.execMopDatagram inband full srcIp srcPort bytes s
  | .mopRead slot index sub type offset dlen stagedFlag => Sys2Proof.Machine.execMopRead slot index sub type offset dlen stagedFlag s
  | .mopWrite slot index sub type offset last data => Sys2Proof.Machine.execMopWrite slot index sub type offset last data s
  | .describe slot index sub type dlen => Sys2Proof.Machine.execDescribe slot index sub type dlen s
  | .discard slot index sub type dlen => Sys2Proof.Machine.execDiscard slot index sub type dlen s
  | .memread slot addr len => Sys2Proof.Machine.execMemread slot addr len s
  | .memwrite slot addr data => Sys2Proof.Machine.execMemwrite slot addr data s
  | .stagingTimeout tickGroup => Sys2Proof.Machine.execStagingTimeout tickGroup s
  | .assemblyTimeout index sub => Sys2Proof.Machine.execAssemblyTimeout index sub s
  | .readHoldTimeout slot index sub => Sys2Proof.Machine.execReadHoldTimeout slot index sub s
  | .hubForwardTimeout slot op index sub => Sys2Proof.Machine.execHubForwardTimeout slot op index sub s
  | .eventLogSave => Sys2Proof.Machine.execEventLogSave s
  | .powerOnReset => Sys2Proof.Machine.execPowerOnReset s
  | .keeperBoot romGood nvGood => Sys2Proof.Machine.execKeeperBoot romGood nvGood s
  | .firmwareVerification readable => Sys2Proof.Machine.execFirmwareVerification readable s
  | .hubBringup rails pll sram idle diodes => Sys2Proof.Machine.execHubBringup rails pll sram idle diodes s
  | .oeQualification oe r => Sys2Proof.Machine.execOeQualification oe r s
  | .tileDieToDieTest tiles => Sys2Proof.Machine.execTileDieToDieTest tiles s
  | .memoryTraining bad => Sys2Proof.Machine.execMemoryTraining bad s
  | .penSelfTest digests => Sys2Proof.Machine.execPenSelfTest digests s
  | .capabilityNegotiation => Sys2Proof.Machine.execCapabilityNegotiation s
  | .ready => Sys2Proof.Machine.execReady s
  | .stageTimeout => Sys2Proof.Machine.execStageTimeout s
  | .railTimeout step part => Sys2Proof.Machine.execRailTimeout step part s
  | .referenceRetry locked => Sys2Proof.Machine.execReferenceRetry locked s
  | .ethernetReferenceChange present => Sys2Proof.Machine.execEthernetReferenceChange present s
  | .moduleReset slot => Sys2Proof.Machine.execModuleReset slot s
  | .modrstAssert => Sys2Proof.Machine.execModrstAssert s
  | .modrstRelease => Sys2Proof.Machine.execModrstRelease s
  | .firmwareRestart => Sys2Proof.Machine.execFirmwareRestart s
  | .oeRequalification oe r => Sys2Proof.Machine.execOeRequalification oe r s
  | .powerLoss => Sys2Proof.Machine.execPowerLoss s
  | .bypass opcode => Sys2Proof.Machine.execBypass opcode s
  | .idcode => Sys2Proof.Machine.execIdcode s
  | .samplePreload captured loaded => Sys2Proof.Machine.execSamplePreload captured loaded s
  | .extest => Sys2Proof.Machine.execExtest s
  | .clamp => Sys2Proof.Machine.execClamp s
  | .highz => Sys2Proof.Machine.execHighz s
  | .dtest value => Sys2Proof.Machine.execDtest value s
  | .dstat => Sys2Proof.Machine.execDstat s
  | .dtestComplete result nfail first => Sys2Proof.Machine.execDtestComplete result nfail first s
  | .sliceRetired die port tx slice => Sys2Proof.Machine.execSliceRetired die port tx slice s
  | .tilePllUnlock tile => Sys2Proof.Machine.execTilePllUnlock tile s
  | .memoryControllerTimeout tile => Sys2Proof.Machine.execMemoryControllerTimeout tile s
  | .shepherdWatchdogExpiry tile => Sys2Proof.Machine.execShepherdWatchdogExpiry tile s
  | .hubWatchdogExpiry => Sys2Proof.Machine.execHubWatchdogExpiry s
  | .keeperWatchdogExpiry => Sys2Proof.Machine.execKeeperWatchdogExpiry s
  | .penFence slot => Sys2Proof.Machine.execPenFence slot s
  | .penRestore slot => Sys2Proof.Machine.execPenRestore slot s
  | .tileRestart slot r => Sys2Proof.Machine.execTileRestart slot r s
  | .powerOff slot => Sys2Proof.Machine.execPowerOff slot s
  | .allLasersOff slot => Sys2Proof.Machine.execAllLasersOff slot s
  | .tilePowerDown slot => Sys2Proof.Machine.execTilePowerDown slot s
  | .smbusStatusRead => Sys2Proof.Machine.execSmbusStatusRead s
  | .smbusAlertClear mask pecGood => Sys2Proof.Machine.execSmbusAlertClear mask pecGood s
  | .smbusAlertResponse => Sys2Proof.Machine.execSmbusAlertResponse s
  | .tallySample unit event value => Sys2Proof.Machine.execTallySample unit event value s
  | .tallyWindowClose unit => Sys2Proof.Machine.execTallyWindowClose unit s
  | .tallyConfigurationWrite slot unit data => Sys2Proof.Machine.execTallyConfigurationWrite slot unit data s
  | .tallyClear slot unit => Sys2Proof.Machine.execTallyClear slot unit s
  | .tallyClearAll slot => Sys2Proof.Machine.execTallyClearAll slot s
  | .firmwareImageWrite slot offset last data => Sys2Proof.Machine.execFirmwareImageWrite slot offset last data s
  | .installImage slot => Sys2Proof.Machine.execInstallImage slot s
  | .installComplete matched answered => Sys2Proof.Machine.execInstallComplete matched answered s
  | .raiseFloor slot => Sys2Proof.Machine.execRaiseFloor slot s
  | .keyInstall slot target data => Sys2Proof.Machine.execKeyInstall slot target data s
  | .keyClear slot target => Sys2Proof.Machine.execKeyClear slot target s
  | .attest slot => Sys2Proof.Machine.execAttest slot s
  | .attestationComplete => Sys2Proof.Machine.execAttestationComplete s
  | .treeGenerationComplete => Sys2Proof.Machine.execTreeGenerationComplete s
  | .lifecycleTransition slot => Sys2Proof.Machine.execLifecycleTransition slot s
  | .oeControlFrame oe f => Sys2Proof.Machine.execOeControlFrame oe f s
  | .oeResponseTimeout oe tag => Sys2Proof.Machine.execOeResponseTimeout oe tag s
  | .registerWrite slot index sub value => Sys2Proof.Machine.execRegisterWrite slot index sub value s
  | .uncorrectableEccError site unit address => Sys2Proof.Machine.execUncorrectableEccError site unit address s
  | .spillWriteComplete fiber => Sys2Proof.Machine.execSpillWriteComplete fiber s
  | .externalWriteComplete writer => Sys2Proof.Machine.execExternalWriteComplete writer s
  | .calibrationMeasurementComplete oe reading => Sys2Proof.Machine.execCalibrationMeasurementComplete oe reading s
  | .laserBiasRampEnd oe => Sys2Proof.Machine.execLaserBiasRampEnd oe s
  | .prbsPatternLock => Sys2Proof.Machine.execPrbsPatternLock s
  | .prbsPatternLockLost => Sys2Proof.Machine.execPrbsPatternLockLost s
  | .restoreAnswerTimeout fiber => Sys2Proof.Machine.execRestoreAnswerTimeout fiber s
  | .plcaBeaconChange seen => Sys2Proof.Machine.execPlcaBeaconChange seen s

end Sys2Proof.Machine
end

