-- ==== Sys2Proof/Safety.lean ====
section
/-! DEFINITION. What a safe step is, the invariant of every step, and the words the statements use. -/

namespace Sys2Proof.Machine

/-- A step that neither faults nor is refused. -/
def Safe (s : State) : Prop := ∃ t, step s = .next t

/-- The invariant of every step: memory keeps the canonical form. -/
def Inv (s : State) : Prop := Memory.wf s.mem = true

/-- The command completes, and its next state has the property. -/
def Done (i : Instr) (s : State) (P : State → Prop) : Prop := ∃ t, exec i s = .next t ∧ P t

/-- The command answers an operation record with its abort code (0: accepted) from a state with the property. -/
def Answers (i : Instr) (s : State) (slot op index sub abort : Nat) (P : State → Prop) : Prop :=
  ∃ u, exec i s = .next (u.answer slot op index sub abort) ∧ P u

/-- A record from a key slot passes the checks of R321 that come before the owner's own. -/
def Accepts (s : State) (slot op index sub : Nat) : Prop :=
  ∃ a, s.authority slot = some a ∧ s.mopCheck a op index sub = none

/-- A whole value of a WRITE has its object's size, lies in its range and comes when its class admits it (R303, R304). -/
def WriteFits (s : State) (index sub : Nat) (v : Value) : Prop :=
  ∃ r, objectRow index sub = some r ∧ ¬ (r.access = .rws ∧ s.tick.running = true) ∧
    match v with
    | .num n => r.type.isBytes = false ∧ n < 2 ^ (8 * r.type.size) ∧ inRange r index n = true
    | .bytes b => r.type.isBytes = true ∧ r.min ≤ (b.length : Int) ∧ (b.length : Int) ≤ r.max

/-- The WRITE is accepted from a state with the property and answered with its flags: 0 in force, 1 pending, 4 staged. -/
def Wrote (i : Instr) (s : State) (slot index sub flags : Nat) (P : State → Prop) : Prop :=
  ∃ u, exec i s = .next (u.answerWrite slot index sub flags) ∧ P u

/-! ## Pens -/

/-- Pen p runs r, which has not ended, its PC lies in the image, and nothing holds it (R44, R69). -/
def Runs (s : State) (p : Nat) (r : Run) : Prop :=
  (s.pen p).run = some r ∧ r.ended = none ∧ (s.pen p).pc < r.ninstr ∧ s.penHeld p = false

/-- Pen p issues an instruction word of a form: it runs r, the word passes R65 and R66, and no view operand waits for a pending write
(R118). -/
def Issues (s : State) (p : Nat) (r : Run) (f : Form) (w : PenWord) : Prop :=
  Runs s p r ∧ wordEncoded f w = true ∧ wordKinds f w = true ∧ s.viewWaits p f w = false

/-- Each pen instruction with what its opcode makes of the word's fields (Table 04.7). -/
def penCommands (p : Fin 1024) (w : PenWord) : List (Instr × Form) :=
  [(.nop p w, {}),
   (.endJob p w, {}),
   (.br p w, {}),
   (.brc p w, { a := 4, b := 4, cnds := 8 }),
   (.loop p w, { d := 4 }),
   (.trap p w, {}),
   (.trd p w, { d := 4, modOk := fun m => m ≤ 5 }),
   (.fence p w, { modOk := fun m => m ≤ 7 }),
   (.twait p w, { a := 12 }),
   (.sli p w, { d := 4 }),
   (.salu p w, { d := 4, a := 4, b := 12, modOk := fun m => m ≤ 10 }),
   (.sld p w, { d := 4, a := 4, modOk := fun m => m ≤ 1 }),
   (.sst p w, { a := 4, b := 4, modOk := fun m => m ≤ 1 }),
   (.sfp p w, { d := 4, a := 4, b := 12, modOk := fun m => m ≤ 5 }),
   (.vset p w, { d := 1, a := 4, modOk := fun m => m ≤ 11 }),
   (.vadv p w, { d := 1, a := 4, b := 4 }),
   (.vld p w, { d := 1, a := 4 }),
   (.bld p w, { a := 4, b := 4, modOk := fun m => m ≤ 1 }),
   (.take p w, {}),
   (.bst p w, { a := 1, b := 4 }),
   (.emit p w, {}),
   (.tokw p w, { a := 4, b := 4, c := 4 }),
   (.mma p w, { d := 2, a := 1, b := 1, modOk := fun m => m ≤ 1 }),
   (.aclr p w, { d := 2 }),
   (.vop p w, { d := 3, a := 15, b := 15, modOk := fun m => m ≤ 4 }),
   (.vfma p w, { d := 3, a := 15, b := 15, c := 15 }),
   (.vun p w, { d := 3, a := 15, modOk := fun m => m ≤ 6 }),
   (.vsel p w, { d := 3, a := 15, b := 15, c := 15, cnds := 6 }),
   (.cvt p w, { d := 3, a := 3 }),
   (.red p w, { d := 1, a := 3, modOk := fun m => m ≤ 15 && m % 4 != 3 }),
   (.csum p w, { d := 1, a := 3 }),
   (.find p w, { d := 4, a := 1, b := 15, cnds := 6 }),
   (.topk p w, { d := 1, a := 1, b := 12, c := 1 }),
   (.gath p w, { d := 1, a := 1, b := 1 }),
   (.scat p w, { d := 1, a := 1, b := 1 }),
   (.osm p w, { d := 2, a := 1, b := 1, c := 1 }),
   (.rng p w, { d := 1, a := 4, b := 4, c := 4 }),
   (.rchk p w, { a := 3, b := 12, c := 4, modOk := fun m => m ≤ 7 })]

/-- From s to t nothing but pen p changed. -/
def OnlyPen (p : Nat) (s t : State) : Prop := { t with pens := s.pens } = s ∧ ∀ k, k ≠ p → t.pen k = s.pen k

/-- Pen p's run in t ended at its PC with an exception (R89). -/
def Raised (s t : State) (p : Nat) (r : Run) (code : Nat) (detail : BitVec 64) : Prop :=
  t.pen p = { s.pen p with
    run := some { r with
      ended := some (.exc code (s.pen p).pc detail), endedAt := r.issued, acc := none
      record := r.record ++ [.exc code (s.pen p).pc] } }

end Sys2Proof.Machine
end

