-- ==== Sys2Proof/Certificates/Slice0/Obligations.lean ====
section
/-! DEFINITION. The statements for the provers, in the order of OBLIGATIONS.json. -/

open Sys2Proof Sys2Proof.Machine

/-- The cut's queue: with a command waiting a step is that command's effect on the state with the queue's rest; with
none waiting a hub cycle passes (the model's choice, log entry 6), tile restarts in progress end (log entry 145), and
nothing else changes. -/
def Obligations.StepRunsTheFrontCommand : Prop :=
  (∀ (c : Instr) (rest : List Instr) (s : State), step { s with pending := c :: rest } = exec c { s with pending := rest })
  ∧ (∀ s : State, s.pending = [] → (∀ e ∈ s.tiles, e.2.restart = none) → step s = .next { s with clock := s.clock + 1 })
  ∧ ∀ s : State, s.pending = [] → ∃ t, step s = .next t ∧ t.clock = s.clock + 1 ∧ t.pending = [] ∧ t.mem = s.mem

/-- R21, R31, R97, R333, R343 and the tables' reset columns: what State.reset holds of them. The tick period is
250,000 ns and the landing 4 µs; treads are stopped; the cause of the last reset is power-on; the test access port
holds its reset instruction; no pen runs, no tile is on, the thermal latch is clear; memory lists nothing and keeps
the canonical form. -/
def Obligations.ResetHoldsTheStatedValues : Prop :=
  let s := State.reset
  s.pending = [] ∧ s.num 0x2001 0 = 250000 ∧ s.num 0x2002 0 = 4 ∧ s.tick.period = 250000 ∧ s.tick.land = 4
  ∧ s.tick.running = false ∧ s.epoch = 0 ∧ s.num 0x1007 0 = 0 ∧ s.num 0x100A 0 = 1 ∧ s.boot.modrdy = false
  ∧ s.boot.halted = false ∧ s.tap.ir = 0x01 ∧ s.drover.latch = false ∧ s.mem = [] ∧ Inv s
  ∧ (∀ p, (s.pen p).run = none ∧ ∀ n, (s.pen p).reg n = 0) ∧ (∀ k, (s.tile k).tileOn = false ∧ (s.tile k).flockOn = false)
  ∧ (∀ f, (s.link f).state = 0) ∧ ∀ n, (s.oe n).admitted = false

/-- The invariant: memory keeps its canonical form (strictly rising addresses, no entry that holds what an unlisted
address reads as) through every step, whatever command stands in front. -/
def Obligations.EveryStepKeepsTheMemoryForm : Prop :=
  ∀ s t : State, Inv s → step s = .next t → Inv t

/-- The one-way state: in every step the security-version floor, the lifecycle, the boot epoch and the count of leaves
used never fall, so that no older image is admitted, no state is entered again and no leaf signs twice. -/
def Obligations.OneWayStateNeverGoesBack : Prop :=
  ∀ (floor life boot leaves : Nat) (s t : State), step s = .next t →
    (floor ≤ s.nv.svnFuses.val ∧ life ≤ s.nv.lifecycle ∧ boot ≤ s.nv.bootEpoch ∧ leaves ≤ s.nv.leaves) →
    (floor ≤ t.nv.svnFuses.val ∧ life ≤ t.nv.lifecycle ∧ boot ≤ t.nv.bootEpoch ∧ leaves ≤ t.nv.leaves)

/-- The shepherds' and the memory's commands, each with one part of its own effect (R26, R97, R103, R111, R115, R124,
R127, R128, R136, R140–R142, R147, R159). -/
def ShepherdAndMemoryCommandsAct : Prop :=
  ∀ (s : State) (k r : Fin 64) (p : Fin 1024),
    let x := s.tile k
    (16 ≤ x.goodRun → Done (.batchCapGrowth k) s fun t => (t.tile k).goodRun = 0)
    ∧ (∀ off, let q := s.parsePlan k off (s.epoch + 1)
        x.flockOn = true → s.tick.running = false → x.plan = none → q.good = true → q.epoch = s.epoch + 1 →
        (sessionsOf q.jobs).length ≤ x.budgetBatch →
        Done (.planDoorbell k off) s fun t => (t.tile k).plan = some { epoch := s.epoch + 1, jobs := q.jobs })
    ∧ (∀ n j, s.canDispatch (tileOf p) (p % 16) = true → s.ownEntry (tileOf p) (p % 16) = some (n, j) →
        Done (.jobDispatch p) s fun t => (t.pen p).run.map (·.job) = some j)
    ∧ (s.tick.running = true → s.tick.inLanding = false → x.flockOn = true → x.slotNo + 1 < slotCount s.workNs →
        Done (.grantSlotBoundary k) s fun t => (t.tile k).slotNo = x.slotNo + 1 ∧ (t.tile k).grant = s.grantFor k (x.slotNo + 1))
    ∧ (∀ d n, d < 4 → neighbour (tileOf p) d = some n → (s.tile n).flockOn = true → n ∉ (s.tile (tileOf p)).requested →
        s.gov 0x7041 0 ≠ 0 → s.canDispatch (tileOf p) (p % 16) = true → s.ownEntry (tileOf p) (p % 16) = none →
        s.stealEntry (tileOf p) (p % 16) = none → 1000 * s.gov 0x7043 0 < s.toLanding → (s.tile (tileOf p)).tradedIn.length < 16 →
        Done (.tradeIdleExpiry p) s fun t => n ∈ (t.tile (tileOf p)).requested)
    ∧ (∀ clkt a b c, k ≠ r → Done (.tradeRequestReceived k r clkt a b c) s fun t =>
        ∃ l : List Nat, t.sent = s.sent ++ [.tileMessage k r msgGrant l])
    ∧ (∀ g : TradedJob, let h := leNat (s.read (sramBase r + (tradedJob k s.epoch g).prog) 64)
        r ≠ k → field h 128 32 ≠ g.imgcrc → Done (.tradeGrantReceived r k [g]) s fun t =>
          t.sent = s.sent ++ [.tileMessage r k msgReturn [(tradedJob k s.epoch g).jobId]])
    ∧ (∀ id cls n j, x.tradedOut.find? (fun e => e.2.jobId == id) = some (n, j) →
        Done (.tradeCompletionReport k id cls) s fun t => ∀ e ∈ (t.tile k).tradedOut, e.2.jobId ≠ id)
    ∧ (∀ (slot : Fin 64) (b : BaleRead) ha pa, tabGet (fun _ => none) (s.pen p).reads slot = some b →
        b.fromLpddr = true → b.served = none → s.writePending b.payload 4096 = false → s.writePending b.header 64 = false →
        s.mute b.payload = false → s.mute b.header = false → s.readPart b.header = .ok ha → s.readPart b.payload = .ok pa →
        checkBale (s.read pa 4096) (BitVec.ofNat 512 (leNat (s.read ha 64))).toNat = .good →
        Done (.memoryRead p slot 0) s fun t => tabGet (fun _ => none) (t.pen p).reads slot =
          some { b with served := some (s.read pa 4096, BitVec.ofNat 512 (leNat (s.read ha 64))) })
    ∧ (∀ (slot : Fin 64) (b : BaleRead) j, tabGet (fun _ => none) (s.pen p).reads slot = some b → (s.pen p).run = some j →
        j.ended = none → b.cls = 0 → b.reissued = false → Done (.baleReadTimeout p slot) s fun t =>
          tabGet (fun _ => none) (t.pen p).reads slot = some { b with reissued := true, served := none })
    ∧ (∀ slot (b : StagedBale) pa ha, tabGet (fun _ => none) x.staging slot = some b → b.released = true → b.loser = false →
        s.writeTarget b.payload b.header = .ok (pa, ha) →
        (b.written = false → Done (.commitWrite k slot 0) s fun t => ∃ h, tabGet (fun _ => none) (t.tile k).staging slot =
          some { b with written := true, head := some h })
        ∧ (b.written = true → Done (.commitWriteComplete k slot) s fun t => tabGet (fun _ => none) (t.tile k).staging slot = none)
        ∧ Done (.commitWriteTimeout k slot) s fun t => tabGet (fun _ => none) (t.tile k).staging slot =
            some { b with written := false, head := none })
    ∧ (∀ report, report ≤ 1 → Done (.refreshRatePoll k report) s fun t => (t.tile k).deviceRefresh = 1)
    ∧ (∀ c : Fin 6, s.channelBad k c = false → Done (.channelFailed k c) s fun t => t.channelBad k c = true)
    ∧ (∀ (gib : Fin 48) (e : Refill), s.refills.find? (fun e => e.src == 64 * k.val + gib && e.copies && !e.done) = some e →
        Done (.rehomingCopyComplete k gib) s fun t => ∀ e ∈ t.refills, e.src = 64 * k.val + gib → e.done = true)
    ∧ (∀ slot, s.gov 0x705C 0 = p.val → Accepts s slot opCommand 0x705D 0 → s.fenced p = false →
        (s.tile (tileOf p)).flockOn = true → Answers (.penFence slot) s slot opCommand 0x705D 0 0 fun u => u.fenced p = true)
    ∧ (∀ slot i, s.gov 0x705C 0 = p.val → Accepts s slot opCommand 0x705E 0 → s.fenced p = true →
        (s.tile (tileOf p)).flockOn = true → i < 16 → s.works (tileOf p) i = true → (∀ j, j < i → s.works (tileOf p) j = false) →
        Answers (.penRestore slot) s slot opCommand 0x705E 0 0 fun u =>
          (u.tile (tileOf p)).tests = (s.tile (tileOf p)).tests ++ [{ kind := 2, pen := p, other := gpen (tileOf p) i }])
    ∧ (∀ e (c : BitVec 32) ref, (s.tile (tileOf p)).excluded.getLsbD (p % 16) = true → s.testOf p = none →
        (s.tile (tileOf p)).duePen = some (p % 16) → (s.pen p).reference = some (e, c) →
        Done (.inFieldTestComplete p (some c) ref none) s fun t => (t.pen p).clean = s.epoch)
    ∧ (∀ slot, Accepts s slot opCommand 0xA032 0 → (s.group 0xA032).busy slot = false → s.tick.running = false →
        redirectRule s = 0 → (∀ e ∈ (s.group 0xA032).staged, e.2.1 < 256) →
        ((s.group 0xA032).staged.map fun e => (e.1, e.2.1)).Nodup → Answers (.redirectGroupCommit slot) s slot opCommand 0xA032 0 0
          fun u => ∀ e ∈ (s.group 0xA032).staged, u.obj e.1 e.2.1 = e.2.2)
    ∧ (∀ slot data, Accepts s slot opWrite 0xA030 0 → s.tick.running = false → data.length ≤ 2097152 → data.length % 32 = 0 →
        (∀ e ∈ regionsOf (data.length / 32) data, e.reserved = false ∧ regionOk e = true) →
        regionsApart (regionsOf (data.length / 32) data) = true →
        Wrote (.regionMapWrite slot data) s slot 0xA030 0 0 fun u => u.blob 0xA030 0 = data)

/-- The drover's and the optical commands, each with one part of its own effect (R151–R154, R160, R161, R166–R171,
R178–R181, R190–R196, R199). -/
def PowerAndOpticalCommandsAct : Prop :=
  ∀ (s : State) (n : Fin 12) (line : Fin 18) (r : Ring) (f : Fin 96),
    let d := s.drover
    let x := s.ring (ringKey r)
    let l := s.laser n line
    let y := s.fiber f
    (∀ mv a b vk, Done (.inputReading mv a b vk) s fun t => t.drover.millivolts = mv ∧ t.drover.vkMw = vk)
    ∧ (d.tabFault = false → Done .tabFault s fun t => t.drover.tabFault = true)
    ∧ (Done .tabFaultClear s fun t => t.drover.tabFault = false)
    ∧ (∀ slot v, Accepts s slot opWrite 0x3001 0 → 900 ≤ v → v ≤ 2200 → s.tick.running = false →
        d.nonTile + (64 * s.num 0x3008 0 : Nat) ≤ ((1000 * v : Nat) : Rat) →
        Done (.powerCapWrite slot v) s fun t => t.num 0x3001 0 = v)
    ∧ (∀ currents : List (Nat × Nat), Done (.senseWindow currents) s fun t => t.drover.metered = s.meter currents)
    ∧ (d.rein = true → d.reinHeld = false → Done .reinHeldLimit s fun t => t.drover.gminOnly = true)
    ∧ (Done .thermalUpdate s fun t => t.temp 125 = d.anchor ∧ t.drover.railWindows = 0)
    ∧ (∀ v : List Int, s.boot.hubUp = true → Done (.diodeRead v) s fun t => t.drover.diodes = v)
    ∧ (∀ c, d.shutDue = some c → Done .thermalShutdown s fun t => t.drover.latch = true ∧ t.boot.hubUp = false)
    ∧ (∀ slot, Accepts s slot opCommand 0x0F20 0 → s.num 0x0F00 0 ≠ 0 → d.latch = true →
        (∀ v ∈ d.diodes, v < (16 * s.gov 0x0F23 0 : Nat)) →
        Answers (.thermalReenable slot) s slot opCommand 0x0F20 0 0 fun u => u.drover.latch = false ∧ u.stage = 1)
    ∧ (∀ high, s.boot.vkUp = true → s.boot.inputOk = true → s.boot.booted = true →
        Done (.inputOutOfRange high) s fun t => t.boot.inputOk = false ∧ t.boot.hubUp = false)
    ∧ (s.boot.inputOk = false → s.boot.vkUp = true → d.latch = false → s.boot.poweredOff = false →
        Done .inputReturn s fun t => t.boot.inputOk = true ∧ t.stage = 1)
    ∧ (x.state = 0 → Done (.ringAcquisition r) s fun t => (t.ring (ringKey r)).state = 1)
    ∧ (x.state = 1 → ∀ v, 800 ≤ v → v < 800 + x.fsr → Done (.ringSweepComplete r [v]) s fun t =>
        t.ring (ringKey r) = { x with state := 2, aim := v })
    ∧ (x.state = 2 → ∀ h, Done (.ringAcquireComplete r (some h)) s fun t => t.ring (ringKey r) = { x with state := 3, heat := h })
    ∧ (x.state = 3 → 800 ≤ x.heat → x.heat < 800 + x.fsr → ∃ u : State,
        exec (.ringVerifyComplete r (some r.line)) s = .next (u.calAdvance (r.fiber / 8)) ∧ (u.ring (ringKey r)).state = 4)
    ∧ (x.state = 5 → ∀ v : Nat, ((v : Int) - x.centre).natAbs ≤ x.width → Done (.ringNarrowComplete r [v]) s fun t =>
        t.ring (ringKey r) = { x with state := 2, aim := v })
    ∧ (x.state = 4 → ∀ h, Done (.ringTrack r (some h)) s fun t => (t.ring (ringKey r)).heat = h)
    ∧ (∀ reading, Done (.mpdSample n line reading false) s fun t => (t.laser n line).mpd = reading ∧ (t.laser n line).dCount = l.dCount + 1)
    ∧ (l.dCount = 0 → -300 < l.d → -l.d < (10 * s.gov 0x5004 0 : Nat) → Done (.laserDailyMean n line) s fun t =>
        (t.laser n line).days = (l.d :: l.days).take 30)
    ∧ ((∃ e ∈ s.lanesOf n line, (s.txLane e.1 line).margin ≠ 255 ∧ (s.txLane e.1 line).margin < s.gov 0x5005 0) →
        l.state < 2 → l.warned = false → Done (.marginWarningExpiry n line) s fun t => (t.laser n line).warned = true)
    ∧ (∀ k : Fin 216, k.val % 12 = n → s.gov 0x5008 0 ≠ 0 → (s.oe n).admitted = true → (s.oe n).cal = none →
        (s.oe n).displaced = [] → (s.oe n).flagged = [] → (s.laser n (k.val / 12)).state < 2 →
        Done (.calibrationStepTime k) s fun t => (t.oe n).cal.map (·.line) = some (k.val / 12))
    ∧ (∀ c, s.inWindow = true → (s.oe n).cal = some c → c.noLaser = false → c.phase = 0 → c.waitingWindow = true →
        Done .calibrationWindowStart s fun t => (t.oe n).cal.map (·.waitingWindow) = some false)
    ∧ (∀ c, (s.oe n).cal = some c → Done (.calibrationStepTimeout n) s fun t => (t.oe n).cal = none)
    ∧ (∀ c reading, (s.oe n).cal = some c → c.phase = 1 → (s.oe n).ramp = false →
        Done (.calibrationMeasurementComplete n reading) s fun t => (t.laser n c.line).check = reading)
    ∧ (Done (.laserBiasRampEnd n) s fun t => (t.oe n).ramp = false)
    ∧ (∀ slot e, Accepts s slot opCommand 0x5007 0 → s.gov 0x5006 0 = 256 * n.val + line.val → s.lanesOf n line = [e] →
        s.standby e.1 permanentOrder ≠ none → (s.oe n).cal = none →
        (∀ g ∈ oeFibers n, (s.fiber g).exchTx = none ∧ (s.fiber g).exchRx = none) → (s.fiber e.1).txState ≠ 2 →
        Answers (.manualMove slot) s slot opCommand 0x5007 0 0 fun u => (u.fiber e.1).exchTx.map (·.lane) = some e.2)
    ∧ (y.los = true → y.shutterClosed = false → y.probing = false → Done (.shutterClose f) s fun t => (t.fiber f).shutterClosed = true)
    ∧ (y.shutterClosed = true → Done (.shutterProbeOpen f) s fun t => (t.fiber f).probing = true)
    ∧ (y.probing = true → Done (.shutterProbeClose f) s fun t => (t.fiber f).shutterClosed = true ∧ (t.fiber f).probing = false)

/-- The commands of lanes and links, each with one part of its own effect (R186–R189, R205–R220, R225–R243). -/
def LaneAndLinkCommandsAct : Prop :=
  ∀ (s : State) (f : Fin 96) (line : Fin 18) (n : Notice),
    let x := s.fiber f
    let l := s.rxLane f line
    let k := s.link f
    let good (ty : Nat) : Prop := n.type = ty ∧ 1 ≤ n.reason ∧ n.reason ≤ 7 ∧ n.lane < 16
    let at_ (m : List Nat) : Nat := m.getD n.lane 255
    (good 0x40 → n.toLine ≤ 17 → at_ x.rxMap ≠ 255 → n.reason ≠ 5 → n.reason ≠ 6 → Done (.dupReceived f n) s fun t =>
        (t.fiber f).exchRx.map (·.token) = some n.token)
    ∧ (∀ e seq, x.exchRx = some e → e.compare = true → (s.rxLane f e.toLine).state = 3 →
        Done (.steeringCompareComplete f e.token seq) s fun t => (t.fiber f).rxMap = x.rxMap.set e.lane e.toLine)
    ∧ (∀ e, x.exchRx = some e → Done (.steeringCompareTimeout f e.token) s fun t => (t.fiber f).exchRx = none)
    ∧ (∀ e, x.exchTx = some e → e.token = n.token → e.lane = n.lane → good 0x41 →
        Done (.switchedReceived f n) s fun t => (t.fiber f).txMap = x.txMap.set e.lane e.toLine)
    ∧ (∀ e, x.exchTx = some e → e.token = n.token → e.lane = n.lane → good 0x42 → x.asks = [] → x.moves = [] →
        (s.oe (f / 8)).cal = none → Done (.refuseReceived f n) s fun t => (t.fiber f).exchTx = none)
    ∧ (good 0x43 → n.fromLine ≤ 17 → at_ x.txMap ≠ 255 → n.reason = 7 → x.exchTx = none →
        ∀ dst, s.standby f permanentOrder = some dst → Done (.askReceived f n) s fun t =>
          (t.fiber f).exchTx.map (·.toLine) = some dst)
    ∧ (good 0x44 → at_ x.rxMap ≠ 255 → Done (.dropReceived f n) s fun t => (t.fiber f).dropLane = some n.lane)
    ∧ (∀ lane dst, good 0x45 → x.restoring = some (n.token, lane, dst) → Done (.restoreReceived f n) s fun t =>
        (t.fiber f).modeDue = some (false, lane, dst))
    ∧ (x.exchRx ≠ none → Done (.exchangeTimeout f true) s fun t => (t.fiber f).exchRx = none)
    ∧ (∀ r, x.restoring = some r → (s.oe (f / 8)).cal = none → Done (.restoreAnswerTimeout f) s fun t => (t.fiber f).restoring = none)
    ∧ (∀ b : CtrlBlock, malformed [b] = false → b.ctype = 2 → x.training = true → Done (.trainGroupReceived f [b]) s fun t =>
        (t.fiber f).rxrdyRows = (if b.rxrdy then x.rxrdyRows + 1 else 0))
    ∧ (∀ b : CtrlBlock, malformed [b] = false → b.ctype = 1 → x.training = false → lineOf x.rxMap b.carrier = line → l.state = 4 →
        (l.headers.filter id).length < 15 → l.headers.length < 64 → Done (.idleGroupReceived f [b]) s fun t =>
          (t.rxLane f line).headers.length = l.headers.length + 1)
    ∧ (∀ (b : CtrlBlock) (g : List CtrlBlock), malformed (b :: g) = false → (∀ c ∈ b :: g, c.ctype = 3) → x.training = false →
        mapped x.rxMap ≠ [] → (∀ l ∈ mapped x.rxMap, ((s.takeCtrlBlocks f (b :: g)).rxLane f l).state = 4) → b.thin = true →
        ∀ lane, x.dropLane = some lane → b.dlane = lane → readMap b.map = x.rxMap.set lane 255 → ∃ u : State,
          exec (.modeGroupReceived f (b :: g)) s = .next (u.calAdvance (f / 8)) ∧ (u.fiber f).rxMap = x.rxMap.set lane 255)
    ∧ (l.state = 1 → x.los = false → Done (.blockLockAcquired f line) s fun t =>
        (t.rxLane f line).state = if s.test.on true f line = true then 6 else 2)
    ∧ (2 ≤ l.state → l.state ≤ 4 → ∀ e, Done (.blockLockLost f line e) s fun t =>
        (t.rxLane f line).lockLosses = (l.lockLosses + 1) % 2 ^ 16)
    ∧ (l.state = 2 → x.los = false → x.training = true → Done (.adaptComplete f line 0) s fun t => (t.rxLane f line).state = 3)
    ∧ (l.state = 4 → ∀ m, Done (.marginMeasurement f line m) s fun t => (t.rxLane f line).margin = min m 254)
    ∧ (Done (.fmarginTimeout f line) s fun t => (t.txLane f line).margin = 255)
    ∧ (x.los = false → Done (.lossOfSignalSet f) s fun t => (t.fiber f).los = true)
    ∧ (x.los = true → Done (.lossOfSignalClear f) s fun t => (t.fiber f).los = false)
    ∧ (∀ i, laneOn x.rxMap line = some i → l.state ≠ 4 → x.los = false → x.training = false → s.locked true f line = true →
        k.state = 3 → Done (.laneReturnTimeout f line) s fun t => ∃ q, (t.link f).queue 2 = k.queue 2 ++ [q])
    ∧ (k.state = 0 → x.inService = true → Done (.laneTrainingStart f) s fun t => (t.fiber f).training = true ∧ (t.link f).state = 1)
    ∧ (x.training = true → x.attempts < 2 → Done (.trainingTimeout f) s fun t => (t.fiber f).attempts = x.attempts + 1)
    ∧ (∀ slot, Accepts s slot opCommand 0xF052 0 → s.lineBusy s.selected.1 s.selected.2.1 s.selected.2.2 = false →
        Answers (.prbsStart slot) s slot opCommand 0xF052 0 0 fun u =>
          u.test.on s.selected.1 s.selected.2.1 s.selected.2.2 = true)
    ∧ (∀ slot, Accepts s slot opCommand 0xF053 0 → Answers (.prbsStop slot) s slot opCommand 0xF053 0 0 fun u =>
        u.test.on s.selected.1 s.selected.2.1 s.selected.2.2 = false)
    ∧ (∀ slot (v : BitVec 32), Accepts s slot opWrite 0xF057 0 → field v.toNat 30 2 = 1 → field v.toNat 28 2 ≠ 3 →
        s.selected.1 = false → Wrote (.injectionWord slot v) s slot 0xF057 0 0 fun u => u.test.injection = some v)
    ∧ (∀ v : BitVec 32, s.test.injection = some v → (s.txLane s.test.injFiber s.test.injLine).state = 4 → field v.toNat 28 2 = 2 →
        Done .injectionFire s fun t => t.sent = s.sent ++ [.injected s.test.injFiber s.test.injLine 2])
    ∧ (∀ g m, s.test.checker = some (g, m) → s.test.on true g m = true → s.test.lockAt = none →
        Done .prbsPatternLock s fun t => t.test.lockAt = some s.clock)
    ∧ (s.test.lockAt ≠ none → Done .prbsPatternLockLost s fun t => t.test.lockAt = none)
    ∧ (x.training = true → Done (.rowSend f) s fun t => (t.fiber f).row = x.row + 1)
    ∧ (∀ (b : List Byte) (hs : List (BitVec 2)), mixed hs = false → x.training = false → (s.takeFlitBlocks f b hs).delivers f = true →
        verdict b = .good → (flitHead b).reserved = false →
        (k.state = 3 → (flitHead b).lc = false → (flitHead b).tc ≠ 0 → (flitHead b).seq = k.expect → k.expect < 2 ^ 24 →
          Done (.flitReceived f b hs) s fun t => (t.link f).expect = (k.expect + 1) % 2 ^ 24)
        ∧ ((flitHead b).lc = true → lcReserved (flitHead b) (leNat (flitPayload b)) = false → k.state = 3 →
          let ty := field (leNat (flitPayload b)) 0 8
          (ty = 1 → k.credited.length = 5 → Done (.ackonlyReceived f b hs) s fun t => (t.link f).oldest =
            if (flitHead b).av = true ∧ seqDist (flitHead b).ack k.oldest < k.outstanding
              then (k.oldest + (seqDist (flitHead b).ack k.oldest + 1)) % 2 ^ 24 else k.oldest)
          ∧ (ty = 2 → (flitHead b).av = false → k.noProgress < 7 → Done (.nakReceived f b hs) s fun t => ∃ c, (3, c) ∈ (t.link f).lcDue)
          ∧ (ty = 3 → (flitHead b).av = false → (∀ c, c < 5 → field (leNat (flitPayload b)) (64 + 32 * c) 32 = k.arrivals.getD c 0) →
            Done (.cmarkReceived f b hs) s fun t => (t.link f).state = 3)
          ∧ (ty = 4 → (flitHead b).av = false → Done (.initReceived f b hs) s fun t => (t.link f).expect = 0 ∧ (t.link f).next = 0)
          ∧ (ty = 5 → (flitHead b).av = false → k.outstanding < seqDist (field (leNat (flitPayload b)) 16 24) k.oldest →
            Done (.resumeReceived f b hs) s fun t => (t.link f).next = 0)))
    ∧ (s.ready = true → k.state = 2 → Done (.initResendTimer f) s fun t => ∃ c, (if k.rxState then 5 else 4, c) ∈ (t.link f).lcDue)
    ∧ (k.state = 3 → k.nakPending = true → Done (.nakRepeat f) s fun t => ∃ c, (2, c) ∈ (t.link f).lcDue)
    ∧ (k.state = 3 → k.ackDue = true → Done (.ackonlyTimer f) s fun t => ∃ c, (1, c) ∈ (t.link f).lcDue)
    ∧ (k.state = 3 → 0 < k.out 0 → Done (.cmarkTimer f) s fun t => ∃ c, (3, c) ∈ (t.link f).lcDue)
    ∧ (k.state = 3 → 0 < k.sinceAck → Done (.ackCoalesceTimeout f) s fun t => (t.link f).ackDue = true)
    ∧ (k.state = 3 → 0 < k.outstanding → k.spilled = 0 → k.unreadable = 0 → k.noProgress < 7 →
        Done (.replayTimeout f) s fun t => (t.link f).replayAt = some k.oldest)
    ∧ (k.state = 3 → k.queue 1 ≠ [] → k.credit 1 = false → Done (.creditTimeout f) s fun t => (t.link f).queues = [])
    ∧ (∀ seq, k.replayAt = some seq → k.spillRead = true → k.direct = false → ¬ seqDist seq k.oldest < k.unreadable → verdict (s.read (s.spillAddr f seq) 256) = .good →
        Done (.spillReadComplete f true) s fun t => (t.link f).spillRead = false)
    ∧ (Done (.spillWriteComplete f) s fun t => (t.link f).spillWaiting = k.spillWaiting - 1)
    ∧ (∀ slot, Accepts s slot opCommand 0x5048 (f + 1) → k.state = 5 → x.txState ≠ 2 → x.rxState ≠ 2 →
        Answers (.linkRestore slot f) s slot opCommand 0x5048 (f + 1) 0 fun u => (u.link f).state = 1)
    ∧ (∀ slot value, Accepts s slot opWrite 0x5041 (f + 1) → s.tick.running = false → value = 0 →
        Done (.spillRegionWrite slot f true value) s fun t => t.num 0x5041 (f + 1) = 0)
    ∧ (∀ slot value, Accepts s slot opWrite 0x5034 1 → s.tick.running = false → value ≤ 65535 →
        ((List.range 5).map fun c => if c = 0 then value else s.num 0x5034 (c + 1)).sum ≤ 1024 →
        Wrote (.reservedMinimumWrite slot 0 value) s slot 0x5034 1 0 fun u => u.num 0x5034 1 = value)

/-- The commands of the flight and the Ethernet ports, each with one part of its own effect (R247–R252, R259–R278). -/
def FlightAndEthernetCommandsAct : Prop :=
  ∀ (s : State) (k : Fin 16) (q : Fin 65536) (p : Fin 8) (slot : Nat),
    let x := s.qp q
    let y := s.pfcOf x.lport (s.num 0x6011 0)
    let open_ : Prop := s.portState x.lport = 2 ∧ y.paused = false ∧ y.released = false
    let takes : Prop := s.boot.cutOff = false ∧ x.replies = []
    (∀ (f : Fin 96) tc payload, let v := leNat (payload.take 16)
        (s.link f).state = 3 → field v 0 8 = 0x60 → field v 8 8 = 0 → v / 2 ^ 48 = 0 → tc = 1 ∨ tc = 2 → field v 16 16 ≠ s.faddr →
        ∀ g, s.hopTo (field v 16 16) = some g → Done (.forwardingEnvelope f tc payload) s fun t =>
          (t.link g).queue tc = (s.link g).queue tc ++ [(s.takeHanded f tc payload).2])
    ∧ (∀ data, Accepts s slot opWrite 0x2030 0 → WriteFits s 0x2030 0 (.bytes data) → s.tick.running = false →
        s.badIn (2 ^ 43) (2 ^ 20) = false → s.schedFormatOk data = true → s.schedReachOk data = true → s.schedRowsOk data = true → s.schedLoadOk data = true →
        s.schedStreamsOk data = true → Wrote (.stagedScheduleWrite slot data) s slot 0x2030 0 0 fun u => u.blob 0x2030 0 = data)
    ∧ (∀ data, Accepts s slot opWrite 0x2040 0 → WriteFits s 0x2040 0 (.bytes data) → membershipOk false data = true →
        Wrote (.membershipListWrite slot data) s slot 0x2040 0 0 fun u => u.blob 0x2040 0 = data)
    ∧ (Accepts s slot opCommand 0x2046 0 → Answers (.buildFlight slot) s slot opCommand 0x2046 0 0 fun u =>
        u.gallery = { s.gallery with building := true })
    ∧ (s.gallery.building = true → Done (.flightBuildComplete []) s fun t => t.num 0x2042 0 = 4 ∧ t.gallery.building = false)
    ∧ (∀ i : Fin 256, let list := s.gallery.newList.getD (s.blob 0x2040 0)
        s.tick.active = true → i.val < list.length / 16 → i.val ≠ s.position →
        (∀ m ∈ membersOf (list.length / 16) list, m.addr % 256 = i.val → m.role ≠ 3) →
        Done (.memberLost i) s fun t => t.gallery.newList = some (loseEntry list i))
    ∧ (∀ inner : List Byte, inner.length = 224 →
        let v := leNat (inner.take 16)
        let c := field v 64 8
        let body := (inner.drop 16).take (16 * c)
        field v 0 8 = 0x62 → field v 8 24 = 0 → 1 ≤ c → c ≤ 13 → field v 72 8 = 0 → field v 80 16 = c →
        (∀ m ∈ membersOf c body, m.rsvOk = true ∧ m.role ≤ 3) → s.gallery.upd < field v 32 32 → s.gallery.updHead = none →
        crc32c body = field v 96 32 → Done (.membershipUpdateReceived inner) s fun t => t.gallery.newList = some body)
    ∧ (s.gallery.updHead ≠ none → Done .membershipUpdateTimeout s fun t => t.gallery.updHead = none)
    ∧ (∀ slot (port : Fin 4) (mode : Nat), Accepts s slot opWrite 0x6001 (port + 1) → WriteFits s 0x6001 (port + 1) (.num mode) →
        headroomTooLarge (s.num 0x6010 0) (s.num 0x6014 0) (s.modes.set port mode) = false → mode ≠ s.num 0x6001 (port + 1) →
        tabWf (fun _ => ({} : QpSt)) s.eth.qps = true → Done (.portModeWrite slot port mode) s fun t =>
          t.num 0x6001 (port + 1) = mode)
    ∧ (s.portThere k = true → s.boot.refEth = true → s.boot.hubUp = true → s.portState k ≠ 2 →
        Done (.ethernetLinkUp k) s fun t => t.portState k = 2)
    ∧ (s.portState k = 2 → Done (.ethernetLinkDown k) s fun t => t.portState k = 1)
    ∧ (∀ f : EthFrame, s.portState k = 2 → f.fcsGood = true → f.vlanTags.length ≤ 1 → knownType f.etherType = true →
        f.etherType ≠ 0x0800 → f.etherType ≠ 0x86DD → s.ownMac k f.dst = true → s.vlanOk k f.vlanTags = true → f.length ≤ 9216 →
        ((s.eth.buffer.filter fun e => e.1 == k.val).map (·.2.2)).sum + f.length ≤ s.share k →
        Done (.ethernetFrameReceived k f) s fun t => t.eth.buffer = s.eth.buffer ++ [(k.val, f.pcp % 8, f.length)])
    ∧ (∀ ip mac, s.answers k = true → s.ip4Of k ≠ 0 → Done (.arpRequest k ip mac (s.ip4Of k)) s fun t =>
        (k.val, ip, mac) ∈ t.eth.neighbours)
    ∧ (∀ ip mac, s.answers k = true → s.ip6Of k ≠ 0 → Done (.neighbourSolicitation k ip mac (s.ip6Of k)) s fun t =>
        (k.val, ip, mac) ∈ t.eth.neighbours)
    ∧ (∀ ip data, s.answers k = true → s.ip4Of k ≠ 0 → Done (.icmpEchoRequest k false ip (s.ip4Of k) data) s fun t =>
        t.sent.getLast? = some (s.plainFrame k ip (.echoReply k ip data)))
    ∧ (∀ ip, Done (.neighbourEntryExpiry k ip) s fun t => ∀ e ∈ t.eth.neighbours, ¬ (e.1 = k.val ∧ e.2.1 = ip))
    ∧ (∀ (r : CmReq) c a n, s.answers k = true → s.ready = true → r.service = cmServiceId (s.num 0x6030 0) → r.rc = true → r.altPath = false →
        (∀ e ∈ s.eth.qps, ¬ (e.2.state = 1 ∧ e.2.srcQp = r.srcQp ∧ e.2.srcAddr = r.srcAddr)) → x.state = 0 →
        (∀ j, j < q.val → (s.qp j).state ≠ 0) → s.connRule r.priv = .ok (c, a, n) →
        Done (.cmReq k r) s fun t => (t.qp q).state = 1 ∧ (t.qp q).conn = some c)
    ∧ (x.state = 1 → Done (.cmRtu q) s fun t => (t.qp q).state = 2)
    ∧ (x.state ≠ 0 → Done (.cmDreq q) s fun t => t.qp q = {})
    ∧ (∀ (r : RcPacket) c, x.state = 2 → open_ → takes → r.psn < 2 ^ 24 → r.ce = false → r.psn = x.expectPsn → x.conn = some c →
        r.first = true → r.last = true → c.ring.length < c.depth → r.payload.length ≤ 4096 →
        Done (.roceSendReceived q r) s fun t => (t.qp q).expectPsn = (r.psn + 1) % 2 ^ 24)
    ∧ (∀ r : RcPacket, x.state = 2 → open_ → takes → r.psn < 2 ^ 24 → r.ce = false → r.psn = x.expectPsn → r.dmaLen ≤ 2 ^ 31 →
        (r.first = true → r.last = true → r.payload.length = r.dmaLen → r.payload ≠ [] →
          s.accessCheck q r.rkey r.va r.dmaLen true = 0 → Done (.rdmaWriteReceived q r) s fun t =>
            (t.qp q).expectPsn = (r.psn + 1) % 2 ^ 24)
        ∧ (s.accessCheck q r.rkey r.va r.dmaLen false = 0 → Done (.rdmaReadRequest q r false) s fun t =>
          t.qp q = { x with expectPsn := (r.psn + max 1 ((r.dmaLen + x.mtu - 1) / x.mtu)) % 2 ^ 24 }))
    ∧ (∀ w, x.state = 2 → open_ → s.eth.writes.find? (fun e => e.id == w.id) = some w → w.qp = some q.val →
        x.replies = [.ack w.psn false] → Done (.externalWriteComplete w.id) s fun t => t.mem = (s.writeThrough w.addr w.data).mem)
    ∧ (∀ o psn ce, x.state = 2 → open_ → takes → knownOpcode o = false → x.expectPsn < 2 ^ 24 →
        Done (.unsupportedOpcodeReceived q o psn ce) s fun t => t.sent.getLast? = some (s.roceFrame q (.rcNak q psn nakInvalid)))
    ∧ (∀ syn psn, x.state = 2 → open_ → syn / 32 % 4 = 0 → Done (.rcAckReceived q syn psn false) s fun t => (t.qp q).rnrLeft = x.rnrRetry)
    ∧ (x.state = 2 → open_ → x.unacked ≠ [] → x.retryLeft ≠ 0 → Done (.localAckTimeout q) s fun t =>
        (t.qp q).retryLeft = x.retryLeft - 1)
    ∧ (x.state = 2 → let g : Rat := 1 / (2 ^ s.gov 0x6020 0 : Nat)
        Done (.cnpReceived q false) s (fun t => (t.qp q).rt = x.rc)
        ∧ Done (.dcqcnAlphaTimer q) s (fun t => (t.qp q).alpha = (1 - g) * x.alpha)
        ∧ Done (.dcqcnRateTimer q) s (fun t => (t.qp q).tc = x.tc + 1)
        ∧ Done (.dcqcnByteCounter q) s fun t => (t.qp q).bc = x.bc + 1)
    ∧ (∀ mask quanta, s.portState k = 2 → mask.getLsbD p = true → s.lossless p = true → Done (.pfcFrameReceived k mask quanta) s
        fun t => (t.pfcOf k p).paused = decide (quanta.getD p 0 ≠ 0))
    ∧ ((s.pfcOf k p).sent = true → s.pfcLevel k < s.held k p → Done (.pfcRepeat k p) s fun t => t.sent = s.sent ++ [.pfc k p 0xFFFF])
    ∧ ((s.pfcOf k p).paused = true → (s.pfcOf k p).released = false → Done (.pauseWatchdogExpiry k p) s fun t =>
        (t.pfcOf k p).released = true)
    ∧ ((s.pfcOf k p).released = true → Done (.pauseWatchdogResume k p) s fun t => (t.pfcOf k p).released = false)
    ∧ (Accepts s slot opWrite 0x6014 0 → WriteFits s 0x6014 0 (.num 64) → s.num 0x6010 0 = 0 →
        Wrote (.pfcMaskWrite slot true 64) s slot 0x6014 0 0 fun u => u.num 0x6014 0 = 64)

/-- The commands of the token service and the dictionary, each with one part of its own effect (R282–R299, R303–R323). -/
def ServiceAndDictionaryCommandsAct : Prop :=
  ∀ (s : State) (q : Fin 65536) (slot : Nat),
    let x := s.qp q
    let asks (i : Instr) (kind : Nat) : Prop := ∀ (c : Conn) (b : List Byte) (rest : List (List Byte)), x.conn = some c →
      c.ring = b :: rest → c.due = 0 → x.state = 2 → s.boot.hubAnswering = true → s.tick.running = true →
      ((requestOf b).area = true → x.doomed = false) →
      (requestOf b).bad = false → (requestOf b).kind = kind →
      Done i s fun t => (t.qp q).conn.map (fun d => (d.ring, d.cons, d.rdone)) = some (rest, (requestOf b).cons, (c.rdone + 1) % 2 ^ 32)
    asks (.openReq q) 1 ∧ asks (.continueReq q) 2 ∧ asks (.closeReq q) 3 ∧ asks (.nopRequest q) 4
    ∧ (s.tick.running = true → s.isHome = true → Done .batchCut s fun t => t.service.batchEpoch = s.epoch + 1)
    ∧ (∀ (i : Fin 32768) (e : Session), s.session i = some e → s.tick.running = true → e.orphan = false →
        (e.state = 0 → s.gov 0xB021 0 ≠ 0 → Done (.admissionTimeout i) s fun t => (t.session i).map (·.state) = some 4)
        ∧ (e.state = 3 → Done (.idleTimeout i) s fun t => (t.session i).map (·.state) = some 4))
    ∧ (∀ index sub, let c := 0x2003
        ((s.group c).staged ≠ [] → Done (.stagingTimeout true) s fun t => t.group c = {})
        ∧ (s.assembly index sub ≠ none → Done (.assemblyTimeout index sub) s fun t => t.assembly index sub = none)
        ∧ (Done (.readHoldTimeout slot index sub) s fun t => t.heldValue slot index sub = none)
        ∧ (∀ r, objectRow index sub = some r → Accepts s slot opDiscard index sub →
          Answers (.discard slot index sub r.type.code 0) s slot opDiscard index sub 0 fun u => u.group index = {})
        ∧ (s.authority slot ≠ none → isKeeper index = false → s.drover.latch = false → s.ready = true →
          exec (.hubForwardTimeout slot opRead index sub) s = .next (s.answer slot opRead index sub 0x0F000001)))
    ∧ (∀ h lw tw, Accepts s slot opCommand 0xB004 0 → let v := s.settleImage (s.gov 0xB002 0)
        v.image (s.gov 0xB002 0) = some (h, lw, tw) →
        let i := s.gov 0xB001 0
        let m := v.modelOf i (s.gov 0xB003 0) h lw tw
        bit h.caps 0 = true → (h.caps &&& s.num 0x1008 0) = h.caps → v.tooLarge i (s.gov 0xB003 0) lw tw = false →
        v.predict ((((List.range 16).filter (· ≠ i)).map s.model |>.filter fun x => 1 ≤ x.state && x.state ≤ 4) ++ [m])
          ≤ s.treadPeriod → (s.model i).state = 0 → h.kvminp ≤ s.gov 0xB003 0 →
        Answers (.loadModel slot) s slot opCommand 0xB004 0 0 fun u => ∃ w : State, u = w.reportModel i
          ∧ w.model i = { m with regions := (s.model i).regions })
    ∧ (∀ i : Fin 16, let v := s.settleWeights (s.model i)
        (s.model i).state = 1 → s.service.loadsDone.contains i.val = false → v.badWeight (s.model i) = none →
        s.tick.running = true → Done (.modelLoadComplete i none) s fun t => t.mem = (v.copyResident (s.model i)).mem)
    ∧ (Accepts s slot opCommand 0xB005 0 → let i := s.gov 0xB001 0
        (s.model i).state = 2 → i < 16 → (∀ j, j < 16 → (s.model j).state ≠ 5) → s.modelBusy i = false → s.tick.running = true →
        Answers (.unloadModel slot) s slot opCommand 0xB005 0 0 fun u => u.model i = {})
    ∧ (Accepts s slot opWrite 0xB011 0 → WriteFits s 0xB011 0 (.num 0) → s.num 0xB013 0 = 0 → s.poolRule (s.num 0xB010 0) 0 = 0 →
        Done (.ringPoolWrite slot true 0) s fun t => t.num 0xB011 0 = 0)
    ∧ (∀ data, let v := leNat data
        let w := s.gov 0x6040 0
        Accepts s slot opWrite 0x6041 0 → WriteFits s 0x6041 0 (.bytes data) → w < 4096 → field v 192 64 = 0 → field v 160 8 = 0 →
        field v 58 3 = 0 → field v 43 13 = 0 → field v 0 12 = 0 → field v 64 64 % 4096 = 0 → 0 < field v 64 64 →
        field v 64 64 ≤ 2 ^ 36 → windowRange (field v 0 43) (field v 64 64) = true → field (s.windowAt w).toNat 56 2 ≠ 1 →
        s.tick.running = true → Wrote (.windowDescriptorWrite slot data) s slot 0x6041 0 1 fun u =>
          Deferred.window w data ∈ u.dict.deferred)
    ∧ (∀ index sub r v, objectRow index sub = some r → r.type.isBytes = false →
        (Accepts s slot opRead index sub → s.valueOf index sub r = .num v → Done (.mopRead slot index sub 0 0 8 false) s fun t =>
          ∃ e : Response, t.sent = s.sent ++ [Out.response slot e] ∧ e.abort = 0 ∧ e.data = leBytes r.type.size v)
        ∧ (Accepts s slot opDescribe index sub → Done (.describe slot index sub 0 0) s fun t =>
          ∃ e : Response, t.sent = s.sent ++ [Out.response slot e] ∧ e.abort = 0 ∧ e.data.length = 48)
        ∧ (Accepts s slot opWrite index sub → WriteFits s index sub (.num v) → ownRule index (.num v) = 0 →
          ¬ (0x8100 ≤ index ∧ index ≤ 0x821F) → r.access = .rws →
          index ∉ [0x9010, 0x9023, 0x3001, 0x6001, 0xB010, 0xB011, 0x6010, 0x6014, 0x5040, 0x5041, 0x5034, 0xF057, 0xF030] →
          Wrote (.registerWrite slot index sub v) s slot index sub 0 fun u => u.num index sub = v))
    ∧ (∀ index sub r data, objectRow index sub = some r → r.type.isBytes = true → index ≠ 0x0F50 → Accepts s slot opWrite index sub →
        data.length ≤ 1024 → (data.length : Int) ≤ r.max → r.access ≠ .rws → s.assembly index sub = none →
        Wrote (.mopWrite slot index sub r.type.code 0 false data) s slot index sub 0 fun u =>
          u.assembly index sub = some { slot := slot, data := data, last := s.clock })
    ∧ (∀ a addr (data : List Byte), s.authority slot = some a → 0 < data.length → data.length ≤ 1016 →
        s.memRule addr data.length = 0 → inScratch addr data.length = false →
        (s.memCheck a opMemread = none → let v := s.settleRange addr data.length
          Done (.memread slot addr data.length) s fun t => t.sent = v.sent ++ [.response slot
            { op := opMemread, index := 0, sub := 0, abort := 0, data := v.readThrough addr data.length }])
        ∧ (s.memCheck a opMemwrite = none → Done (.memwrite slot addr data) s fun t =>
          ∀ i, i < data.length → t.byte (s.realAddr (addr + i)) = data.getD i 0))
    ∧ (∀ ip port bytes h r, s.boot.booted = true → s.parse bytes = some (h, [r]) → s.authority h.keyid ≠ none →
        bytes.drop (32 + h.len) = mopTag h.keyid (s.keySlot h.keyid).key (bytes.take (32 + h.len)) → h.boot = s.num 0x0F05 0 →
        (s.keySlot h.keyid).h < h.ctr → s.dict.frameAuth = none → r.op = opRead →
        Done (.mopDatagram none false ip port bytes) s fun t => h.ctr ∈ (t.keySlot h.keyid).seen ∧ ∃ b, t.sent = s.sent ++ [.datagram none ip port b])
    ∧ (s.boot.booted = true → Done .eventLogSave s fun t => t.nv.log = s.events.take 8192)
    ∧ ∀ seen, Done (.plcaBeaconChange seen) s fun t => t.dict.plcaSeen = seen

/-- The commands of bring-up, resets, failures, the test port, tallies and security, each with one part of its own
effect (R327–R346, R349–R352, R370–R381, R389–R404, R411, R419). -/
def ModuleCommandsAct : Prop :=
  ∀ (s : State) (slot : Nat) (k : Fin 64) (n : Fin 12) (u : Fin 288),
    let x := s.tally u
    (Done .powerOnReset s fun t => t.boot.vkUp = true ∧ t.stage = 1)
    ∧ (s.boot.vkUp = true → s.boot.booted = false → s.boot.silent = false →
        Done (.keeperBoot true true) s fun t => t.boot.booted = true ∧ t.nv.bootEpoch = s.nv.bootEpoch + 1)
    ∧ (s.inStage 2 = true → s.verifyImage s.sec.store = 0 → Done (.firmwareVerification true) s fun t => t.stage = 3)
    ∧ (s.inStage 3 = true → s.boot.hubUp = false → s.tap.testMode = false → ∀ l a,
        Done (.hubBringup true true true l a) s fun t => t.stage = 4 ∧ t.boot.hubUp = true)
    ∧ (s.inStage 3 = true → s.boot.pllLocked = false → s.boot.vhOn = true →
        Done (.referenceRetry true) s fun t => t.boot.pllLocked = true)
    ∧ (s.boot.refEth = false → Done (.ethernetReferenceChange true) s fun t => t.boot.refEth = true)
    ∧ (s.boot.vkUp = true → s.boot.halted = false → s.tap.testMode = false → s.boot.booted = false →
        Done .stageTimeout s fun t => t.boot.halted = true)
    ∧ (s.inStage 3 = true → s.boot.hubUp = false → Done (.railTimeout 2 0) s fun t => t.boot.halted = true)
    ∧ (∀ r : OeChecks, s.inStage 4 = true → s.boot.nextOe = n.val → Done (.oeQualification n r) s fun t => t.boot.nextOe = n + 1)
    ∧ (∀ r : OeChecks, (s.oe n).withdrawn = false → s.ready = true → oeFail r (BitVec.ofNat 64 (s.num 0x1008 0)) ≠ 0 →
        Done (.oeRequalification n r) s fun t => (t.oe n).admitted = false)
    ∧ (∀ r, s.inStage 5 = true → (∀ j, j < 64 → (s.tile j).tileOn = false) → k % 8 = 7 → strapValid k r.strap = true →
        r.rail = true → r.badSlices = 0 → s.num 0x7051 (k + 1) = 0 → s.num 0x7052 0 = 0 →
        Done (.tileDieToDieTest [(k, r)]) s fun t => t.stage = 6 ∧ (t.tile k).tileOn = true)
    ∧ (∀ (d : BitVec 32) (l : List (Fin 1024 × BitVec 32)), s.inStage 7 = true → s.nv.fences = [] → (s.tile k).tileOn = true →
        (∀ j : Fin 64, (s.tile j).flockOn = true → (s.tile j).tileOn = true) →
        (∀ p : Fin 1024, l.find? (fun e => e.1.val == p.val) = some (p, d)) →
        Done (.penSelfTest l) s fun t => t.stage = 8 ∧ (t.tile k).flockOn = true)
    ∧ (s.inStage 8 = true → s.boot.negotiated = false → s.tilesOn.map (fun t => (s.tile t).stepping) = [0x5402] →
        (((s.tilesOn.map fun t => (s.tile t).capability) ++ ((List.range 12).filter fun n => (s.oe n).admitted).map
          fun n => (s.oe n).capability).foldl (· &&& ·) 1).getLsbD 0 = true →
        Done .capabilityNegotiation s fun t => t.boot.negotiated = true ∧ t.num 0x1003 0 = 0x5402)
    ∧ (s.inStage 6 = true → ∀ bad, Done (.memoryTraining bad) s fun t => t.stage = 7 ∧ t.boot.vmOn = true)
    ∧ (s.inStage 8 = true → s.boot.negotiated = true → s.boot.waitOes = [] → Done .ready s fun t => t.stage = 9 ∧ t.boot.modrdy = true)
    ∧ (Accepts s slot opCommand 0x0F30 0 → s.keeperState ≠ 0 → s.sec.installing = false →
        Answers (.moduleReset slot) s slot opCommand 0x0F30 0 0 fun t => t.stage = 1 ∧ t.num 0x100A 0 = 2)
    ∧ (s.boot.modrstLow = false → s.boot.vkUp = true → s.sec.installing = false → Done .modrstAssert s fun t => t.boot.modrstLow = true)
    ∧ (Done .modrstRelease s fun t => t.boot.modrstLow = false)
    ∧ (∀ c, s.boot.restartDue = some c → s.boot.booted = true → s.drover.latch = false →
        Done .firmwareRestart s fun t => t.stage = 2 ∧ t.num 0x100A 0 = c)
    ∧ (s.boot.hubUp = true → Done .hubWatchdogExpiry s fun t => t.keeperState = 3 ∧ t.boot.restartDue = some 7)
    ∧ (s.boot.vkUp = true → Done .keeperWatchdogExpiry s fun t => t.stage = 1 ∧ t.boot.keeperWdog = true)
    ∧ (Done .powerLoss s fun t => t.boot.vkUp = false ∧ t.stage = 0)
    ∧ (Accepts s slot opCommand 0x0F31 0 → s.keeperState ≠ 0 → s.sec.installing = false →
        Answers (.powerOff slot) s slot opCommand 0x0F31 0 0 fun t => t.boot.poweredOff = true)
    ∧ (Accepts s slot opCommand 0x0F32 0 → s.keeperState ≠ 0 →
        Answers (.allLasersOff slot) s slot opCommand 0x0F32 0 0 fun t => t.boot.lasersOff = true)
    ∧ (Accepts s slot opCommand 0x0F34 0 → s.keeperState ≠ 0 → (s.gov 0x0F33 0).testBit k = true →
        Answers (.tilePowerDown slot) s slot opCommand 0x0F34 0 0 fun t => (t.tile k).tileOn = false)
    ∧ ((s.tile k).tileOn = true → (s.tile k).flockOn = true → Done (.tilePllUnlock k) s (fun t => (t.tile k).tileOn = false)
        ∧ Done (.memoryControllerTimeout k) s (fun t => (t.tile k).tileOn = false)
        ∧ ∀ a, Done (.uncorrectableEccError 0 k a) s fun t => (t.tile k).flockOn = false)
    ∧ ((s.tile k).flockOn = true → Done (.shepherdWatchdogExpiry k) s fun t => (t.tile k).flockOn = false)
    ∧ (∀ r, Accepts s slot opCommand 0x7060 0 → s.gov 0x705F 0 = k.val → strapValid k (s.tile k).strap = true →
        (s.tile k).restart = none → Answers (.tileRestart slot r) s slot opCommand 0x7060 0 0 fun t =>
          (t.tile k).tileOn = false ∧ (t.tile k).restart = some r)
    ∧ (s.boot.hubUp = true → (s.oe n).admitted = true → ∀ tx, Done (.sliceRetired (80 + n) 8 tx 0) s fun t => (t.oe n).requalPending = true)
    ∧ (s.boot.vkUp = true → (∀ op, tapOp op = .bypass → Done (.bypass op) s fun t => t.tap.ir = op) ∧ Done .idcode s (fun t => t.tap.ir = 0x01)
        ∧ (∀ c l, Done (.samplePreload c l) s fun t => t.tap.boundary = l)
        ∧ (s.boot.modrstLow = true → Done .extest s (fun t => t.tap.driving = true) ∧ Done .clamp s (fun t => t.tap.ir = 0x03)
          ∧ Done .highz s fun t => t.tap.highz = true)
        ∧ (s.debugOpen = true → Done .dstat s (fun t => t.tap.ir = 0x21) ∧ ∀ v, Done (.dtest v) s fun t => t.tap.testMode = true))
    ∧ (s.tap.dtestRunning = true → ∀ r m lane, Done (.dtestComplete r m lane) s fun t => t.tap.dtestRunning = false)
    ∧ (s.boot.booted = true → ∀ m, Done (.smbusAlertClear m true) s fun t => ∀ i, i < 8 → m.getLsbD i = true → t.alert.getLsbD i = false)
    ∧ (s.boot.booted = true → Done .smbusStatusRead s (fun t => ∃ b, t.sent = s.sent ++ [.smbus b] ∧ b.length = 16)
        ∧ (s.alert ≠ 0 → Done .smbusAlertResponse s fun t =>
          t.sent = s.sent ++ [.smbus (leBytes 1 (2 * (0x40 + s.nv.fieldAddr)))]))
    ∧ (∀ e (v : BitVec 32), x.closeDue = none → x.mode ≠ 0 → x.src ≠ 0x12 → paramSelects x.src x.param e = true → s.phaseOk x = true →
        x.lastSample ≠ some (s.dieCycle u) → x.live.count < 2 ^ 32 - 1 →
        tabGet (fun _ => 0) x.live.bins (x.binOf v.toInt) < 2 ^ 32 - 1 → -(2 ^ 63 : Int) ≤ x.live.sum + v.toInt →
        x.live.sum + v.toInt < 2 ^ 63 → Done (.tallySample u e v) s fun t => (t.tally u).live.count = x.live.count + 1)
    ∧ (∀ e, x.closeDue = some e → Done (.tallyWindowClose u) s fun t => (t.tally u).live = {} ∧ (t.tally u).snap.epoch = e)
    ∧ (∀ d, Accepts s slot opWrite (0x8100 + u) 1 → WriteFits s (0x8100 + u) 1 (.bytes d) → s.tallyRule u d = 0 →
        s.tick.running = false → Wrote (.tallyConfigurationWrite slot u d) s slot (0x8100 + u) 1 0 fun t =>
          (t.tally u).newConfig = some (BitVec.ofNat 128 (leNat d)))
    ∧ (Accepts s slot opCommand (0x8100 + u) 2 → Answers (.tallyClear slot u) s slot opCommand (0x8100 + u) 2 0 fun t =>
        (t.tally u).clearDue = true)
    ∧ (Accepts s slot opCommand 0x8002 0 → Answers (.tallyClearAll slot) s slot opCommand 0x8002 0 0 fun t => (t.tally u).clearDue = true)
    ∧ (∀ data, Accepts s slot opWrite 0x0F50 0 → data.length ≤ 1024 → s.authority slot = some 3 → s.assembly 0x0F50 0 = none →
        Wrote (.firmwareImageWrite slot 0 false data) s slot 0x0F50 0 0 fun t =>
          t.assembly 0x0F50 0 = some { slot := slot, data := data, last := s.clock })
    ∧ (∀ img, Accepts s slot opCommand 0x0F51 0 → s.keeperState ≠ 0 → s.sec.heldImage = some img → s.authority slot = some 3 →
        s.sec.installing = false → Answers (.installImage slot) s slot opCommand 0x0F51 0 0 fun t => t.sec.store = img)
    ∧ (s.sec.installing = true → s.boot.resetDue = none → s.boot.powerOffDue = false →
        s.sec.heldImage = none ∨ s.sec.heldImage = some s.sec.store → s.assembly 0x0F50 0 = none →
        Done (.installComplete true true) s fun t => t.sec.updState = 4)
    ∧ (Accepts s slot opCommand 0x9006 0 → s.nv.svnFuses < s.sec.runSvn →
        Answers (.raiseFloor slot) s slot opCommand 0x9006 0 0 fun t => t.nv.svnFuses = s.sec.runSvn)
    ∧ (∀ (j : Fin 8) (data : List Byte), Accepts s slot opWrite 0x9003 (j + 1) → WriteFits s 0x9003 (j + 1) (.bytes data) →
        data.length = 33 → (data.headD 0).toNat = 3 → s.noKeys = true → Wrote (.keyInstall slot j data) s slot 0x9003 (j + 1) 0
          fun t => t.keySlot (j + 1) = { authority := 3, key := data.drop 1 })
    ∧ (∀ j : Fin 8, Accepts s slot opCommand 0x9004 (j + 1) → j.val + 1 ≠ slot → (s.keySlot (j + 1)).authority ≠ 3 →
        Answers (.keyClear slot j) s slot opCommand 0x9004 (j + 1) 0 fun t => t.keySlot (j + 1) = {})
    ∧ (∀ m, Accepts s slot opCommand 0x9011 0 → s.sec.attState ≠ 1 → s.sec.nonce = some m → s.nv.lifecycle = 1 →
        s.nv.deviceKey.isSome = true → 0 < s.signaturesLeft → 0 < s.sec.treeLeft →
        Answers (.attest slot) s slot opCommand 0x9011 0 0 fun t => t.sec.attState = 1 ∧ t.sec.attReport = s.report m)
    ∧ (s.sec.attState = 1 → Done .attestationComplete s fun t => t.sec.attState = 2)
    ∧ (s.sec.generating = true → Done .treeGenerationComplete s fun t => t.sec.nextTree = true)
    ∧ (∀ l, Accepts s slot opCommand 0x9024 0 → s.tokenTarget = some l → s.sec.installing = false →
        Answers (.lifecycleTransition slot) s slot opCommand 0x9024 0 0 fun t => t.nv.lifecycle = l)
    ∧ (∀ f : OeFrame, (s.oe n).admitted = true → f.opc = 0xC0 → f.rsv = 0 → f.addr = 0 → f.len ≤ 64 → f.data.length = f.len →
        (s.oe n).notifiesNow (s.clock / 2000000000) < 65536 →
        Done (.oeControlFrame n f) s fun t => (t.oe n).mailbox = (s.oe n).mailbox ++ [f.data])
    ∧ ∀ tag, Done (.oeResponseTimeout n tag) s fun t => ∀ e ∈ (t.oe n).requests, e.1 ≠ tag

/-- Every command of the table completes in every state: none faults and none is refused. The shepherds' and the
memory's commands, each with one part of its own effect (R26, R97, R103, R111, R115, R124, R127, R128, R136,
R140–R142, R147, R159). The drover's and the optical commands, each with one part of its own effect (R151–R154, R160,
R161, R166–R171, R178–R181, R190–R196, R199). The commands of lanes and links, each with one part of its own effect
(R186–R189, R205–R220, R225–R243). The commands of the flight and the Ethernet ports, each with one part of its own
effect (R247–R252, R259–R278). The commands of the token service and the dictionary, each with one part of its own
effect (R282–R299, R303–R323). The commands of bring-up, resets, failures, the test port, tallies and security, each
with one part of its own effect (R327–R346, R349–R352, R370–R381, R389–R404, R411, R419). -/
def Obligations.EveryCommandCompletes : Prop :=
  (∀ (i : Instr) (s : State), ∃ t, exec i s = .next t)
  ∧ ShepherdAndMemoryCommandsAct ∧ PowerAndOpticalCommandsAct ∧ LaneAndLinkCommandsAct
  ∧ FlightAndEthernetCommandsAct ∧ ServiceAndDictionaryCommandsAct ∧ ModuleCommandsAct

/-- The memory's form is canonical: two memories of the form that read alike everywhere are equal; bytes written read
back; a write changes no other byte and keeps the form. -/
def Obligations.MemoryIsCanonical : Prop :=
  (∀ s t : State, Inv s → Inv t → (∀ a, s.byte a = t.byte a) → s.mem = t.mem)
  ∧ ∀ (s : State) (a : Nat) (l : List Byte),
      (s.write a l).read a l.length = l ∧ (∀ k, k < a ∨ a + l.length ≤ k → (s.write a l).byte k = s.byte k)
      ∧ (Inv s → Inv (s.write a l))

/-- R318, R321, R328: every COMMAND from a key slot passes the checks before it has any effect. The first that it
fails answers its code and changes nothing else: a latched module, one that is not ready, a silent hub; a monitor's
key, and an operator's on the objects kept for the owner. One from an empty slot is a discarded datagram. -/
def Obligations.CommandsPassTheirChecks : Prop :=
  ∀ (slot : Nat) (f : Fin 96) (u : Fin 288) (k : Fin 8) (r : TileChecks) (s : State),
    let outer : List (Instr × Nat × Nat) := [(Instr.startTreads slot, 0x2020, 0), (.stopTreads slot, 0x2021, 0), (.tickGroupCommit slot, 0x2003, 0),
      (.redirectGroupCommit slot, 0xA032, 0), (.penFence slot, 0x705D, 0), (.penRestore slot, 0x705E, 0),
      (.tileRestart slot r, 0x7060, 0), (.buildFlight slot, 0x2046, 0), (.manualMove slot, 0x5007, 0),
      (.linkRestore slot f, 0x5048, f.val + 1), (.prbsStart slot, 0xF052, 0), (.prbsStop slot, 0xF053, 0),
      (.tallyClear slot u, 0x8100 + u.val, 2), (.tallyClearAll slot, 0x8002, 0), (.loadModel slot, 0xB004, 0),
      (.unloadModel slot, 0xB005, 0)]
    let owners : List (Instr × Nat × Nat) := [(Instr.raiseFloor slot, 0x9006, 0), (.keyClear slot k, 0x9004, k.val + 1), (.attest slot, 0x9011, 0),
      (.lifecycleTransition slot, 0x9024, 0)]
    let keepers : List (Instr × Nat × Nat) := [(Instr.moduleReset slot, 0x0F30, 0), (.powerOff slot, 0x0F31, 0), (.allLasersOff slot, 0x0F32, 0),
      (.tilePowerDown slot, 0x0F34, 0)]
    let answers (c : Instr × Nat × Nat) (code : Nat) : Prop :=
      exec c.1 s = .next (s.answer slot opCommand c.2.1 c.2.2 code)
    (s.authority slot = none → ∀ c ∈ outer ++ owners ++ keepers, exec c.1 s = .next s.discardAuth)
    ∧ ∀ a, s.authority slot = some a →
      (s.drover.latch = true → ∀ c ∈ outer ++ owners, answers c 0x40000011)
      ∧ (s.drover.latch = false → (s.ready = false ∨ s.tap.testMode = true) → ∀ c ∈ outer ++ owners, answers c 0x10000001)
      ∧ (s.drover.latch = false → s.ready = true → s.tap.testMode = false → s.boot.hubAnswering = false →
          ∀ c ∈ outer ++ owners, answers c 0x0F000001)
      ∧ (s.drover.latch = false → s.ready = true → s.tap.testMode = false → s.boot.hubAnswering = true →
          (a ≠ 2 → a ≠ 3 → ∀ c ∈ outer, answers c 0x1000000A) ∧ (a ≠ 3 → ∀ c ∈ owners, answers c 0x1000000A))
      ∧ (a ≠ 3 → ∀ c ∈ keepers, answers c 0x1000000A)

/-- A pen with no run, or one that is fenced, off or held by rein, issues nothing (R44, R69, R71): every pen
instruction leaves the state as it is. R65 and R66: a word with an illegal field raises 0x01, one whose operand kinds
are not allowed raises 0x02; the pen's run ends at the instruction's index and nothing else changes. -/
def Obligations.IdleAndIllegalInstructions : Prop :=
  (∀ (p : Fin 1024) (w : PenWord) (s : State), ((s.pen p).run = none ∨ s.penHeld p = true) →
     ∀ c ∈ penCommands p w, exec c.1 s = .next s)
  ∧ (∀ (p : Fin 1024) (w : PenWord) (s : State) (r : Run), Runs s p r → ∀ c ∈ penCommands p w,
       (wordEncoded c.2 w = false → ∃ t, exec c.1 s = .next t ∧ Raised s t p r 0x01 0 ∧ OnlyPen p s t)
       ∧ (wordEncoded c.2 w = true → wordKinds c.2 w = false →
           ∃ t, exec c.1 s = .next t ∧ Raised s t p r 0x02 0 ∧ OnlyPen p s t))

/-- R72–R75: NOP, BR, BRC, LOOP, TRD, FENCE and TWAIT. A branch goes to its own index + IMM, and out of the image
raises 0x05; LOOP decrements S[D] and branches while it is not zero; FENCE waits for the X unit where bit 2 of its
mask names it (the other units hold nothing between commands); TWAIT waits for its time since the tick. Nothing but
the pen changes. R87 and Table 04.7: END completes once the units are idle: the run ends done, the tile's saturation
and NaN/Inf totals grow by the pen's counters, and its residency entries go. TRAP ends the run with exception 0x09 and
detail IMM[31:0]. -/
def Obligations.ControlInstructionsComplete : Prop :=
  (∀ (p : Fin 1024) (w : PenWord) (s : State) (r : Run),
     let q := (s.pen p).past
     let target : Int := (s.pen p).pc + w.imm.toInt
     let inImage : Prop := 0 ≤ target ∧ target < r.ninstr
     (Issues s p r {} w → ∃ t, exec (.nop p w) s = .next t ∧ t.pen p = q ∧ OnlyPen p s t)
     ∧ (Issues s p r {} w → inImage →
         ∃ t, exec (.br p w) s = .next t ∧ t.pen p = { q with pc := target.toNat } ∧ OnlyPen p s t)
     ∧ (Issues s p r {} w → ¬ inImage → ∃ t, exec (.br p w) s = .next t ∧ Raised s t p r 0x05 0 ∧ OnlyPen p s t)
     ∧ (Issues s p r { a := 4, b := 4, cnds := 8 } w →
         let taken := scalarCond w.cnd.toNat ((s.pen p).reg w.a.toNat) ((s.pen p).reg w.b.toNat)
         (taken = false → ∃ t, exec (.brc p w) s = .next t ∧ t.pen p = q ∧ OnlyPen p s t)
         ∧ (taken = true → inImage →
             ∃ t, exec (.brc p w) s = .next t ∧ t.pen p = { q with pc := target.toNat } ∧ OnlyPen p s t)
         ∧ (taken = true → ¬ inImage → ∃ t, exec (.brc p w) s = .next t ∧ Raised s t p r 0x05 0 ∧ OnlyPen p s t))
     ∧ (Issues s p r { d := 4 } w →
         let v := (s.pen p).reg w.d.toNat - 1
         (w.d = 0 ∨ v = 0 → ∃ t, exec (.loop p w) s = .next t ∧ t.pen p = q.setReg w.d.toNat 0 ∧ OnlyPen p s t)
         ∧ (w.d ≠ 0 → v ≠ 0 → inImage → ∃ t, exec (.loop p w) s = .next t
             ∧ t.pen p = { q.setReg w.d.toNat v with pc := target.toNat } ∧ OnlyPen p s t)
         ∧ (w.d ≠ 0 → v ≠ 0 → ¬ inImage →
             ∃ t, exec (.loop p w) s = .next t ∧ Raised s t p r 0x05 0 ∧ OnlyPen p s t))
     ∧ (Issues s p r { d := 4, modOk := fun m => m ≤ 5 } w →
         let ns := (s.clock - s.tick.tickAt) / 2
         ∀ e ∈ [(0, r.epoch), (1, ns), (2, (2 * (s.tick.period - 1000 * s.tick.land) - (s.clock - s.tick.tickAt)) / 2), (3, p.val), (4, r.job.jobId),
             (5, p.val / 16)],
           w.mod.toNat = e.1 → ∃ t, exec (.trd p w) s = .next t
             ∧ t.pen p = q.setReg w.d.toNat (BitVec.ofNat 64 e.2) ∧ OnlyPen p s t)
     ∧ (Issues s p r { modOk := fun m => m ≤ 7 } w →
         (w.mod.getLsbD 2 = false ∨ (s.pen p).xBusy = false →
           ∃ t, exec (.fence p w) s = .next t ∧ t.pen p = q ∧ OnlyPen p s t)
         ∧ (w.mod.getLsbD 2 = true → (s.pen p).xBusy = true → ∃ t, exec (.fence p w) s = .next t
             ∧ t.pen p = { s.pen p with stall := some .unitBusy } ∧ OnlyPen p s t))
     ∧ (Issues s p r { a := 12 } w →
         let ns := (if w.ak = 3 then w.imm else (s.pen p).reg w.a.toNat).toNat
         (ns ≤ (s.clock - s.tick.tickAt) / 2 → ∃ t, exec (.twait p w) s = .next t ∧ t.pen p = q ∧ OnlyPen p s t)
         ∧ ((s.clock - s.tick.tickAt) / 2 < ns → ∃ t, exec (.twait p w) s = .next t
             ∧ t.pen p = { s.pen p with stall := some .tick } ∧ OnlyPen p s t)))
  ∧ (∀ (p : Fin 1024) (w : PenWord) (s : State) (r : Run), Issues s p r {} w →
       let sub := p.val / 16 + 1
       ((s.pen p).xBusy = false → ∃ t, exec (.endJob p w) s = .next t
         ∧ t.pen p = { s.pen p with stall := none, resident := [], run := some { r with issued := r.issued + 1, ended := some .done } }
         ∧ t.num 0x7032 sub = (s.num 0x7032 sub + (s.pen p).satc) % 2 ^ 32
         ∧ t.num 0x7033 sub = (s.num 0x7033 sub + ((s.pen p).nanc + (s.pen p).infc)) % 2 ^ 32
         ∧ { t with pens := s.pens, objs := s.objs } = s ∧ (∀ k, k ≠ p.val → t.pen k = s.pen k)
         ∧ ∀ i j, objKey i j ≠ objKey 0x7032 sub → objKey i j ≠ objKey 0x7033 sub → t.obj i j = s.obj i j)
       ∧ ((s.pen p).xBusy = true → ∃ t, exec (.endJob p w) s = .next t
         ∧ t.pen p = { s.pen p with stall := some .unitBusy } ∧ OnlyPen p s t)
       ∧ ∃ t, exec (.trap p w) s = .next t ∧ Raised s t p r 0x09 (BitVec.ofNat 64 (w.imm.toNat % 2 ^ 32)) ∧ OnlyPen p s t)

/-- R73 and Table 04.7: SLI, SALU, SLD, SST and SFP. A scratch access of 8 bytes, or 4 with MOD bit 0, must be aligned
and lie in the 524,288 bytes of scratch, else it raises 0x05; SST changes exactly its bytes; SFP counts the special
values it makes. Nothing but the pen changes. -/
def Obligations.ScalarInstructionsComplete : Prop :=
  ∀ (p : Fin 1024) (w : PenWord) (s : State) (r : Run),
    let q := (s.pen p).past
    let a := q.reg w.a.toNat
    let b := if w.bk = 3 then w.imm else q.reg w.b.toNat
    let d := w.d.toNat
    let n := if w.mod.getLsbD 0 then 4 else 8
    let x := (a + w.imm).toNat
    (Issues s p r { d := 4 } w →
        ∃ t, exec (.sli p w) s = .next t ∧ t.pen p = q.setReg d w.imm ∧ OnlyPen p s t)
    ∧ (Issues s p r { d := 4, a := 4, b := 12, modOk := fun m => m ≤ 10 } w →
        ∀ e ∈ [(0, a + b), (1, a - b), (2, a * b), (3, a &&& b), (4, a ||| b), (5, a ^^^ b), (6, a <<< (b.toNat % 64)),
            (7, a >>> (b.toNat % 64)), (8, a.sshiftRight (b.toNat % 64)), (9, if a.toInt ≤ b.toInt then a else b),
            (10, if b.toInt ≤ a.toInt then a else b)],
          w.mod.toNat = e.1 →
            ∃ t, exec (.salu p w) s = .next t ∧ t.pen p = q.setReg d e.2 ∧ OnlyPen p s t)
    ∧ (Issues s p r { d := 4, a := 4, modOk := fun m => m ≤ 1 } w →
        (x % n = 0 → x + n ≤ 524288 → ∃ t, exec (.sld p w) s = .next t
          ∧ t.pen p = q.setReg d (BitVec.ofNat 64 (leNat (readTab q.scratch x n))) ∧ OnlyPen p s t)
        ∧ (¬ (x % n = 0 ∧ x + n ≤ 524288) →
            ∃ t, exec (.sld p w) s = .next t ∧ Raised s t p r 0x05 0 ∧ OnlyPen p s t))
    ∧ (Issues s p r { a := 4, b := 4, modOk := fun m => m ≤ 1 } w →
        (x % n = 0 → x + n ≤ 524288 → ∃ t, exec (.sst p w) s = .next t ∧ OnlyPen p s t
          ∧ t.pen p = { q with scratch := (t.pen p).scratch }
          ∧ readTab (t.pen p).scratch x n = leBytes n (q.reg w.b.toNat).toNat
          ∧ ∀ k, k < x ∨ x + n ≤ k → tabGet memDefault (t.pen p).scratch k = tabGet memDefault q.scratch k)
        ∧ (¬ (x % n = 0 ∧ x + n ≤ 524288) →
            ∃ t, exec (.sst p w) s = .next t ∧ Raised s t p r 0x05 0 ∧ OnlyPen p s t))
    ∧ (Issues s p r { d := 4, a := 4, b := 12, modOk := fun m => m ≤ 5 } w →
        ∀ e ∈ [(0, (fadd (low32 a) (low32 b)).1.zeroExtend 64, (fadd (low32 a) (low32 b)).2),
            (1, (fmul (low32 a) (low32 b)).1.zeroExtend 64, (fmul (low32 a) (low32 b)).2),
            (2, (fmin (low32 a) (low32 b)).zeroExtend 64, {}), (3, (fmax (low32 a) (low32 b)).zeroExtend 64, {}),
            (4, (ofInt32 a.toInt).zeroExtend 64, {}), (5, BitVec.ofInt 64 (f2i (low32 a)), ({} : Made))],
          w.mod.toNat = e.1 → ∃ t, exec (.sfp p w) s = .next t
            ∧ t.pen p = { q with nanc := (q.nanc + e.2.2.nan) % 2 ^ 32, infc := (q.infc + e.2.2.inf) % 2 ^ 32
                                 satc := q.satc % 2 ^ 32 }.setReg d e.2.1 ∧ OnlyPen p s t)

/-- Table 04.7, VSET, VADV and VLD. VSET puts S[A] into one field of a descriptor: unsigned fields at (low bit, width)
take a value below 2^width, extents hold their value less 1, strides and offsets are signed 32-bit; a value that does
not fit raises 0x04. VADV moves BASE and SBASE with 32-bit wrap. VLD takes 32 aligned bytes of scratch, else 0x05. -/
def Obligations.ViewInstructionsComplete : Prop :=
  ∀ (p : Fin 1024) (w : PenWord) (s : State) (r : Run),
    let q := (s.pen p).past
    let a := q.reg w.a.toNat
    let d := w.d.toNat
    let x := (a + w.imm).toNat
    let put (lo n v : Nat) : Prop := ∃ t, exec (.vset p w) s = .next t
      ∧ t.pen p = q.setView d (setField (q.view d) lo n v) ∧ OnlyPen p s t
    let bad : Prop := ∃ t, exec (.vset p w) s = .next t ∧ Raised s t p r 0x04 0 ∧ OnlyPen p s t
    (Issues s p r { d := 1, a := 4, modOk := fun m => m ≤ 11 } w →
        (∀ e ∈ [(0, 16, 32), (6, 160, 32), (9, 8, 4), (10, 0, 2), (11, 12, 1)], w.mod.toNat = e.1 →
          (a.toNat < 2 ^ e.2.2 → put e.2.1 e.2.2 a.toNat) ∧ (2 ^ e.2.2 ≤ a.toNat → bad))
        ∧ (∀ e ∈ [(1, 48), (2, 64), (3, 80)], w.mod.toNat = e.1 →
          (1 ≤ a.toNat → a.toNat ≤ 65536 → put e.2 16 (a.toNat - 1)) ∧ (a.toNat = 0 ∨ 65536 < a.toNat → bad))
        ∧ (∀ e ∈ [(4, 96), (5, 128), (7, 192), (8, 224)], w.mod.toNat = e.1 →
          (-(2 ^ 31) ≤ a.toInt → a.toInt < 2 ^ 31 → put e.2 32 (a.toNat % 2 ^ 32))
          ∧ (a.toInt < -(2 ^ 31) ∨ 2 ^ 31 ≤ a.toInt → bad)))
    ∧ (Issues s p r { d := 1, a := 4, b := 4 } w → ∃ t, exec (.vadv p w) s = .next t ∧ OnlyPen p s t
        ∧ t.pen p = q.setView d (setField (setField (q.view d) 16 32 (field (q.view d).toNat 16 32 + a.toNat)) 160 32
            (field (setField (q.view d) 16 32 (field (q.view d).toNat 16 32 + a.toNat)).toNat 160 32
              + (q.reg w.b.toNat).toNat)))
    ∧ (Issues s p r { d := 1, a := 4 } w →
        (x % 32 = 0 → x + 32 ≤ 524288 → ∃ t, exec (.vld p w) s = .next t ∧ OnlyPen p s t
          ∧ t.pen p = q.setView d (BitVec.ofNat 256 (leNat (readTab q.scratch x 32))))
        ∧ (¬ (x % 32 = 0 ∧ x + 32 ≤ 524288) →
            ∃ t, exec (.vld p w) s = .next t ∧ Raised s t p r 0x05 0 ∧ OnlyPen p s t))

/-- R69, R78, R81, R107, R118: BLD, with the X unit not held by a TAKE or by a BLD that waits for its input, and no
read of its own slot open, and TAKE, with the X unit idle, the tile below its 128 reads (R116), hold a read of their
input slot open, else they wait; BALE_READ_ARRIVAL then checks what the move brings, copies or places it and records
its residency, or raises what the checks found; poison that the last router answers for a tile that is off counts; a
read whose data is not there yet, or whose pen is held, waits. -/
def Obligations.BaleLoadsComplete : Prop :=
  ∀ (p : Fin 1024) (w : PenWord) (s : State) (r : Run),
    let q := (s.pen p).past
    let slot := slotOf q w
    let e := r.job.bales.getD slot 0
    let place := w.mod.getLsbD 0
    let dest := (q.reg w.a.toNat + w.imm >>> 32).toNat
    (Issues s p r { a := 4, b := 4, modOk := fun m => m ≤ 1 } w →
      (s.xWaits p = true ∨ (tabGet (fun _ => none) (s.pen p).reads slot).isSome = true →
        ∃ t, exec (.bld p w) s = .next t ∧ t.pen p = { s.pen p with stall := some .unitBusy } ∧ OnlyPen p s t)
      ∧ (s.xWaits p = false → tabGet (fun _ => none) (s.pen p).reads slot = none →
      (r.job.nin ≤ slot → ∃ t, exec (.bld p w) s = .next t ∧ Raised s t p r 0x06 0 ∧ OnlyPen p s t)
      ∧ (slot < r.job.nin → s.entryReaches e = true →
          (place = true → entryClass e = 2 ∨ ∃ k, s.place (entryPayload e) 4096 = some (.pasture k)) →
          (place = false → dest % 64 = 0 ∧ dest + 4096 ≤ 524288) →
          (entryClass e = 3 → (s.inbound (entryStream e) (entrySeq e)).void = false) → s.tileReads (p.val / 16) < 128 →
          ∃ t, exec (.bld p w) s = .next t ∧ OnlyPen p s t
            ∧ t.pen p = { q with reads := tabSet (fun _ => none) q.reads slot (some
                { cls := entryClass e, payload := entryPayload e, header := entryHeader e
                  copyTo := if place then none else some dest, index := (s.pen p).pc
                  order := r.issued }) })))
    ∧ (Issues s p r {} w → (s.pen p).xBusy = false →
        let i := w.imm.toNat % 256
        let e := r.job.bales.getD i 0
        (r.job.gal = false ∨ r.job.donor ≠ none →
          ∃ t, exec (.take p w) s = .next t ∧ Raised s t p r 0x0B 0 ∧ OnlyPen p s t)
        ∧ (r.job.gal = true → r.job.donor = none → i < r.job.nin → entryClass e = 3 → s.entryReaches e = true →
            (s.inbound (entryStream e) (entrySeq e)).void = false → s.tileReads (p.val / 16) < 128 →
            ∃ t, exec (.take p w) s = .next t ∧ OnlyPen p s t
              ∧ t.pen p = { q with reads := tabSet (fun _ => none) q.reads i (some
                  { cls := 3, payload := entryPayload e, header := entryHeader e, copyTo := none, index := (s.pen p).pc
                    order := r.issued, take := true }) }))
    ∧ ∀ (i : Fin 64) (bad : Nat) (b : BaleRead), (s.pen p).run = some r →
        tabGet (fun _ => none) (s.pen p).reads i = some b →
        let m := s.moved (s.pen p) b
        let q := (s.pen p).closeRead i
        (s.readReady r i b = false ∨ s.penHeld p = true → exec (.baleReadArrival p i bad) s = .next s)
        ∧ (s.readReady r i b = true → s.penHeld p = false → arrivalCheck m.1 m.2.toNat bad = none →
            ∃ t, exec (.baleReadArrival p i bad) s = .next t ∧ t.pen p = q.record i b m.1 m.2 ∧ OnlyPen p (s.noteMoved b) t
              ∧ tabGet (fun _ => none) (t.pen p).reads i = none
              ∧ (t.pen p).residentAt i = some
                  ⟨if b.copyTo = none ∧ b.cls ≠ 2 then 1 else 0, b.copyTo.getD b.payload, m.2, false⟩)
        ∧ (s.readReady r i b = true → s.penHeld p = false → r.ended = none → ∀ code detail, arrivalCheck m.1 m.2.toNat bad = some (code, detail) →
            ∃ t, exec (.baleReadArrival p i bad) s = .next t ∧ OnlyPen p (s.noteMoved b) t
              ∧ t.pen p = { q with run := some { r with
                  ended := some (.exc code b.index (BitVec.ofNat 64 detail)), endedAt := b.order, acc := none
                  record := r.record ++ [.exc code b.index] } })

/-- R79, R81, R82: BST, EMIT and TOKW, with the X unit idle. BST stores the 4,096 bytes at the view's BASE with a
header made of the view, the sum lane and the CRC: a TREAD slot in module memory (discarded and counted at a tile
whose domain is off, R123), a SCRATCH slot in scratch, a COMMIT slot in the lowest free staging slot as a commit;
without a free one it waits. EMIT and TOKW add a commit and count it against NCMT. A run in compare mode changes its
record only. -/
def Obligations.BaleStoresComplete : Prop :=
  ∀ (p : Fin 1024) (w : PenWord) (s : State) (r : Run), (s.pen p).xBusy = false →
    let q := (s.pen p).past
    let tile := p.val / 16
    (Issues s p r { a := 1, b := 4 } w → ∀ (o : Placed) (q' : Pen),
      let slot := slotOf q w
      let e := r.job.bales.getD (r.job.nin + slot) 0
      let d := q.view w.a.toNat
      let payload := readTab q.scratch (viewOf d).base 4096
      let h := storeHeader d (sumLane s.mem o q') payload p r.epoch
      let r0 := { r with issued := r.issued + 1 }
      let counted := if entryClass e = 10 then { r0 with commitsMade := r.commitsMade + 1 } else r0
      let r' := { counted with
        stored := slot :: r.stored
        record := r.record ++ [.bst slot (viewOf d).fmt (shapeFields h.toNat) (field h.toNat 96 32) (field h.toNat 128 32)] }
      slot < r.job.nout → slot ∉ r.stored → storeViewOk d = true → s.entryReaches e = true →
      (entryClass e = 10 → r.commitsMade < r.job.ncmt) → placeView tile q d = .ok o → touch s.mem q [.view o] = .ok q' →
      (r.job.kind.compare = true →
        ∃ t, exec (.bst p w) s = .next t ∧ t.pen p = { q' with run := some r' } ∧ OnlyPen p s t)
      ∧ (r.job.kind.compare = false → entryClass e = 8 → ∃ t, exec (.bst p w) s = .next t ∧ OnlyPen p s t
          ∧ t.pen p = { q' with
              run := some r'
              scratch := writeTab (writeTab q'.scratch (entryPayload e) payload) (entryHeader e) (headerBytes h) })
      ∧ (r.job.kind.compare = false → entryClass e = 9 → ∀ x y, s.writePart (entryPayload e) = .ok x →
          s.writePart (entryHeader e) = .ok y → ∃ t, exec (.bst p w) s = .next t
          ∧ t.pen p = { q' with run := some r' } ∧ (∀ k, k ≠ p.val → t.pen k = s.pen k)
          ∧ t.mem = writeTab (writeTab s.mem x payload) y (headerBytes h)
          ∧ (∀ a, (a < x ∨ x + 4096 ≤ a) → (a < y ∨ y + 64 ≤ a) → t.byte a = s.byte a)
          ∧ { t with pens := s.pens, mem := s.mem } = s)
      ∧ (r.job.kind.compare = false → entryClass e = 9 → ∀ x y, s.writePart (entryPayload e) = .error x →
          s.writePart (entryHeader e) = .error y → ∃ t, exec (.bst p w) s = .next t
          ∧ t.pen p = { q' with run := some r' } ∧ (∀ k, k ≠ p.val → t.pen k = s.pen k)
          ∧ { t with pens := s.pens } = (s.countDiscard x).countDiscard y)
      ∧ (r.job.kind.compare = false → entryClass e = 10 → ∀ i, s.freeStaging tile = some i → ∃ t,
          exec (.bst p w) s = .next t ∧ (∀ k, k ≠ p.val → t.pen k = s.pen k)
          ∧ t.pen p = { q' with run := some { r' with
              commits := r.commits ++ [.bale tile r.job.jobId slot i (entryHeader e) (entryPayload e)] } }
          ∧ t.mem = writeTab (writeTab s.mem (sramBase tile + s.stagingBase + 4160 * i) payload)
              (sramBase tile + s.stagingBase + 4160 * i + 4096) (headerBytes h)
          ∧ tabGet (fun _ => none) (t.tile tile).staging i = some
              { jobId := r.job.jobId, out := slot, header := entryHeader e, payload := entryPayload e }
          ∧ { t with pens := s.pens, mem := s.mem, tiles := s.tiles } = s)
      ∧ (r.job.kind.compare = false → entryClass e = 10 → s.freeStaging tile = none → ∃ t, exec (.bst p w) s = .next t
          ∧ t.pen p = { s.pen p with stall := some .stagingSlot } ∧ OnlyPen p s t))
    ∧ (Issues s p r {} w →
        let slot := w.imm.toNat % 256
        let stream := w.imm.toNat / 256 % 256
        let e := r.job.bales.getD (r.job.nin + slot) 0
        r.job.gal = true → r.job.donor = none → slot < r.job.nout → slot ∈ r.stored → r.commitsMade < r.job.ncmt →
        ∃ t c, exec (.emit p w) s = .next t ∧ OnlyPen p s t
          ∧ c = Commit.emit tile r.job.jobId slot stream (decide (r.job.planEpoch < r.epoch))
              ((s.setPen p q).storedBale p slot { r with issued := r.issued + 1, commitsMade := r.commitsMade + 1 } e).2
              ((s.setPen p q).storedBale p slot { r with issued := r.issued + 1, commitsMade := r.commitsMade + 1 } e).1
          ∧ t.pen p = { q with run := some { r with
              issued := r.issued + 1, commitsMade := r.commitsMade + 1, record := r.record ++ [.emit slot stream]
              commits := if r.job.kind.compare then r.commits else r.commits ++ [c] } })
    ∧ (Issues s p r { a := 4, b := 4, c := 4 } w →
        let session := (q.reg w.a.toNat).toNat % 2 ^ 16
        let token := (q.reg w.b.toNat).toNat % 2 ^ 32
        let flags := (q.reg w.c.toNat).toNat % 2 ^ 8
        (session ∉ r.job.sessions → ∃ t, exec (.tokw p w) s = .next t ∧ Raised s t p r 0x0C 0 ∧ OnlyPen p s t)
        ∧ (session ∈ r.job.sessions → r.job.ncmt ≤ r.commitsMade →
            ∃ t, exec (.tokw p w) s = .next t ∧ Raised s t p r 0x0D 0 ∧ OnlyPen p s t)
        ∧ (session ∈ r.job.sessions → r.commitsMade < r.job.ncmt → ∃ t, exec (.tokw p w) s = .next t ∧ OnlyPen p s t
            ∧ t.pen p = { q with run := some { r with
                issued := r.issued + 1, commitsMade := r.commitsMade + 1, record := r.record ++ [.tokw session token flags]
                commits := if r.job.kind.compare then r.commits
                  else r.commits ++ [.token tile r.job.jobId session token flags] } }))

/-- R58, R59, R63, R76: ACLR sets the 1,024 elements of An to +0 and clears its checksum lanes, depth and void mark;
no other accumulator changes. An MMA whose operands pass R76 and R49 and whose lines pass R59 accumulates; where a
line fails, it raises 0x10 with the masks of failing rows and columns and the accumulator's number, and the tile's
count of checksum failures grows; an operand fault raises its code. An injection armed for the pen is used up by an
MMA that reaches the array, and by no other. R50, R51, R76: the element (i, j) of the accumulator after an MMA that no
injection disturbs is the fold, over the blocks of 32 along K in increasing k, of the block's exact product sum added
with one rounding; with CLEAR it starts from +0. Other accumulators keep their elements. -/
def Obligations.MatrixInstructionsComplete : Prop :=
  (∀ (p : Fin 1024) (w : PenWord) (s : State) (r : Run),
     let q := (s.pen p).past
     let n := w.d.toNat
     let sub := p.val / 16 + 1
     (Issues s p r { d := 2 } w → ∃ t, exec (.aclr p w) s = .next t ∧ OnlyPen p s t
         ∧ (∀ e, e < 1024 → (t.pen p).accAt n e = 0) ∧ (t.pen p).sideOf n = {}
         ∧ (∀ m e, m ≠ n → e < 1024 → (t.pen p).accAt m e = q.accAt m e)
         ∧ (∀ m, m ≠ n → (t.pen p).sideOf m = q.sideOf m)
         ∧ { t.pen p with acc := q.acc, side := q.side } = q)
     ∧ (Issues s p r { d := 2, a := 1, b := 1, modOk := fun m => m ≤ 1 } w →
         let inj := s.macFault.filter fun x => field x.toNat 18 10 = p.val
         let after := if inj.isSome then none else s.macFault
         (∀ q', mmaOp s.mem (p.val / 16) inj w q = .ok q' → ∃ t, exec (.mma p w) s = .next t ∧ t.pen p = q'
             ∧ t.macFault = after ∧ { t with pens := s.pens, macFault := s.macFault } = s
             ∧ ∀ k, k ≠ p.val → t.pen k = s.pen k)
         ∧ (∀ detail, mmaOp s.mem (p.val / 16) inj w q = .error (.exc 0x10 detail) → ∃ t, exec (.mma p w) s = .next t
             ∧ t.pen p = { s.pen p with run := some { r with
                 ended := some (.exc 0x10 (s.pen p).pc (BitVec.ofNat 64 detail)), endedAt := r.issued
                 acc := some (detail / 2 ^ 64), record := r.record ++ [.exc 0x10 (s.pen p).pc] } } ∧ t.num 0x7031 sub = (s.num 0x7031 sub + 1) % 2 ^ 32
             ∧ t.macFault = after ∧ t.mem = s.mem ∧ ∀ k, k ≠ p.val → t.pen k = s.pen k)
         ∧ (∀ code, code ≠ 0x10 → code ≠ 0x11 → mmaOp s.mem (p.val / 16) inj w q = .error (.exc code 0) →
             ∃ t, exec (.mma p w) s = .next t ∧ Raised s t p r code 0 ∧ OnlyPen p s t)))
  ∧ (∀ (mem : Tab Byte) (tile : Nat) (w : PenWord) (q q' : Pen) (a b : Placed),
       mmaOp mem tile none w q = .ok q' → placeView tile q (q.view w.a.toNat) = .ok a →
       placeView tile q (q.view w.b.toNat) = .ok b →
       let strip (v : Placed) (k i : Nat) := stripOf mem q v k i
       (∀ i j, i < 32 → j < 32 → q'.accAt w.d.toNat (32 * i + j) =
         (List.range (a.v.ext0 / 32)).foldl (fun c k => (mmaElem (mmaClass a.v.fmt == 2) w.sat
           (((strip a k i).scale : Int) + (strip b k j).scale - 254)
           ((strip a k i).scale == 0xFF || (strip b k j).scale == 0xFF)
           (blockSum (strip a k i).vals (strip b k j).vals {}) c).1)
           (if w.mod.getLsbD 0 then 0 else q.accAt w.d.toNat (32 * i + j)))
       ∧ ∀ m e, m ≠ w.d.toNat → e < 1024 → q'.accAt m e = q.accAt m e)

/-- R68, R77: VOP, VFMA, VUN, VSEL and CVT on operands that can be placed and whose shapes match the destination's, 64
elements a step (16 for the table functions): in integer mode 32-bit codes go in and out, otherwise FP32 results are
written to the destination, and an accumulator written becomes void. A shape that does not match raises 0x04; integer
mode raises 0x03 in VFMA and the table functions of VUN. Nothing but the pen changes. -/
def Obligations.ElementwiseInstructionsComplete : Prop :=
  ∀ (p : Fin 1024) (w : PenWord) (s : State) (r : Run) (q' : Pen) (d a b c : Opnd),
    let q := (s.pen p).past
    let tile := p.val / 16
    let m := w.mod.toNat
    let steps (n : Nat) := (d.size + n - 1) / n
    let done (i : Instr) (v : Pen) : Prop := ∃ t, exec i s = .next t ∧ t.pen p = v ∧ OnlyPen p s t
    let bad (i : Instr) (code : Nat) : Prop := ∃ t, exec i s = .next t ∧ Raised s t p r code 0 ∧ OnlyPen p s t
    opndD tile q w = .ok d → opndA tile q w = .ok a →
    (Issues s p r { d := 3, a := 15, b := 15, modOk := fun m => m ≤ 4 } w → opndB tile q w = .ok b →
      ((a.matches d.shape && b.matches d.shape) = false → bad (.vop p w) 0x04)
      ∧ ((a.matches d.shape && b.matches d.shape) = true → touch s.mem q [a, b] = .ok q' →
        (intMode d [a, b] = none → done (.vop p w)
          (finishDst d (vecAll (calc2 s.mem a b (vopOp m)) d w.sr w.sat 64 d.size q')))
        ∧ ∀ x, intMode d [a, b] = some x → done (.vop p w)
          (intSteps (fun q e => vopInt m (a.int s.mem q e) (b.int s.mem q e)) x 64 d.size (steps 64) 0 q')))
    ∧ (Issues s p r { d := 3, a := 15, b := 15, c := 15 } w → opndB tile q w = .ok b → opndC tile q w = .ok c →
      ((a.matches d.shape && b.matches d.shape && c.matches d.shape) = false → bad (.vfma p w) 0x04)
      ∧ ((a.matches d.shape && b.matches d.shape && c.matches d.shape) = true →
        (∀ x, intMode d [a, b, c] = some x → bad (.vfma p w) 0x03)
        ∧ (intMode d [a, b, c] = none → touch s.mem q [a, b, c] = .ok q' → done (.vfma p w)
          (finishDst d (vecAll (fun q e =>
            let z := c.value s.mem q e
            let y := calc2 s.mem a b (fun u v => ffma u v z.1) q e
            (y.1, y.2.plus z.2)) d w.sr w.sat 64 d.size q')))))
    ∧ (Issues s p r { d := 3, a := 15, modOk := fun m => m ≤ 6 } w →
      (a.matches d.shape = false → bad (.vun p w) 0x04)
      ∧ (a.matches d.shape = true →
        (∀ x, intMode d [a] = some x → 3 ≤ m → bad (.vun p w) 0x03)
        ∧ (touch s.mem q [a] = .ok q' →
          (∀ x, intMode d [a] = some x → m ≤ 2 → done (.vun p w)
            (intSteps (fun q e => vunInt m (a.int s.mem q e)) x 64 d.size (steps 64) 0 q'))
          ∧ (intMode d [a] = none → done (.vun p w)
            (finishDst d (vecAll (fun q e =>
              let x := a.value s.mem q e
              ((vunOp m x.1).1, x.2.plus (vunOp m x.1).2)) d w.sr w.sat (if m ≤ 2 then 64 else 16) d.size q'))))))
    ∧ (Issues s p r { d := 3, a := 15, b := 15, c := 15, cnds := 6 } w → opndB tile q w = .ok b →
      opndC tile q w = .ok c → d.matches d.shape = true →
      ((a.matches d.shape && b.matches d.shape && c.matches d.shape) = false → bad (.vsel p w) 0x04)
      ∧ ((a.matches d.shape && b.matches d.shape && c.matches d.shape) = true → touch s.mem q [a, b, c, d] = .ok q' →
        (intMode d [a, b, c, d] = none → done (.vsel p w) (finishDst d (vecAll (fun q e =>
          let x := a.value s.mem q e
          let y := b.value s.mem q e
          let z := c.value s.mem q e
          let o := d.value s.mem q e
          (if elemCond w.cnd.toNat x.1 y.1 then z.1 else o.1, (x.2.plus y.2).plus (z.2.plus o.2)))
          d w.sr w.sat 64 d.size q')))
        ∧ ∀ x, intMode d [a, b, c, d] = some x → done (.vsel p w) (intSteps (fun q e =>
            if intCond w.cnd.toNat (a.int s.mem q e) (b.int s.mem q e) then c.int s.mem q e else d.int s.mem q e)
          x 64 d.size (steps 64) 0 q')))
    ∧ (Issues s p r { d := 3, a := 3 } w →
      (a.matches d.shape = false → bad (.cvt p w) 0x04)
      ∧ (a.matches d.shape = true → touch s.mem q [a] = .ok q' →
        (intMode d [a] = none → done (.cvt p w)
          (finishDst d (vecAll (fun q e => a.value s.mem q e) d w.sr w.sat 64 d.size q')))
        ∧ ∀ x, intMode d [a] = some x → done (.cvt p w)
          (intSteps (fun q e => a.int s.mem q e) x 64 d.size (steps 64) 0 q')))

/-- R83, R85, R86, R88: RED, CSUM, FIND, RNG and RCHK on operands that can be placed. RED and CSUM need their shapes;
where RED's destination overlaps its source, the destination's elements are free values (log entry 1). FIND writes the
first index that matches, or the element count. RCHK raises 0x13 with the element and the test that fails. R77: when
an instruction's elements do not depend on the accumulator it writes, every element of the accumulator is the
element's result. -/
def Obligations.ReductionsAndChecksComplete : Prop :=
  (∀ (p : Fin 1024) (w : PenWord) (s : State) (r : Run) (q' : Pen) (d a b : Opnd),
     let q := (s.pen p).past
     let tile := p.val / 16
     let m := w.mod.toNat
     let done (i : Instr) (v : Pen) : Prop := ∃ t, exec i s = .next t ∧ t.pen p = v ∧ OnlyPen p s t
     let bad (i : Instr) (code : Nat) (detail : BitVec 64) : Prop :=
       ∃ t, exec i s = .next t ∧ Raised s t p r code detail ∧ OnlyPen p s t
     (Issues s p r { d := 1, a := 3, modOk := fun m => m ≤ 15 && m % 4 != 3 } w → opndD tile q w = .ok d →
       opndA tile q w = .ok a →
       (d.shape ≠ some (reducedDims (m % 4) a.dims) → bad (.red p w) 0x04 0)
       ∧ (d.shape = some (reducedDims (m % 4) a.dims) → touch s.mem q [a] = .ok q' →
         let v := vecAll (fun _ => redCalc s.mem a m q') d w.sr w.sat 64 d.size q'
         ((∀ x y, d = .view x → a = .view y → overlap x y = false) → done (.red p w) v)
         ∧ ∀ x y, d = .view x → a = .view y → overlap x y = true → ∃ t, exec (.red p w) s = .next t
           ∧ t.pen p = freeFill s.fresh x v ∧ { t with pens := s.pens, fresh := s.fresh } = s
           ∧ ∀ k, k ≠ p.val → t.pen k = s.pen k))
     ∧ (Issues s p r { d := 1, a := 3 } w → opndD tile q w = .ok d → opndA tile q w = .ok a →
       (d.shape ≠ a.shape → bad (.csum p w) 0x04 0)
       ∧ (d.shape = a.shape → touch s.mem q [a] = .ok q' →
         (intMode d [a] = none → done (.csum p w)
           (csumSteps s.mem a d w.sr w.sat d.size ((d.size + 63) / 64) 0 none [] q'))
         ∧ ∀ x, intMode d [a] = some x → done (.csum p w) (csumInt s.mem a x d.size ((d.size + 63) / 64) 0 0 q')))
     ∧ (Issues s p r { d := 4, a := 1, b := 15, cnds := 6 } w → opndA tile q w = .ok a → opndB tile q w = .ok b →
       (b.matches a.shape = false → bad (.find p w) 0x04 0)
       ∧ (b.matches a.shape = true → touch s.mem q [a, b] = .ok q' →
         let ints := a.fmt == some 12 && (b.fmt == none || b.fmt == some 12)
         let hit (e : Nat) : Bool := if ints then intCond w.cnd.toNat (a.int s.mem q' e) (b.int s.mem q' e)
           else elemCond w.cnd.toNat (a.value s.mem q' e).1 (b.value s.mem q' e).1
         ∃ t k, exec (.find p w) s = .next t ∧ OnlyPen p s t
           ∧ (t.pen p).regs = (q'.setReg w.d.toNat (BitVec.ofNat 64 k)).regs ∧ k ≤ a.size ∧ (∀ e, e < k → hit e = false)
           ∧ (k < a.size → hit k = true)
           ∧ (ints = true → t.pen p = (q'.setCnt q'.cnt).setReg w.d.toNat (BitVec.ofNat 64 k))))
     ∧ (Issues s p r { d := 1, a := 4, b := 4, c := 4 } w → opndD tile q w = .ok d →
       (d.fmt ≠ some 0 → bad (.rng p w) 0x03 0)
       ∧ (d.fmt = some 0 → done (.rng p w)
         (vecAll (fun _ e => (rngValue (q.reg w.a.toNat) (q.reg w.b.toNat) (q.reg w.c.toNat) e, {})) d false false 64
           d.size q)))
     ∧ (Issues s p r { a := 3, b := 12, c := 4, modOk := fun m => m ≤ 7 } w → opndA tile q w = .ok a →
       touch s.mem q [a] = .ok q' →
       let bound := low32 (if w.bk = 3 then w.imm else q'.reg w.b.toNat)
       let first := rchkFirst m bound (fun e => (a.value s.mem q' e).1) a.size 0
       let above : Bool := w.mod.getLsbD 2 && decide ((q'.reg w.c.toNat).toNat < q'.satc)
       (∀ e test, first = some (e, test) → bad (.rchk p w) 0x13 (BitVec.ofNat 64 (e % 2 ^ 32 + test * 2 ^ 32)))
       ∧ (first = none → above = true → bad (.rchk p w) 0x13 (BitVec.ofNat 64 (2 * 2 ^ 32)))
       ∧ (first = none → above = false → ∃ t, exec (.rchk p w) s = .next t ∧ OnlyPen p s t
           ∧ { t.pen p with satc := q'.satc, nanc := q'.nanc, infc := q'.infc } = q')))
  ∧ (∀ (elem : Pen → Nat → Val) (n step size : Nat) (sr sat : Bool) (q : Pen), 0 < step → size ≤ 1024 →
       (∀ q1 e, { q1 with acc := q.acc, satc := q.satc, nanc := q.nanc, infc := q.infc } = q → elem q1 e = elem q e) →
       (∀ e, e < size → (vecAll elem (.acc n) sr sat step size q).accAt n e = (elem q e).1)
       ∧ (∀ m e, m ≠ n → e < 1024 → (vecAll elem (.acc n) sr sat step size q).accAt m e = q.accAt m e)
       ∧ (vecAll elem (.acc n) sr sat step size q).scratch = q.scratch
       ∧ (vecAll elem (.acc n) sr sat step size q).regs = q.regs)

/-- R84, R85: TOPK, GATH, SCAT and OSM on operands that can be placed. TOPK writes the k values that rank highest and
their INT32 indices, padding with −Inf and −1; GATH and SCAT move an element for each INT32 index and raise 0x04 at
one outside its operand, with no change but the exception; OSM does its 32 rows in order on the accumulator, which
becomes void. Where an index instruction's views overlap it reads element by element (the model's reading, log entry
67). R85: the steps of GATH and SCAT stop at nothing but an index outside its operand, which raises 0x04. -/
def Obligations.IndexInstructionsComplete : Prop :=
  (∀ (p : Fin 1024) (w : PenWord) (s : State) (r : Run) (q' : Pen) (d a b : Opnd),
     let q := (s.pen p).past
     let tile := p.val / 16
     let done (i : Instr) (v : Pen) : Prop := ∃ t, exec i s = .next t ∧ t.pen p = v ∧ OnlyPen p s t
     let bad (i : Instr) (code : Nat) : Prop := ∃ t, exec i s = .next t ∧ Raised s t p r code 0 ∧ OnlyPen p s t
     (Issues s p r { d := 1, a := 1, b := 12, c := 1 } w → opndD tile q w = .ok d →
       (viewOf (q.view w.c.toNat)).space ≠ 1 → (viewOf (q.view w.c.toNat)).space ≠ 2 → opndA tile q w = .ok a →
       ∀ x, opndC tile q w = .ok (.view x) →
       let k := (low32 (if w.bk = 3 then w.imm else q.reg w.b.toNat)).toNat
       (isFloat (a.fmt.getD 0) = false ∨ x.v.fmt ≠ 12 → bad (.topk p w) 0x03)
       ∧ (isFloat (a.fmt.getD 0) = true → x.v.fmt = 12 →
         (k = 0 ∨ 1024 < k ∨ 2 ^ 20 < a.size ∨ d.size ≠ k ∨ x.v.count ≠ k → bad (.topk p w) 0x04)
         ∧ (1 ≤ k → k ≤ 1024 → a.size ≤ 2 ^ 20 → d.size = k → x.v.count = k → touch s.mem q [a] = .ok q' →
           let vals := (List.range a.size).map fun e => a.value s.mem q' e
           let top := vals.zipIdx.foldl (fun l y => topkInsert (y.1.1, y.2) k l) []
           let ws := top.map (·.1) ++ List.replicate (k - top.length) (inf32 true)
           let is := top.map (·.2) ++ List.replicate (k - top.length) 0xFFFFFFFF
           done (.topk p w) (x.setCodes (vecStep (fun _ e => (ws.getD e 0, {})) d w.sr w.sat 0 k []
             (q'.setCnt (vals.foldl (fun c y => c.made y.2) q'.cnt))).2 0 is))))
     ∧ (Issues s p r { d := 1, a := 1, b := 1 } w → opndD tile q w = .ok d → opndA tile q w = .ok a →
       opndB tile q w = .ok b →
       (b.fmt ≠ some 12 → bad (.gath p w) 0x03 ∧ bad (.scat p w) 0x03)
       ∧ (b.fmt = some 12 → b.shape ≠ d.shape → bad (.gath p w) 0x04)
       ∧ (b.fmt = some 12 → b.shape ≠ a.shape → bad (.scat p w) 0x04)
       ∧ (b.fmt = some 12 → b.shape = d.shape → touch s.mem q [a, b] = .ok q' →
         (∀ v, gathSteps s.mem d a b (intMode d [a]) w.sr w.sat d.size 0 [] q' = .ok v → done (.gath p w) v)
         ∧ (gathSteps s.mem d a b (intMode d [a]) w.sr w.sat d.size 0 [] q' = raise 0x04 → bad (.gath p w) 0x04))
       ∧ (b.fmt = some 12 → b.shape = a.shape → touch s.mem q [a, b] = .ok q' → ∀ x, d = .view x →
         let steps := scatSteps s.mem x a b (x.v.fmt == 12 && a.fmt == some 12) w.sr w.sat a.size 0 q'
         (∀ v, steps = .ok v → done (.scat p w) v) ∧ (steps = raise 0x04 → bad (.scat p w) 0x04)))
     ∧ (Issues s p r { d := 2, a := 1, b := 1, c := 1 } w → ∀ m l f, (opndA tile q w).bind osmView = .ok m →
       (opndB tile q w).bind osmView = .ok l → (opndC tile q w).bind osmView = .ok f →
       touch s.mem q [.view m, .view l] = .ok q' →
       done (.osm p w) (((List.range 32).foldl (fun q i => osmRow w.d.toNat (low32 w.imm) m l f i q) q').voidAcc w.d.toNat)))
  ∧ (∀ (mem : Tab Byte) (d a b : Opnd) (codes : Option Placed) (x : Placed) (raw sr sat : Bool) (n e : Nat) (pend : List F32)
       (q : Pen),
       ((∃ v, gathSteps mem d a b codes sr sat n e pend q = .ok v)
         ∨ gathSteps mem d a b codes sr sat n e pend q = raise 0x04)
       ∧ ((∃ v, scatSteps mem x a b raw sr sat n e q = .ok v) ∨ scatSteps mem x a b raw sr sat n e q = raise 0x04))

/-- R94, Table 03.5, R65–R89: what a pen's instruction can touch. Every instruction but BST, on whatever operands,
leaves every byte of memory and every other pen as they were, and of the rest of the state changes only dictionary
objects (counts, poison origins), the supply of free values and the armed MAC fault. -/
def Obligations.PenInstructionsTouchOnlyTheirPen : Prop :=
  ∀ (p : Fin 1024) (w : PenWord) (i : Instr) (f : Form) (s t : State), (i, f) ∈ penCommands p w → i ≠ .bst p w →
    exec i s = .next t →
      { t with pens := s.pens, objs := s.objs, fresh := s.fresh, macFault := s.macFault } = s
      ∧ (∀ a, t.byte a = s.byte a) ∧ ∀ k, k ≠ p.val → t.pen k = s.pen k

/-- R89, R94 and Table 03.5: CYCLE_BOUND_EXPIRY ends the run with exception 0x0A and changes nothing else, and leaves
a pen without a run alone. MAC_FAULT_INJECTION arms the word for the next MMA, even while treads run; a word with a
reserved value, or for a fenced pen, answers 0xF0000020. -/
def Obligations.CycleBoundAndMacFault : Prop :=
  ∀ (p : Fin 1024) (s : State),
    (∀ r, (s.pen p).run = some r → r.ended = none →
      Done (.cycleBoundExpiry p) s fun t => Raised s t p r 0x0A 0 ∧ OnlyPen p s t)
    ∧ ((s.pen p).run = none → exec (.cycleBoundExpiry p) s = .next s)
    ∧ ∀ (slot : Nat) (v : BitVec 32), Accepts s slot opWrite 0xF030 0 →
      let n := v.toNat
      let good : Prop := field n 28 4 = 0 ∧ field n 12 6 ≤ 32 ∧ field n 6 6 ≤ 32 ∧ ¬ (field n 12 6 = 32 ∧ field n 6 6 = 32)
        ∧ s.fenced (field n 18 10) = false
      (good → field n 0 6 ≤ 31 → Wrote (.macFaultInjection slot v) s slot 0xF030 0 0 fun u =>
          u.macFault = some v ∧ { u with objs := s.objs, macFault := s.macFault } = s)
      ∧ (¬ (good ∧ field n 0 6 ≤ 31) → Answers (.macFaultInjection slot v) s slot opWrite 0xF030 0 0xF0000020 fun u => u = s)

/-- R21, R31: TICK, where the first tread is due or a landing ends and no stop was asked for, adds one to the epoch,
and the new tread has the period and landing length that the landing before it knew, or those of a change whose count
reaches zero. LANDING_OPEN opens the landing of a tread once. Out of its place either changes nothing (the model's
choice, log entry 62). R22: treads stop at the end of the landing in progress when they were told to: the tick that
would begin the next tread begins none, and the claim is released. R22, R35, R37, R41: START_TREADS fixes the role and
the beacon mode, clears the flywheel and clean counts, and only a primary claims, where it sees no claim of the
standby (that it then waits to reclaim is the model's reading, log entry 136); every pen's in-field tests lose their
reference (R367). STOP_TREADS asks for the stop; TICK_LOST logs event 0x2004 and lets the landing end the treads. -/
def Obligations.TreadsBeginAndEnd : Prop :=
  (∀ (f late : BitVec 64) (s : State), s.tick.running = true →
     (s.tick.begun = false ∨ s.tick.inLanding = true → s.tick.stopReq = false →
       Done (.tick f) s fun t => t.epoch = s.epoch + 1 ∧ t.tick.begun = true ∧ t.tick.inLanding = false
         ∧ t.tick.tickAt = s.clock ∧ t.tick.confirmed = false ∧ t.tick.running = true
         ∧ (t.tick.period, t.tick.land) = match s.tick.change with
           | some (p, l, c) => if c ≤ 1 then (p, l) else (s.tick.nextPeriod, s.tick.nextLand)
           | none => (s.tick.nextPeriod, s.tick.nextLand))
     ∧ (s.tick.begun = true → s.tick.inLanding = false →
         exec (.tick f) s = .next s ∧ Done (.landingOpen late) s fun t => t.tick.inLanding = true ∧ t.tick.running = true)
     ∧ (s.tick.begun = false ∨ s.tick.inLanding = true → exec (.landingOpen late) s = .next s))
  ∧ (∀ (f : BitVec 64) (s : State), s.tick.running = true → s.tick.begun = false ∨ s.tick.inLanding = true →
       s.tick.stopReq = true →
         Done (.tick f) s fun t => t.tick.running = false ∧ t.tick.inLanding = false ∧ t.tick.begun = false
           ∧ t.tick.claimOut = false ∧ t.tick.active = false)
  ∧ (∀ (slot : Nat) (s : State),
       (Accepts s slot opCommand 0x2020 0 → s.tick.running = false → s.boot.cutOff = false →
         Answers (.startTreads slot) s slot opCommand 0x2020 0 0 fun u =>
           let role := s.num 0x2005 0
           u.tick.running = true ∧ u.tick.begun = false ∧ u.tick.stopReq = false ∧ u.tick.role = role
           ∧ u.tick.period = s.num 0x2001 0 ∧ u.tick.land = s.num 0x2002 0
           ∧ u.num 0x2007 0 = (if role = 0 then 0 else if s.members.length ≤ 16 then 1 else 2)
           ∧ u.num 0x200C 0 = 0 ∧ u.num 0x200D 0 = 0 ∧ u.tick.claimOut = (role == 1 && !s.tick.claimIn)
           ∧ u.tick.active = (role == 1 && !s.tick.claimIn) ∧ u.epoch = s.epoch ∧ u.mem = s.mem
           ∧ ∀ p, u.pen p = { s.pen p with reference := none })
       ∧ (Accepts s slot opCommand 0x2021 0 → s.tick.running = true →
         Answers (.stopTreads slot) s slot opCommand 0x2021 0 0 fun u => u = { s with tick := { s.tick with stopReq := true } })
       ∧ (s.tick.running = true → s.tick.lost = false → s.tick.role ≠ 0 →
         exec .tickLost s = .next { s.log 0x2004 srcHub s.epoch with
           tick := { s.tick with lost := true, stopReq := true } }))

/-- R30, R31: TICK_GROUP_COMMIT while treads are stopped answers with the first abort code whose case holds and
changes nothing; otherwise it applies at once on a stand-alone module, and on an active master it leaves a change that
counts down (held one above the lead, so that the next beacon carries the lead: log entry 68). While treads run it
waits for the landing. CHANGE_COUNTDOWN_ZERO lets the new values govern. -/
def Obligations.TickGroupCommits : Prop :=
  ∀ (slot : Nat) (s : State), Accepts s slot opCommand 0x2003 0 → (s.group 0x2003).busy slot = false →
    let period := s.stagedNum 0x2003 0x2001 0
    let land := s.stagedNum 0x2003 0x2002 0
    let bars := [(0x20000010, 2000 * land > period), (0x20000011, period < s.occupancy false),
      (0x20000012, s.tick.role = 3 ∨ (s.tick.role ≠ 0 ∧ s.tick.active = false)), (0x20000013, s.tick.change ≠ none)]
    (s.tick.running = true → exec (.tickGroupCommit slot) s = .next (s.defer (.tickCommit slot none)))
    ∧ (s.tick.running = false →
      (∀ k (h : k < bars.length), bars[k].2 → (∀ j (hj : j < bars.length), j < k → ¬ bars[j].2) →
        Answers (.tickGroupCommit slot) s slot opCommand 0x2003 0 bars[k].1 fun u => u = s)
      ∧ ((∀ e ∈ bars, ¬ e.2) → Answers (.tickGroupCommit slot) s slot opCommand 0x2003 0 0 fun u =>
          u.dict = { s.dict with tickGroup := {} } ∧ { u with dict := s.dict, objs := s.objs, tick := s.tick } = s
          ∧ (s.tick.role = 0 → u.num 0x2001 0 = period ∧ u.num 0x2002 0 = land ∧ u.tick = { s.tick with
              period := period, land := land, nextPeriod := period, nextLand := land })
          ∧ (s.tick.role ≠ 0 → u.objs = s.objs
              ∧ u.tick = { s.tick with change := some (period, land, s.num 0x2008 0 + 1) })))
    ∧ ∀ p l c, s.tick.change = some (p, l, c) → c ≤ 1 → Done .changeCountdownZero s fun t =>
        t.num 0x2001 0 = p ∧ t.num 0x2002 0 = l ∧ { t with objs := s.objs, tick := s.tick } = s
        ∧ t.tick = { s.tick with change := none, nextPeriod := p, nextLand := l
                                 period := if s.tick.running then s.tick.period else p
                                 land := if s.tick.running then s.tick.land else l }

/-- R32, R36, R37, R41: BEACON_RECEIVED on a link that is up. A stand-alone module ignores it; a beacon of no master
of the flight logs event 0x2006. On a module that is not active, the first beacon of an epoch that is the active
master's, or any master's for a member in dual-send mode, gives the tick offset after path-delay correction, the
digests, the landing length, the active role and an announced change (held one above CHG_IN where its tick is still to
come: log entry 68), and ends the flywheel; a period that is not the one in force loses the tick. Memory and pens are
unchanged. -/
def Obligations.BeaconsAreFollowed : Prop :=
  ∀ (f : Fin 96) (b : Beacon) (raw upstream : Int) (s : State), (s.link f).state = 3 → s.tick.running = true →
    (s.tick.role = 0 → exec (.beaconReceived f b raw upstream) s = .next s) ∧ (s.tick.role ≠ 0 →
    let offset := raw - ((tabGet (fun _ => none) s.tick.hopDelay f).getD 0 + upstream + 250) / 500
    (s.badBeacon b = true → exec (.beaconReceived f b raw upstream) s = .next (s.log 0x2006 srcHub b.epoch))
    ∧ (s.badBeacon b = false → s.tick.heard ≠ [] → b.epoch < s.tick.beaconEpoch →
        exec (.beaconReceived f b raw upstream) s = .next s)
    ∧ (s.badBeacon b = false → s.tick.everBeacon = true → s.tick.beaconEpoch < b.epoch → s.tick.active = false →
        b.active = true ∨ (s.tick.role = 3 ∧ s.num 0x2007 0 = 1) →
        Done (.beaconReceived f b raw upstream) s fun t =>
          t.tick.heard = [⟨b.role, b.active, offset⟩] ∧ t.tick.beaconEpoch = b.epoch ∧ t.num 0x200B 0 = intBits 4 offset
          ∧ t.num 0x200C 0 = 0 ∧ t.tick.flywheel = false ∧ t.tick.schd = some b.schd ∧ t.tick.membd = b.membd
          ∧ t.tick.activeRole = (if b.active then b.role else s.tick.activeRole) ∧ t.epoch = s.epoch ∧ t.mem = s.mem ∧ t.pens = s.pens
          ∧ (b.chgIn ≠ 0 → t.tick.change = some (b.nextPeriod, b.nextLand, b.chgIn + if s.epoch < b.epoch then 1 else 0))
          ∧ (if b.epoch ≤ s.epoch then t.tick.land = b.land else t.tick.nextLand = b.land)
          ∧ (b.epoch ≤ s.epoch → t.tick.lost = (s.tick.lost || b.period != s.tick.period))))

/-- R33, R34: probes. A captured probe is answered on its fiber pair with its PID, the in-fiber and the counter. A
reply gives half the round trip less the turnaround, at 500 ps a hub cycle, plus the trims of the pair's two fibers
(log entry 48): the first measurement is used at once; a later one within one hub cycle waits for the landing, a
larger difference logs event 0x2007 and is measured again. A reply to no probe of the last 1,024 treads logs event
0x2006. R33, R38, R39: every link of the beacon route that is up gets one probe, remembered with its launch. A standby
that is not active counts a dispute notice of a member once by epoch and source, and a claim is due when more than
half of the members sent one; a notice with a reserved field or value logs event 0x2006. -/
def Obligations.ProbesAndDisputes : Prop :=
  (∀ (f : Fin 96) (p : Probe) (s : State), (s.link f).state = 3 →
     (p.type = 3 → Done (.delayProbeReceived f p) s fun t =>
       { t with links := s.links } = s ∧ t.link f = { s.link f with
         peerAddr := some p.source
         tickOut := (s.link f).tickOut ++ [(none, pad240 (leBytes 32 (4 + atBit s.probeSource 16 16 + atBit f 8 80 + atBit f 8 88
           + atBit p.pid 32 96 + atBit s.hubCycles 64 128)))] }
       ∧ ∀ g, g ≠ f.val → t.link g = s.link g)
     ∧ ((∀ e ∈ s.tick.probes, e.1 ≠ p.pid ∨ e.2.2.2 + 1024 ≤ s.epoch) →
         exec (.probeReplyReceived f p) s = .next (s.log 0x2006 srcHub f))
     ∧ ∀ t0 e0, s.tick.probes.find? (fun e => e.1 == p.pid) = some (p.pid, f.val, t0, e0) → s.epoch < e0 + 1024 → p.type = 4 →
         let hop := ((s.clock : Int) - t0 - (p.tlaunch - p.tcapt)) * 250 + 2 * s.int 0x2011 (f + 1)
         let old : Option Int := tabGet (fun _ => none) s.tick.hopDelay f
         Done (.probeReplyReceived f p) s fun t =>
           (∀ e ∈ t.tick.probes, e.1 ≠ p.pid) ∧ (t.link f).peerAddr = some p.source ∧ t.objs = s.objs ∧ t.pens = s.pens
           ∧ t.mem = s.mem
           ∧ (old = none → tabGet (fun _ => none) t.tick.hopDelay f = some hop ∧ t.events = s.events)
           ∧ (∀ d, old = some d → (hop - d).natAbs ≤ 500 → s.tick.running = true →
               (f.val, hop) ∈ t.tick.newDelay ∧ t.tick.hopDelay = s.tick.hopDelay ∧ t.events = s.events)
           ∧ ∀ d, old = some d → 500 < (hop - d).natAbs →
               f.val ∈ t.tick.remeasure ∧ t.tick.hopDelay = s.tick.hopDelay ∧ t.tick.newDelay = s.tick.newDelay
               ∧ t.events = (s.log 0x2007 srcHub f).events)
  ∧ (∀ (s : State),
       (Done .delayProbePeriod s fun t => { t with links := s.links, tick := s.tick } = s
         ∧ ∀ f : Nat, (s.beaconFiber false = some f ∨ s.beaconFiber true = some f) → (s.link f).state = 3 →
             ∃ pid pl, (t.link f).tickOut = (s.link f).tickOut ++ [(none, pl)] ∧ (pid, f, s.clock, s.epoch) ∈ t.tick.probes)
       ∧ ∀ d : Dispute,
         (d.rsv ≠ 0 ∨ d.kind = 0 ∨ 3 < d.kind → exec (.tickDisputeReceived d) s = .next (s.log 0x2006 srcHub d.epoch))
         ∧ (d.rsv = 0 → 1 ≤ d.kind → d.kind ≤ 3 → s.tick.role = 2 → s.tick.active = false →
             s.members.any (fun m => m.addr == d.src) = true →
             Done (.tickDisputeReceived d) s fun t => { t with tick := s.tick } = s
               ∧ t.tick = { s.tick with disputes := t.tick.disputes, claimDue := t.tick.claimDue }
               ∧ (d.epoch, d.src) ∈ t.tick.disputes
               ∧ (∀ e, e ≠ (d.epoch, d.src) → t.tick.disputes.count e = s.tick.disputes.count e)
               ∧ t.tick.disputes.count (d.epoch, d.src) = max 1 (s.tick.disputes.count (d.epoch, d.src))
               ∧ t.tick.claimDue = (s.tick.claimDue
                   || decide (s.members.length < 2 * (t.tick.disputes.filter fun e => e.1 == d.epoch).length))))

/-- R35, R38, R40: the interlock. Firmware's confirmation of a tread is kept. An active master that sees CLAIM_IN
releases its claim, a primary's clean count begins again (R39); one that did not expect it logs event 0x2008 (the
model's choice, log entry 69). When CLAIM_IN is released the claimant is active: a standby with event 0x2002, a
reclaiming primary with 0x2005. A claimant that still sees CLAIM_IN at its time-out releases with 0x2008, and a
reclaiming primary's clean count is reset. A primary with 64 clean treads reclaims. -/
def Obligations.InterlockOfTheMasters : Prop :=
  ∀ (s : State),
    (s.tick.active = true → s.tick.running = true → s.tick.inLanding = false →
      exec .treadConfirm s = .next { s with tick := { s.tick with confirmed := true } })
    ∧ (s.tick.active = true → Done (.claimInChange true) s fun t =>
        t.tick.claimIn = true ∧ t.tick.claimOut = false ∧ t.tick.active = false ∧ t.tick.claiming = false
        ∧ t.events = (if s.tick.reclaimSeen then s.events else (s.log 0x2008 srcKeeper s.epoch).events)
        ∧ (s.tick.role = 1 → t.num 0x200D 0 = 0) ∧ (s.tick.role ≠ 1 → t.objs = s.objs)
        ∧ { t with tick := s.tick, objs := s.objs, events := s.events, nextSeq := s.nextSeq } = s)
    ∧ (s.tick.claimOut = true → s.tick.claiming = true → s.tick.role = 1 ∨ s.tick.role = 2 →
        Done (.claimInChange false) s fun t =>
          t.tick.claimIn = false ∧ t.tick.active = true ∧ t.tick.claimOut = true ∧ t.tick.reclaiming = false
          ∧ t.events = (if s.tick.reclaiming then (s.log 0x2005 srcKeeper s.epoch).events
              else if s.tick.role = 2 then (s.log 0x2002 srcKeeper s.epoch).events else s.events)
          ∧ { t with tick := s.tick, events := s.events, nextSeq := s.nextSeq } = s)
    ∧ (s.tick.claiming = true → s.tick.claimIn = true → Done .claimTimeout s fun t =>
        t.tick.claimOut = false ∧ t.tick.active = false ∧ t.events = (s.log 0x2008 srcKeeper s.epoch).events
        ∧ (s.tick.reclaiming = true → t.num 0x200D 0 = 0) ∧ (s.tick.active = true → s.tick.role = 1 → t.num 0x200D 0 = 0)
        ∧ (s.tick.reclaiming = false → s.tick.active = false ∨ s.tick.role ≠ 1 → t.objs = s.objs)
        ∧ { t with tick := s.tick, objs := s.objs, events := s.events, nextSeq := s.nextSeq } = s)
    ∧ (s.tick.role = 1 → s.tick.running = true → s.tick.active = false → s.num 0x200D 0 = 64 →
        exec .reclaim s = .next { s with tick := { s.tick with reclaiming := true } })

/-- R26, R93, R94, R131: PLAN_DOORBELL at a tile whose flock is on. A good plan for the tread it is for, of no more
sessions than that tread's budget allows where it is known, and where the tread has none, is accepted whole; any other
is refused with event 0x7010, and the sessions that its descriptors name are withheld in that tread. A late one (2 µs
or less before the landing) logs event 0x7016 and is held for the tread after, whose budget is published later; a late
one for the next tread is refused, and its sessions are withheld in that tread. An accepted plan keeps the three
limits of R26 and has no job id twice. R147: BATCH_CAP_GROWTH. A tile whose run of good treads has reached 16 has its
batch cap raised by an eighth, at least 1, up to the cap's maximum, and counts again; before that nothing changes.
R97, R136, R137, R139: JOB_DISPATCH. An idle pen takes the entry of its own deque that the balance allows, or steals
when that deque is empty and the entry is not one that its own idle pen takes in the same cycle, and the steal is
counted. The job starts in the state of R97; its ENERGY is debited; scratch stays. A pen that may not be given work is
left alone; one that R136 allows none of its first four entries waits for the next slot boundary. -/
def Obligations.PlansAndDispatch : Prop :=
  (∀ (k : Fin 64) (off : Nat) (s : State),
     let x := s.tile k
     let late : Bool := s.tick.running && (s.tick.inLanding || decide (s.workNs < s.sinceTick / 2 + 2000))
     let target := if late then s.epoch + 2 else s.epoch + 1
     let free : Bool := if late then x.held.isNone else x.plan.isNone
     let s1 := if late then s.log 0x7016 k off else s
     let p := s1.parsePlan k off target
     let fit : Prop := p.good = true ∧ (p.epoch = 0 ∨ p.epoch = target) ∧ (late = false → (sessionsOf p.jobs).length ≤ x.budgetBatch)
       ∧ free = true
     let after : Bool := late && p.epoch != s.epoch + 1
     x.flockOn = true →
       (fit → Done (.planDoorbell k off) s fun t => { t with tiles := s.tiles } = s1
         ∧ (∀ j, j ≠ k.val → t.tile j = s.tile j)
         ∧ t.tile k = (if late then { x with held := some { epoch := target, jobs := p.jobs } }
             else { x with plan := some { epoch := target, jobs := p.jobs } })
         ∧ (p.jobs.map (·.ncmt)).sum ≤ 1024 * s.tick.nextLand
         ∧ (p.jobs.map fun j => ((j.bales.drop j.nin).filter fun e => entryClass e == 10).length).sum ≤ s.stagingSlots
         ∧ (p.jobs.map fun j => j.ncmt - ((j.bales.drop j.nin).filter fun e => entryClass e == 10).length).sum ≤ 4096
         ∧ (p.jobs.map (·.jobId)).Nodup)
       ∧ (¬ fit → Done (.planDoorbell k off) s fun t => t.events = (s1.log 0x7010 k k).events
         ∧ (∀ j, j ≠ k.val → t.tile j = s.tile j)
         ∧ t.tile k = { x with withheldNext := (t.tile k).withheldNext, withheldLater := (t.tile k).withheldLater }
         ∧ (∀ i, i ∈ (t.tile k).withheldNext ↔ i ∈ x.withheldNext ∨ (after = false ∧ i ∈ p.named))
         ∧ ∀ i, i ∈ (t.tile k).withheldLater ↔ i ∈ x.withheldLater ∨ (after = true ∧ i ∈ p.named)))
  ∧ (∀ (k : Fin 64) (s : State),
       ((s.tile k).goodRun < 16 → exec (.batchCapGrowth k) s = .next s)
       ∧ (16 ≤ (s.tile k).goodRun → Done (.batchCapGrowth k) s fun t =>
           let cap := s.num 0x7045 (k + 1)
           t.num 0x7045 (k + 1) = min (s.gov 0x7044 0) (cap + max 1 (cap / 8)) ∧ t.tile k = { s.tile k with goodRun := 0 }
           ∧ (∀ j, j ≠ k.val → t.tile j = s.tile j) ∧ { t with objs := s.objs, tiles := s.tiles } = s))
  ∧ (∀ (p : Fin 1024) (s : State),
       let k := tileOf p
       let i := p.val % 16
       let started (j : Job) (t : State) : Prop :=
         ((t.pen p).run.map fun r => (r.job, r.epoch, r.startClock, r.commits)) = some (j, s.epoch, s.clock, [])
         ∧ (t.pen p).reg 1 = j.arg0 ∧ (t.pen p).reg 2 = BitVec.ofNat 64 j.jobId ∧ (t.pen p).reg 3 = BitVec.ofNat 64 s.epoch
         ∧ (t.pen p).reg 4 = BitVec.ofNat 64 p ∧ (∀ n, n < 16 → n = 0 ∨ 5 ≤ n → (t.pen p).reg n = 0)
         ∧ (t.pen p).pc = j.entry ∧ (t.pen p).acc = [] ∧ (t.pen p).resident = [] ∧ (t.pen p).rng = seedRng j.seed
         ∧ ((t.pen p).satc, (t.pen p).nanc, (t.pen p).infc) = (0, 0, 0) ∧ (t.pen p).scratch = (s.pen p).scratch
         ∧ (t.tile k).balance = (s.tile k).balance - j.energy
         ∧ (∀ q, q ≠ p.val → t.pen q = s.pen q) ∧ (∀ n, n ≠ k → t.tile n = s.tile n) ∧ t.mem = s.mem
       (s.canDispatch k i = false → exec (.jobDispatch p) s = .next s)
       ∧ (s.canDispatch k i = true → ∀ n j, s.ownEntry k i = some (n, j) →
           Done (.jobDispatch p) s fun t => started j t ∧ t.objs = s.objs)
       ∧ (s.canDispatch k i = true → (s.tile k).deque i ≠ [] → (∀ j ∈ ((s.tile k).deque i).take 4, s.affords k j = false) →
           Done (.jobDispatch p) s fun t => t.canDispatch k i = false ∧ { t with tiles := s.tiles } = s
             ∧ { t.tile k with slotWait := (s.tile k).slotWait } = s.tile k ∧ ∀ n, n ≠ k → t.tile n = s.tile n)
       ∧ (s.canDispatch k i = true → (s.tile k).deque i = [] → (s.pen p).suspect = false → ∀ v n j,
           s.stealEntry k i = some (v, n, j) → s.affords k j = true →
           ¬ (s.canDispatch k v = true ∧ (s.ownEntry k v).map (·.1) = some n) →
           Done (.jobDispatch p) s fun t => started j t ∧ t.num 0x7049 (k + 1) = (s.num 0x7049 (k + 1) + 1) % 2 ^ 32))

/-- R87, R89, R106, R138, R354: JOB_COMPLETE of a planned job on a pen that is not sampled. At END its commits join
the tile's and its TREAD outputs are readable; a program fault discards them, ends its sessions with 0x0011 and logs
event 0x7011; poison ends them with 0x0012, and object 0xA041 keeps the consumed origin, or the new one where an
output is poisoned; a withheld ending only withholds them; a check failure makes the pen suspect and opens a case. A
run that has not ended goes on. -/
def Obligations.JobsComplete : Prop :=
  ∀ (p : Fin 1024) (s : State) (r : Run) (e : RunEnd),
    let k := tileOf p
    let x := s.tile k
    let withheld (t : State) : Prop := ∀ i ∈ r.job.sessions, i ∈ (t.tile k).withheld
    let poisons : Prop := ∃ n, n < r.job.nout ∧ let e := r.job.bales.getD (r.job.nin + n) 0
      s.entryReaches e = true ∧ (entryClass e = 8 ∨ entryClass e = 9)
    let ends (t : State) (status : Nat) : Prop :=
      t.service.endsNow = s.service.endsNow ++ (distinct r.job.sessions).map fun i => (i, status, 0)
    ((s.pen p).run = some r → r.ended = none → exec (.jobComplete p) s = .next s)
    ∧ ((s.pen p).run = some r → r.ended = some e → r.job.kind = .plan → r.job.scr = false → (s.pen p).sampled = false →
        Done (.jobComplete p) s fun t => (t.pen p).run = none ∧ t.epoch = s.epoch
          ∧ (e = .done → (t.tile k).commits = x.commits ++ r.commits.map (fun c => (r.job.sessions, c))
              ∧ (t.tile k).treadOut = x.treadOut ++ r.job.treadHeaders ∧ t.service = s.service ∧ t.mem = s.mem)
          ∧ ∀ code index detail, e = .exc code index detail →
              (t.tile k).commits = x.commits
              ∧ (excClass code = .p → ends t 0x0011 ∧ withheld t
                  ∧ ∃ v ∈ t.events, v.code = 0x7011 ∧ v.source = k ∧ v.detail = r.job.jobId)
              ∧ (excClass code = .x → ends t 0x0012 ∧ withheld t
                  ∧ (poisons → t.num 0xA041 0 = 0x0011 * 2 ^ 48 + p.val * 2 ^ 32 + s.epoch % 2 ^ 32)
                  ∧ (¬ poisons → t.num 0xA041 0 = detail.toNat % 2 ^ 16 * 2 ^ 48
                    + detail.toNat / 2 ^ 16 % 2 ^ 16 * 2 ^ 32 + detail.toNat / 2 ^ 32 % 2 ^ 32))
              ∧ (excClass code = .w → t.service = s.service ∧ withheld t ∧ t.mem = s.mem)
              ∧ (excClass code = .c → t.service = s.service ∧ (t.pen p).suspect = true ∧ t.mem = s.mem
                  ∧ ∃ c, (t.tile k).cases = x.cases ++ [c] ∧ c.pen = p.val ∧ c.job = r.job ∧ c.code = code
                    ∧ c.index = index ∧ c.replay = none))

/-- R359, R361, R364, R366, R367: PEN_FENCE on a working pen of a flock that is on fences it with cause 6; PEN_RESTORE
on a fenced one forces it and the flock's lowest working pen into the next open tread. A pen whose test gives the
reference made for its due epoch, or has none for it, has its clean point at this tread and gives its neighbour the
reference for that one's due tread; where neither the pen's digest nor the third pen's is the reference, event 0x7028
is logged. Either command in the other case answers 0x70000010. -/
def Obligations.PensAreFencedRestoredAndTested : Prop :=
  ∀ (slot : Nat) (s : State),
    let p := s.gov 0x705C 0
    let k := tileOf p
    (p < 1024 → Accepts s slot opCommand 0x705D 0 →
      (s.fenced p = false → (s.tile k).flockOn = true → Answers (.penFence slot) s slot opCommand 0x705D 0 0 fun u =>
          u.fenced p = true ∧ (p, 6) ∈ u.nv.fences ∧ (u.pen p).run = none ∧ u.mem = s.mem)
      ∧ (s.fenced p = true ∨ (s.tile k).flockOn = false →
          Answers (.penFence slot) s slot opCommand 0x705D 0 0x70000010 fun u => u = s))
    ∧ (p < 1024 → Accepts s slot opCommand 0x705E 0 →
      (s.fenced p = true → (s.tile k).flockOn = true → ∀ i, i < 16 → s.works k i = true →
        (∀ j, j < i → s.works k j = false) → Answers (.penRestore slot) s slot opCommand 0x705E 0 0 fun u =>
          { u with tiles := s.tiles } = s ∧ (∀ n, n ≠ k → u.tile n = s.tile n)
          ∧ u.tile k = { s.tile k with
              forceNext := (s.tile k).forceNext ||| BitVec.ofNat 16 (2 ^ (p % 16)) ||| BitVec.ofNat 16 (2 ^ i)
              tests := (s.tile k).tests ++ [{ kind := 2, pen := p, other := gpen k i }] })
      ∧ (s.fenced p = false ∨ (s.tile k).flockOn = false →
          Answers (.penRestore slot) s slot opCommand 0x705E 0 0x70000010 fun u => u = s))
    ∧ ∀ (q : Fin 1024) (digest reference third : Option (BitVec 32)) (e : Nat) (d : BitVec 32),
      (s.tile (tileOf q)).excluded.getLsbD (q % 16) = true → s.testOf q = none →
      (s.tile (tileOf q)).duePen = some (q % 16) → (s.pen q).reference = some (e, d) →
        (e ≠ s.dueEpoch (q % 16) → Done (.inFieldTestComplete q digest reference third) s fun t =>
          (t.pen q).clean = s.epoch ∧ (t.pen q).reference = none ∧ t.events = s.events)
        ∧ (e = s.dueEpoch (q % 16) → digest = some d → Done (.inFieldTestComplete q digest reference third) s fun t =>
          (t.pen q).clean = s.epoch ∧ (t.pen q).reference = none ∧ (t.pen q).taint = [] ∧ (t.tile (tileOf q)).duePen = none ∧ t.objs = s.objs
          ∧ t.events = s.events ∧ (t.pen (gpen (tileOf q) ((q % 16 + 1) % 16))).reference =
              reference.map fun v => (s.dueEpoch (q % 16) + s.num 0x7047 0 / 16, v))
        ∧ (e = s.dueEpoch (q % 16) → digest ≠ some d → third ≠ some d → Done (.inFieldTestComplete q digest reference third) s fun t =>
            t.events = (s.log 0x7028 (tileOf q) q).events ∧ (t.tile (tileOf q)).duePen = none)

/-- R136, R140–R142: trades. An expired idle time, under rein too, sends a request to every mesh neighbour whose flock
is on and that has none from this tile. A request is answered by one grant of at most four jobs, of none from a donor
that may not dispatch; each was queued, unpinned and migratable, and the donor keeps a copy. A granted job whose image
differs goes back with event 0x7012, and one beyond the receiver's 16 goes back without (the model's choice, log entry
123). A report takes the job from the donor's copies; one of class 3, a withheld ending, withholds its sessions and
its successors. A slot boundary adds the slot's grant up to the cap, and pens that waited for it may be given work. -/
def Obligations.TradesMoveJobs : Prop :=
  ∀ (s : State),
    (∀ p : Fin 1024, let k := tileOf p
      s.gov 0x7041 0 ≠ 0 → s.tick.running = true → s.tick.inLanding = false → s.serves k (p % 16) = true →
      (s.pen p).run = none → s.ownEntry k (p % 16) = none → s.stealEntry k (p % 16) = none →
      1000 * s.gov 0x7043 0 < s.toLanding → (s.tile k).tradedIn.length < 16 →
        Done (.tradeIdleExpiry p) s fun t => { t with tiles := s.tiles, sent := s.sent } = s ∧ ∀ d n, d < 4 →
          neighbour k d = some n → (s.tile n).flockOn = true → n ∉ (s.tile k).requested →
            n ∈ (t.tile k).requested ∧ ∃ a, Out.tileMessage k n msgRequest a ∈ t.sent)
    ∧ (∀ (d r : Fin 64) (clkt a b c : Nat), d ≠ r → Done (.tradeRequestReceived d r clkt a b c) s fun t =>
        ∃ l : List Job, l.length ≤ 4 ∧ t.sent = s.sent ++ [.tileMessage d r msgGrant (l.map (·.jobId))]
          ∧ (t.tile d).tradedOut = (s.tile d).tradedOut ++ l.map (fun j => (r.val, j))
          ∧ (∀ j ∈ l, j.mig = true ∧ j.scr = false ∧ j.pinned = false ∧ j.donor = none)
          ∧ ((s.tile d).flockOn = false ∨ s.drover.rein = true ∨ (s.tile d).rein = true ∨ s.tick.inLanding = true → l = [])
          ∧ (t.tile r).jobs = (s.tile r).jobs ∧ t.pens = s.pens ∧ t.objs = s.objs ∧ t.mem = s.mem)
    ∧ (∀ (r d : Fin 64) (g : TradedJob), r ≠ d →
        let j := tradedJob d s.epoch g
        let h := leNat (s.read (sramBase r + j.prog) 64)
        (field h 128 32 ≠ g.imgcrc ∨ field h 160 32 ≠ g.ninstr → Done (.tradeGrantReceived r d [g]) s fun t =>
          t.events = (s.log 0x7012 d j.jobId).events ∧ (t.tile r).jobs = (s.tile r).jobs
          ∧ t.sent = s.sent ++ [.tileMessage r d msgReturn [j.jobId]] ∧ ∀ e ∈ (t.tile d).tradedOut, e.2.jobId ≠ j.jobId)
        ∧ (field h 128 32 = g.imgcrc → field h 160 32 = g.ninstr → (s.tile r).tradedIn.length < 16 →
            fits s.tick.land s.stagingSlots ((s.tile r).jobs ++ [j]) = true → ∀ i,
            fewest (s.serves r) (fun n => ((s.tile r).deque n).length) = some i →
            Done (.tradeGrantReceived r d [g]) s fun t => (t.tile r).jobs = (s.tile r).jobs ++ [{ j with home := i }]
              ∧ (t.tile r).tradedIn = (s.tile r).tradedIn ++ [(d.val, j.jobId)] ∧ t.tile d = s.tile d ∧ t.events = s.events
              ∧ t.num 0x704A (r + 1) = (s.num 0x704A (r + 1) + 1) % 2 ^ 32)
        ∧ (field h 128 32 = g.imgcrc → field h 160 32 = g.ninstr → 16 ≤ (s.tile r).tradedIn.length →
            Done (.tradeGrantReceived r d [g]) s fun t => (t.tile r).jobs = (s.tile r).jobs ∧ t.events = s.events
              ∧ t.sent = s.sent ++ [.tileMessage r d msgReturn [j.jobId]]))
    ∧ (∀ (d : Fin 64) (id cls r : Nat) (j : Job), (s.tile d).tradedOut.find? (fun e => e.2.jobId == id) = some (r, j) →
        Done (.tradeCompletionReport d id cls) s fun t => (∀ e ∈ (t.tile d).tradedOut, e.2.jobId ≠ id)
          ∧ t.mem = s.mem ∧ (cls ≠ 3 → t.pens = s.pens)
          ∧ (cls = 3 → (∀ i ∈ j.sessions, i ∈ (t.tile d).withheld)
              ∧ ∀ q ∈ (t.tile d).waiting, ¬ (q.planEpoch = j.planEpoch ∧ q.index ∈ j.succ)))
    ∧ ∀ k : Fin 64, let n := (s.tile k).slotNo + 1
      s.tick.running = true → s.tick.inLanding = false → (s.tile k).flockOn = true → n < slotCount s.workNs →
        let g := s.grantFor k n
        Done (.grantSlotBoundary k) s fun t => (∀ j, j ≠ k.val → t.tile j = s.tile j) ∧ t.num 0x3030 (k + 1) = g
          ∧ t.tile k = { s.tile k with
              grant := g, slotNo := n, slotWait := 0, tradeDelta := 0
              balance := min ((s.tile k).balance + g) ((s.num 0x7040 0 * g : Nat) : Int) + (s.tile k).tradeDelta }

/-- R103, R105, R115, R123, R126, R351: MEMORY_READ of a bale with a part in LPDDR that no released write touches, in
no pasture that is off. A bale that passes its checks is delivered; one bad read is read again and logged as event
0xA001; a bale that fails twice is poisoned where it lies with origin 0x0001, and only its header's 64 bytes change. A
part that cannot be read is answered poisoned (the header's other fields are the model's, log entry 25).
BALE_READ_TIMEOUT issues the read once more, then raises 0x12. -/
def Obligations.BaleReadsAreChecked : Prop :=
  ∀ (p : Fin 1024) (slot : Fin 64) (errors : Nat) (s : State) (b : BaleRead),
    tabGet (fun _ => none) (s.pen p).reads slot = some b →
    let served (t : State) (v : List Byte × BitVec 512) : Prop :=
      tabGet (fun _ => none) (t.pen p).reads slot = some { b with served := some v }
    (b.fromLpddr = true → b.served = none → s.writePending b.payload 4096 = false → s.writePending b.header 64 = false →
      s.mute b.payload = false → s.mute b.header = false →
      (∀ ha pa, s.readPart b.header = .ok ha → s.readPart b.payload = .ok pa →
        let payload := s.read pa 4096
        let h := BitVec.ofNat 512 (leNat (s.read ha 64))
        let f := checkBale payload h.toNat
        (f = .poisoned ∨ (f = .good ∧ errors = 0) → errors ≤ 1 → Done (.memoryRead p slot errors) s fun t =>
          served t (payload, h) ∧ { t with pens := s.pens } = s ∧ ∀ k, k ≠ p.val → t.pen k = s.pen k)
        ∧ (f = .good → errors = 1 → Done (.memoryRead p slot errors) s fun t => served t (payload, h) ∧ t.mem = s.mem
            ∧ t.events = (s.log 0xA001 (failingChannel pa ha false / 8) pa).events)
        ∧ (1 < errors ∨ f = .badHeader ∨ f = .badPayload → Done (.memoryRead p slot errors) s fun t =>
            let v := poisonHeader h.toNat 0x0001 (failingChannel pa ha (decide (errors ≤ 1) && f == .badHeader)) s.epoch
            served t (payload, v) ∧ t.read ha 64 = headerBytes v
            ∧ ∀ a, a < ha ∨ ha + 64 ≤ a → t.byte a = s.byte a))
      ∧ ∀ code unit, (s.readPart b.header = .error (code, unit)
            ∨ ((∃ ha, s.readPart b.header = .ok ha) ∧ s.readPart b.payload = .error (code, unit))) →
          Done (.memoryRead p slot errors) s fun t =>
            served t ([], freshPoison 0x7FF s.epoch code unit) ∧ t.mem = s.mem ∧ t.num 0xA040 0 = (s.num 0xA040 0 + 1) % 2 ^ 32)
    ∧ (∀ r, (s.pen p).run = some r → r.ended = none → (b.cls = 0 ∨ s.readReady r slot b = true) →
      (b.reissued = false → Done (.baleReadTimeout p slot) s fun t => OnlyPen p s t
        ∧ t.pen p = { s.pen p with
            reads := tabSet (fun _ => none) (s.pen p).reads slot (some { b with reissued := true, served := none }) })
      ∧ (b.reissued = true → Done (.baleReadTimeout p slot) s fun t => OnlyPen p s t
        ∧ tabGet (fun _ => none) (t.pen p).reads slot = none
        ∧ (t.pen p).run = some { r with
            ended := some (.exc 0x12 b.index 0), endedAt := b.order, acc := none
            record := r.record ++ [.exc 0x12 b.index] }))

/-- R103, R111, R118–R120, R125, R351: COMMIT_WRITE of a released write: its destination port fetches payload and
header from the staging slot, checks them, fetches once more where that fails, and holds the header that it will
store, poisoned with origin 0x0004 where both failed. COMMIT_WRITE_COMPLETE then stores payload and header, no other
byte, and frees the slot. A write whose header address a later key takes is dropped with event 0xA003; one that no
port can place is discarded and its slot freed. COMMIT_WRITE_TIMEOUT fetches and sends it again. -/
def Obligations.CommitWritesArePlaced : Prop :=
  ∀ (k : Fin 64) (slot bad : Nat) (s : State) (b : StagedBale),
    tabGet (fun _ => none) (s.tile k).staging slot = some b → b.released = true →
    let staged (t : State) (v : Option StagedBale) : Prop :=
      t.tile k = { s.tile k with staging := tabSet (fun _ => none) (s.tile k).staging slot v }
      ∧ ∀ j, j ≠ k.val → t.tile j = s.tile j
    let discarded (i : Instr) (u : Option Nat) : Prop := Done i s fun t =>
      tabGet (fun _ => none) (t.tile k).staging slot = none ∧ t.mem = s.mem
      ∧ ∀ c, u = some c → tabGet (fun _ => 0) (t.tile (c / 8)).discards (c % 8) =
          tabGet (fun _ => 0) (s.tile (c / 8)).discards (c % 8) + 1
    let a := sramBase k + s.stagingBase + 4160 * slot
    let payload := s.read a 4096
    let h := BitVec.ofNat 512 (leNat (s.read (a + 4096) 64))
    let f := checkBale payload h.toNat
    let whole : Bool := decide (bad ≤ 1) && (f == .good || f == .poisoned)
    (∀ pa ha, s.writeTarget b.payload b.header = .ok (pa, ha) →
      let u := destinationUnit pa
      (b.written = false → b.loser = true → Done (.commitWrite k slot bad) s fun t =>
        staged t (some { b with written := true, head := none }) ∧ t.mem = s.mem ∧ t.events = (s.log 0xA003 u b.header).events)
      ∧ (b.written = false → b.loser = false → Done (.commitWrite k slot bad) s fun t =>
          staged t (some { b with
            written := true, head := some (if whole then h else poisonHeader h.toNat 0x0004 u s.epoch) }) ∧ t.mem = s.mem
          ∧ t.events = (if whole then s.events else (s.log 0xA002 u pa).events))
      ∧ (b.written = true → Done (.commitWriteComplete k slot) s fun t => staged t none
          ∧ t.mem = match b.head with
            | some v => ((s.write pa payload).write ha (headerBytes v)).mem
            | none => s.mem)
      ∧ Done (.commitWriteTimeout k slot) s fun t =>
          staged t (some { b with written := false, head := none }) ∧ { t with tiles := s.tiles } = s)
    ∧ ∀ u, s.writeTarget b.payload b.header = .error u →
        (b.written = false → discarded (.commitWrite k slot bad) u) ∧ (b.written = true → discarded (.commitWriteComplete k slot) u)
        ∧ discarded (.commitWriteTimeout k slot) u

/-- R122, R124, R126–R128: the refresh multiplier is the larger of the pair's band and the devices' report, a report
above 4 counts as 4 with event 0xA006. A failed channel sets its mask bit, takes 8 GiB from the capacity and waits for
the landing. A re-homing copy, with no write pending, fills the target GiB from the region's mirror and leaves every
byte outside it. The redirect group commits whole or answers its abort code; a region map that breaks R128 is refused,
a good one is in force. -/
def Obligations.ChannelsAndMapsFollowTheirRules : Prop :=
  ∀ (s : State),
    (∀ (k : Fin 64) (report : Nat), let m := if report ≤ 1 then 1 else if report ≤ 2 then 2 else 4
      Done (.refreshRatePoll k report) s fun t => (t.tile k).deviceRefresh = m ∧ t.mem = s.mem
        ∧ t.num 0xA003 (k + 1) = max (bandRefresh (s.num 0x4004 (92 + k / 2 + 1))) m
        ∧ t.events = (if 4 < report then (s.log 0xA006 k report).events else s.events))
    ∧ (∀ (k : Fin 64) (c : Fin 6), (s.channelBad k c = true → exec (.channelFailed k c) s = .next s)
      ∧ (s.channelBad k c = false → Done (.channelFailed k c) s fun t =>
          (∀ j : Fin 6, t.channelBad k j = (s.channelBad k j || j == c)) ∧ t.num 0xA001 (k + 1) = s.num 0xA001 (k + 1) - 8
          ∧ (t.tile k).newlyFailed = (s.tile k).newlyFailed ||| BitVec.ofNat 6 (2 ^ c.val) ∧ t.mem = s.mem))
    ∧ (∀ (k : Fin 64) (gib : Fin 48) (r : Refill), Inv s →
        s.refills.find? (fun r => r.src == 64 * k.val + gib && r.copies && !r.done) = some r →
        Done (.rehomingCopyComplete k gib) s fun t =>
          (∀ x ∈ t.refills, x.src = 64 * k.val + gib → x.done = true)
          ∧ (s.writesPend = false → (∀ a, a / 2 ^ 30 ≠ r.tgt → t.byte a = s.byte a) ∧ ∀ g m, s.regions = [g] → g.kind = 1 → g.mv = true →
              (s.tile (r.tgt / 64)).tileOn = true → s.channelBad (r.tgt / 64) (r.tgt % 64 / 8) = false →
              let lo := max g.base (r.src * 2 ^ 30)
              let hi := min (g.base + g.len) ((r.src + 1) * 2 ^ 30)
              let from_ := g.mirror + (lo - g.base)
              from_ / 2 ^ 30 = (from_ + (hi - lo) - 1) / 2 ^ 30 → s.readPart from_ = .ok m → ∀ i, i < hi - lo →
                t.byte (r.tgt * 2 ^ 30 + lo % 2 ^ 30 + i) = s.byte (m + i)))
    ∧ (∀ slot, Accepts s slot opCommand 0xA032 0 → (s.group 0xA032).busy slot = false → s.tick.running = false →
        let l := (s.group 0xA032).staged
        ((∃ k, k < 64 ∧ ∃ e ∈ redirectEntries (s.stagedBlob 0xA032 0xA031 (k + 1)),
            bit e 15 = true ∧ (4096 ≤ e % 2 ^ 13 ∨ 48 ≤ e % 64)) →
          Answers (.redirectGroupCommit slot) s slot opCommand 0xA032 0 0xA0000010 fun u => u = s)
        ∧ (redirectRule s = 0 → (∀ e ∈ l, e.2.1 < 256) → (l.map fun e => (e.1, e.2.1)).Nodup →
          Answers (.redirectGroupCommit slot) s slot opCommand 0xA032 0 0 fun u =>
            (∀ e ∈ l, u.obj e.1 e.2.1 = e.2.2) ∧ u.dict = { s.dict with redirectGroup := {} }
            ∧ { u with objs := s.objs, dict := s.dict } = s))
    ∧ ∀ slot data, Accepts s slot opWrite 0xA030 0 → s.tick.running = false → data.length ≤ 2097152 →
        let l := regionsOf (data.length / 32) data
        let i := Instr.regionMapWrite slot data
        (data.length % 32 ≠ 0 → Answers i s slot opWrite 0xA030 0 0x10000005 fun u => u = s)
        ∧ (data.length % 32 = 0 → (∃ r ∈ l, r.reserved = true) → Answers i s slot opWrite 0xA030 0 0x10000008 fun u => u = s)
        ∧ (data.length % 32 = 0 → (∀ r ∈ l, r.reserved = false) →
          ((∀ r ∈ l, regionOk r = true) → regionsApart l = true → Wrote i s slot 0xA030 0 0 fun u =>
            u.blob 0xA030 0 = data ∧ { u with objs := s.objs } = s)
          ∧ (¬ ((∀ r ∈ l, regionOk r = true) ∧ regionsApart l = true) →
            Answers i s slot opWrite 0xA030 0 0xA0000012 fun u => u = s))

/-- R151, R152, R154, R160–R162: power. An input reading is kept and reported; the cap in force is the smallest of the
cap object, 2,200 W, 55 V and, in a tab fault, 35 V (before the first reading no voltage term applies: log entry 31).
A cap below the last tread's non-tile power and 64 minimum grants is refused. A window whose metered power lies above
the cap asserts rein, one whose tile power lies above the ceiling reins the tile; rein lets go after 1 µs and two
windows below the release level. Rein held 100 µs leaves minimum grants. -/
def Obligations.PowerIsMeteredAndCapped : Prop :=
  ∀ (s : State),
    let d := s.drover
    let cap (own mv : Nat) (fault : Bool) : Nat :=
      let n := min own 2200
      if mv = 0 then n else min n (min (55 * mv / 1000) (if fault then 35 * mv / 1000 else n))
    (∀ mv a b vk, Done (.inputReading mv a b vk) s fun t => t.num 0x3003 0 = (ratF32 ((mv : Rat) / 1000)).toNat
        ∧ t.num 0x3004 1 = (ratF32 ((a : Rat) / 1000)).toNat ∧ t.num 0x3004 2 = (ratF32 ((b : Rat) / 1000)).toNat
        ∧ t.num 0x3002 0 = cap (s.num 0x3001 0) mv d.tabFault
        ∧ t.drover = { d with millivolts := mv, tabA := a, tabB := b, vkMw := vk, disagree := t.drover.disagree
                              voltLimited := t.drover.voltLimited }
        ∧ { t with objs := s.objs, events := s.events, nextSeq := s.nextSeq, drover := d } = s)
    ∧ (d.tabFault = false → Done .tabFault s fun t => t.drover.tabFault = true
        ∧ t.num 0x3002 0 = cap (s.num 0x3001 0) d.millivolts true ∧ ∃ v ∈ t.events, v.code = 0x3003)
    ∧ (Done .tabFaultClear s fun t => t.drover.tabFault = false
        ∧ t.num 0x3002 0 = cap (s.num 0x3001 0) d.millivolts false ∧ t.mem = s.mem ∧ t.pens = s.pens)
    ∧ (∀ slot v, Accepts s slot opWrite 0x3001 0 → 900 ≤ v → v ≤ 2200 →
        let low : Prop := ((1000 * v : Nat) : Rat) < d.nonTile + (64 * s.num 0x3008 0 : Nat)
        (low → Done (.powerCapWrite slot v) s fun t =>
          t.num 0x3001 0 = s.num 0x3001 0 ∧ t.sent = (s.answer slot opWrite 0x3001 0 0x30000010).sent)
        ∧ (¬ low → s.tick.running = false → Done (.powerCapWrite slot v) s fun t => t.num 0x3001 0 = v
            ∧ t.num 0x3002 0 = cap v d.millivolts d.tabFault ∧ t.sent = (s.answerWrite slot 0x3001 0 0).sent)
        ∧ (¬ low → s.tick.running = true → Done (.powerCapWrite slot v) s fun t => t.num 0x3001 0 = s.num 0x3001 0
            ∧ t.dict.deferred = (s.dict.deferred.filter fun e => !(Deferred.write 0x3001 0 (.num v)).replaces e)
                ++ [.write 0x3001 0 (.num v)]
            ∧ t.sent = (s.answerWrite slot 0x3001 0 1).sent))
    ∧ (∀ currents : List (Nat × Nat), Done (.senseWindow currents) s fun t =>
        let pm := s.meter currents
        let limit : Rat := (1000 * s.num 0x3002 0 : Nat)
        let below : Prop := pm < limit - (1000 * s.gov 0x3007 0 : Nat)
        t.drover.metered = pm ∧ t.mem = s.mem ∧ t.pens = s.pens
        ∧ (d.rein = false → t.drover.rein = decide (limit < pm)
            ∧ (limit < pm → t.num 0x3020 0 = (s.num 0x3020 0 + 1) % 2 ^ 32)
            ∧ (¬ limit < pm → t.num 0x3020 0 = s.num 0x3020 0))
        ∧ (d.rein = true → (t.drover.rein = false ↔ below ∧ 1 ≤ d.reinBelow ∧ d.reinAt + 2000 ≤ s.clock))
        ∧ (d.windowCount = 99 → t.drover.mean = (d.windowSum + pm) / 100 ∧ t.drover.windowCount = 0)
        ∧ ∀ k, k < 64 → (s.tile k).tileOn = true → (s.tile k).rein = false →
            (t.tile k).rein = decide (((1000 * s.gov 0x3006 0 : Nat) : Rat) < s.tilePower currents k))
    ∧ (d.rein = true → d.reinHeld = false → exec .reinHeldLimit s = .next { s.log 0x3005 srcHub 0 with
        drover := { d with reinHeld := true, gminOnly := true } })

/-- R153, R166–R168, R170, R171: heat. An update advances every node by one explicit step of the powers that the
rails' mean since the last update gives it (Table 07.4), holds the coolant at its anchor and notes the bands; three
diode reads in a row more than 5 °C off move the anchor by the mean difference, more than 15 °C off declare the model
failed. An estimate at the threshold of object 0x4003, or a diode at 120 °C, calls for the shutdown with the record of
what was found, which the shutdown writes; it takes the rails and the hub down and sets the latch; re-enable is
refused while a diode is hot, else bring-up starts from stage 1 with cause 5. An input out of range shuts down without
the latch; its return starts bring-up with cause 4. -/
def Obligations.HeatAndInputShutDown : Prop :=
  ∀ (s : State),
    let d := s.drover
    let rail (r : Nat) : Rat := tabGet (fun _ => 0) d.railSum r / (d.railWindows : Nat)
    let power (i : Nat) : Rat :=
      if i < 64 then rail i + rail (0x40 + i)
      else if i < 68 then (rail 0x80 + rail 0x81) * (tabGet (fun _ => 2500) s.nv.hubSplit (i - 64) : Nat) / 10000
      else if i < 80 then rail (0x90 + (i - 68))
      else if i < 92 then rail (0xA0 + (i - 80))
      else if i < 124 then rail (0xC0 + (i - 92))
      else 0
    Done .thermalUpdate s (fun t =>
      (∀ i, i < 125 → t.temp i = s.temp i + (power i
          - ratSum (s.nv.conduct.map fun c =>
              if c.1 = i then (c.2.2 : Rat) * (s.temp i - s.temp c.2.1)
              else if c.2.1 = i then (c.2.2 : Rat) * (s.temp i - s.temp c.1) else 0))
        / (100000 * (tabGet (fun _ => 1000) s.nv.heatCap i : Nat)))
      ∧ t.temp 125 = d.anchor ∧ t.drover.railSum = [] ∧ t.drover.railWindows = 0
      ∧ (∀ i, i < 126 → t.num 0x4001 (i + 1) = intBits 2 (16 * t.temp i).floor
          ∧ let now := s.num 0x4004 (i + 1)
            let b := bandFrom ((tabGet (fun _ => none) d.newBands i).getD now) (t.temp i)
            tabGet (fun _ => none) t.drover.newBands i = if b = now then none else some b)
      ∧ ((∀ i, i < 126 → t.temp i < (s.num 0x4003 0 : Nat)) → { t with objs := s.objs, drover := d } = s)
      ∧ (s.boot.booted = true → d.latch = false → d.shutDue = none →
          ∀ i, i < 126 → ((s.num 0x4003 0 : Nat) : Rat) ≤ t.temp i → (∀ j, j < i → t.temp j < (s.num 0x4003 0 : Nat)) →
            (∃ r, t.drover.shutDue = some r ∧ r.cause = 1 ∧ r.node = i ∧ r.epoch = s.epoch ∧ r.test = (16 * t.temp i).floor
              ∧ r.dmax = s.hottest ∧ r.pin = (d.mean / 1000).floor.toNat) ∧ (s.tick.running = true → t.drover.rein = true)))
    ∧ (∀ l : List Int, s.boot.hubUp = true →
        let diffs := (List.range 8).map fun k => ((l.getD k 0 : Int) : Rat) / 16 - s.temp (diodeNode k)
        let far (x : Rat) : Prop := ∃ v ∈ diffs, x < v ∨ v < -x
        Done (.diodeRead l) s fun t => t.drover.diodes = l ∧ t.drover.temps = d.temps
          ∧ ((∀ k, k < 8 → l.getD k 0 < 1920) → t.drover.shutDue = d.shutDue)
          ∧ (s.boot.booted = true → d.latch = false → d.shutDue = none → ∀ k, k < 8 → 1920 ≤ l.getD k 0 →
              (∀ j, j < k → l.getD j 0 < 1920) → ∃ r, t.drover.shutDue = some r ∧ r.cause = 2 ∧ r.node = k ∧ r.epoch = s.epoch
                ∧ r.test = 0 ∧ r.dmax = t.hottest)
          ∧ (¬ far 5 → t.drover.anchor = d.anchor ∧ t.drover.diff5 = 0)
          ∧ (far 5 → d.diff5 = 2 → t.drover.anchor = d.anchor + ratSum diffs / 8 ∧ ∃ v ∈ t.events, v.code = 0x4005)
          ∧ (far 5 → d.diff5 < 2 → t.drover.anchor = d.anchor ∧ t.drover.diff5 = d.diff5 + 1)
          ∧ (far 15 → d.diff15 = 2 → t.drover.modelFailed = true ∧ ∃ v ∈ t.events, v.code = 0x4006)
          ∧ (¬ far 15 → t.drover.modelFailed = d.modelFailed ∧ t.drover.diff15 = 0))
    ∧ (d.shutDue = none → exec .thermalShutdown s = .next s)
    ∧ (∀ r, d.shutDue = some r → Done .thermalShutdown s fun t =>
        t.drover.latch = true ∧ t.drover.shutDue = none ∧ t.boot.hubUp = false ∧ t.boot.v5On = false ∧ t.num 0x0F00 0 = 4
        ∧ t.pens = [] ∧ t.tiles = [] ∧ t.lasers = [] ∧ t.drover.rein = false
        ∧ t.drover.records = ({ r with seq := d.nextRecord } :: d.records).take 4096
        ∧ ∃ v ∈ t.events, v.code = 0x4007 ∧ v.detail = r.cause)
    ∧ (∀ slot, Accepts s slot opCommand 0x0F20 0 → s.num 0x0F00 0 ≠ 0 →
        ((∃ v ∈ d.diodes, (16 * s.gov 0x0F23 0 : Nat) ≤ v) →
          Answers (.thermalReenable slot) s slot opCommand 0x0F20 0 0x40000010 fun u => u = s)
        ∧ (d.latch = false → (∀ v ∈ d.diodes, v < (16 * s.gov 0x0F23 0 : Nat)) →
          Answers (.thermalReenable slot) s slot opCommand 0x0F20 0 0 fun u => u = s)
        ∧ (d.latch = true → (∀ v ∈ d.diodes, v < (16 * s.gov 0x0F23 0 : Nat)) →
          Answers (.thermalReenable slot) s slot opCommand 0x0F20 0 0 fun u =>
            u.drover.latch = false ∧ u.stage = 1 ∧ u.num 0x100A 0 = 5 ∧ u.boot.booted = false))
    ∧ (∀ high, s.boot.vkUp = true → s.boot.inputOk = true → s.boot.booted = true → Done (.inputOutOfRange high) s fun t =>
        t.boot.inputOk = false ∧ t.boot.hubUp = false ∧ t.drover.latch = d.latch ∧ t.pens = []
        ∧ ∃ r, t.drover.records = (r :: d.records).take 4096 ∧ r.cause = (if high then 4 else 3) ∧ r.node = 0xFFFF)
    ∧ (s.boot.inputOk = false → s.boot.vkUp = true → d.latch = false → s.boot.poweredOff = false →
        Done .inputReturn s fun t => t.boot.inputOk = true ∧ t.stage = 1 ∧ t.num 0x100A 0 = 4 ∧ t.pens = [])

/-- R179–R183, R198: ring lock. Acquisition starts a DARK ring (a RETIRED one only in bring-up); SWEEP and NARROW aim
at the dip nearest the expected shift or the window's centre (of two as near the lower: log entry 40); ACQUIRE
converges; VERIFY locks on the ring's own tone inside the valid window, which alone clears FAILS, else names the
window to search; TRACK follows the dip or loses it. A failure raises FAILS and narrows; the third retires the ring
and records it. R178, R190–R196, R199: lasers, calibration steps, manual moves and shutters. A laser that reads below
a tenth of its reference for 100 µs, or whose daily mean has lost 3.0 dB, fails and its modulator rings go dark; a
loss at the threshold, or a margin below it for 60 s, is a fade warning. Step k calibrates line k / 12 of OE k mod 12
unless a flagged line comes first; a measurement outside a bias ramp is recorded and the step's rings are acquired
again. A manual move starts an exchange on every fiber of the line or answers its abort code. A shutter closes on loss
of signal and opens and closes for its probe. -/
def Obligations.RingsLasersAndCalibration : Prop :=
  (∀ (r : Ring) (s : State),
     let k := ringKey r
     let x := s.ring k
     let only (t : State) (v : RingSt) : Prop := t.ring k = v ∧ ∀ j, j ≠ k → t.ring j = s.ring j
     let fails (i : Instr) (tone : Nat) (centre : Int) (width : Nat) : Prop :=
       (x.fails < 2 → Done i s fun t =>
         only t { x with tone := tone, state := 5, fails := x.fails + 1, centre := centre, width := width })
       ∧ (2 ≤ x.fails → Done i s fun t => (t.ring k).state = 6 ∧ k ∈ t.nv.retiredRings)
     let aims (i : Instr) (dips : List Nat) (c : Int) : Prop := ∀ d ∈ dips,
       (∀ e ∈ dips, ((d : Int) - c).natAbs < ((e : Int) - c).natAbs ∨ (((d : Int) - c).natAbs = ((e : Int) - c).natAbs ∧ d ≤ e)) →
         Done i s fun t => only t { x with state := 2, aim := d } ∧ { t with rings := s.rings } = s
     (x.state = 0 ∨ (x.state = 6 ∧ s.ready = false) → Done (.ringAcquisition r) s fun t =>
       only t { x with state := 1, heat := 0 } ∧ { t with rings := s.rings, oes := s.oes, sent := s.sent } = s)
     ∧ (x.state = 1 → ∀ dips : List Nat, let good := dips.filter fun d => decide (800 ≤ d ∧ d < 800 + x.fsr)
         aims (.ringSweepComplete r dips) good x.expected
         ∧ (good = [] → fails (.ringSweepComplete r dips) x.tone x.expected 300))
     ∧ (x.state = 2 → (∀ h, Done (.ringAcquireComplete r (some h)) s fun t => only t { x with state := 3, heat := h }
           ∧ { t with rings := s.rings } = s)
         ∧ fails (.ringAcquireComplete r none) x.tone x.expected 300)
     ∧ (x.state = 3 →
         (800 ≤ x.heat → x.heat < 800 + x.fsr → ∃ u : State,
           exec (.ringVerifyComplete r (some r.line)) s = .next (u.calAdvance (r.fiber / 8))
           ∧ only u { x with tone := r.line, state := 4, fails := 0, expected := x.heat } ∧ k ∉ u.nv.retiredRings)
         ∧ (x.heat < 800 → fails (.ringVerifyComplete r (some r.line)) r.line ((x.heat : Int) + x.fsr) 100)
         ∧ (800 + x.fsr ≤ x.heat → fails (.ringVerifyComplete r (some r.line)) r.line ((x.heat : Int) - x.fsr) 100)
         ∧ fails (.ringVerifyComplete r none) 31 x.expected 300
         ∧ ∀ j : Fin 18, j ≠ r.line → let c := (x.heat : Int) + (lineGhz j - lineGhz r.line)
             fails (.ringVerifyComplete r (some j)) j
               (if c < 800 then c + x.fsr else if c < 800 + x.fsr then c else c - x.fsr) 100)
     ∧ (x.state = 5 → ∀ dips : List Nat,
         let near := dips.filter fun (d : Nat) => decide (((d : Int) - x.centre).natAbs ≤ x.width)
         aims (.ringNarrowComplete r dips) near x.centre
         ∧ (near = [] → fails (.ringNarrowComplete r dips) x.tone x.expected 300))
     ∧ (x.state = 4 → (∀ h, Done (.ringTrack r (some h)) s fun t =>
           only t { x with heat := h, expected := if 800 ≤ h ∧ h < 800 + x.fsr then h else x.expected }
           ∧ (h < 200 ∨ 5400 < h → 200 ≤ x.heat → x.heat ≤ 5400 → r.line.val ∈ (t.oe (r.fiber / 8)).flagged)
           ∧ { t with rings := s.rings, oes := s.oes, events := s.events, nextSeq := s.nextSeq } = s)
         ∧ Done (.ringTrack r none) s fun t => only t { x with state := 5, centre := x.heat, width := 100 }
             ∧ (r.rx = true → (t.rxLane r.fiber r.line).state = 0)))
  ∧ (∀ (s : State) (n : Fin 12) (line : Fin 18),
       let l := s.laser n line
       let failed (i : Instr) (v : LaserSt) : Prop := Done i s fun t => t.laser n line = { v with state := 3 }
         ∧ (18 * n.val + line.val) ∈ t.nv.failedLasers
         ∧ ∀ f ∈ oeFibers n, (s.ring (ringAt false f line)).state ≠ 6 → (t.ring (ringAt false f line)).state = 0
       let fades (i : Instr) (v : LaserSt) : Prop := Done i s fun t => (t.laser n line).warned = true
         ∧ (t.laser n line).state = (if s.lanesOf n line = [] then 2 else v.state) ∧ (t.laser n line).d = v.d
       (∀ reading low, let i := Instr.mpdSample n line reading low
         let v := { l with mpd := reading, dCount := l.dCount + 1
                           dSum := l.dSum + if reading = 0 then Config.dbOfZero else decibels reading (s.mpdRef n line) }
         (low = true → 10 * reading < s.mpdRef n line → l.state < 2 → failed i v)
         ∧ (low = false ∨ s.mpdRef n line ≤ 10 * reading ∨ 2 ≤ l.state → Done i s fun t => t.laser n line = v
             ∧ { t with lasers := s.lasers } = s))
       ∧ (let i := Instr.laserDailyMean n line
           let d := if l.dCount = 0 then l.d else nearestQuotient l.dSum l.dCount
           let days := (d :: l.days).take 30
           let v := { l with d := d, trend := leastSquares days, dSum := 0, dCount := 0, days := days }
           (d ≤ -300 → l.state < 2 → failed i v)
           ∧ (-300 < d → (10 * s.gov 0x5004 0 : Nat) ≤ -d → l.state < 2 → l.warned = false → fades i v)
           ∧ (-300 < d → -d < (10 * s.gov 0x5004 0 : Nat) → Done i s fun t => t.laser n line = v ∧ { t with lasers := s.lasers } = s))
       ∧ ((∃ e ∈ s.lanesOf n line, (s.txLane e.1 line).margin ≠ 255 ∧ (s.txLane e.1 line).margin < s.gov 0x5005 0) →
           l.state < 2 → l.warned = false → fades (.marginWarningExpiry n line) l)
       ∧ (∀ k : Fin 216, k.val % 12 = n → s.gov 0x5008 0 ≠ 0 → (s.oe n).admitted = true → (s.oe n).cal = none →
           (s.oe n).displaced = [] →
           (((s.oe n).flagged = [] → (s.laser n (k.val / 12)).state < 2 → Done (.calibrationStepTime k) s fun t =>
               (t.oe n).cal.map (fun c => (c.line, c.began)) = some (k.val / 12, s.epoch))
           ∧ (∀ a r, (s.oe n).flagged = a :: r → (s.laser n a).state < 2 → Done (.calibrationStepTime k) s fun t =>
               (t.oe n).cal.map (fun c => (c.line, c.began)) = some (a, s.epoch)
               ∧ (t.oe n).flagged = r ∧ (t.oe n).displaced = [k.val / 12])))
       ∧ (∀ c, s.inWindow = true → (s.oe n).cal = some c → c.noLaser = false → c.phase = 0 → c.waitingWindow = true →
           Done .calibrationWindowStart s fun t =>
             (t.oe n).cal.map (fun c => (c.line, c.waitingWindow)) = some (c.line, false))
       ∧ (∀ c, (s.oe n).cal = some c → Done (.calibrationStepTimeout n) s fun t => (t.oe n).cal = none ∧ t.lasers = s.lasers)
       ∧ (∀ c reading, (s.oe n).cal = some c → c.phase = 1 →
           ((s.oe n).ramp = true → Done (.calibrationMeasurementComplete n reading) s fun t =>
             (t.oe n).cal = some { c with discarded := true } ∧ { t with oes := s.oes } = s)
           ∧ ((s.oe n).ramp = false → Done (.calibrationMeasurementComplete n reading) s fun t =>
             (t.laser n c.line).check = reading ∧ ∀ rx, ∀ f ∈ oeFibers n, (rx, f) ∉ c.skipped →
               let x := s.ring (ringAt rx f c.line)
               x.state ≠ 6 → t.ring (ringAt rx f c.line) = { x with state := 1, heat := 0 }))
       ∧ (Done (.laserBiasRampEnd n) s fun t => (t.oe n).ramp = false ∧ { t with oes := s.oes } = s
           ∧ ∀ c, (t.oe n).cal = some c → c.discarded = false)
       ∧ (∀ slot, Accepts s slot opCommand 0x5007 0 →
           let v := s.gov 0x5006 0
           let k := v / 256
           let lanes := s.lanesOf k (v % 256)
           let moving : Prop := (s.oe k).cal ≠ none ∨ ∃ f ∈ oeFibers k, (s.fiber f).exchTx ≠ none ∨ (s.fiber f).exchRx ≠ none
           let refused (ab : Nat) : Prop := Answers (.manualMove slot) s slot opCommand 0x5007 0 ab fun u => u = s
           (11 < k ∨ 17 < v % 256 → refused 0x50000011)
           ∧ (k ≤ 11 → v % 256 ≤ 17 → ((∃ e ∈ lanes, s.standby e.1 permanentOrder = none) → refused 0x50000010)
             ∧ ((∀ e ∈ lanes, s.standby e.1 permanentOrder ≠ none) → (moving → refused 0x50000012)
               ∧ (¬ moving → Answers (.manualMove slot) s slot opCommand 0x5007 0 0 fun u => ∀ e ∈ lanes,
                   (s.fiber e.1).txState ≠ 2 → ((u.fiber e.1).exchTx.map fun x => (x.lane, x.fromLine, some x.toLine, x.reason)) =
                     some (e.2, v % 256, s.standby e.1 permanentOrder, 7)))))
       ∧ ∀ f : Fin 96, let x := s.fiber f
         let now (i : Instr) (v : FiberSt) : Prop := Done i s fun t => t.fiber f = v ∧ (∀ g, g ≠ f.val → t.fiber g = s.fiber g)
           ∧ t.links = s.links ∧ t.rings = s.rings ∧ t.txLanes = s.txLanes
         (x.los = true → x.shutterClosed = false → x.probing = false → now (.shutterClose f) { x with shutterClosed := true })
         ∧ (x.shutterClosed = true → now (.shutterProbeOpen f) { x with shutterClosed := false, probing := true })
         ∧ (x.probing = true → now (.shutterProbeClose f) { x with shutterClosed := true, probing := false }))

/-- R186–R189, R207: steering. A notice of another type, a reserved reason or no lane is discarded with event 0x5008.
DUP opens the exchange at the receiver, a match of the comparison takes the lane, SWITCHED moves it at the
transmitter, to a line that is DOWN where its ring or laser is out; REFUSE, the comparison's time-out and the
exchange's time-out leave both maps as they were; ASK starts the exchange with a free standby, or waits for the one in
progress and is answered then, and without a line a calibration's lane is dropped inside a window, else the ASK is
refused; DROP names the lane that may be dropped; RESTORE opens the return of a dropped lane and, as its answer, calls
for the MODE group. -/
def Obligations.SteeringExchangesMoveLanes : Prop :=
  ∀ (f : Fin 96) (n : Notice) (s : State),
    let x := s.fiber f
    let good (ty : Nat) : Prop := n.type = ty ∧ 1 ≤ n.reason ∧ n.reason ≤ 7 ∧ n.lane < 16
    let calm : Prop := (s.oe (f / 8)).cal = none ∧ x.moves = []
    let line (m : List Nat) : Nat := m.getD n.lane 255
    let others := x.asks.filter fun a => a.2.1 != n.lane
    (∀ e ∈ [(0x40, Instr.dupReceived f n), (0x41, .switchedReceived f n), (0x42, .refuseReceived f n), (0x43, .askReceived f n),
        (0x44, .dropReceived f n), (0x45, .restoreReceived f n)], ¬ good e.1 → exec e.2 s = .next (s.log 0x5008 srcHub f))
    ∧ (good 0x40 → n.toLine ≤ 17 → line x.rxMap ≠ 255 → n.reason ≠ 5 → n.reason ≠ 6 → Done (.dupReceived f n) s fun t =>
        t.fiber f = { x with exchRx := some ⟨n.token, n.lane, n.fromLine, n.toLine, n.reason, s.epoch, true, false⟩, asks := others }
        ∧ t.links = s.links)
    ∧ (good 0x40 → n.toLine ≤ 17 → line x.rxMap ≠ 255 → n.reason = 5 ∨ n.reason = 6 → (s.rxLane f n.toLine).state = 3 →
        s.locked true f n.toLine = true → x.los = false → s.test.running = [] → Done (.dupReceived f n) s fun t =>
          (t.fiber f).rxMap = x.rxMap.set n.lane n.toLine ∧ (t.fiber f).exchRx = none)
    ∧ (∀ e seq, x.exchRx = some e → e.compare = true → (s.rxLane f e.toLine).state = 3 →
        Done (.steeringCompareComplete f e.token seq) s fun t =>
          (t.fiber f).rxMap = x.rxMap.set e.lane e.toLine ∧ (t.fiber f).exchRx = none
          ∧ (calm → s.test.on true f e.toLine = false →
              (t.rxLane f e.toLine).state = 4 ∧ (t.rxLane f e.toLine).lane = e.lane))
    ∧ (∀ e, x.exchTx = some e → e.token = n.token → e.lane = n.lane →
        (good 0x41 → Done (.switchedReceived f n) s fun t => (t.fiber f).txMap = x.txMap.set e.lane e.toLine
          ∧ (calm → (t.fiber f).exchTx = none ∧ (e.toLine ≠ e.fromLine →
              (s.txLit f e.toLine = true → (t.txLane f e.toLine).state = 4 ∧ (t.txLane f e.toLine).lane = e.lane)
              ∧ (s.txLit f e.toLine = false → (t.txLane f e.toLine).state = 0))))
        ∧ (good 0x42 → x.asks = [] → Done (.refuseReceived f n) s fun t => (t.fiber f).txMap = x.txMap
          ∧ (calm → t.fiber f = { x with exchTx := none })))
    ∧ (∀ reason, good 0x42 → x.asks = [(n.token, n.lane, reason)] → (s.oe (f / 8)).cal = none →
        Done (.refuseReceived f n) s fun t => t.fiber f = { x with asks := [] } ∧ t.links = s.links)
    ∧ (∀ e, x.exchTx = some e → e.token ≠ n.token ∨ e.lane ≠ n.lane →
        exec (.switchedReceived f n) s = .next (s.log 0x5008 srcHub f))
    ∧ (∀ e, x.exchRx = some e → Done (.steeringCompareTimeout f e.token) s fun t => t.fiber f = { x with exchRx := none }
        ∧ ((s.link f).state = 3 → ∃ q, (t.link f).queue 2 = (s.link f).queue 2 ++ [q]))
    ∧ (x.exchRx ≠ none → Done (.exchangeTimeout f true) s fun t => t.fiber f = { x with exchRx := none }
        ∧ t.events = (s.log 0x5008 srcHub f).events)
    ∧ (x.exchTx ≠ none → calm → Done (.exchangeTimeout f false) s fun t => t.fiber f = { x with exchTx := none }
        ∧ t.events = (s.log 0x5008 srcHub f).events)
    ∧ (good 0x43 → n.fromLine ≤ 17 → line x.txMap ≠ 255 → n.reason ∉ [2, 5, 6] →
        let free := s.standby f (if n.reason = 1 then calibrationOrder else permanentOrder)
        (x.exchTx = none → ∀ dst, free = some dst → Done (.askReceived f n) s fun t => (t.fiber f).txMap = x.txMap
            ∧ ((t.fiber f).exchTx.map fun e => (e.lane, e.fromLine, e.toLine, e.reason)) =
                some (n.lane, line x.txMap, dst, n.reason))
        ∧ (x.exchTx ≠ none → ∀ dst, free = some dst → Done (.askReceived f n) s fun t =>
            t.fiber f = { x with moves := x.moves ++ [(n.lane, n.reason, line x.txMap)], askHeld := x.askHeld ++ [n] })
        ∧ (free = none → s.mayDrop f n = true → Done (.askReceived f n) s fun t =>
            (x.exchTx ≠ none → t.fiber f =
              { x with moves := x.moves ++ [(n.lane, n.reason, line x.txMap)], askHeld := x.askHeld ++ [n] })
            ∧ (x.exchTx = none → (t.fiber f).modeDue = some (true, n.lane, line x.txMap) ∧ (t.fiber f).txMap = x.txMap))
        ∧ (free = none → s.mayDrop f n = false → (s.link f).state = 3 →
            Done (.askReceived f n) s fun t => t.fiber f = x ∧ ∃ q, (t.link f).queue 2 = (s.link f).queue 2 ++ [q]))
    ∧ (good 0x44 → line x.rxMap ≠ 255 → Done (.dropReceived f n) s fun t => t.fiber f = { x with dropLane := some n.lane, asks := others }
        ∧ (∀ g, g ≠ f.val → t.fiber g = s.fiber g) ∧ { t with fibers := s.fibers } = s)
    ∧ (good 0x45 → (∀ lane dst, x.restoring = some (n.token, lane, dst) → Done (.restoreReceived f n) s fun t =>
          t.fiber f = { x with restoring := none, modeDue := some (false, lane, dst) } ∧ { t with fibers := s.fibers } = s)
        ∧ ((∀ r, x.restoring = some r → r.1 ≠ n.token) → line x.rxMap = 255 → n.toLine ≤ 17 →
          Done (.restoreReceived f n) s fun t => t.fiber f =
            { x with exchRx := some ⟨n.token, n.lane, 255, n.toLine, n.reason, s.epoch, false, false⟩, asks := others }))
    ∧ ∀ tok lane dst, x.restoring = some (tok, lane, dst) → (s.oe (f / 8)).cal = none →
        Done (.restoreAnswerTimeout f) s fun t =>
        t.fiber f = { x with restoring := none } ∧ (t.txLane f dst).state = (if s.txLit f dst then 5 else 0)

/-- R202–R207, R209, R212, R213, R216: control groups and training. The blocks of a group run through their lanes
first (a header joins the lane's window, 16 invalid of the last 64 lose its lock). A group with mixed headers or
types, a reserved type or MAP or a block on another lane than its own is discarded with event 0x5014, and the fourth
within 1,024 rows makes the lanes hunt. An IDLE group gives the far-end margins; a TRAIN group gives the map once its
lines are aligned; 64 rows with RXRDY both ways and one further row end the training; a MODE group changes the map as
the accepted notices say, else it is discarded. Training starts with the link's bring-up once its OE is admitted, its
retraining or its far end's; its third time-out retires the link. -/
def Obligations.ControlGroupsAndTraining : Prop :=
  ∀ (f : Fin 96) (s : State),
    let x := s.fiber f
    let serving (u : State) : Prop := x.training = false ∧ mapped x.rxMap ≠ [] ∧ ∀ l ∈ mapped x.rxMap, (u.rxLane f l).state = 4
    (∀ b : CtrlBlock, malformed [b] = false → b.ctype = 1 → x.training = false →
      let n := lineOf x.rxMap b.carrier
      let l := s.rxLane f n
      let wrong : Bool := decide (b.header ≠ 1 ∧ b.header ≠ 2)
      let window := (wrong :: l.headers).take 64
      let errors := if wrong then (l.headerErrors + 1) % 2 ^ 32 else l.headerErrors
      n ≤ 17 → l.state = 4 → Done (.idleGroupReceived f [b]) s fun t =>
        ((window.filter id).length < 16 → t.events = s.events ∧ t.rxLane f n =
          { l with headers := window, headerErrors := errors, scrambler := (l.scrambled (ctrlBlockPayload b)).2 })
        ∧ (16 ≤ (window.filter id).length → (t.rxLane f n).lockLosses = (l.lockLosses + 1) % 2 ^ 16
          ∧ (t.rxLane f n).headerErrors = errors ∧ (t.rxLane f n).state = (if x.los then 0 else 1)
          ∧ t.events = if x.los then s.events else (s.log 0x5010 srcHub (256 * f.val + n)).events))
    ∧ (∀ (g : List CtrlBlock), ∀ i ∈ [Instr.idleGroupReceived f g, .trainGroupReceived f g, .modeGroupReceived f g],
      (∃ b ∈ g, b.header = 1 ∨ b.lane ≠ b.carrier ∨ b.ctype = 0 ∨ 3 < b.ctype ∨ (∃ a ∈ g, a.ctype ≠ b.ctype)
        ∨ (b.ctype ≠ 1 ∧ ∃ v ∈ b.map, 17 < v ∧ v ≠ 0x1F)) →
        let u := s.takeCtrlBlocks f g
        Done i s fun t => t.events = (u.log 0x5014 srcHub f).events ∧ (t.fiber f).rxMap = x.rxMap ∧
          let recent := x.discardRows.filter fun r => decide (s.clock / 4 < r + 1024)
          (recent.length < 3 → t.fiber f = { u.fiber f with discardRows := s.clock / 4 :: recent } ∧ t.rxLanes = u.rxLanes)
          ∧ (3 ≤ recent.length → (t.fiber f).discardRows = [] ∧ ∀ l, l < 18 → 2 ≤ (s.rxLane f l).state →
              (s.rxLane f l).state ≤ 4 → (t.rxLane f l).state = if x.los then 0 else 1))
    ∧ (∀ g : List CtrlBlock, malformed g = false → (∀ b ∈ g, b.ctype = 1) → serving (s.takeCtrlBlocks f g) →
        (g.map (·.carrier)).Nodup → (mapped x.txMap).Nodup → Done (.idleGroupReceived f g) s fun t => ∀ b ∈ g,
          lineOf x.txMap b.carrier ≠ 255 → (∀ e, x.exchTx = some e → e.lane ≠ b.carrier) →
            (t.txLane f (lineOf x.txMap b.carrier)).margin = b.info % 256)
    ∧ (∀ (b : CtrlBlock) (g : List CtrlBlock), malformed (b :: g) = false → (∀ c ∈ b :: g, c.ctype = 2) →
        let u := s.takeCtrlBlocks f (b :: g)
        let m := readMap b.map
        let aligned : Prop := mapped m ≠ [] ∧ ∀ l ∈ mapped m, 3 ≤ (u.rxLane f l).state ∧ (u.rxLane f l).state ≤ 4
        let taken : Prop := aligned ∧ (x.mapTaken = false ∨ x.rxMap ≠ m)
        (x.training = true → Done (.trainGroupReceived f (b :: g)) s fun t =>
          (t.fiber f).rxrdyRows = (if b.rxrdy then x.rxrdyRows + 1 else 0) ∧ (t.fiber f).training = true ∧ t.links = s.links
          ∧ (taken → (t.fiber f).rxMap = m ∧ (t.fiber f).mapTaken = true ∧ t.num 0x5013 (f + 1) = b.info % 256
              ∧ (t.fiber f).rxState = (if (mapped m).length < 16 then 1 else 0)
              ∧ ∀ l, l < 18 → l ∉ m → s.test.on true f l = false → (t.rxLane f l).state = 0)
          ∧ (¬ taken → (t.fiber f).rxMap = x.rxMap ∧ (t.fiber f).mapTaken = x.mapTaken))
        ∧ (x.training = false → x.streaming = true → (s.link f).state = 2 ∨ (s.link f).state = 3 →
          (∃ c ∈ b :: g, lineOf x.rxMap c.carrier ≠ 255) →
          Done (.trainGroupReceived f (b :: g)) s fun t => (t.fiber f).training = true ∧ (t.link f).state = 4)
        ∧ (x.training = false → (∀ c ∈ b :: g, lineOf x.rxMap c.carrier = 255) →
          Done (.trainGroupReceived f (b :: g)) s fun t => (t.fiber f).training = false ∧ t.links = s.links))
    ∧ (x.training = true →
        let ready : Prop := x.mapTaken = true ∧ ∀ l ∈ mapped x.rxMap, (s.rxLane f l).state = 3 ∨ (s.rxLane f l).state = 4
        Done (.rowSend f) s fun t => ((t.fiber f).rxrdySent = true ↔ ready) ∧ (t.fiber f).row = x.row + 1
          ∧ (x.rxrdySent = true → 64 ≤ x.rxrdyRows → (t.fiber f).training = false ∧ (t.link f).state = 2
              ∧ (t.fiber f).txState = if (mapped x.txMap).length < 16 then 1 else 0)
          ∧ (x.rxrdySent = false ∨ x.rxrdyRows < 64 → (t.fiber f).training = true ∧ (t.link f).state = (s.link f).state))
    ∧ (∀ (b : CtrlBlock) (g : List CtrlBlock), malformed (b :: g) = false → (∀ c ∈ b :: g, c.ctype = 3) →
        serving (s.takeCtrlBlocks f (b :: g)) →
        let i := Instr.modeGroupReceived f (b :: g)
        let m := readMap b.map
        (b.thin = true → ∀ lane, x.dropLane = some lane → b.dlane = lane → m = x.rxMap.set lane 255 →
          ∃ u : State, exec i s = .next (u.calAdvance (f / 8)) ∧
            (u.fiber f).rxMap = m ∧ (u.fiber f).rxState = 1 ∧ (u.fiber f).dropLane = none)
        ∧ (b.thin = false → ∀ e, x.exchRx = some e → e.fromLine = 255 → m = x.rxMap.set e.lane e.toLine →
          ∃ u : State, exec i s = .next (u.calAdvance (f / 8)) ∧
            (u.fiber f).rxMap = m ∧ (u.fiber f).rxState = 0 ∧ (u.fiber f).exchRx = none)
        ∧ ((b.thin = true → x.dropLane = none) → (b.thin = false → x.exchRx = none) → Done i s fun t =>
          (t.fiber f).rxMap = x.rxMap ∧ ∃ v ∈ t.events, v.code = 0x5014))
    ∧ ((s.link f).state = 0 → x.inService = false → Done (.laneTrainingStart f) s fun t => t.links = s.links
        ∧ t.fiber f = { x with attempts := 0 } ∧ t.rxLanes = s.rxLanes ∧ t.txLanes = s.txLanes)
    ∧ (((s.link f).state = 0 ∧ x.inService = true) ∨ (s.link f).state = 1 ∨ (s.link f).state = 4 → Done (.laneTrainingStart f) s fun t =>
        (t.fiber f).training = true ∧ (t.fiber f).attempts = 0 ∧ (t.fiber f).row = 0 ∧ (t.fiber f).rxrdyRows = 0
        ∧ (t.link f).state = (if (s.link f).state = 0 then 1 else (s.link f).state)
        ∧ (∀ l, l < 18 → s.test.on true f l = false →
            (t.rxLane f l).state = if s.locked true f l = true ∧ x.los = false then 1 else 0)
        ∧ ∀ l i, l < 18 → laneOn x.txMap l = some i → (t.txLane f l).state =
            if s.locked false f l = true ∧ (s.laser (f / 8) l).state < 2 then 1 else 0)
    ∧ ((s.link f).state = 2 ∨ (s.link f).state = 3 → x.training = false → Done (.laneTrainingStart f) s fun t =>
        (t.fiber f).training = true ∧ (t.link f).state = 4)
    ∧ (x.training = true →
        (x.attempts < 2 → Done (.trainingTimeout f) s fun t => (t.fiber f).training = true
          ∧ (t.fiber f).attempts = x.attempts + 1 ∧ t.links = s.links)
        ∧ (2 ≤ x.attempts → Done (.trainingTimeout f) s fun t => (t.fiber f).training = false ∧ (t.link f).state = 5))

/-- R209–R220: receive lanes, loss of signal, PRBS tests and injection. Block lock takes a hunting lane to adaptation
from a new block phase, its loss back, with the counts; a deskew within 32 UI aligns the lane and one that the map
names serves, a larger one logs event 0x5017. Loss of signal takes every receive lane DOWN and is counted; light opens
the shutter and the locked lanes that are needed hunt, those under test too. A test starts on a free line only, its
generator from the seed; its checker counts from pattern lock on (the errored bits are free values, log entry 42); an
injection word arms one injection, which inverts the header's bit 0 or a payload bit (log entry 115). -/
def Obligations.LanesAndTests : Prop :=
  ∀ (f : Fin 96) (line : Fin 18) (s : State),
    let x := s.fiber f
    let l := s.rxLane f line
    let only (t : State) (v : LaneSt) : Prop :=
      t.rxLane f line = v ∧ ∀ g n, 18 * g + n ≠ 18 * f.val + line.val → t.rxLane g n = s.rxLane g n
    let rest (rx : Bool) (g n : Nat) : Nat :=
      if rx then (if (s.fiber g).los = false ∧ s.locked true g n = true then 5 else 0)
      else if s.locked false g n = true ∧ (s.laser (g / 8) n).state < 2 then 5 else 0
    (l.state = 1 → x.los = false → s.test.on true f line = true → Done (.blockLockAcquired f line) s fun t =>
        (t.rxLane f line).state = 6 ∧ { t with rxLanes := s.rxLanes } = s)
    ∧ (l.state = 1 → x.los = false → s.test.on true f line = false → Done (.blockLockAcquired f line) s fun t => (∃ p, (l.phase = none → p < 130) ∧ only t
          { l with state := 2, lane := 31, headers := [], phase := some p, adapted := true, tapsAt := s.clock
                   taps := if l.adapted then l.taps else s.nv.taps })
        ∧ { t with rxLanes := s.rxLanes } = s)
    ∧ (∀ n, let counted : LaneSt := { l with headerErrors := (l.headerErrors + n) % 2 ^ 32, lockLosses := (l.lockLosses + 1) % 2 ^ 16 }
        let logged := if x.los then s.events else (s.log 0x5010 srcHub (256 * f.val + line)).events
        (2 ≤ l.state → l.state ≤ 4 → Done (.blockLockLost f line n) s fun t => t.events = logged ∧
          only t { counted with state := if x.los then 0 else 1, lane := 31, phase := none
                                taps := l.tapsNow (18 * f.val + line.val) s.clock })
        ∧ (l.state = 6 → Done (.blockLockLost f line n) s fun t => t.events = logged ∧ only t counted))
    ∧ (∀ skew : Int, l.state = 2 →
        (skew < -32 ∨ 32 < skew → exec (.adaptComplete f line skew) s = .next (s.log 0x5017 srcHub (256 * f.val + line)))
        ∧ (-32 ≤ skew → skew ≤ 32 → x.los = false →
          (x.training = true ∨ (laneOn x.rxMap line = none ∧ x.exchRx = none) → Done (.adaptComplete f line skew) s fun t =>
            only t { l with state := 3, lane := 31, skew := skew } ∧ { t with rxLanes := s.rxLanes } = s)
          ∧ (∀ i, x.training = false → laneOn x.rxMap line = some i → Done (.adaptComplete f line skew) s fun t =>
            only t { l with state := 4, lane := i, skew := skew } ∧ (t.fiber f).rxMap = x.rxMap)))
    ∧ (∀ m, l.state = 3 ∨ l.state = 4 → Done (.marginMeasurement f line m) s fun t =>
        only t { l with margin := min m 254 } ∧ { t with rxLanes := s.rxLanes } = s)
    ∧ (Done (.fmarginTimeout f line) s fun t => t.txLane f line = { s.txLane f line with margin := 255 }
        ∧ { t with txLanes := s.txLanes } = s)
    ∧ (x.los = false → Done (.lossOfSignalSet f) s fun t => (t.fiber f).los = true
        ∧ t.num 0x5014 (f + 1) = (s.num 0x5014 (f + 1) + 1) % 2 ^ 16 ∧ ((s.oe (f / 8)).cal = none → t.events = (s.log 0x5011 srcHub f).events)
        ∧ ∀ n, n < 18 → (t.rxLane f n).state = 0)
    ∧ (x.los = true → Done (.lossOfSignalClear f) s fun t => (t.fiber f).los = false ∧ (t.fiber f).shutterClosed = false
        ∧ (t.fiber f).probing = false ∧ ((s.oe (f / 8)).cal = none → ∀ n, n < 18 → (s.rxLane f n).state = 0 →
          (s.locked true f n = true → x.training = true ∨ n ∈ x.rxMap ∨ s.test.on true f n = true → (t.rxLane f n).state = 1)
          ∧ (s.locked true f n = false → (t.rxLane f n).state = 0)))
    ∧ (∀ i, laneOn x.rxMap line = some i → l.state ≠ 4 → x.los = false → x.training = false → s.locked true f line = true →
        (s.link f).state = 3 → Done (.laneReturnTimeout f line) s fun t =>
          (∃ q, (t.link f).queue 2 = (s.link f).queue 2 ++ [q]) ∧ (t.fiber f).rxMap = x.rxMap)
    ∧ (∀ slot, let (rx, g, n) := s.selected
        (Accepts s slot opCommand 0xF052 0 →
          (s.lineBusy rx g n = true → Answers (.prbsStart slot) s slot opCommand 0xF052 0 0xF0000030 fun u => u = s)
          ∧ (s.lineBusy rx g n = false → Answers (.prbsStart slot) s slot opCommand 0xF052 0 0 fun u =>
            u.test.on rx g n = true ∧ (u.num 0xF054 0, u.num 0xF055 0) = (0, 0)
            ∧ (rx = true → u.test.checker = some (g, n) ∧ u.num 0xF056 0 = 0 ∧ u.test.lockAt = none
                ∧ (u.rxLane g n).state = if (s.fiber g).los = false ∧ s.locked true g n = true then 6 else 0)
            ∧ (rx = false → u.test.checker = s.test.checker ∧ (u.txLane g n).prbs = ({} : LaneSt).prbs
                ∧ (u.txLane g n).state = if s.locked false g n = true then 6 else 0)))
        ∧ (Accepts s slot opCommand 0xF053 0 → Answers (.prbsStop slot) s slot opCommand 0xF053 0 0 fun u =>
            u.test.on rx g n = false
            ∧ (s.test.on rx g n = true → (if rx then u.rxLane g n else u.txLane g n).state = rest rx g n)))
    ∧ (∀ g n, s.test.checker = some (g, n) → s.test.on true g n = true → s.test.lockAt = none → Done .prbsPatternLock s fun t =>
        t.test.lockAt = some s.clock ∧ t.num 0xF056 0 = 1)
    ∧ (∀ at_, s.test.lockAt = some at_ → Done .prbsPatternLockLost s fun t => t.test.lockAt = none ∧ t.num 0xF056 0 = 0
        ∧ ∀ c g n cfg, s.test.checker = some c → s.test.running = [(true, g, n, cfg)] → c = (g, n) →
          let bits := prbsBits cfg (s.clock - at_) - 1024
          t.num 0xF055 0 = (s.num 0xF055 0 + bits) % 2 ^ 64
          ∧ ∃ e, e ≤ bits ∧ t.num 0xF054 0 = (s.num 0xF054 0 + e) % 2 ^ 32)
    ∧ (∀ slot (v : BitVec 32), Accepts s slot opWrite 0xF057 0 →
        let mode := field v.toNat 30 2
        let bad : Prop := mode = 3 ∨ field v.toNat 28 2 = 3 ∨ (mode = 2 ∧ field v.toNat 0 28 = 0)
        (bad → Answers (.injectionWord slot v) s slot opWrite 0xF057 0 0xF0000031 fun u => u = s)
        ∧ (¬ bad → Wrote (.injectionWord slot v) s slot 0xF057 0 0 fun u =>
            u.test.injection = (if s.selected.1 = true ∨ mode = 0 then none else some v)
            ∧ (u.test.injFiber, u.test.injLine) = (s.selected.2.1, s.selected.2.2)))
    ∧ ∀ v, s.test.injection = some v →
        let st := (s.txLane s.test.injFiber s.test.injLine).state
        let target := field v.toNat 28 2
        (st = 6 ∧ target ≠ 1) ∨ (st = 4 ∧ target ≠ 0) → Done .injectionFire s fun t =>
          t.sent = s.sent ++ [.injected s.test.injFiber s.test.injLine target]
          ∧ (∃ k, (t.txLane s.test.injFiber s.test.injLine).flip = some k
              ∧ if target = 2 then k = 0 else 2 ≤ k ∧ k < 130)
          ∧ t.test.injection = if field v.toNat 30 2 = 1 then none else some v

/-- R206, R223, R225–R232, R237–R239, R241: arrivals on a link whose rows are delivered; a flit's blocks run through
their lanes first, and a group that mixes headers is discarded with event 0x5014. A bad verdict is counted and enters
NAK-pending; a stomped flit is counted and not accepted. A good sequenced flit is accepted when its SEQ is the one
expected; ahead of it a NAK is sent, behind it an acknowledgement is due, otherwise it is invalid (event 0x5037), as
is one with a reserved field. ACKONLY and every header release entries and return credits; NAK releases and replays;
CMARK counts what did not arrive; INIT empties the buffer and numbers from 0 (log entry 45); RESUME replays from its
NSEQ. -/
def Obligations.ArrivingFlitsFollowTheLinkProtocol : Prop :=
  ∀ (f : Fin 96) (b : List Byte) (hs : List (BitVec 2)) (s : State),
    let x := s.fiber f
    let l := s.link f
    let h := flitHead b
    let p := leNat (flitPayload b)
    let ltype := field p 0 8
    let n := field p 16 24
    let lc : List (Nat × Instr) := [(1, .ackonlyReceived f b hs), (2, .nakReceived f b hs), (3, .cmarkReceived f b hs),
      (4, .initReceived f b hs), (5, .resumeReceived f b hs)]
    let due (t : State) (k : Nat) : Prop := ∃ c, (k, c) ∈ (t.link f).lcDue
    let word (c : Nat) : Nat := field p (64 + 32 * c) 32
    let control (k : Nat) : Prop := verdict b = .good ∧ h.lc = true ∧ h.reserved = false ∧ lcReserved h p = false ∧ ltype = k
    let u := s.takeFlitBlocks f b hs
    (mixed hs = true → Done (.flitReceived f b hs) s fun t => t.events = (u.log 0x5014 srcHub f).events ∧ t.links = s.links)
    ∧ (mixed hs = false → x.training = false → u.delivers f = true → l.state = 2 → l.sentStart = true → control 4 → h.av = false →
      Done (.initReceived f b hs) s fun t => (t.link f).state = 3 ∧ (t.link f).rxState = true ∧ (t.link f).expect = 0
        ∧ t.events = if l.outstanding = 0 then (u.log 0x5030 srcHub f).events
            else ((u.log 0x5035 srcHub f).log 0x5030 srcHub f).events)
    ∧ (mixed hs = false → x.training = false → u.delivers f = true → l.state = 3 →
      (verdict b = .bad → ∀ i ∈ .flitReceived f b hs :: lc.map (·.2), Done i s fun t =>
        t.num 0x5044 (f + 1) = (s.num 0x5044 (f + 1) + 1) % 2 ^ 32 ∧ (t.link f).expect = l.expect
        ∧ (t.link f).nakPending = true ∧ (l.nakPending = false → due t 2))
      ∧ (verdict b = .stomp → h.lc = false → Done (.flitReceived f b hs) s fun t =>
          t.num 0x5045 (f + 1) = (s.num 0x5045 (f + 1) + 1) % 2 ^ 32 ∧ (t.link f).expect = l.expect)
      ∧ (verdict b = .good → h.lc = false →
          (h.reserved = true → Done (.flitReceived f b hs) s fun t => t.events = (u.log 0x5037 srcHub f).events
            ∧ (t.link f).expect = l.expect)
          ∧ (h.reserved = false → h.tc = 0 → Done (.flitReceived f b hs) s fun t => (t.link f).expect = l.expect)
          ∧ (h.reserved = false → h.tc ≠ 0 →
            let d := seqDist h.seq l.expect
            (d = 0 → Done (.flitReceived f b hs) s fun t => (t.link f).expect = (l.expect + 1) % 2 ^ 24
              ∧ (t.link f).nakPending = false)
            ∧ (0 < d → d < 0x100000 → Done (.flitReceived f b hs) s fun t => (t.link f).expect = l.expect
              ∧ (t.link f).nakPending = true)
            ∧ (0xF00000 ≤ d → Done (.flitReceived f b hs) s fun t => (t.link f).expect = l.expect ∧ (t.link f).ackDue = true)
            ∧ (0x100000 ≤ d → d < 0xF00000 → l.invalids = [] → Done (.flitReceived f b hs) s fun t =>
                (t.link f).expect = l.expect ∧ (t.link f).invalids ≠ [] ∧ t.events = (u.log 0x5037 srcHub f).events)))
      ∧ (∀ e ∈ lc, control e.1 → Done e.2 s fun t =>
          (e.1 = 1 → (l.credited.length = 5 → (t.link f).credited.getD h.ccls 0 =
                l.credited.getD h.ccls 0 + ((h.ccum + 2 ^ 14 - l.lastCcum.getD h.ccls 0) % 2 ^ 14 : Nat))
            ∧ (t.link f).oldest = if h.av = true ∧ seqDist h.ack l.oldest < l.outstanding
                then (l.oldest + (seqDist h.ack l.oldest + 1)) % 2 ^ 24 else l.oldest)
          ∧ (e.1 = 2 → h.av = false → (l.noProgress < 7 → due t 3) ∧ (l.outstanding < seqDist n l.oldest → (t.link f).oldest = l.oldest)
            ∧ (seqDist n l.oldest < l.outstanding → l.lastReplay = none → l.direct = false → l.unreadable = 0 →
                (t.link f).oldest = (l.oldest + seqDist n l.oldest) % 2 ^ 24
                ∧ (t.link f).replayAt = some ((l.oldest + seqDist n l.oldest) % 2 ^ 24)))
          ∧ (e.1 = 3 → h.av = false →
            let d (c : Nat) : Nat := (word c + 2 ^ 32 - l.arrivals.getD c 0 % 2 ^ 32) % 2 ^ 32
            ((∀ c, c < 5 → d c ≤ 2048) → (t.link f).state = 3 ∧ ∀ c, c < 5 →
              (t.link f).arrivals.getD c 0 = l.arrivals.getD c 0 + d c ∧ (t.link f).freed.getD c 0 = l.freed.getD c 0 + d c)
            ∧ ((∃ c, c < 5 ∧ 2048 < d c) → (t.link f).state = 4 ∨ (t.link f).state = 5))
          ∧ (e.1 = 4 → h.av = false → (t.link f).next = 0 ∧ (t.link f).oldest = 0 ∧ (t.link f).replay = []
              ∧ (t.link f).expect = 0 ∧ (t.link f).nakPending = false ∧ (t.link f).sent = [0, 0, 0, 0, 0]
              ∧ (l.outstanding ≠ 0 → t.num 0x5049 (f + 1) = (s.num 0x5049 (f + 1) + l.outstanding) % 2 ^ 32)
              ∧ ∀ c, c < 5 → (t.link f).resMin.getD c 0 = word c / 2 ^ 16
                ∧ (t.link f).credited.getD c 0 = -((word c % 2 ^ 16 : Nat) : Int))
          ∧ (e.1 = 5 → h.av = false → (l.outstanding < seqDist n l.oldest → (t.link f).next = 0 ∧ due t 4)
            ∧ (seqDist n l.oldest < l.outstanding → l.lastReplay = none → l.direct = false → l.unreadable = 0 →
                (t.link f).oldest = (l.oldest + seqDist n l.oldest) % 2 ^ 24
                ∧ (t.link f).replayAt = some ((l.oldest + seqDist n l.oldest) % 2 ^ 24)))))

/-- R204, R227, R229, R231, R232, R235–R237, R239–R241, R243: sending and the timers of a link. Each timer makes its
link-control flit due or starts a replay at the oldest entry; the eighth from one entry, or a queued flit without
credit for 64 µs, breaks the link. A row carries TRAIN while training, a queued flit with the next number, which is
kept for replay, or an IDLE group. A spill read brings an entry back or, when it is bad, empties the buffer. A retired
link of two working directions can be restored; spill regions and reserved minimums are checked. -/
def Obligations.LinksSendReplayAndRecover : Prop :=
  ∀ (f : Fin 96) (s : State),
    let x := s.fiber f
    let l := s.link f
    let due (i : Instr) (k : Nat) : Prop := Done i s fun t => (∃ c, (k, c) ∈ (t.link f).lcDue) ∧ { t with links := s.links } = s
      ∧ t.link f = { l with lcDue := (t.link f).lcDue } ∧ ∀ g, g ≠ f.val → t.link g = s.link g
    (s.ready = true → l.state = 2 → due (.initResendTimer f) (if l.rxState then 5 else 4))
    ∧ (l.state = 3 → l.nakPending = true → due (.nakRepeat f) 2)
    ∧ (l.state = 3 → l.ackDue = true ∨ (l.peerDirect = true ∧ 0 < l.sinceAck) → due (.ackonlyTimer f) 1)
    ∧ (l.state = 3 → (∃ c, c < 5 ∧ 0 < l.out c) → due (.cmarkTimer f) 3)
    ∧ (l.state = 3 → 0 < l.sinceAck → Done (.ackCoalesceTimeout f) s fun t => t.link f = { l with ackDue := true })
    ∧ (l.state ≠ 3 → Done (.ackCoalesceTimeout f) s fun t => t = s)
    ∧ (l.state = 3 → 0 < l.outstanding → (l.direct = true ∧ 0 < l.spilled) ∨ 0 < l.unreadable →
        Done (.replayTimeout f) s fun t => (t.link f).next = 0 ∧ (t.link f).replay = [] ∧ ∃ c, (4, c) ∈ (t.link f).lcDue)
    ∧ (l.state = 3 → 0 < l.outstanding → l.direct = false ∨ l.spilled = 0 → l.unreadable = 0 →
        (l.noProgress < 7 → Done (.replayTimeout f) s fun t => (t.link f).replayAt = some l.oldest ∧ (t.link f).state = 3
          ∧ (t.link f).lastReplay = some (l.oldest, s.clock) ∧ t.num 0x5043 (f + 1) = (s.num 0x5043 (f + 1) + 1) % 2 ^ 32)
        ∧ (7 ≤ l.noProgress → ∀ c, l.lastReplay = some (l.oldest, c) → Done (.replayTimeout f) s fun t =>
          (t.link f).state = 4 ∨ (t.link f).state = 5))
    ∧ (l.state = 3 → (∃ c, 1 ≤ c ∧ c ≤ 4 ∧ l.queue c ≠ [] ∧ l.credit c = false) → Done (.creditTimeout f) s fun t =>
        ((t.link f).state = 4 ∨ (t.link f).state = 5) ∧ t.num 0x5047 (f + 1) = (s.num 0x5047 (f + 1) + 1) % 2 ^ 32
        ∧ (t.link f).queues = [])
    ∧ (x.training = true →
        let ready := x.mapTaken && (mapped x.rxMap).all fun n => (s.rxLane f n).state == 3 || (s.rxLane f n).state == 4
        Done (.rowSend f) s fun t => ∃ rest, t.sent = s.sent ++ .group f 2 x.txMap ready false 0 [f.val] :: rest)
    ∧ (x.training = false → l.state = 3 → x.modeDue = none → x.modeEnd = none → x.stream.length < (mapped x.txMap).length →
        s.tick.running = false → s.rankOne f = none → l.tickOut = [] → l.cut = [] → l.replayAt = none →
        (∀ q, s.queuedFor f = some q → Done (.rowSend f) s fun t =>
          (t.link f).next = (l.next + 1) % 2 ^ 24
          ∧ (t.link f).entry l.next = some { q with slot := if q.own then 0 else q.slot, own := false, pool := none, late := true }
          ∧ (t.link f).queue q.tc = (l.queue q.tc).drop 1
          ∧ ∃ bytes rest, t.sent = s.sent ++ .flit f bytes :: rest ∧ t.fiber f = { x with
              row := x.row + 1
              stream := (x.stream ++ (flitBlocks bytes).map StreamBlock.data).drop (mapped x.txMap).length })
        ∧ (s.queuedFor f = none → l.lcDue = [] → Done (.rowSend f) s fun t => t.links = s.links ∧
          ∃ rest, t.sent = s.sent ++ .group f 1 [] false false 0 (s.idleInfo f) :: rest))
    ∧ (∀ seq good, l.replayAt = some seq → l.spillRead = true → let b := s.read (s.spillAddr f seq) 256
        let kept : Prop := l.direct = false ∧ ¬ seqDist seq l.oldest < l.unreadable
        (good = true → verdict b = .good → kept → Done (.spillReadComplete f good) s fun t => (t.link f).spillRead = false
          ∧ (t.link f).entry seq = some ⟨(flitHead b).tc, (flitHead b).slot, true, flitPayload b, false, none⟩
          ∧ { t with links := s.links } = s)
        ∧ (¬ kept → Done (.spillReadComplete f good) s fun t => (t.link f).direct = l.direct
          ∧ (t.link f).next = 0 ∧ (t.link f).replay = [] ∧ ∃ c, (4, c) ∈ (t.link f).lcDue)
        ∧ (kept → good = false ∨ verdict b ≠ .good → Done (.spillReadComplete f good) s fun t => (t.link f).direct = true
          ∧ (t.link f).next = 0 ∧ (t.link f).replay = [] ∧ ∃ c, (4, c) ∈ (t.link f).lcDue))
    ∧ (Done (.spillWriteComplete f) s fun t => t.link f = { l with spillWaiting := l.spillWaiting - 1 }
        ∧ { t with links := s.links } = s)
    ∧ (∀ slot, Accepts s slot opCommand 0x5048 (f + 1) →
        (l.state = 5 → x.txState ≠ 2 → x.rxState ≠ 2 → Answers (.linkRestore slot f) s slot opCommand 0x5048 (f + 1) 0 fun u =>
          (u.link f).state = 1 ∧ (u.link f).next = 0 ∧ (u.link f).rxState = false ∧ (u.fiber f).training = true)
        ∧ (l.state ≠ 5 ∨ x.txState = 2 ∨ x.rxState = 2 →
          Answers (.linkRestore slot f) s slot opCommand 0x5048 (f + 1) 0x50000022 fun u => u = s))
    ∧ (∀ slot (isSize : Bool) value, let index := if isSize then 0x5041 else 0x5040
        Accepts s slot opWrite index (f + 1) → s.tick.running = false → value < 2 ^ 64 → (isSize = true → value ≤ 64) →
        let base := if isSize then s.spillBase f else value
        let mib := if isSize then value else s.spillMib f
        let fit : Prop := base = 0 ∨ mib = 0 ∨ s.spillRegionOk f base mib = true
        (fit → Done (.spillRegionWrite slot f isSize value) s fun t => t.num index (f + 1) = value
          ∧ t.sent = (s.answerWrite slot index (f + 1) 0).sent
          ∧ (value ≠ (if isSize then s.spillMib f else s.spillBase f) → (t.link f).direct = !t.spillReachable f)
          ∧ (value = (if isSize then s.spillMib f else s.spillBase f) → t.links = s.links))
        ∧ (¬ fit → Done (.spillRegionWrite slot f isSize value) s fun t => t.objs = s.objs
          ∧ t.sent = (s.answer slot opWrite index (f + 1) 0x50000020).sent))
    ∧ ∀ slot (c : Fin 5) value, Accepts s slot opWrite 0x5034 (c + 1) → s.tick.running = false → value ≤ 65535 →
        let sum := ((List.range 5).map fun k => if k = c.val then value else s.num 0x5034 (k + 1)).sum
        (sum ≤ 1024 → Wrote (.reservedMinimumWrite slot c value) s slot 0x5034 (c + 1) 0 fun u =>
          u.num 0x5034 (c + 1) = value ∧ { u with objs := s.objs } = s)
        ∧ (1024 < sum → Answers (.reservedMinimumWrite slot c value) s slot opWrite 0x5034 (c + 1) 0x50000021 fun u => u = s)

/-- R247, R248, R259, R260: envelopes and membership. An envelope for another member goes on over the lowest-numbered
UP fiber toward it as it came, or is discarded with event 0x2014; one with a reserved field or of another class is
discarded so too; one for this module is the dispute or the update that it carries, or else a member's report or list
at the home (MGMT) or the home's batch at a member (CTRL; log entry 49). A complete update of a higher number is the
list of the next landing; a bad one is discarded with event 0x2014, as is an incomplete one at its timeout. A lost
member gets ROLE 3 in the list that the active master sends. A written list that breaks R247 is refused. -/
def Obligations.MembershipFollowsItsMessages : Prop :=
  ∀ (s : State),
    (∀ (f : Fin 96) (tc : Nat) (payload : List Byte),
      let i := Instr.forwardingEnvelope f tc payload
      let v := leNat (payload.take 16)
      let dst := field v 16 16
      let inner := payload.drop 16
      let bad : Prop := field v 0 8 ≠ 0x60 ∨ field v 8 8 ≠ 0 ∨ v / 2 ^ 48 ≠ 0 ∨ (tc ≠ 1 ∧ tc ≠ 2)
      let w := (s.takeHanded f tc payload).1
      let q := (s.takeHanded f tc payload).2
      q.tc = tc ∧ q.payload = pad240 payload ∧ { w with links := s.links } = s
      ∧ ((s.link f).state ≠ 3 → exec i s = .next w)
      ∧ ((s.link f).state = 3 →
        (bad → exec i s = .next (w.log 0x2014 srcHub dst))
        ∧ (¬ bad → dst ≠ s.faddr →
          (s.hopTo dst = none → exec i s = .next (w.log 0x2014 srcHub dst))
          ∧ ∀ g, s.hopTo dst = some g → Done i s fun t => { t with links := s.links } = s
              ∧ (t.link g).queue tc = (s.link g).queue tc ++ [q] ∧ ∀ k, k ≠ g → t.link k = w.link k)
        ∧ (¬ bad → dst = s.faddr → exec i s =
          match leNat (inner.take 1) with
          | 0x61 => exec (.tickDisputeReceived (disputeOf (field v 32 16) inner)) w
          | 0x62 => exec (.membershipUpdateReceived inner) w
          | _ => .next (if tc = 2 then w.onMember (field v 32 16) inner else w.onBatch (field v 32 16) inner))))
    ∧ (∀ inner : List Byte, inner.length = 224 →
        let v := leNat (inner.take 16)
        let n := field v 64 8
        let nent := field v 80 16
        let body := (inner.drop 16).take (16 * n)
        let sound : Prop := field v 0 8 = 0x62 ∧ field v 8 24 = 0 ∧ 1 ≤ n ∧ n ≤ 13 ∧ field v 72 8 + n ≤ nent ∧ nent ≤ 256
          ∧ ∀ m ∈ membersOf n body, m.rsvOk = true ∧ m.role ≤ 3
        (¬ sound → exec (.membershipUpdateReceived inner) s = .next (s.log 0x2014 srcHub s.gallery.upd))
        ∧ (sound → field v 32 32 < s.gallery.upd →
            exec (.membershipUpdateReceived inner) s = .next (s.log 0x2014 srcHub s.gallery.upd))
        ∧ (sound → s.gallery.upd < field v 32 32 → s.gallery.updHead = none → nent = n → crc32c body = field v 96 32 →
            Done (.membershipUpdateReceived inner) s fun t =>
              t.gallery.newList = some body ∧ t.gallery.upd = field v 32 32 ∧ { t with gallery := s.gallery } = s)
        ∧ (sound → s.gallery.upd < field v 32 32 → s.gallery.updHead = none → n < nent →
            Done (.membershipUpdateReceived inner) s fun t => t.gallery.newList = s.gallery.newList
              ∧ t.gallery.upd = field v 32 32 ∧ t.gallery.updHead = some (field v 96 32, nent)
              ∧ { t with gallery := s.gallery } = s))
    ∧ (s.gallery.updHead = none → exec .membershipUpdateTimeout s = .next s)
    ∧ (s.gallery.updHead ≠ none → Done .membershipUpdateTimeout s fun t =>
        t = { s.log 0x2014 srcHub s.gallery.upd with gallery := { s.gallery with updHead := none, updEntries := [] } })
    ∧ (∀ i : Fin 256, let list := s.gallery.newList.getD (s.blob 0x2040 0)
        (s.tick.active = false → exec (.memberLost i) s = .next s)
        ∧ (s.tick.active = true → i.val < list.length / 16 → i.val ≠ s.position →
          (∀ m ∈ membersOf (list.length / 16) list, m.addr % 256 = i.val → m.role ≠ 3) → Done (.memberLost i) s fun t =>
            t.gallery.newList = some (loseEntry list i) ∧ t.gallery.upd = s.gallery.upd + 1 ∧ t.mem = s.mem
            ∧ t.pens = s.pens ∧ t.tick = s.tick))
    ∧ ∀ slot data, Accepts s slot opWrite 0x2040 0 → WriteFits s 0x2040 0 (.bytes data) →
        (membershipOk false data = true → Wrote (.membershipListWrite slot data) s slot 0x2040 0 0 fun u =>
          u.blob 0x2040 0 = data ∧ { u with objs := s.objs } = s)
        ∧ (membershipOk false data = false →
          Answers (.membershipListWrite slot data) s slot opWrite 0x2040 0 0x20000030 fun u => u = s)

/-- R249–R252: a written schedule is staged whole, at once or with the landing, or refused with its cause; one whose
image had an uncorrectable word in the hub's memory is refused and the word is spent (log entry 147). BUILD_FLIGHT
starts training on every link that is DOWN and sends a probe on every one that is UP; FLIGHT_BUILD_COMPLETE sets the
arrival offsets, φi = (offset − 2) mod 4, φo from the out-port's source, and flight state 4. -/
def Obligations.SchedulesAndBuildsAreChecked : Prop :=
  ∀ (s : State),
    (∀ slot data, Accepts s slot opWrite 0x2030 0 → WriteFits s 0x2030 0 (.bytes data) →
      let i := Instr.stagedScheduleWrite slot data
      let l := entriesOf data
      let w := s.dropBad (2 ^ 43) (2 ^ 20)
      let good : Prop := s.badIn (2 ^ 43) (2 ^ 20) = false ∧ s.schedFormatOk data = true ∧ s.schedReachOk data = true ∧ s.schedRowsOk data = true
        ∧ s.schedLoadOk data = true ∧ s.schedStreamsOk data = true
      (good → s.tick.running = false → Wrote i s slot 0x2030 0 0 fun u =>
        u.blob 0x2030 0 = data ∧ { u with objs := s.objs } = s)
      ∧ (good → s.tick.running = true → Wrote i s slot 0x2030 0 1 fun u =>
        u.dict.deferred = (s.dict.deferred.filter fun e => !(Deferred.write 0x2030 0 (.bytes data)).replaces e) ++ [.write 0x2030 0 (.bytes data)] ∧ { u with dict := s.dict } = s)
      ∧ ((schedEpoch data ≤ s.epoch ∨ data.length ≠ 8256 + 16 * schedNent data ∨ (∃ e ∈ l, e.ok = false)
          ∨ s.badIn (2 ^ 43) (2 ^ 20) = true) → Answers i s slot opWrite 0x2030 0 0x20000020 fun u => u = w)
      ∧ (s.badIn (2 ^ 43) (2 ^ 20) = false → s.schedFormatOk data = true → (∃ e ∈ l, schedPeriod data ≤ 2 * e.last) →
        Answers i s slot opWrite 0x2030 0 0x20000021 fun u => u = s)
      ∧ (s.badIn (2 ^ 43) (2 ^ 20) = false → s.schedFormatOk data = true → s.schedReachOk data = true →
        (∃ f, f < 96 ∧ ¬ (s.outRows l f).Nodup) → Answers i s slot opWrite 0x2030 0 0x20000022 fun u => u = s))
    ∧ (∀ slot, Accepts s slot opCommand 0x2046 0 → Answers (.buildFlight slot) s slot opCommand 0x2046 0 0 fun u =>
        u.gallery = { s.gallery with building := true } ∧ u.mem = s.mem ∧ u.pens = s.pens
        ∧ (∀ index sub, index ≠ 0x5015 → u.num index sub = s.num index sub)
        ∧ ∀ f, f < 96 → ((s.fiber f).inService = false → u.link f = s.link f ∧ u.fiber f = s.fiber f)
          ∧ ((s.fiber f).inService = true → (s.link f).state = 0 →
            u.link f = { s.link f with state := 1 } ∧ (u.fiber f).training = true ∧ (u.fiber f).attempts = 0)
          ∧ ((s.fiber f).inService = true → (s.link f).state = 3 → u.fiber f = s.fiber f
            ∧ (u.link f).tickOut.length = (s.link f).tickOut.length + 1))
    ∧ ∀ l : List (Fin 96 × Int), (s.gallery.building = false → exec (.flightBuildComplete l) s = .next s)
        ∧ (s.gallery.building = true → (l.map (·.1)).Nodup → (∀ e ∈ l, -2 ^ 31 ≤ e.2 ∧ e.2 < 2 ^ 31) →
          Done (.flightBuildComplete l) s fun t => t.num 0x2042 0 = 4 ∧ t.gallery = { s.gallery with building := false }
            ∧ { t with objs := s.objs, gallery := s.gallery } = s
            ∧ (∀ e ∈ l, t.int 0x2045 (e.1 + 1) = e.2 ∧ (t.num 0x2043 (e.1 + 1) : Int) = (e.2 - 2) % 4)
            ∧ ∀ f, f < 96 → let src := s.num 0x2044 (f + 1)
              t.num 0x2047 (f + 1) = if src ≤ 95 then (t.num 0x2043 (src + 1) + 2) % 4 else 0)

/-- R262, R263, R275: ports. A mode write that leaves enough room for the headroom retrains the port: its logical
ports are down or absent, and the QPs of removed ones enter the error state; too little room answers 0x60000013. A
link that comes up logs event 0x6001, one that goes down 0x6002. A PFC mask of more than two bits answers 0x60000012. -/
def Obligations.EthernetPortsFollowTheirModes : Prop :=
  ∀ (s : State),
    (∀ slot (port : Fin 4) (mode : Nat), Accepts s slot opWrite 0x6001 (port + 1) →
      WriteFits s 0x6001 (port + 1) (.num mode) →
      let i := Instr.portModeWrite slot port mode
      let tooLarge := headroomTooLarge (s.num 0x6010 0) (s.num 0x6014 0) (s.modes.set port mode)
      (tooLarge = true → Answers i s slot opWrite 0x6001 (port + 1) 0x60000013 fun u => u = s)
      ∧ (tooLarge = false → mode = s.num 0x6001 (port + 1) → Wrote i s slot 0x6001 (port + 1) 0 fun u =>
          u.num 0x6001 (port + 1) = mode ∧ { u with objs := s.objs } = s)
      ∧ (tooLarge = false → mode ≠ s.num 0x6001 (port + 1) → tabWf (fun _ => ({} : QpSt)) s.eth.qps = true →
        Done i s fun t => t.num 0x6001 (port + 1) = mode ∧ t.mem = s.mem ∧ t.pens = s.pens
          ∧ t.sent = (s.answerWrite slot 0x6001 (port + 1) 0).sent
          ∧ (∀ k, k < 4 → t.num 0x6002 (4 * port + k + 1) = if k < modePorts mode then 1 else 0)
          ∧ ∀ q, let x := s.qp q
            (x.lport / 4 = port.val → modePorts mode ≤ x.lport % 4 → x.state = 1 ∨ x.state = 2 → (t.qp q).state = 3)
            ∧ (x.lport / 4 ≠ port.val ∨ x.lport % 4 < modePorts mode → t.qp q = x)))
    ∧ (∀ k : Fin 16,
        (s.portThere k = true → s.boot.refEth = true → s.boot.hubUp = true → s.portState k ≠ 2 →
          Done (.ethernetLinkUp k) s fun t => t.portState k = 2 ∧ t.events = (s.log 0x6001 srcHub k).events
            ∧ { t with objs := s.objs, events := s.events, nextSeq := s.nextSeq } = s)
        ∧ (s.portThere k = false ∨ s.portState k = 2 → exec (.ethernetLinkUp k) s = .next s)
        ∧ (s.portState k = 2 → Done (.ethernetLinkDown k) s fun t =>
          t.portState k = 1 ∧ t.events = (s.log 0x6002 srcHub k).events ∧ t.eth = s.eth
          ∧ ∀ j, j ≠ k.val → t.portState j = s.portState j)
        ∧ (s.portState k ≠ 2 → exec (.ethernetLinkDown k) s = .next s))
    ∧ ∀ slot (head : Bool) (v : Nat), let index := if head = true then 0x6014 else 0x6010
        let mask := if head = true then s.num 0x6010 0 else v
        let room := if head = true then v else s.num 0x6014 0
        let i := Instr.pfcMaskWrite slot head v
        let n := ((List.range 8).filter fun k => mask.testBit k).length
        Accepts s slot opWrite index 0 → WriteFits s index 0 (.num v) →
        (2 < n → Answers i s slot opWrite index 0 0x60000012 fun u => u = s)
        ∧ (n ≤ 2 → headroomTooLarge mask room s.modes = true → Answers i s slot opWrite index 0 0x60000013 fun u => u = s)
        ∧ (n ≤ 2 → (∀ m ∈ s.modes, n * room < 2048 / modePorts m) → Wrote i s slot index 0 0 fun u =>
          u.num index 0 = v ∧ { u with objs := s.objs } = s)

/-- R264, R265, R275, R276: frames. A frame with a bad FCS, a second tag, another EtherType, other IP traffic, or for
which the share has no room is counted in object 0x6051; one for another station is ignored; a good one takes its
place in the buffer, and at the level a lossless priority sends quanta 0xFFFF. ARP, solicitations and echoes to the
port's address are answered, ARP and IPv4 echoes on the field network by the keeper (R310), and the step takes the
port's oldest frame out of the buffer (log entry 50). A pause is honoured for the mask's priorities; quanta 0 sends
what was held; the watchdog releases one after 100 ms, discards its frames and logs event 0x6006. -/
def Obligations.FramesAndPausesAreHandled : Prop :=
  ∀ (k : Fin 16) (s : State),
    let dropped (i : Instr) : Prop := Done i s fun t =>
      t.num 0x6051 (k + 1) = (s.num 0x6051 (k + 1) + 1) % 2 ^ 32 ∧ { t with objs := s.objs } = s
    let used := ((s.eth.buffer.filter fun e => e.1 == k.val).map (·.2.2)).sum
    let taken (t : State) : Prop := t.eth.buffer = s.eth.buffer.eraseP (fun e => e.1 == k.val) ∧ t.mem = s.mem
    (∀ f : EthFrame, let i := Instr.ethernetFrameReceived k f
      let mine : Prop := s.ownMac k f.dst = true ∧ s.vlanOk k f.vlanTags = true ∧ f.length ≤ 9216
      let clean : Prop := f.fcsGood = true ∧ f.vlanTags.length ≤ 1 ∧ knownType f.etherType = true
      let admitted : Prop := (f.etherType ≠ 0x0800 ∧ f.etherType ≠ 0x86DD) ∨ s.ipOk k f = true
      (s.portState k ≠ 2 → exec i s = .next s)
      ∧ (s.portState k = 2 → (¬ clean → dropped i) ∧ (clean → ¬ mine → exec i s = .next s)
        ∧ (clean → mine → (¬ admitted → dropped i) ∧ (admitted → s.share k < used + f.length → dropped i)
          ∧ (admitted → used + f.length ≤ s.share k → Done i s fun t =>
            let p := f.pcp % 8
            t.eth.buffer = s.eth.buffer ++ [(k.val, p, f.length)] ∧ t.objs = s.objs ∧ t.mem = s.mem
            ∧ t.sent = if s.lossless p = true ∧ (s.pfcOf k p).sent = false ∧ s.pfcLevel k ≤ s.held k p + f.length
                then s.sent ++ [.pfc k p 0xFFFF] else s.sent))))
    ∧ (∀ ip mac target, let own (v6 : Bool) := s.answers k = true ∧ target ≠ 0
          ∧ target = if v6 = true then s.ip6Of k else s.ip4Of k
        let known (t : State) : Prop := (k.val, ip, mac) ∈ t.eth.neighbours
          ∧ ∀ e ∈ t.eth.neighbours, e.1 = k.val → e.2.1 = ip → e.2.2 = mac
        (own false → Done (.arpRequest k ip mac target) s fun t => taken t ∧ known t
          ∧ t.sent.getLast? = some (s.linkFrame k ip (.arpReply k ip mac)))
        ∧ (own true → Done (.neighbourSolicitation k ip mac target) s fun t => taken t ∧ known t
          ∧ t.sent.getLast? = some (s.linkFrame k ip (.neighbourAdvert k ip mac)))
        ∧ (∀ v6 data, own v6 → Done (.icmpEchoRequest k v6 ip target data) s fun t => taken t
          ∧ t.sent.getLast? = some (s.plainFrame k ip (.echoReply k ip data)))
        ∧ (target ≠ s.ip4Of k → Done (.arpRequest k ip mac target) s fun t =>
          taken t ∧ t.eth.neighbours = s.eth.neighbours)
        ∧ (let mine : Prop := s.boot.booted = true ∧ target = s.num 0x0F02 0
          (mine → exec (.arpRequest none ip mac target) s = .next (s.send (.field (.arpReply 0 ip mac)))
            ∧ ∀ data, exec (.icmpEchoRequest none false ip target data) s = .next (s.send (.field (.echoReply 0 ip data))))
          ∧ (¬ mine → exec (.arpRequest none ip mac target) s = .next s))
        ∧ Done (.neighbourEntryExpiry k ip) s fun t => { t with eth := s.eth } = s
          ∧ ∀ e, e ∈ t.eth.neighbours ↔ e ∈ s.eth.neighbours ∧ ¬ (e.1 = k.val ∧ e.2.1 = ip))
    ∧ (∀ mask quanta, s.portState k = 2 → Done (.pfcFrameReceived k mask quanta) s fun t => t.mem = s.mem ∧ ∀ p, p < 8 →
        (mask.getLsbD p = false ∨ s.lossless p = false → t.pfcOf k p = s.pfcOf k p)
        ∧ (mask.getLsbD p = true → s.lossless p = true → (t.pfcOf k p).paused = decide (quanta.getD p 0 ≠ 0)
          ∧ (quanta.getD p 0 ≠ 0 → (t.pfcOf k p).until_ = s.clock + 1024000 * quanta.getD p 0 / s.lineRate k)
          ∧ (quanta.getD p 0 = 0 → (s.pfcOf k p).released = false → ∀ o, (k.val, p, o) ∈ s.eth.heldOut →
            o ∈ t.sent ∧ (k.val, p, o) ∉ t.eth.heldOut)))
    ∧ ∀ p : Fin 8,
        ((s.pfcOf k p).sent = true → s.pfcLevel k < s.held k p →
          exec (.pfcRepeat k p) s = .next (s.send (.pfc k p 0xFFFF)))
        ∧ ((s.pfcOf k p).sent = false ∨ s.held k p ≤ s.pfcLevel k → exec (.pfcRepeat k p) s = .next s)
        ∧ ((s.pfcOf k p).paused = true → (s.pfcOf k p).released = false → Done (.pauseWatchdogExpiry k p) s fun t =>
          t.pfcOf k p = { s.pfcOf k p with released := true } ∧ t.events = (s.log 0x6006 srcHub (8 * k.val + p.val)).events
          ∧ (∀ e ∈ t.eth.heldOut, ¬ (e.1 = k.val ∧ e.2.1 = p.val)) ∧ t.sent = s.sent)
        ∧ ((s.pfcOf k p).paused = false → exec (.pauseWatchdogExpiry k p) s = .next s)
        ∧ ((s.pfcOf k p).released = true → Done (.pauseWatchdogResume k p) s fun t => { t with eth := s.eth } = s
          ∧ t.pfcOf k p = { s.pfcOf k p with released := false, paused := false })
        ∧ ((s.pfcOf k p).released = false → exec (.pauseWatchdogResume k p) s = .next s)

/-- R269, R281, R282: connections. A request before Ready, to another service, with no QP free, of another transport,
or whose private data the token service refuses draws a REJ with its reason and event 0x6005 (in this order: log entry
75); a good one takes the lowest free QP, its pool space and a REP (starting PSN free: log entry 51); a repeat of one
not yet ready draws the same REP. RTU makes a QP ready to send; DREQ draws DREP and frees it. A message is held while
the partner pauses its priority. -/
def Obligations.ConnectionsOpenAndClose : Prop :=
  ∀ (s : State),
    (∀ (k : Fin 16) (r : CmReq), s.answers k = true → let i := Instr.cmReq k r
      let prio := s.num 0x6011 0
      let y := s.pfcOf k prio
      let goes (t : State) (o : Out) : Prop := y.released = false →
        (y.paused = false → t.sent.getLast? = some (s.cmFrame k r.srcAddr o))
        ∧ (y.paused = true → s.clock < y.until_ → t.eth.heldOut.getLast? = some (k.val, prio, s.cmFrame k r.srcAddr o))
      let rejected (reason : Nat) (priv : List Byte) : Prop := Done i s fun t =>
        goes t (.cmRej k reason priv) ∧ t.eth.qps = s.eth.qps ∧ t.service = s.service
        ∧ t.events = (s.log 0x6005 srcHub k).events
      let fresh : Prop := ∀ e ∈ s.eth.qps, ¬ (e.2.state = 1 ∧ e.2.srcQp = r.srcQp ∧ e.2.srcAddr = r.srcAddr)
      (s.ready = false → rejected 28 (leBytes 4 0x10000001))
      ∧ (s.ready = true → r.service ≠ cmServiceId (s.num 0x6030 0) → rejected 8 [])
      ∧ (s.ready = true → r.service = cmServiceId (s.num 0x6030 0) → ∀ q x c, x.conn = some c →
        s.eth.qps.find? (fun e => e.2.state == 1 && e.2.srcQp == r.srcQp && e.2.srcAddr == r.srcAddr) = some (q, x) →
        Done i s fun t => goes t (.cmRep k q x.respRes 0 (s.repPrivate c)) ∧ t.eth.qps = s.eth.qps
          ∧ t.service = s.service ∧ t.mem = s.mem)
      ∧ (s.ready = true → r.service = cmServiceId (s.num 0x6030 0) → fresh →
        ((∀ q, q < 65536 → (s.qp q).state ≠ 0) → rejected 1 [])
        ∧ ∀ q, q < 65536 → (s.qp q).state = 0 → (∀ j, j < q → (s.qp j).state ≠ 0) →
          (r.rc = false ∨ r.altPath = true → rejected 27 [])
          ∧ (r.rc = true → r.altPath = false →
            (∀ a, s.connRule r.priv = .error a → rejected 28 (leBytes 4 a))
            ∧ (s.faddr ≠ 0 → s.position ≠ 0 → rejected 28 (leBytes 4 0xB0000013))
            ∧ (s.faddr = 0 ∨ s.position = 0 → r.priv.length < 56 → rejected 28 (leBytes 4 0xB0000010))
            ∧ ∀ c u n, s.connRule r.priv = .ok (c, u, n) → Done i s fun t =>
              let x := t.qp q
              goes t (.cmRep k q (min 16 r.respRes) 0 (s.repPrivate c)) ∧ t.mem = s.mem
              ∧ x.state = 1 ∧ x.lport = k.val ∧ x.srcQp = r.srcQp ∧ x.expectPsn = r.startPsn % 2 ^ 24
              ∧ x.mtu = s.pathMtu k r.mtu r.v6 ∧ x.rc = (s.lineRate k : Nat) ∧ x.conn = some c
              ∧ t.service.pool = s.service.pool ++ [(u, n)] ∧ (∀ j, j ≠ q → t.qp j = s.qp j))))
    ∧ ∀ q : Fin 65536, let x := s.qp q
      let w := s.takeFrame x.lport
      (x.state = 1 → Done (.cmRtu q) s fun t => t.qp q = { x with state := 2 } ∧ { t with eth := w.eth } = w
        ∧ ∀ j, j ≠ q.val → t.qp j = s.qp j)
      ∧ (x.state ≠ 1 → exec (.cmRtu q) s = .next w)
      ∧ (x.state = 0 → exec (.cmDreq q) s = .next w)
      ∧ (x.state ≠ 0 → Done (.cmDreq q) s fun t => t.qp q = {}
        ∧ (s.portState x.lport = 2 → (s.pfcOf x.lport (s.num 0x6011 0)).paused = false →
          (s.pfcOf x.lport (s.num 0x6011 0)).released = false → t.sent = w.sent ++ [s.cmFrame x.lport x.srcAddr (.cmDrep q)])
        ∧ t.mem = s.mem
        ∧ (∀ j, j ≠ q.val → t.qp j = s.qp j)
        ∧ ∀ c, x.conn = some c → ∀ e ∈ t.service.pool, e.1 ≠ (c.base - s.poolBase) / 65536)

/-- R267, R270–R273, R277, R283: the responder, on a QP in use whose port is up and whose priority the partner does
not pause. A packet ahead of the expected PSN draws a sequence NAK, one behind it changes nothing of the PSNs. A
request fills the session ring in turn (a full ring draws an RNR NAK, more than 4,096 bytes an invalid-request NAK); a
write or read outside its window draws an access NAK with event 0x6004, one to an unreachable GiB an operational NAK
with event 0x6007; a good write's bytes are reported later and then acknowledged; a good read returns the bytes as
stored, in packets of the path MTU, once the pending writes in its range are complete. A fatal NAK leaves the QP in
error. An answer covers the requests before it: behind an acknowledgement whose data is not complete it waits, and
goes with it (R273). -/
def Obligations.TheResponderAnswersItsPackets : Prop :=
  ∀ (q : Fin 65536) (p : RcPacket) (s : State),
    let x := s.qp q
    let y := s.pfcOf x.lport (s.num 0x6011 0)
    let all := [Instr.roceSendReceived q p, .rdmaWriteReceived q p, .rdmaReadRequest q p false]
    let w := s.takeFrame x.lport
    let waiting : Prop := ∃ n rest, x.replies = .ack n false :: rest
    let put (z : QpSt) (r : RcReply) : QpSt := { z with replies := x.replies ++ [r] }
    let gives (i : Instr) (z : QpSt) (r : RcReply) (P : State → Prop) : Prop :=
      (x.replies = [] → Done i s P) ∧ (waiting → Done i s fun t => t.qp q = put z r ∧ t.sent = w.sent)
    let fatal (i : Instr) (code : Nat) : Prop := gives i x (.fatal p.psn code) fun t =>
      t.sent.getLast? = some (s.roceFrame q (.rcNak q p.psn code))
      ∧ (t.qp q).state = 3 ∧ t.mem = s.mem ∧ ∀ j, j ≠ q.val → t.qp j = s.qp j
    let erred (t : State) (event : Nat) : Prop :=
      t.events = (((s.log event srcHub q).log 0x6003 srcHub q).orphanSessions q).events
    (x.state = 1 ∨ x.state = 2) → s.portState x.lport = 2 → y.paused = false → y.released = false → p.psn < 2 ^ 24 →
      (s.boot.cutOff = true → ∀ i ∈ all, exec i s = .next w)
      ∧ (s.boot.cutOff = false → p.ce = true → x.lastCnp = none → ∀ i ∈ all, Done i s fun t =>
          t.num 0x6052 0 = (s.num 0x6052 0 + 1) % 2 ^ 32)
      ∧ (x.lastCnp = none → ∀ syn psn, ∀ i ∈ [Instr.rcAckReceived q syn psn true, .cnpReceived q true], Done i s fun t =>
          t.num 0x6052 0 = (s.num 0x6052 0 + 1) % 2 ^ 32)
      ∧ (s.boot.cutOff = false → p.ce = false → x.doomed = true → ∀ i ∈ all, exec i s = .next w)
      ∧ (s.boot.cutOff = false → p.ce = false → x.doomed = false →
        (let d := seqDist p.psn x.expectPsn;
          (0 < d → d < 2 ^ 23 → ∀ i ∈ all, gives i x (.nak (.rcNak q x.expectPsn nakSequence)) fun t =>
            t.sent.getLast? = some (s.roceFrame q (.rcNak q x.expectPsn nakSequence)) ∧ t.qp q = x ∧ t.mem = s.mem)
          ∧ (2 ^ 23 ≤ d → ∀ i ∈ all.take 2, Done i s fun t => t.qp q = x ∧ t.mem = s.mem))
        ∧ (p.psn = x.expectPsn →
          let z : QpSt := { x with expectPsn := (p.psn + 1) % 2 ^ 24 }
          (∀ c, x.conn = some c →
            (p.first = true → c.depth ≤ c.ring.length →
              gives (.roceSendReceived q p) x (.nak (.rcRnr q p.psn (s.gov 0x600A 0))) fun t =>
                t.sent.getLast? = some (s.roceFrame q (.rcRnr q p.psn (s.gov 0x600A 0))) ∧ t.qp q = x ∧ t.mem = s.mem)
            ∧ (p.first = true → p.last = true → c.ring.length < c.depth → 4096 < p.payload.length →
              fatal (.roceSendReceived q p) nakInvalid)
            ∧ (p.first = true → p.last = true → c.ring.length < c.depth → p.payload.length ≤ 4096 →
              let z := { z with conn := some { c with ring := c.ring ++ [p.payload], partialSend := [] } }
              gives (.roceSendReceived q p) z (.ack p.psn true) fun t =>
                t.sent.getLast? = some (s.roceFrame q (.rcAck q p.psn)) ∧ t.qp q = z
                ∧ t.mem = (s.writeThrough (c.slotAddr (c.rdone + c.ring.length)) p.payload).mem))
          ∧ (p.first = true →
            let n := p.payload.length
            let k := s.accessCheck q p.rkey p.va p.dmaLen true
            let i := Instr.rdmaWriteReceived q p
            (2 ^ 31 < p.dmaLen ∨ p.dmaLen < n ∨ (p.last = true ∧ n ≠ p.dmaLen) → fatal i nakInvalid)
            ∧ (p.dmaLen ≤ 2 ^ 31 → n ≤ p.dmaLen → (p.last = true → n = p.dmaLen) →
              (k = 1 → fatal i nakAccess ∧ (x.replies = [] → Done i s (erred · 0x6004)))
              ∧ (k = 2 → fatal i nakOperational ∧ (x.replies = [] → Done i s (erred · 0x6007)))
              ∧ (k = 0 → n ≠ 0 → x.replies = [] ∨ waiting → Done i s fun t => t.mem = s.mem
                ∧ t.eth.writes = s.eth.writes ++ [⟨s.eth.nextWrite, p.va, p.payload, some q.val, p.psn⟩]
                ∧ (t.qp q).expectPsn = (p.psn + 1) % 2 ^ 24
                ∧ (t.qp q).replies = x.replies ++ [.ack p.psn false])))
          ∧ (let k := s.accessCheck q p.rkey p.va p.dmaLen false
            let i := Instr.rdmaReadRequest q p false
            let z : QpSt := { x with expectPsn := (p.psn + max 1 ((p.dmaLen + x.mtu - 1) / x.mtu)) % 2 ^ 24 }
            let v := if p.dmaLen = 0 then s else s.settleRange p.va p.dmaLen
            (2 ^ 31 < p.dmaLen → fatal i nakInvalid)
            ∧ (p.dmaLen ≤ 2 ^ 31 → (k = 1 → fatal i nakAccess)
            ∧ (k = 2 → fatal i nakOperational)
            ∧ (k = 0 → x.replies = [] → Done (.rdmaReadRequest q p true) s fun t =>
                t.sent.getLast? = some (s.roceFrame q (.rcNak q p.psn nakOperational)) ∧ (t.qp q).state = 3 ∧ t.mem = s.mem)
            ∧ (k = 0 → gives i z (.read p false) fun t => t.mem = v.mem ∧ t.qp q = z
              ∧ t.sent = w.sent ++ (readPackets q x.mtu p.psn
                  (if p.dmaLen = 0 then [] else v.readThrough p.va p.dmaLen)).map (s.roceFrame q))))))
      ∧ (∀ o psn ce, knownOpcode o = false → x.expectPsn < 2 ^ 24 → s.boot.cutOff = false → x.replies = [] →
          Done (.unsupportedOpcodeReceived q o psn ce) s fun t =>
            t.sent.getLast? = some (s.roceFrame q (.rcNak q psn nakInvalid)) ∧ (t.qp q).state = 3)
      ∧ ∀ w, s.eth.writes.find? (fun e => e.id == w.id) = some w → w.qp = some q.val →
          let gone (l : List Out) : Prop := Done (.externalWriteComplete w.id) s fun t =>
            t.mem = (s.writeThrough w.addr w.data).mem ∧ t.sent = s.sent ++ l.map (s.roceFrame q) ∧ t.qp q = { x with replies := [] }
              ∧ ∀ e ∈ t.eth.writes, e.id ≠ w.id
          (x.replies = [.ack w.psn false] → gone [.rcAck q w.psn])
          ∧ ∀ o, x.replies = [.ack w.psn false, .nak o] → gone [.rcAck q w.psn, o]

/-- R271, R272: windows. A descriptor with a reserved field, a bad range or a length that is no multiple of 4,096
answers 0x60000010, one for a window of the token service 0x60000011. A good one is in force at once, or at the
landing; GEN advances past 255 to 1 where a term changes or EN is cleared, and the R_Key is the window's index and
GEN. R270, R278: the requester and congestion control. An ACK releases the PSNs up to its own; an RNR NAK and a
sequence NAK resend from theirs, until the counted retries are used up and the QP enters the error state; a timeout
retries. A CNP sets the target rate to the current one and cuts the current one by α/2, not below Rmin; the timers and
the byte counter raise the target by the stage's step, and the current rate goes half way. -/
def Obligations.WindowsAndTheRequester : Prop :=
  (∀ slot data (s : State), Accepts s slot opWrite 0x6041 0 → WriteFits s 0x6041 0 (.bytes data) → s.gov 0x6040 0 < 4096 →
     let i := Instr.windowDescriptorWrite slot data
     let w := s.gov 0x6040 0
     let v := leNat data
     let old := (s.windowAt w).toNat
     let good : Prop := field v 192 64 = 0 ∧ field v 160 8 = 0 ∧ field v 58 3 = 0 ∧ field v 43 13 = 0 ∧ field v 0 12 = 0
       ∧ field v 64 64 % 4096 = 0 ∧ 0 < field v 64 64 ∧ field v 64 64 ≤ 2 ^ 36 ∧ windowRange (field v 0 43) (field v 64 64) = true
     (¬ good → Answers i s slot opWrite 0x6041 0 0x60000010 fun u => u = s)
     ∧ (good → field old 56 2 = 1 → Answers i s slot opWrite 0x6041 0 0x60000011 fun u => u = s)
     ∧ (good → field old 56 2 ≠ 1 → s.tick.running = true → Wrote i s slot 0x6041 0 1 fun u =>
         u.dict.deferred = (s.dict.deferred.filter fun e => !(Deferred.window w data).replaces e) ++ [.window w data]
         ∧ { u with dict := s.dict } = s)
     ∧ (good → field old 56 2 ≠ 1 → s.tick.running = false → Wrote i s slot 0x6041 0 0 fun u =>
         let new := (u.windowAt w).toNat
         let gen := field old 128 8
         let moved : Prop := windowTerms old ≠ windowTerms (windowValue data).toNat
           ∨ (bit old 63 = true ∧ bit (windowValue data).toNat 63 = false)
         field new 0 43 = field v 0 43 ∧ field new 64 64 = field v 64 64 ∧ field new 168 24 = field v 168 24
         ∧ bit new 63 = bit v 63 ∧ bit new 62 = bit v 62 ∧ bit new 61 = bit v 61 ∧ field new 56 2 = 0
         ∧ u.rkeyOf w = 256 * w + (if moved then if gen = 255 then 1 else gen + 1 else gen)
         ∧ (∀ j, j ≠ w → u.windowAt j = s.windowAt j) ∧ u.mem = s.mem))
  ∧ (∀ (q : Fin 65536) (s : State),
       let x := s.qp q
       let y := s.pfcOf x.lport (s.num 0x6011 0)
       let packets (l : List (Nat × Out)) : List Out := l.map fun e => s.roceFrame q e.2
       let only (i : Instr) (z : QpSt) : Prop := Done i s fun t => t.qp q = z ∧ { t with eth := s.eth, sent := s.sent } = s
         ∧ ∀ j, j ≠ q.val → t.qp j = s.qp j
       let failed (i : Instr) : Prop := Done i s fun t => (t.qp q).state = 3 ∧ (t.qp q).unacked = [] ∧ t.mem = s.mem
         ∧ t.events = ((s.log 0x6003 srcHub q).orphanSessions q).events
       (x.state = 2 → s.portState x.lport = 2 → y.paused = false → y.released = false →
         (∀ syn psn, let i := Instr.rcAckReceived q syn psn false
           (syn / 32 % 4 = 0 → Done i s fun t => (t.qp q).rnrLeft = x.rnrRetry ∧ t.mem = s.mem
             ∧ (t.qp q).unacked = x.unacked.filter fun e => decide (seqDist e.1 (psn + 1) < 2 ^ 23))
           ∧ (syn / 32 % 4 = 1 → x.rnrRetry ≠ 7 → x.rnrLeft = 0 → failed i)
           ∧ (syn / 32 % 4 = 1 → x.rnrRetry ≠ 7 → x.rnrLeft ≠ 0 → (∀ e ∈ x.unacked, seqDist e.1 psn < 2 ^ 23) →
             only i { x with rnrLeft := x.rnrLeft - 1 })
           ∧ (syn / 32 % 4 = 3 → syn % 32 ≠ 0 → failed i)
           ∧ (syn / 32 % 4 = 3 → syn % 32 = 0 → (∀ e ∈ x.unacked, seqDist e.1 psn < 2 ^ 23) →
             (x.retryLeft = 0 → failed i) ∧ (x.retryLeft ≠ 0 → only i { x with retryLeft := x.retryLeft - 1 })))
         ∧ (x.unacked ≠ [] → (x.retryLeft = 0 → failed (.localAckTimeout q))
           ∧ (x.retryLeft ≠ 0 → only (.localAckTimeout q) { x with retryLeft := x.retryLeft - 1 }
             ∧ Done (.localAckTimeout q) s fun t => t.sent = s.sent ++ packets x.unacked))
         ∧ (x.unacked = [] → exec (.localAckTimeout q) s = .next s))
       ∧ (x.state = 1 ∨ x.state = 2 →
         let g : Rat := 1 / (2 ^ s.gov 0x6020 0 : Nat)
         let line : Rat := (s.lineRate x.lport : Nat)
         let f := s.gov 0x6024 0
         let raised (z : QpSt) : QpSt :=
           let step : Rat := if z.tc < f ∧ z.bc < f then 0
             else if f ≤ z.tc ∧ f ≤ z.bc then (s.gov 0x6026 0 * (min z.tc z.bc - f + 1) : Nat) else (s.gov 0x6025 0 : Nat)
           { z with rt := min (z.rt + step) line, rc := (min (z.rt + step) line + z.rc) / 2 }
         (Done (.cnpReceived q false) s fun t => t.num 0x6053 0 = (s.num 0x6053 0 + 1) % 2 ^ 32 ∧ t.mem = s.mem
           ∧ t.qp q = { x with rt := x.rc, rc := max (s.gov 0x6027 0 : Nat) (x.rc * (1 - x.alpha / 2))
                               alpha := (1 - g) * x.alpha + g, tc := 0, bc := 0 })
         ∧ only (.dcqcnAlphaTimer q) { x with alpha := (1 - g) * x.alpha }
         ∧ only (.dcqcnRateTimer q) (raised { x with tc := x.tc + 1 })
         ∧ only (.dcqcnByteCounter q) (raised { x with bc := x.bc + 1 }))
       ∧ (x.state = 0 ∨ x.state = 3 → ∀ i ∈ [Instr.dcqcnAlphaTimer q, .dcqcnRateTimer q, .dcqcnByteCounter q],
           exec i s = .next s))

/-- R283, R284, R288–R290: requests, on a connection in use with the treads running and no record due. The oldest
request leaves its slot and makes CONS known, and what its prompt area waits for is placed first (R284); one with
reserved content logs event 0xB006 and does nothing else. An OPEN that passes the checks makes a QUEUED session under
its own id or the lowest free one (log entry 58), with a non-zero seed; a CONTINUE of an IDLE session of the QP queues
it with its longer context; a CLOSE marks it. Each, and a NOP, has one REPLY with its status; fields that the spec
does not state are free values (log entry 1). -/
def Obligations.SessionsFollowTheirRequests : Prop :=
  ∀ (q : Fin 65536) (s : State) (c : Conn) (b : List Byte) (rest : List (List Byte)),
    (s.qp q).conn = some c → c.ring = b :: rest → c.due = 0 → ((s.qp q).state = 1 ∨ (s.qp q).state = 2) →
    s.boot.hubAnswering = true → s.tick.running = true →
    let r := requestOf b
    (r.area = true → (s.qp q).doomed = false) →
    let c' := { c with ring := rest, cons := r.cons, rdone := (c.rdone + 1) % 2 ^ 32 }
    let popped := s.modConn q fun c => { c with ring := rest, cons := r.cons, rdone := (c.rdone + 1) % 2 ^ 32 }
    let v := if r.bad then popped else popped.settlePrompt q r
    let takes (i : Instr) (records : List StreamRec) (P : State → Prop) : Prop := Done i s fun t =>
      (t.qp q).conn = some { c' with queued := c.queued ++ records.map (StreamRec.toBytes · c'.rdone) }
      ∧ t.mem = v.mem ∧ t.sent = v.sent ∧ (∀ j, j ≠ q.val → t.qp j = s.qp j) ∧ P t
    let reply (sid status pos epoch : Nat) : StreamRec :=
      { kind := 1, session := sid, status := status, pos := pos, tag := r.tag, epoch := epoch }
    let refused (i : Instr) (status : Nat) : Prop :=
      ∃ sid pos epoch, takes i [reply sid status pos epoch] fun t => t.service = s.service
    let asked (seed : Nat) : Prop := seed ≠ 0 ∧ (r.seed ≠ 0 → seed = r.seed)
    (r.bad = true → ∀ i ∈ [Instr.openReq q, .continueReq q, .closeReq q, .nopRequest q], takes i [] fun t =>
      t.service = s.service ∧ t.events = (s.log 0xB006 srcHub q).events)
    ∧ (r.bad = false →
      (r.kind = 1 →
        let x := v.openStatus q r r.model []
        (x.1 ≠ 0 → refused (.openReq q) x.1)
        ∧ (x.1 = 0 → 32768 ≤ (s.service.sessions.filter fun e => e.2.isSome).length → refused (.openReq q) 0x0005)
        ∧ (x.1 = 0 → (s.service.sessions.filter fun e => e.2.isSome).length < 32768 →
          (r.sid = true → (32768 ≤ r.session ∨ (s.session r.session).isSome = true) → refused (.openReq q) 0x0006)
          ∧ ∀ i, i < 32768 → s.session i = none → (r.sid = true → i = r.session) →
              (r.sid = false → ∀ j, j < i → (s.session j).isSome = true) →
              ∃ seed, asked seed ∧ takes (.openReq q) [reply i 0 x.2.length seed] fun t =>
                (∀ j, j ≠ i → t.session j = s.session j)
                ∧ t.session i = some
                  { qp := q, model := r.model, tag := r.tag, keep := r.keep, stop := r.stop, seed := seed, maxtok := r.maxtok
                    temp := BitVec.ofNat 32 r.temp, topp := BitVec.ofNat 32 r.topp, reppen := BitVec.ofNat 32 r.reppen
                    topk := r.topk, context := x.2, prompt := x.2.length, order := s.service.nextOrder }))
      ∧ (r.kind = 2 →
        ((∀ y, s.session r.session = some y → y.qp ≠ q.val ∨ y.state ≠ 3 ∨ y.orphan = true) → refused (.continueReq q) 0x0006)
        ∧ ∀ y, s.session r.session = some y → y.qp = q.val → y.state = 3 → y.orphan = false →
          let x := v.openStatus q r y.model y.context
          let n := y.context.length + x.2.length
          (x.1 ≠ 0 → refused (.continueReq q) x.1)
          ∧ (x.1 = 0 → ∃ seed, asked seed ∧ takes (.continueReq q) [reply r.session 0 n seed] fun t =>
              (∀ j, j ≠ r.session → t.session j = s.session j)
              ∧ ∃ z, t.session r.session = some z ∧ z.state = 0 ∧ z.context = y.context ++ x.2 ∧ z.prompt = n
                ∧ z.done = y.context.length ∧ z.seed = seed ∧ z.tag = r.tag ∧ z.keep = (r.keep && !y.closing) ∧ z.closing = y.closing ∧ z.maxtok = r.maxtok
                ∧ z.reserved = y.reserved ∧ z.order = s.service.nextOrder))
      ∧ (r.kind = 3 →
        ((∀ y, s.session r.session = some y → y.qp ≠ q.val ∨ y.state = 4 ∨ y.orphan = true) → refused (.closeReq q) 0x0006)
        ∧ ∀ y, s.session r.session = some y → y.qp = q.val → y.state ≠ 4 → y.orphan = false →
          ∃ pos, takes (.closeReq q) [reply r.session 0 pos s.epoch] fun t =>
            t.session r.session = some { y with closing := true } ∧ ∀ j, j ≠ r.session → t.session j = s.session j)
      ∧ (r.kind = 4 → ∃ sid pos, takes (.nopRequest q) [reply sid 0 pos s.epoch] fun t => t.service = s.service))

/-- R289–R292: a batch is cut for the next tread: queued sessions that fit are admitted, and every session of the
batch is in PREFILL or DECODE, has its step in that tread, and its chunks are within the prefill budget. A QUEUED
session that times out ends with status 0x0007, an IDLE one with reason 5. With the treads stopped, and at a member
that is not the home, no batch is cut. -/
def Obligations.BatchesAndTimeoutsFollowTheirRules : Prop :=
  ∀ (s : State),
    (s.tick.running = false ∨ s.isHome = false → exec .batchCut s = .next s)
    ∧ (s.tick.running = true → s.isHome = true → tabWf (fun _ => (none : Option Session)) s.service.sessions = true →
      Done .batchCut s fun t => t.service.batchEpoch = s.epoch + 1 ∧ t.pens = s.pens
        ∧ (t.service.batch.map (·.2)).sum ≤ s.gov 0xB020 0
        ∧ (∀ e ∈ t.service.batch, ∃ x, t.session e.1 = some x ∧ (x.state = 1 ∨ x.state = 2) ∧ x.lastBatch = s.epoch + 1
          ∧ x.orphan = false ∧ s.flightLoaded x.model = true)
        ∧ (∀ i, (∀ e ∈ t.service.batch, e.1 ≠ i) → ∀ x, s.session i = some x → x.state ≠ 0 → t.session i = some x)
        ∧ ∀ i x, s.inState 0 = [(i, x)] → reservation x.prompt x.maxtok ≤ s.freePositions x.model + x.reserved →
            ∃ y, t.session i = some y ∧ y.state = 1 ∧ y.reserved = reservation x.prompt x.maxtok)
    ∧ ∀ i : Fin 32768,
        ((∀ x, s.session i = some x → x.state ≠ 0 ∨ s.gov 0xB021 0 = 0) → exec (.admissionTimeout i) s = .next s)
        ∧ ((∀ x, s.session i = some x → x.state ≠ 3) → exec (.idleTimeout i) s = .next s)
        ∧ (∀ x, s.session i = some x → x.orphan = true → ∀ c ∈ [Instr.admissionTimeout i, .idleTimeout i],
            Done c s fun t => t.session i = some x)
        ∧ ∀ x, s.session i = some x → x.orphan = false → s.tick.running = true →
          let ended := some { x with state := 4, closing := false, endedAt := some s.epoch }
          (x.state = 0 → s.gov 0xB021 0 ≠ 0 → Done (.admissionTimeout i) s fun t => t.session i = ended
            ∧ t.service.endErrors = s.service.endErrors + 1)
          ∧ (x.state = 3 → Done (.idleTimeout i) s fun t => t.session i = ended
            ∧ t.service.endErrors = s.service.endErrors ∧ ∀ j, j ≠ i.val → t.session j = s.session j)

/-- R282, R297–R299: models and the ring pool. A load is refused with the cause of Table 13.11 in its order or takes
its place; the writes pending in what a load reads complete first (R118); a weight bale that fails its check returns
the index to EMPTY with event 0xB002; a complete load is LOADED, at the landing or at once, with its region map
entries and event 0xB001. At a member each change is followed by its report to the home. An unload waits for its
sessions, then the index is EMPTY with event 0xB004. A pool that breaks R282 is refused; a good one is the token
service's window 4,095. -/
def Obligations.ModelsLoadAndLeave : Prop :=
  ∀ (s : State),
    (∀ slot, Accepts s slot opCommand 0xB004 0 →
      let i := s.gov 0xB001 0
      let n := s.gov 0xB003 0
      let a := s.gov 0xB002 0
      let v := s.settleImage a
      let z := v.dropBad a (field (leNat (v.readThrough a 128)) 192 32)
      let refused (code : Nat) : Prop := Answers (.loadModel slot) s slot opCommand 0xB004 0 code fun u => u = z
      let others := ((List.range 16).filter (· ≠ i)).map s.model |>.filter fun x => 1 ≤ x.state && x.state ≤ 4
      (v.image a = none → refused 0xB0000020)
      ∧ ∀ h lw tw, v.image a = some (h, lw, tw) →
        let m := v.modelOf i n h lw tw
        let suits : Prop := bit h.caps 0 = true ∧ (h.caps &&& s.num 0x1008 0) = h.caps
        let inTime : Prop := v.predict (others ++ [m]) ≤ s.treadPeriod
        let empty : Prop := (s.model i).state = 0 ∨ (s.model i).state = 3
        (¬ suits → refused 0xB0000021)
        ∧ (suits → v.tooLarge i n lw tw = true → refused 0xB0000022)
        ∧ (suits → v.tooLarge i n lw tw = false → (¬ inTime → refused 0xB0000023)
          ∧ (inTime → ¬ empty → refused 0xB0000024)
          ∧ (inTime → empty → n < h.kvminp → refused 0xB0000025)
          ∧ (inTime → empty → h.kvminp ≤ n → Answers (.loadModel slot) s slot opCommand 0xB004 0 0 fun u =>
              ∃ w : State, u = w.reportModel i ∧ w.model i = { m with regions := (s.model i).regions }
              ∧ { w with service := z.service } = z ∧ ∀ j, j ≠ i → w.model j = s.model j)))
    ∧ (∀ (i : Fin 16) (bad : Option Nat), let m := s.model i
      let v := s.settleWeights m
      ((m.state ≠ 1 ∨ s.service.loadsDone.contains i.val = true) → exec (.modelLoadComplete i bad) s = .next s)
      ∧ (m.state = 1 → s.service.loadsDone.contains i.val = false →
        (∀ a, (bad = some a ∨ (bad = none ∧ v.badWeight m = some a)) → Done (.modelLoadComplete i bad) s fun t =>
          ∃ w : State, t = w.reportModel i ∧ w.model i = {} ∧ w.events = (v.log 0xB002 srcHub a).events ∧ w.mem = v.mem
          ∧ w.blob 0xA030 0 = s.withoutRegions m.regions)
        ∧ (bad = none → v.badWeight m = none → s.tick.running = true → Done (.modelLoadComplete i bad) s fun t =>
          t.service = { s.service with loadsDone := s.service.loadsDone ++ [i.val] } ∧ t.mem = (v.copyResident m).mem
          ∧ t.objs = v.objs)
        ∧ (bad = none → v.badWeight m = none → s.tick.running = false → s.service.loadsDone = [] →
          Done (.modelLoadComplete i bad) s fun t => ∃ w : State, t = w.reportModel i
            ∧ w.model i = { m with state := 2, regions := m.newRegions }
            ∧ w.mem = (v.copyResident m).mem ∧ w.events = (v.log 0xB001 srcHub i).events
            ∧ w.blob 0xA030 0 = s.withoutRegions m.regions ++ m.newRegions.flatten)))
    ∧ (∀ slot, Accepts s slot opCommand 0xB005 0 → let i := s.gov 0xB001 0
      let st := (s.model i).state
      (st < 2 ∨ 4 < st → Answers (.unloadModel slot) s slot opCommand 0xB005 0 0xB0000024 fun u => u = s)
      ∧ (2 ≤ st → st ≤ 4 → i < 16 → (∀ j, j < 16 → (s.model j).state ≠ 5) →
        (s.modelBusy i = false → s.tick.running = true → Answers (.unloadModel slot) s slot opCommand 0xB005 0 0 fun u =>
          u.model i = {} ∧ (s.isHome = true → u.events = (s.log 0xB004 srcHub i).events)
          ∧ u.blob 0xA030 0 = s.withoutRegions (s.model i).regions)
        ∧ (s.modelBusy i = true → s.tick.running = true → Answers (.unloadModel slot) s slot opCommand 0xB005 0 0 fun u =>
          u.model i = { s.model i with state := 5 } ∧ u.service.sessions = s.service.sessions
          ∧ ∀ e ∈ s.service.sessions, ∀ x, e.2 = some x → x.model = i → x.state ≠ 4 →
              ∃ d ∈ (if s.tick.inLanding then u.service.endsLater else u.service.endsNow), d.1 = e.1)))
    ∧ ∀ slot (size : Bool) (v : Nat), let index := if size = true then 0xB011 else 0xB010
        let base := if size = true then s.num 0xB010 0 else v
        let gib := if size = true then v else s.num 0xB011 0
        let i := Instr.ringPoolWrite slot size v
        Accepts s slot opWrite index 0 → WriteFits s index 0 (.num v) →
        (s.num 0xB013 0 ≠ 0 → Answers i s slot opWrite index 0 0xB0000015 fun u => u = s)
        ∧ (s.num 0xB013 0 = 0 → gib ≠ 0 → (base % 2 ^ 30 ≠ 0 ∨ inLpddr base (gib * 2 ^ 30) = false) →
          Answers i s slot opWrite index 0 0xB0000014 fun u => u = s)
        ∧ (s.num 0xB013 0 = 0 → s.poolRule base gib = 0 → Done i s fun t => t.num index 0 = v ∧ t.mem = s.mem
          ∧ t.sent = (s.answerWrite slot index 0 0).sent
          ∧ (gib ≠ 0 → let w := (t.windowAt 4095).toNat
            field w 0 43 = base % 2 ^ 43 ∧ field w 64 64 = gib * 2 ^ 30 ∧ bit w 63 = true ∧ bit w 62 = true ∧ field w 56 2 = 1)
          ∧ (gib = 0 → bit (t.windowAt 4095).toNat 63 = false))

/-- R310–R313, R319–R321: datagrams. One of bad format is counted in object 0x0F06; one with a wrong tag or an empty
slot is counted there too and runs nothing; one of another boot epoch draws an epoch notice; one whose counter is
above H runs, its answer is sent back where it came from and kept; a repeat draws the same answer and runs nothing;
any other old counter is discarded. The field path needs a booted keeper, whose full queue discards a frame, the
in-band one an enabled port that is up, and takes 1,000 requests a second. The hub's silence is answered 0x0F000001,
after the latch and Ready. -/
def Obligations.DatagramsAreCheckedOnce : Prop :=
  ∀ (ip port : Nat) (bytes : List Byte) (s : State),
    let i := Instr.mopDatagram none false ip port bytes
    let discarded (k : Instr) : Prop := Done k s fun t =>
      t.num 0x0F06 0 = (s.num 0x0F06 0 + 1) % 2 ^ 32 ∧ t.sent = s.sent ∧ t.mem = s.mem ∧ t.dict.keys = s.dict.keys
    (s.boot.booted = false → exec i s = .next s)
    ∧ (s.boot.booted = false → exec (.mopDatagram none true ip port bytes) s = .next s)
    ∧ (s.boot.booted = true → Done (.mopDatagram none true ip port bytes) s fun t =>
        t.num 0x0F06 0 = (s.num 0x0F06 0 + 1) % 2 ^ 32 ∧ { t with objs := s.objs } = s)
    ∧ (∀ (p : Fin 16) full, ((s.gov 0x6033 0).testBit p = false ∨ s.portState p ≠ 2 ∨ s.boot.hubAnswering = false
          ∨ s.boot.hubUp = false) → exec (.mopDatagram (some p) full ip port bytes) s = .next (s.takeFrame p))
    ∧ (∀ (p : Fin 16) full, (s.gov 0x6033 0).testBit p = true → s.portState p = 2 → s.boot.hubAnswering = true → s.boot.hubUp = true →
        1000 ≤ s.mopThisSecond p → Done (.mopDatagram (some p) full ip port bytes) s fun t =>
          t.num 0x6051 (p + 1) = (s.num 0x6051 (p + 1) + 1) % 2 ^ 32 ∧ { t with objs := s.objs } = s.takeFrame p)
    ∧ (s.boot.booted = true → s.parse bytes = none → discarded i)
    ∧ (s.boot.booted = true → (bytes.length < 48 ∨ (headOf bytes).magic ≠ 0x31504F4D ∨ (headOf bytes).nop = 0
        ∨ (headOf bytes).rsv ≠ 0 ∨ bytes.length ≠ 48 + (headOf bytes).len) → discarded i)
    ∧ (s.boot.booted = true → ∀ h l, s.parse bytes = some (h, l) →
        let k := s.keySlot h.keyid
        let tag := bytes.drop (32 + h.len)
        let right : Prop := tag = mopTag h.keyid k.key (bytes.take (32 + h.len))
        let fresh : Prop := k.h < h.ctr ∨ (0 < h.ctr ∧ k.h ≤ h.ctr + 63 ∧ h.ctr ∉ k.seen)
        ((s.authority h.keyid = none ∨ ¬ right) → discarded i)
        ∧ (s.authority h.keyid ≠ none → right →
          (h.boot ≠ s.num 0x0F05 0 → Done i s fun t => { t with sent := s.sent } = s ∧ t.sent = s.sent ++ [.datagram none ip port
            (sealed h.keyid k.key (({ h with ftype := 3, nop := 0, len := 0, boot := s.num 0x0F05 0 } : MopHead).toBytes))])
          ∧ (h.boot = s.num 0x0F05 0 → fresh → s.dict.frameAuth = none → ∀ r, l = [r] → r.op = opRead → Done i s fun t =>
            (t.keySlot h.keyid).h = max k.h h.ctr ∧ h.ctr ∈ (t.keySlot h.keyid).seen ∧ t.mem = s.mem
            ∧ ∃ b, t.sent = s.sent ++ [.datagram none ip port b] ∧ (t.keySlot h.keyid).recent.head? = some (h.ctr, tag, b))
          ∧ (h.boot = s.num 0x0F05 0 → ¬ fresh → (∀ e ∈ k.recent, ¬ (e.1 = h.ctr ∧ e.2.1 = tag)) → discarded i)
          ∧ (h.boot = s.num 0x0F05 0 → ¬ fresh → ∀ b, k.recent.find? (fun e => e.1 == h.ctr && e.2.1 == tag) =
              some (h.ctr, tag, b) → b ≠ [] → Done i s fun t => t.sent = s.sent ++ [.datagram none ip port b]
                ∧ { t with sent := s.sent } = s)))
    ∧ (∀ slot op index sub, let f := Instr.hubForwardTimeout slot op index sub
        (s.authority slot = none → discarded f)
        ∧ (s.authority slot ≠ none → isKeeper index = false →
          exec f s = .next (s.answer slot op index sub
            (if s.drover.latch = true then 0x40000011 else if s.ready = true then 0x0F000001 else 0x10000001))))
    ∧ ∀ seen, Done (.plcaBeaconChange seen) s fun t => t.dict.plcaSeen = seen ∧ { t with dict := s.dict } = s

/-- R303–R309, R316, R321: operations on objects. What step 4 of R321 refuses is answered with its code and changes
nothing. A write of a number is staged (the last of one object wins), in force at once, or joins its group, by its
access class; the group's other key slots draw 0x1000000B, and a DISCARD of the right type and length or a timeout
(event 0x1002) empties it. A read returns the value in force; a longer value is held until it is read whole or 10 s
pass. Segments must follow one another; an assembly is given up with event 0x1004. -/
def Obligations.ObjectOperationsFollowTheirChecks : Prop :=
  ∀ (slot index sub : Nat) (s : State),
    let answers (i : Instr) (op code : Nat) : Prop := exec i s = .next (s.answer slot op index sub code)
    let row (r : ObjRow) : Prop := objectRow index sub = some r
    (∀ a, s.authority slot = some a → ∀ op, ∀ i, (i, op) ∈ [(Instr.mopRead slot index sub 0 0 0 false, opRead),
          (.describe slot index sub 0 0, opDescribe), (.discard slot index sub 0 0, opDiscard),
          (.mopWrite slot index sub 0 0 true [], opWrite), (.registerWrite slot index sub 0, opWrite)] →
        let outer : Prop := isKeeper index = false
        (outer → s.drover.latch = true → answers i op 0x40000011)
        ∧ (outer → s.drover.latch = false → (s.ready = false ∨ s.tap.testMode = true) → answers i op 0x10000001)
        ∧ (outer → s.drover.latch = false → s.ready = true → s.tap.testMode = false → s.hubSilent = true →
            answers i op 0x0F000001)
        ∧ ((¬ outer ∨ (s.drover.latch = false ∧ s.ready = true ∧ s.tap.testMode = false ∧ s.hubSilent = false)) →
          (indexExists index = false → answers i op 0x10000002)
          ∧ (indexExists index = true → objectRow index sub = none → answers i op 0x10000003)
          ∧ ∀ r, row r → indexExists index = true → (authorized a op index = false → answers i op 0x1000000A)
            ∧ (authorized a op index = true → accessOk r.access op index = false → answers i op 0x10000004)))
    ∧ (∀ r v, row r → r.type.isBytes = false → Accepts s slot opWrite index sub → let i := Instr.registerWrite slot index sub v
        (2 ^ (8 * r.type.size) ≤ v → answers i opWrite 0x10000005)
        ∧ (v < 2 ^ (8 * r.type.size) → r.access = .rws → s.tick.running = true → answers i opWrite 0x10000007)
        ∧ (v < 2 ^ (8 * r.type.size) → (r.access ≠ .rws ∨ s.tick.running = false) → inRange r index v = false →
            answers i opWrite 0x10000006)
        ∧ (WriteFits s index sub (.num v) → ownRule index (.num v) = 0 → ¬ (0x8100 ≤ index ∧ index ≤ 0x821F) →
          index ∉ [0x9010, 0x9023, 0x3001, 0x6001, 0xB010, 0xB011, 0x6010, 0x6014, 0x5040, 0x5041, 0x5034, 0xF057, 0xF030] →
          (r.access = .rw → s.tick.running = true → Wrote i s slot index sub 1 fun u =>
            u.dict.deferred = (s.dict.deferred.filter fun e => !(Deferred.write index sub (.num v)).replaces e) ++ [.write index sub (.num v)] ∧ { u with dict := s.dict } = s)
          ∧ ((r.access = .rws ∨ (r.access = .rw ∧ s.tick.running = false)) → Wrote i s slot index sub 0 fun u =>
            u.num index sub = v ∧ u.mem = s.mem ∧ u.pens = s.pens)
          ∧ (r.access = .rwg → (s.group r.group).busy slot = true → answers i opWrite 0x1000000B)
          ∧ (r.access = .rwg → (s.group r.group).busy slot = false → Wrote i s slot index sub 4 fun u =>
            u.stagedNum r.group index sub = v ∧ (u.group r.group).bound = some slot ∧ { u with dict := s.dict } = s)))
    ∧ (∀ r type offset last data, row r → type = r.type.code → Accepts s slot opWrite index sub →
        (let i := Instr.mopWrite slot index sub type offset last data
        (index ≠ 0x0F50 → r.type.isBytes = false → data.length = r.type.size → exec i s = exec (.registerWrite slot index sub (leNat data)) s)
        ∧ (r.type.isBytes = false → index ≠ 0x0F50 → data.length ≠ r.type.size → answers i opWrite 0x10000005)
        ∧ (r.type.isBytes = true → index ≠ 0x0F50 → data.length ≤ 1024 → (data.length : Int) ≤ r.max →
          (r.access ≠ .rws ∨ s.tick.running = false) →
          (∀ x, s.assembly index sub = some x → x.slot ≠ slot → answers i opWrite 0x1000000B)
          ∧ (s.assembly index sub = none → offset ≠ 0 → answers i opWrite 0x1000000C)
          ∧ (s.assembly index sub = none → offset = 0 → last = false → Wrote i s slot index sub 0 fun u =>
            u.assembly index sub = some { slot := slot, data := data, last := s.clock } ∧ { u with dict := s.dict } = s))))
    ∧ (∀ r dlen, row r → Accepts s slot opRead index sub → dlen ≤ 1024 →
        (∀ v, s.valueOf index sub r = .num v → r.type.isBytes = false → Done (.mopRead slot index sub 0 0 dlen false) s fun t =>
          { t with sent := s.sent } = s ∧ t.sent = s.sent ++ [.response slot
            { op := opRead, index := index, sub := sub, abort := 0, type := r.type.code, data := leBytes r.type.size v
              flags := if r.access = .rw ∧ s.isPending index sub = true then 1 else 0 }])
        ∧ (∀ b, s.valueOf index sub r = .bytes b → r.type.isBytes = true → Done (.mopRead slot index sub 0 0 dlen false) s
          fun t => t.heldValue slot index sub = (if dlen < b.length then some b else none) ∧ { t with dict := s.dict, sent := s.sent } = s
            ∧ ∃ flags, t.sent = s.sent ++ [.response slot { op := opRead, index := index, sub := sub, abort := 0, flags := flags
                                                            type := r.type.code, offset := b.length, data := b.take dlen }]))
    ∧ (∀ r, row r → Accepts s slot opDescribe index sub → Done (.describe slot index sub 0 0) s fun t =>
        { t with sent := s.sent } = s ∧ ∃ d, d.length = 48 ∧ d.take 2 = leBytes 1 r.type.code ++ leBytes 1 r.access.code
          ∧ t.sent = s.sent ++ [.response slot
            { op := opDescribe, index := index, sub := sub, abort := 0, type := r.type.code, data := d }])
    ∧ (∀ r type dlen, row r → Accepts s slot opDescribe index sub → ((type ≠ 0 ∧ type ≠ r.type.code) ∨ dlen ≠ 0) →
        answers (.describe slot index sub type dlen) opDescribe 0x10000005)
    ∧ (∀ r type dlen, row r → Accepts s slot opDiscard index sub →
        (type ≠ r.type.code ∨ dlen ≠ 0 → answers (.discard slot index sub type dlen) opDiscard 0x10000005)
        ∧ (type = r.type.code → dlen = 0 → Answers (.discard slot index sub type dlen) s slot opDiscard index sub 0 fun u =>
          u.group index = {} ∧ { u with dict := s.dict } = s))
    ∧ (∀ tick : Bool, let c := if tick = true then 0x2003 else 0xA032
        ((s.group c).staged = [] → exec (.stagingTimeout tick) s = .next s)
        ∧ ((s.group c).staged ≠ [] → Done (.stagingTimeout tick) s fun t => t.group c = {}
          ∧ t.events = (s.log 0x1002 srcHub c).events ∧ t.objs = s.objs))
    ∧ (s.assembly index sub = none → exec (.assemblyTimeout index sub) s = .next s)
    ∧ (s.assembly index sub ≠ none → Done (.assemblyTimeout index sub) s fun t => t.assembly index sub = none
        ∧ t.events = (s.log 0x1004 srcHub (objKey index sub)).events ∧ t.objs = s.objs)
    ∧ Done (.readHoldTimeout slot index sub) s fun t => t.heldValue slot index sub = none ∧ { t with dict := s.dict } = s

/-- R317, with R321 and R323: memory operations that R321 lets pass. A length of 0 or too long answers 0x10000005.
LPDDR, hub SRAM, pasture, and scratch while the treads are stopped, are reached: a read answers the bytes as stored,
once the pending writes in its range are complete (R118); a write changes them and nothing else. Any other address or
a range that leaves its area answers 0x1000000E; one in a failed channel, in a LOST GiB without VALID, in a tile that
is off or in the pasture or scratch of a flock that is off (log entry 120) 0xA0000013. The event log is saved by the
booted keeper. -/
def Obligations.MemoryOperationsReachTheirRanges : Prop :=
  ∀ (slot addr len : Nat) (data : List Byte) (s : State) (a : Nat), s.authority slot = some a →
    let r := Instr.memread slot addr len
    let w := Instr.memwrite slot addr data
    let unreached (b : Nat) : Prop := match s.translate b false with
      | .ok c => (s.tile (c / 2 ^ 36)).tileOn = false ∨ s.channelBad (c / 2 ^ 36) (c / 2 ^ 33 % 8) = true
      | .error _ => True
    let byteAt (t : State) (i : Nat) : Byte := if inScratch addr data.length = true
      then tabGet memDefault (t.pen (scratchAt (addr + i)).1).scratch (scratchAt (addr + i)).2 else t.byte (s.realAddr (addr + i))
    (∀ e ∈ [(r, opMemread, len, 1024), (w, opMemwrite, data.length, 1016)],
      let n := e.2.2.1
      let answers (code : Nat) : Prop := exec e.1 s = .next (s.answer slot e.2.1 0 0 code)
      let tile := (addr - 0x40000000000) / 0x2000000
      (∀ c, s.memCheck a e.2.1 = some c → answers c)
      ∧ (s.memCheck a e.2.1 = none → (n = 0 ∨ e.2.2.2 < n → answers 0x10000005)
        ∧ (0 < n → n ≤ e.2.2.2 →
          (inLpddr addr n = true → unreached addr ∨ unreached (addr + n - 1) → answers 0xA0000013)
          ∧ (inLpddr addr n = false →
            (s.place addr n = none → inScratch addr n = false ∨ s.tick.running = true → answers 0x1000000E)
            ∧ (s.place addr n = none → inScratch addr n = true → s.tick.running = false → (s.tile tile).flockOn = false →
              answers 0xA0000013)
            ∧ ∀ t, s.place addr n = some (.pasture t) → (s.tile t).flockOn = false → answers 0xA0000013))))
    ∧ (s.memCheck a opMemread = none → 0 < len → len ≤ 1024 → s.memRule addr len = 0 → let v := s.settleRange addr len
      Done r s fun t => { t with sent := v.sent } = v ∧ t.sent = v.sent ++ [.response slot
          { op := opMemread, index := 0, sub := 0, abort := 0
            data := if inScratch addr len = true then (List.range len).map fun i =>
                tabGet memDefault (v.pen (scratchAt (addr + i)).1).scratch (scratchAt (addr + i)).2
              else v.readThrough addr len }])
    ∧ (s.memCheck a opMemwrite = none → 0 < data.length → data.length ≤ 1016 → s.memRule addr data.length = 0 →
        Done w s fun t => (∀ i, i < data.length → byteAt t i = data.getD i 0)
          ∧ (inScratch addr data.length = false → { t with mem := s.mem, sent := s.sent } = s
            ∧ ∀ k, (∀ i, i < data.length → s.realAddr (addr + i) ≠ k) → t.byte k = s.byte k)
          ∧ (inScratch addr data.length = true → t.mem = s.mem ∧ { t with pens := s.pens, sent := s.sent } = s))
    ∧ (s.boot.booted = true → Done .eventLogSave s fun t => t.nv.log = s.events.take 8192 ∧ { t with nv := s.nv } = s)
    ∧ (s.boot.booted = false → exec .eventLogSave s = .next s)

/-- R320, R327, R330, R332, R388, R389, R411: stages 1 to 3. Power-on starts the keeper with only non-volatile
contents; its boot raises the boot epoch, takes the key slots out of its memory and leaves stage 1, unless something
holds it; a bad ROM or memory halts the module, silent. The image of the store is loaded, or event 0x9001 names the
step it fails (1 for a store that cannot be read: log entry 143) and bring-up halts. The hub's rails, reference and
SRAM bring stage 4, or halt it with their causes; its reference is retried, the Ethernet one takes the ports down. A
stage or a rail over its limit halts bring-up, refuses the OE, or switches the tile off. -/
def Obligations.EarlyStagesBringUpTheHub : Prop :=
  ∀ (s : State),
    let result (stage cause detail : Nat) : Nat := stage * 2 ^ 24 + cause * 2 ^ 16 + detail
    let halted (i : Instr) (cause detail keeper : Nat) : Prop := Done i s fun t => t.boot.halted = true
      ∧ t.num 0x1009 0 = result s.stage cause (detail % 2 ^ 16) ∧ t.stage = s.stage ∧ t.keeperState = keeper
      ∧ t.alert.getLsbD 3 = true ∧ t.mem = s.mem
    Done .powerOnReset s (fun t => t.boot.vkUp = true ∧ t.boot.booted = false ∧ t.stage = 1 ∧ t.num 0x100A 0 = 1
        ∧ t.events = [] ∧ t.nextSeq = 0 ∧ t.mem = [] ∧ t.tap = {} ∧ t.tiles = [] ∧ t.nv = s.recordMaps.nv ∧ t.dict.keys = [])
    ∧ (s.boot.vkUp = false ∨ s.boot.booted = true ∨ s.boot.silent = true → ∀ a b, exec (.keeperBoot a b) s = .next s)
    ∧ (s.boot.vkUp = true → s.boot.booted = false → s.boot.silent = false →
      (∀ a b, a = false ∨ b = false → Done (.keeperBoot a b) s fun t =>
        t.boot.silent = true ∧ t.boot.booted = false ∧ t.boot.halted = true
        ∧ t.num 0x1009 0 = result 1 2 0 ∧ t.events = (s.log 0x1011 srcKeeper (2 * 2 ^ 16)).events ∧ t.nv = s.nv)
      ∧ Done (.keeperBoot true true) s fun t => t.boot.booted = true ∧ t.boot.keeperAt = s.clock
        ∧ t.nv.bootEpoch = s.nv.bootEpoch + 1 ∧ t.num 0x0F05 0 = s.nv.bootEpoch + 1
        ∧ (∀ k a w, tabGet (fun _ => none) s.nv.slots k = some (a, w) →
            t.keySlot k = { authority := a, key := (keyUnwrap s.kek w).getD [] })
        ∧ t.keeperState = (if s.drover.latch = true then 4 else 0)
        ∧ t.stage = if s.boot.inputOk = true ∧ s.boot.modrstLow = false ∧ s.boot.poweredOff = false ∧ s.drover.latch = false
            ∧ s.boot.halted = false then 2 else 1)
    ∧ (s.inStage 2 = false → ∀ r, exec (.firmwareVerification r) s = .next s)
    ∧ (s.inStage 2 = true → ∀ r : Bool, let step := if r = true then s.verifyImage s.sec.store else 1
        (step ≠ 0 → halted (.firmwareVerification r) 3 step 1)
        ∧ (step = 0 → Done (.firmwareVerification r) s fun t => t.stage = 3 ∧ t.mem = s.mem
          ∧ t.num 0x1006 0 = field (leNat (s.sec.store.take 128)) 64 32
          ∧ t.sec.runSvn.val = field (leNat (s.sec.store.take 128)) 48 8))
    ∧ (s.inStage 3 = true → s.boot.hubUp = false → ∀ l a,
        (∀ p q, halted (.hubBringup false p q l a) 4 2 3)
        ∧ (s.boot.pllLocked = false → ∀ q, Done (.hubBringup true false q l a) s fun t =>
          t.boot = { s.boot with v5On := true, vhOn := true } ∧ t.events = (s.log 0x1014 srcKeeper 0).events ∧ t.objs = s.objs)
        ∧ halted (.hubBringup true true false l a) 6 0 3
        ∧ (s.tap.testMode = false → Done (.hubBringup true true true l a) s fun t => t.stage = 4 ∧ t.boot.hubUp = true
          ∧ t.boot.hubAnswering = true ∧ t.keeperState = 2 ∧ t.mem = s.mem ∧ t.drover.diodes = a
          ∧ ∀ k, k < 16 → t.num 0x6003 (k + 1) = s.nv.macBase + k))
    ∧ (s.inStage 3 = true → s.boot.pllLocked = false → s.boot.vhOn = true →
        Done (.referenceRetry true) s (fun t => t = { s with boot := { s.boot with pllLocked := true } })
        ∧ exec (.referenceRetry false) s = .next (s.log 0x1014 srcKeeper 0))
    ∧ (∀ b, (s.boot.refEth = b → exec (.ethernetReferenceChange b) s = .next s)
        ∧ (s.boot.refEth ≠ b → Done (.ethernetReferenceChange b) s fun t => t.boot = { s.boot with refEth := b }
          ∧ (b = true → t.objs = s.objs)
          ∧ (b = false → s.boot.hubUp = true → ∀ k, k < 16 → t.portState k = if s.portState k = 2 then 1 else s.portState k)))
    ∧ (s.boot.vkUp = true → s.boot.halted = false → s.tap.testMode = false →
        (s.boot.booted = false → Done .stageTimeout s fun t => t.boot.halted = true ∧ t.num 0x1009 0 = result 1 1 0
          ∧ t.events = (s.log 0x1011 srcKeeper (2 ^ 16)).events)
        ∧ (s.mayBringUp = true → 2 ≤ s.stage → s.stage ≤ 8 → s.stage ≠ 3 → halted .stageTimeout 1 0 s.keeperState)
        ∧ (s.mayBringUp = true → s.stage = 3 →
          halted .stageTimeout (if s.boot.vhOn = true ∧ s.boot.pllLocked = false then 5 else 1) 0 3))
    ∧ (s.inStage 3 = true → s.boot.hubUp = false → ∀ k ∈ [2, 3], ∀ part, halted (.railTimeout k part) 4 k 3)
    ∧ (s.inStage 4 = true → s.boot.nextOe < 12 → Done (.railTimeout 4 s.boot.nextOe) s fun t =>
        t.num 0x100C (s.boot.nextOe + 1) = 4 ∧ (t.oe s.boot.nextOe).admitted = false ∧ t.boot.nextOe = s.boot.nextOe + 1
        ∧ t.stage = if s.boot.nextOe = 11 then 5 else 4)
    ∧ (s.inStage 5 = true ∨ s.inStage 7 = true → ∀ k ∈ [5, 7], ∀ part, part < 64 → Done (.railTimeout k part) s fun t =>
        (t.tile part).tileOn = false)
    ∧ (s.inStage 6 = true ∨ s.inStage 7 = true → ∀ part, part < 96 → Done (.railTimeout 6 part) s fun t =>
        ∀ e ∈ packageChannels part, t.channelBad e.1 e.2 = true)

/-- R13, R327, R329, R336–R340, R361, R367: stages 4 to 9. The next OE is admitted with the fibers that its checks
leave, or refused with its first failed check; a re-qualification waits until Ready. Valid tiles come on; with no tile
on a gateway bring-up halts. Channels and pens that fail their tests are out of use; steppings that differ or lack the
common capability halt it; Ready asserts MODRDY and logs event 0x1010 with the time since stage 1 began. A tile
restart turns the selected tile off, and by the end of the next idle step (log entry 145) on by the same tests;
meanwhile another is refused. -/
def Obligations.LateStagesQualifyTheParts : Prop :=
  ∀ (s : State),
    let result (stage cause detail : Nat) : Nat := stage * 2 ^ 24 + cause * 2 ^ 16 + detail
    let halted (i : Instr) (cause detail : Nat) : Prop := Done i s fun t => t.boot.halted = true ∧ t.stage = s.stage
      ∧ t.num 0x1009 0 = result s.stage cause (detail % 2 ^ 16)
    (∀ (n : Fin 12) (r : OeChecks),
      (s.inStage 4 = true → s.boot.nextOe = n.val → Done (.oeQualification n r) s fun t =>
        t.boot.nextOe = n + 1 ∧ t.stage = (if n.val = 11 then 5 else 4) ∧ t.mem = s.mem
        ∧ ((s.oe n).withdrawn = false → oeFail r 1 ≠ 0 → t.num 0x100C (n + 1) = oeFail r 1 ∧ (t.oe n).admitted = false)
        ∧ ((s.oe n).withdrawn = false → oeFail r 1 = 0 → r.badSlices = [] → r.badTx = [] → r.badRx = [] →
          s.nv.failedLasers = [] → s.nv.fadedLasers = [] → s.nv.txMaps = [] → s.boot.lasersOff = false →
          (t.oe n).admitted = true ∧ t.num 0x100C (n + 1) = 0xFF10 ∧ ∀ f, f < 8 → (t.fiber (8 * n + f)).inService = true))
      ∧ ((s.oe n).withdrawn = true → exec (.oeRequalification n r) s = .next s)
      ∧ ((s.oe n).withdrawn = false → s.ready = false → (∀ e ∈ s.boot.waitOes, e.1 ≠ n.val) →
        Done (.oeRequalification n r) s fun t => t = { s with boot := { s.boot with waitOes := s.boot.waitOes ++ [(n.val, r)] } })
      ∧ ((s.oe n).withdrawn = false → s.ready = true → let c := BitVec.ofNat 64 (s.num 0x1008 0)
        (oeFail r c ≠ 0 → Done (.oeRequalification n r) s fun t => t.num 0x100C (n + 1) = oeFail r c
          ∧ (t.oe n).admitted = false ∧ ∀ f ∈ oeFibers n, (t.fiber f).inService = false)
        ∧ (oeFail r c = 0 → r.badSlices = [] → r.badTx = [] → r.badRx = [] → s.nv.failedLasers = [] → s.nv.fadedLasers = [] →
          s.nv.txMaps = [] → s.boot.lasersOff = false → Done (.oeRequalification n r) s fun t => (t.oe n).admitted = true
            ∧ t.num 0x100C (n + 1) = 0xFF10 ∧ ∀ f, f < 8 → (t.fiber (8 * n + f)).inService = true)))
    ∧ (s.inStage 5 = true → (∀ k, k < 64 → (s.tile k).tileOn = false) →
        halted (.tileDieToDieTest []) 7 0
        ∧ ∀ (k : Fin 64) r, k % 8 = 7 → strapValid k r.strap = true → r.rail = true → r.badSlices = 0 →
            s.num 0x7051 (k + 1) = 0 → s.num 0x7052 0 = 0 → Done (.tileDieToDieTest [(k, r)]) s fun t =>
              t.stage = 6 ∧ (t.tile k).tileOn = true ∧ (t.tile k).launchDelay = r.launchDelay
              ∧ t.num 0x7002 (k + 1) = r.strap.toNat)
    ∧ (s.inStage 6 = true → ∀ bad, Done (.memoryTraining bad) s fun t => t.stage = 7 ∧ t.boot.vmOn = true ∧ t.mem = s.mem
        ∧ (∀ e ∈ bad, t.channelBad e.1 e.2 = true)
        ∧ ∀ (k : Fin 64) (c : Fin 6), (s.tile k).tileOn = true → (∀ e ∈ bad, e ≠ (k, c)) →
            t.channelBad k c = s.channelBad k c)
    ∧ (s.inStage 7 = true → s.nv.fences = [] → ∀ (d : BitVec 32) (l : List (Fin 1024 × BitVec 32)),
        (∃ k : Fin 64, (s.tile k).tileOn = true) → (∀ k : Fin 64, (s.tile k).flockOn = true → (s.tile k).tileOn = true) →
        (∀ p : Fin 1024, l.find? (fun e => e.1.val == p.val) = some (p, d)) → Done (.penSelfTest l) s fun t => t.stage = 8
          ∧ ∀ k : Fin 64, (s.tile k).tileOn = true → (t.tile k).flockOn = true ∧ t.num 0x7050 (k + 1) = 0)
    ∧ (s.inStage 8 = true → s.boot.negotiated = false →
        let steps := s.tilesOn.map fun t => (s.tile t).stepping
        let common := ((s.tilesOn.map fun t => (s.tile t).capability) ++
          ((List.range 12).filter fun n => (s.oe n).admitted).map fun n => (s.oe n).capability).foldl (· &&& ·) 1
        ∀ v, steps.head? = some v →
          ((∃ w ∈ steps, w ≠ v) → halted .capabilityNegotiation 9 v)
          ∧ ((∀ w ∈ steps, w = v) → v ≠ 0x5402 → v ≠ 0x5403 → halted .capabilityNegotiation 8 v)
          ∧ ((∀ w ∈ steps, w = v) → v = 0x5402 ∨ v = 0x5403 → common.getLsbD 0 = false → halted .capabilityNegotiation 10 0)
          ∧ ((∀ w ∈ steps, w = v) → v = 0x5402 ∨ v = 0x5403 → common.getLsbD 0 = true → Done .capabilityNegotiation s fun t =>
            t.boot = { s.boot with negotiated := true } ∧ t.num 0x1003 0 = v ∧ t.num 0x1008 0 = common.toNat
            ∧ { t with boot := s.boot, objs := s.objs } = s))
    ∧ (s.inStage 8 = true → s.boot.negotiated = true → s.boot.waitOes = [] → Done .ready s fun t =>
        let ms := (s.clock - s.boot.stageStart) / 2000000
        t.stage = 9 ∧ t.boot.modrdy = true ∧ t.num 0x1009 0 = result 9 0 0 ∧ t.num 0x100B 0 = ms
        ∧ t.events = (s.log 0x1010 srcHub ms).events ∧ t.mem = s.mem)
    ∧ (s.inStage 8 = false ∨ s.boot.negotiated = false → exec .ready s = .next s)
    ∧ (∀ slot r, Accepts s slot opCommand 0x7060 0 → let k := s.gov 0x705F 0
        k < 64 →
        (strapValid k (s.tile k).strap = false ∨ (s.tile k).restart.isSome = true →
          Answers (.tileRestart slot r) s slot opCommand 0x7060 0 0x70000010 fun u => u = s)
        ∧ (strapValid k (s.tile k).strap = true → (s.tile k).restart = none →
          Answers (.tileRestart slot r) s slot opCommand 0x7060 0 0 fun u =>
            (u.tile k).tileOn = false ∧ (u.tile k).restart = some r ∧ u.mem = s.mem))
    ∧ ∀ (k : Fin 64) (r : TileChecks), s.pending = [] → (s.tile k).restart = some r → (s.tile k).tileOn = false →
        s.tiles.filterMap (fun e => e.2.restart.map fun r => (e.1, r)) = [(k.val, r)] →
        (strapValid k r.strap = false ∨ r.rail = false → ∃ t, step s = .next t
          ∧ (t.tile k).tileOn = false ∧ (t.tile k).restart = none ∧ t.mem = s.mem)
        ∧ (strapValid k r.strap = true → r.rail = true → r.badSlices = 0 →
          r.badChannels = 0 → r.badPens = 0 → r.flockRail = true → s.nv.fences = [] → r.capability.toNat = s.num 0x1008 0 → k % 8 = 7 →
          ∃ t, step s = .next t ∧ (t.tile k).tileOn = true ∧ (t.tile k).restart = none
            ∧ (t.tile k).flockOn = true ∧ t.num 0x7050 (k + 1) = 0 ∧ ∀ c, c < 6 → t.channelBad k c = false)

/-- R331, R333–R335, R370–R372, R391, R411, Table 15.4: resets. A module reset, MODRST_N and the keeper's watchdog
write their cause, save the event log, keep key slots and non-volatile contents and lose memory, treads and parts;
during an install a reset or a power-off waits. MODRST_N released lets stage 1 end. A firmware restart, due after the
hub's watchdog, starts at stage 2 with the keeper's boot kept. A power loss leaves the keeper's non-volatile contents.
Switching off lasers or tiles, or all rails, logs event 0x0F02 and is refused 0x0F000010 while the keeper boots. -/
def Obligations.ResetsKeepWhatTheyMust : Prop :=
  ∀ (slot : Nat) (s : State),
    let cleared (t : State) : Prop := t.mem = [] ∧ t.pens = [] ∧ t.tiles = [] ∧ t.links = [] ∧ t.service = {} ∧ t.eth = {}
      ∧ t.tick.running = false ∧ t.nv.fences = s.nv.fences ∧ t.nv.lifecycle = s.nv.lifecycle
      ∧ t.nv.slots = s.nv.slots
    let reset (cause : Nat) (t : State) : Prop := cleared t ∧ t.stage = 1 ∧ t.num 0x100A 0 = cause ∧ t.boot.booted = false
      ∧ t.alert = 0
    let refused (i : Instr) (index : Nat) : Prop := s.keeperState = 0 →
      Answers i s slot opCommand index 0 0x0F000010 fun u => u = s
    (Accepts s slot opCommand 0x0F30 0 → refused (.moduleReset slot) 0x0F30
      ∧ (s.keeperState ≠ 0 → s.sec.installing = false → Answers (.moduleReset slot) s slot opCommand 0x0F30 0 0 fun u =>
          reset 2 u ∧ u.nv.log = (s.log 0x0F02 srcKeeper 0x0F30).events.take 8192)
      ∧ (s.keeperState ≠ 0 → s.sec.installing = true → Answers (.moduleReset slot) s slot opCommand 0x0F30 0 0 fun u =>
          u.boot = { s.boot with resetDue := some 2, resetAsked := true } ∧ u.mem = s.mem ∧ u.pens = s.pens))
    ∧ (s.boot.modrstLow = true → exec .modrstAssert s = .next s)
    ∧ (s.boot.modrstLow = false → s.boot.vkUp = true → s.sec.installing = false → Done .modrstAssert s fun t =>
        reset 3 t ∧ t.boot.modrstLow = true)
    ∧ Done .modrstRelease s (fun t => t.boot.modrstLow = false ∧ t.mem = s.mem
        ∧ (s.tap.ir = 0x00 ∨ s.tap.ir = 0x03 ∨ s.tap.ir = 0x04 →
            t.tap.ir = 0x01 ∧ t.tap.driving = false ∧ t.tap.highz = false)
        ∧ (s.stage = 1 → s.boot.booted = true → s.boot.inputOk = true → s.boot.poweredOff = false → s.drover.latch = false →
            s.boot.halted = false → t.stage = 2))
    ∧ (s.boot.restartDue = none → exec .firmwareRestart s = .next s)
    ∧ (∀ c, s.boot.restartDue = some c → s.boot.booted = true → s.drover.latch = false → Done .firmwareRestart s fun t =>
        cleared t ∧ t.stage = 2 ∧ t.num 0x100A 0 = c ∧ t.boot.booted = true ∧ t.keeperState = 0
        ∧ t.num 0x0F05 0 = s.num 0x0F05 0 ∧ t.events = s.events ∧ t.boot.restartDue = none
        ∧ ∀ k, (t.keySlot k).key = (s.keySlot k).key)
    ∧ (s.boot.hubUp = true → Done .hubWatchdogExpiry s fun t => t.keeperState = 3 ∧ t.boot.hubAnswering = false
        ∧ t.boot.restartDue = some 7 ∧ t.tick.claimOut = false ∧ t.alert.getLsbD 0 = true ∧ t.mem = s.mem ∧ t.pens = s.pens
        ∧ t.events = (s.log 0x0F01 srcKeeper 0).events)
    ∧ (s.boot.hubUp = false → exec .hubWatchdogExpiry s = .next s)
    ∧ (s.boot.vkUp = true → Done .keeperWatchdogExpiry s fun t => reset 6 t ∧ t.boot.keeperWdog = true)
    ∧ (s.boot.vkUp = false → exec .keeperWatchdogExpiry s = .next s)
    ∧ Done .powerLoss s (fun t => cleared t ∧ t.boot.vkUp = false ∧ t.boot.booted = false ∧ t.events = [] ∧ t.stage = 0
        ∧ t.nv.leaves = max s.nv.leaves s.nv.leafBlockEnd ∧ t.sec.installing = false
        ∧ t.sec.store = (if s.sec.installing = true then [] else s.sec.store)
        ∧ t.drover.latch = false ∧ t.drover.latchCutBoot = (s.drover.latch || s.drover.latchCutBoot))
    ∧ (Accepts s slot opCommand 0x0F31 0 → refused (.powerOff slot) 0x0F31
      ∧ (s.keeperState ≠ 0 → s.sec.installing = true → Answers (.powerOff slot) s slot opCommand 0x0F31 0 0 fun u =>
          u = { s with boot := { s.boot with powerOffDue := true } })
      ∧ (s.keeperState ≠ 0 → s.sec.installing = false → Answers (.powerOff slot) s slot opCommand 0x0F31 0 0 fun u =>
          cleared u ∧ u.boot.poweredOff = true ∧ u.stage = 0 ∧ u.boot.booted = s.boot.booted
          ∧ u.keeperState = (if s.drover.latch = true then 4 else 3) ∧ u.events = (s.log 0x0F02 srcKeeper 0x0F31).events))
    ∧ (Accepts s slot opCommand 0x0F32 0 → refused (.allLasersOff slot) 0x0F32
      ∧ (s.keeperState ≠ 0 → Answers (.allLasersOff slot) s slot opCommand 0x0F32 0 0 fun u =>
          u.boot = { s.boot with lasersOff := true } ∧ u.mem = s.mem ∧ u.pens = s.pens
          ∧ (∀ n line, n < 12 → line < 18 → 2 ≤ (u.laser n line).state)
          ∧ ∀ f, f < 96 → (u.link f).state = if (s.link f).state = 5 then 5 else 0))
    ∧ (Accepts s slot opCommand 0x0F34 0 → refused (.tilePowerDown slot) 0x0F34
      ∧ (s.keeperState ≠ 0 → s.gov 0x0F33 0 = 0 →
          Answers (.tilePowerDown slot) s slot opCommand 0x0F34 0 0x0F000010 fun u => u = s)
      ∧ (s.keeperState ≠ 0 → s.gov 0x0F33 0 ≠ 0 → Answers (.tilePowerDown slot) s slot opCommand 0x0F34 0 0 fun u =>
          u.mem = s.mem ∧ ∀ k : Fin 64, (s.gov 0x0F33 0).testBit k = true →
            (u.tile k).tileOn = false ∧ ((s.tile k).flockOn = true → (s.tile k).tileOn = true → (u.tile k).flockOn = false)))

/-- R349–R352, R360, R370: failures. A tile that loses its PLL or its memory controller goes off as a whole, one whose
shepherd fails keeps its tile domain; its jobs and unreleased outputs are discarded, memory stays. An uncorrectable
error logs event 0x7024 with its address and takes the part's course; in a word that a pen reads it ends the job with
exception 0x12, in a structure with a CRC it is noted for the command that reads it next (log entry 147). A retired
slice logs event 0x7020; on an OE's fiber port it withdraws the fiber, on its control port the OE; one retired before
changes nothing. -/
def Obligations.FailuresAreContained : Prop :=
  ∀ (s : State),
    (∀ k : Fin 64,
      let off (i : Instr) : Prop := Done i s fun t => (t.tile k).tileOn = false ∧ (t.tile k).flockOn = false ∧ t.mem = s.mem
        ∧ (∀ c : Fin 6, t.channelBad k c = true) ∧ (t.tile k).jobs = [] ∧ ∀ p, p < 16 → (t.pen (16 * k + p)).run = none
      ((s.tile k).tileOn = true → (s.tile k).flockOn = true →
        off (.tilePllUnlock k) ∧ off (.memoryControllerTimeout k)
        ∧ ∀ a, off (.uncorrectableEccError 2 k a) ∧ off (.uncorrectableEccError 3 k a)
          ∧ Done (.uncorrectableEccError 0 k a) s fun t => (t.tile k).flockOn = false ∧ (t.tile k).tileOn = true ∧ t.mem = s.mem
            ∧ t.events = ((s.log 0x7024 k a).log 0x7025 k k).events
            ∧ t.num 0x7055 (k + 1) = (s.num 0x7055 (k + 1) + 1) % 2 ^ 32)
      ∧ ((s.tile k).flockOn = true → Done (.shepherdWatchdogExpiry k) s fun t => (t.tile k).flockOn = false
        ∧ (t.tile k).tileOn = (s.tile k).tileOn ∧ t.mem = s.mem ∧ t.events = (s.log 0x7025 k k).events
        ∧ (t.tile k).deques = [] ∧ (∀ p, p < 16 → (t.pen (16 * k + p)).run = none)
        ∧ ∀ p, p / 16 ≠ k.val → t.pen p = s.pen p)
      ∧ ((s.tile k).flockOn = false → exec (.shepherdWatchdogExpiry k) s = .next s)
      ∧ ((s.tile k).tileOn = false → exec (.tilePllUnlock k) s = .next s ∧ exec (.memoryControllerTimeout k) s = .next s))
    ∧ (∀ unit a, Done (.uncorrectableEccError 5 unit a) s fun t => a ∈ t.badWords ∧ (∀ b, b ≠ a → (b ∈ t.badWords ↔ b ∈ s.badWords))
        ∧ { t with badWords := s.badWords } = s.log 0x7024 srcHub a)
    ∧ (∀ p a r, p < 1024 → (s.tile (p / 16)).flockOn = true → (s.pen p).run = some r → r.ended = none →
        Done (.uncorrectableEccError 4 p a) s fun t => t.events = (s.log 0x7024 (p / 16) a).events ∧ t.mem = s.mem
          ∧ t.num 0x7055 (p / 16 + 1) = (s.num 0x7055 (p / 16 + 1) + 1) % 2 ^ 32
          ∧ ((t.pen p).run.map (·.ended)) = some (some (.exc 0x12 (s.pen p).pc 0)) ∧ ∀ q, q ≠ p → t.pen q = s.pen q)
    ∧ (s.boot.hubUp = true → ∀ a, Done (.uncorrectableEccError 1 0 a) s fun t => t.keeperState = 3
        ∧ t.boot.restartDue = some 7 ∧ t.boot.hubAnswering = false
        ∧ t.events = ((s.log 0x7024 srcHub a).log 0x0F01 srcKeeper 0).events)
    ∧ (s.boot.hubUp = false → ∀ die port tx k, exec (.sliceRetired die port tx k) s = .next s)
    ∧ (s.boot.hubUp = true → ∀ (tx : Bool) (k : Fin 4),
        (∀ (t : Fin 64) (port : Fin 4) u, t.val % 8 ≠ 7 ∨ port.val ≠ 1 → neighbour t port = some u → (s.tile t).tileOn = true →
          (s.portSlices t port).testBit (k + if tx = true then 4 else 0) = false →
          portAlive (s.portSlices t port ||| 2 ^ (k.val + if tx = true then 4 else 0)) = true →
          Done (.sliceRetired t port tx k) s fun v => v.mem = s.mem ∧ v.tiles = s.tiles
            ∧ v.portSlices t port = s.portSlices t port ||| 2 ^ (k.val + if tx = true then 4 else 0)
            ∧ v.events = (s.log 0x7020 t (sliceDetail t port tx k)).events)
        ∧ (∀ (n : Fin 12) (f : Fin 8), k.val < 2 → (s.oe n).admitted = true → s.nv.oeSlices.contains (8 * n.val + f, k.val) = false →
          Done (.sliceRetired (80 + n) f tx k) s fun v => (v.fiber (8 * n + f)).inService = false
            ∧ (v.link (8 * n + f)).state = 5 ∧ (v.oe n).fibers.getLsbD f = false ∧ (v.oe n).admitted = true
            ∧ v.nv.oeSlices = s.nv.oeSlices ++ [(8 * n.val + f, k.val)])
        ∧ (∀ n : Fin 12, k.val = 0 → (s.oe n).admitted = true → Done (.sliceRetired (80 + n) 8 tx k) s fun v =>
            (v.oe n).admitted = false ∧ (v.oe n).requalPending = true ∧ v.num 0x100C (n + 1) = 0)
        ∧ ∀ n : Fin 12, (s.oe n).admitted = false → ∀ port, exec (.sliceRetired (80 + n) port tx k) s = .next s)

/-- R343–R346, R400, R419: the test port and the SMBus. Each instruction is selected and shifts out its register (log
entry 63); EXTEST, CLAMP and HIGHZ need MODRST_N held, DTEST and DSTAT a debug-open state: outside they act as BYPASS
with event 0x1016. DTEST enters the test mode (event 0x1015), takes the die that it names out of module operation (log
entry 146), starts the loopback on GO, and a reserved value leaves RESULT 3; a result ends it. The status read answers
the keeper's state, the alert response the address; an alert clear clears the bits of its mask. -/
def Obligations.TestPortAndAlertsAnswer : Prop :=
  ∀ (s : State),
    let shifts (i : Instr) (tap : TapSt) (bits : List Bool) : Prop := exec i s = .next ({ s with tap := tap }.send (.tdo bits))
    let gated : List Instr := [.extest, .clamp, .highz]
    let bypassed (i : Instr) : Prop := Done i s fun t => t.events = (s.log 0x1016 srcKeeper 0).events
      ∧ t.tap = { s.tap with ir := 0xFF, driving := false, highz := false } ∧ t.sent = s.sent ++ [.tdo [false]] ∧ t.mem = s.mem
    let go (v : BitVec 32) : Prop := dtestValid v.toNat = true ∧ v.getLsbD 31 = true
    (s.boot.vkUp = false → ∀ i ∈ gated ++ [.bypass 0xFF, .idcode, .dstat], exec i s = .next s)
    ∧ (s.boot.vkUp = true →
      (∀ op, tapOp op = .bypass → shifts (.bypass op) { s.tap with ir := op, driving := false, highz := false } [false])
      ∧ (∀ op, tapOp op ≠ .bypass → exec (.bypass op) s = .next s)
      ∧ shifts .idcode { s.tap with ir := 0x01, driving := false, highz := false } ((List.range 32).map (0x1646445B : Nat).testBit)
      ∧ (∀ c l, Done (.samplePreload c l) s fun t => t.sent = s.sent ++ [.tdo ((List.range 21).map c.toNat.testBit)]
          ∧ t.tap = { s.tap with ir := 0x02, driving := false, highz := false, boundary := l })
      ∧ (s.boot.modrstLow = true →
        shifts .extest { s.tap with ir := 0x00, driving := true, highz := false }
          ((List.range 21).map s.tap.boundary.toNat.testBit)
        ∧ shifts .clamp { s.tap with ir := 0x03, driving := true, highz := false } [false]
        ∧ shifts .highz { s.tap with ir := 0x04, driving := false, highz := true } [false])
      ∧ (s.boot.modrstLow = false → ∀ i ∈ gated, bypassed i)
      ∧ (s.debugOpen = false → bypassed .dstat ∧ ∀ v, bypassed (.dtest v))
      ∧ (s.debugOpen = true →
        shifts .dstat { s.tap with ir := 0x21, driving := false, highz := false } ((List.range 32).map s.tap.dstat.toNat.testBit)
        ∧ ∀ v, let die := field v.toNat 6 2
          let id := field v.toNat 0 6
          let enters : Prop := dtestValid v.toNat = true ∧ (die, id) ∉ s.tap.testDies
          Done (.dtest v) s fun t => t.tap.testMode = true ∧ t.tap.ir = 0x20 ∧ t.tap.dtest = v &&& 0x70FFC0FF#32
          ∧ s.sent ++ [.tdo ((List.range 32).map s.tap.dtest.toNat.testBit)] <+: t.sent ∧ t.mem = s.mem
          ∧ (¬ enters → t.tap.testDies = s.tap.testDies ∧ t.tiles = s.tiles ∧ t.links = s.links ∧ t.oes = s.oes
            ∧ (s.tap.testMode = false → t.events = (s.log 0x1015 srcKeeper 0).events))
          ∧ (enters → t.tap.testDies = s.tap.testDies ++ [(die, id)]
            ∧ (die = 0 → (t.tile id).tileOn = false)
            ∧ (die = 1 → t.boot.hubAnswering = false ∧ t.tick.stopReq = true)
            ∧ (die = 2 → (t.oe id).admitted = false))
          ∧ (dtestValid v.toNat = false → t.tap.dstat = 0xE0000000#32 ∧ t.tap.dtestRunning = s.tap.dtestRunning)
          ∧ (go v → t.tap.dstat = 0 ∧ t.tap.dtestRunning = true)
          ∧ (¬ go v → dtestValid v.toNat = true → t.tap.dstat = s.tap.dstat)))
    ∧ (∀ r n k, (s.tap.dtestRunning = false → exec (.dtestComplete r n k) s = .next s)
        ∧ (s.tap.dtestRunning = true → Done (.dtestComplete r n k) s fun t => t.tap.dtestRunning = false
          ∧ { t with tap := s.tap } = s ∧ t.tap.dstat.getLsbD 31 = true ∧ field t.tap.dstat.toNat 29 2 = r.val
          ∧ field t.tap.dstat.toNat 8 8 = (if r.val = 0 then 0 else min n 130)
          ∧ field t.tap.dstat.toNat 0 8 = if r.val = 0 then 0 else k % 256))
    ∧ (s.boot.booted = true → Done .smbusStatusRead s fun t => { t with sent := s.sent } = s
        ∧ t.sent = s.sent ++ [.smbus (leBytes 1 s.keeperState ++ leBytes 1 s.stage ++ [s.alert] ++ [0#8]
          ++ leBytes 2 (intBits 2 s.hottest) ++ leBytes 2 (s.drover.millivolts / 100)
          ++ (s.nv.serial ++ List.replicate 8 0#8).take 8)])
    ∧ (s.boot.booted = true → ∀ m, Done (.smbusAlertClear m true) s (fun t => { t with alert := s.alert } = s
          ∧ ∀ i, i < 8 → t.alert.getLsbD i = (s.alert.getLsbD i && !m.getLsbD i))
        ∧ exec (.smbusAlertClear m false) s = .next s)
    ∧ (s.boot.booted = true → s.alert ≠ 0 →
        exec .smbusAlertResponse s = .next (s.send (.smbus (leBytes 1 (2 * (0x40 + s.nv.fieldAddr))))))
    ∧ (s.alert = 0 → exec .smbusAlertResponse s = .next s)
    ∧ (s.boot.booted = false → ∀ i ∈ [Instr.smbusStatusRead, .smbusAlertResponse], exec i s = .next s)

/-- R389–R393: firmware and keys. Image and install are the owner's alone (0x90000010); the last segment is verified,
held or discarded with the failing step as FAIL; an install takes the held image, and its end holds STATE 4 and event
0x9002, or FAIL 5 or 6. The floor rises to the running SVN with event 0x9007. A key is installed wrapped, or in clear
while every slot is empty, with event 0x9004 and H = 0, and is stored wrapped (R387); a clear of the sender's slot or
of the last owner is refused. -/
def Obligations.FirmwareAndKeysAreTheOwners : Prop :=
  ∀ (slot : Nat) (s : State),
    (∀ offset last data, Accepts s slot opWrite 0x0F50 0 → data.length ≤ 1024 → let i := Instr.firmwareImageWrite slot offset last data
      (s.authority slot ≠ some 3 → s.assembly 0x0F50 0 = none → Answers i s slot opWrite 0x0F50 0 0x90000010 fun u => u = s)
      ∧ (s.authority slot = some 3 →
        (∀ x, s.assembly 0x0F50 0 = some x → x.slot ≠ slot → Answers i s slot opWrite 0x0F50 0 0x1000000B fun u => u = s)
        ∧ (offset = 0 → last = false → s.assembly 0x0F50 0 = none → Wrote i s slot 0x0F50 0 0 fun u =>
          u.assembly 0x0F50 0 = some { slot := slot, data := data, last := s.clock }
          ∧ u.sec.heldImage = none ∧ u.sec.updState = if s.sec.installing = true then s.sec.updState else 1)
        ∧ ∀ x, s.assembly 0x0F50 0 = some x → x.slot = slot → offset = x.data.length → 0 < offset →
          x.data.length + data.length ≤ 4194304 → let img := x.data ++ data
          (last = false → Wrote i s slot 0x0F50 0 0 fun u =>
            u.assembly 0x0F50 0 = some { slot := slot, data := img, last := s.clock } ∧ u.sec = s.sec)
          ∧ (last = true → s.verifyImage img = 0 → Wrote i s slot 0x0F50 0 0 fun u => u.assembly 0x0F50 0 = none
            ∧ u.sec.heldImage = some img ∧ u.sec.updFail = 0 ∧ u.sec.updState = if s.sec.installing = true then 3 else 2)
          ∧ (last = true → s.verifyImage img ≠ 0 → Answers i s slot opWrite 0x0F50 0 0x90000010 fun u =>
            u.assembly 0x0F50 0 = none ∧ u.sec.heldImage = none ∧ u.sec.updFail = s.verifyImage img
            ∧ u.sec.updState = if s.sec.installing = true then 3 else 0)))
    ∧ (Accepts s slot opCommand 0x0F51 0 → s.keeperState ≠ 0 → let i := Instr.installImage slot
      (s.sec.heldImage = none ∨ s.authority slot ≠ some 3 ∨ s.sec.installing = true →
        Answers i s slot opCommand 0x0F51 0 0x90000010 fun u => u = s)
      ∧ ∀ img, s.sec.heldImage = some img → s.authority slot = some 3 → s.sec.installing = false →
        Answers i s slot opCommand 0x0F51 0 0 fun u =>
          u = { s with sec := { s.sec with store := img, installing := true, updState := 3 } })
    ∧ (∀ a b, s.sec.installing = false → exec (.installComplete a b) s = .next s)
    ∧ (s.sec.installing = true → s.boot.resetDue = some 2 → s.boot.resetAsked = true → Done (.installComplete true true) s fun t =>
        t.stage = 1 ∧ t.num 0x100A 0 = 2 ∧ t.boot.booted = false
        ∧ t.nv.log = ((s.log 0x9002 srcKeeper 0).log 0x0F02 srcKeeper 0x0F30).events.take 8192)
    ∧ (s.sec.installing = true → s.boot.resetDue = none → s.boot.powerOffDue = false →
        let sent : Prop := (s.assembly 0x0F50 0).isSome = true
        Done (.installComplete true true) s (fun t => t.sec.installing = false ∧ t.sec.updFail = 0
          ∧ (s.sec.heldImage = none ∨ s.sec.heldImage = some s.sec.store →
            t.sec.heldImage = none ∧ (¬ sent → t.sec.updState = 4) ∧ (sent → t.sec.updState = 1))
          ∧ (∀ img, s.sec.heldImage = some img → img ≠ s.sec.store → t.sec.heldImage = some img ∧ t.sec.updState = 2)
          ∧ t.sec.store = s.sec.store ∧ t.events = (s.log 0x9002 srcKeeper 0).events ∧ t.mem = s.mem
          ∧ t.boot.restartDue = if s.keeperState = 1 then some 8 else s.boot.restartDue)
        ∧ ∀ a b, a = false ∨ b = false → Done (.installComplete a b) s fun t => t.sec.installing = false ∧ t.sec.store = []
          ∧ t.sec.heldImage = s.sec.heldImage ∧ t.sec.updFail = (if b = true then 5 else 6) ∧ t.boot = s.boot ∧ t.mem = s.mem)
    ∧ (Accepts s slot opCommand 0x9006 0 →
        (s.sec.runSvn ≤ s.nv.svnFuses → Answers (.raiseFloor slot) s slot opCommand 0x9006 0 0x90000010 fun u => u = s)
        ∧ (s.nv.svnFuses < s.sec.runSvn → Answers (.raiseFloor slot) s slot opCommand 0x9006 0 0 fun u =>
          u.nv = { s.nv with svnFuses := s.sec.runSvn } ∧ u.events = (s.log 0x9007 srcKeeper s.sec.runSvn).events
          ∧ u.mem = s.mem))
    ∧ ∀ k : Fin 8,
        (∀ data, Accepts s slot opWrite 0x9003 (k + 1) → WriteFits s 0x9003 (k + 1) (.bytes data) →
          let i := Instr.keyInstall slot k data
          let a := (data.headD 0).toNat
          let refused : Prop := Answers i s slot opWrite 0x9003 (k + 1) 0x90000010 fun u => u = s
          let installed (key : List Byte) : Prop := Wrote i s slot 0x9003 (k + 1) 0 fun u =>
            u.keySlot (k + 1) = { authority := a, key := key }
            ∧ tabGet (fun _ => none) u.nv.slots (k + 1) = some (a, keyWrap s.kek key) ∧ (∀ j, j ≠ k + 1 → u.keySlot j = s.keySlot j)
            ∧ u.events = (s.log 0x9004 srcKeeper (k + 1)).events ∧ u.mem = s.mem
          (data.length = 33 ∨ data.length = 41 → a = 0 ∨ 3 < a → refused)
          ∧ (0 < a → a ≤ 3 → data.length = 33 → (s.noKeys = true → installed (data.drop 1)) ∧ (s.noKeys = false → refused))
          ∧ (0 < a → a ≤ 3 → data.length = 41 → (s.keySlot slot).authority ≠ 0 →
            (∀ key, keyUnwrap (s.keySlot slot).key (data.drop 1) = some key → installed key)
            ∧ (keyUnwrap (s.keySlot slot).key (data.drop 1) = none → refused))
          ∧ (data.length = 41 → (s.keySlot slot).authority = 0 → refused))
        ∧ (Accepts s slot opCommand 0x9004 (k + 1) → let i := Instr.keyClear slot k
          let last : Prop := (s.keySlot (k + 1)).authority = 3 ∧ s.owners = 1
          (k.val + 1 = slot ∨ last → Answers i s slot opCommand 0x9004 (k + 1) 0x90000010 fun u => u = s)
          ∧ (k.val + 1 ≠ slot → ¬ last → Answers i s slot opCommand 0x9004 (k + 1) 0 fun u => u.keySlot (k + 1) = {}
            ∧ tabGet (fun _ => none) u.nv.slots (k + 1) = none ∧ (∀ j, j ≠ k + 1 → u.keySlot j = s.keySlot j) ∧ u.events = (s.log 0x9004 srcKeeper (k + 1)).events ∧ u.mem = s.mem))

/-- R396–R399, R403, R404: attestation, lifecycle and the stile. An attestation needs SECURED, a device key, a nonce,
a signature and a leaf, takes one, and ends with its report and signature; the tree under generation is ready at its
completion. A good token moves the lifecycle one state on with event 0x9006 through a module reset, the stored secrets
wrapped again (log entry 143), and RETURN erases the keys and the device key. A control frame is accepted from an
admitted OE only as a matching answer or a NOTIFY within its limits; any other is a violation: counted, for an
admitted OE event 0x9003 with its cause, and a re-qualification, or a withdrawal at the third within an hour. -/
def Obligations.AttestationAndStileFollowTheirRules : Prop :=
  ∀ (slot : Nat) (s : State),
    (Accepts s slot opCommand 0x9011 0 → let i := Instr.attest slot
      let able : Prop := s.nv.lifecycle = 1 ∧ s.nv.deviceKey.isSome = true ∧ 0 < s.signaturesLeft ∧ (0 < s.sec.treeLeft ∨ s.sec.nextTree = true)
      (s.sec.attState = 1 → Answers i s slot opCommand 0x9011 0 0x90000010 fun u => u = s)
      ∧ (s.sec.attState ≠ 1 → (s.sec.nonce = none ∨ ¬ able) → Answers i s slot opCommand 0x9011 0 0x90000010 fun u =>
          u = { s with sec := { s.sec with attState := 3 } })
      ∧ ∀ n, s.sec.attState ≠ 1 → s.sec.nonce = some n → able → Answers i s slot opCommand 0x9011 0 0 fun u =>
          u.sec.attState = 1 ∧ u.sec.nonce = none ∧ u.sec.attReport = s.report n ∧ u.nv.leaves = s.nv.leaves + 1
          ∧ u.nv.leaves ≤ max u.nv.leafBlockEnd s.nv.leafBlockEnd ∧ (s.nv.leaves < u.nv.leafBlockEnd)
          ∧ u.sec.treeLeft = (if s.sec.treeLeft = 0 then 2 ^ 20 - 1 else s.sec.treeLeft - 1) ∧ u.mem = s.mem)
    ∧ (s.sec.attState ≠ 1 → exec .attestationComplete s = .next s)
    ∧ (s.sec.attState = 1 → Done .attestationComplete s fun t => t.sec.attState = 2
        ∧ t.sec.attResult = s.sec.attReport ++ s.deviceSign s.sec.attReport ∧ t.mem = s.mem
        ∧ (s.signaturesLeft < 2 ^ 20 → s.sec.lowLogged = false → t.sec.lowLogged = true
            ∧ t.events = (s.log 0x9005 srcKeeper s.signaturesLeft).events)
        ∧ (2 ^ 20 ≤ s.signaturesLeft ∨ s.sec.lowLogged = true → t.events = s.events))
    ∧ (s.sec.generating = true → exec .treeGenerationComplete s =
        .next { s with sec := { s.sec with generating := false, nextTree := true } })
    ∧ (s.sec.generating = false → exec .treeGenerationComplete s = .next s)
    ∧ (Accepts s slot opCommand 0x9024 0 → let i := Instr.lifecycleTransition slot
      (s.tokenTarget = none → Answers i s slot opCommand 0x9024 0 0x90000010 fun u => u = s)
      ∧ (2 ≤ s.nv.lifecycle → Answers i s slot opCommand 0x9024 0 0x90000010 fun u => u = s)
      ∧ ∀ l, s.tokenTarget = some l → s.sec.installing = false → Answers i s slot opCommand 0x9024 0 0 fun u =>
          u.nv.lifecycle = l ∧ l = s.nv.lifecycle + 1 ∧ u.stage = 1 ∧ u.num 0x100A 0 = 2 ∧ u.mem = [] ∧ u.boot.booted = false
          ∧ (∀ k, u.keySlot k = {}) ∧ (l = 2 → u.nv.deviceKey = none ∧ u.nv.slots = [])
          ∧ (l ≠ 2 → ∀ k a w key, tabGet (fun _ => none) s.nv.slots k = some (a, w) → keyUnwrap s.kek w = some key →
            tabGet (fun _ => none) u.nv.slots k = some (a, keyWrap u.kek key)))
    ∧ ∀ (n : Fin 12), let o := s.oe n
      (∀ tag, Done (.oeResponseTimeout n tag) s fun t =>
        { t with oes := s.oes } = s ∧ t.oe n = { o with requests := o.requests.filter fun e => e.1 != tag }
        ∧ ∀ j, j ≠ n.val → t.oe j = s.oe j)
      ∧ ∀ f : OeFrame, let i := Instr.oeControlFrame n f
        let plain : Prop := f.rsv = 0 ∧ f.addr = 0 ∧ f.len ≤ 64 ∧ f.data.length = f.len
        let answered : Prop := ∃ e ∈ o.requests, e.1 = f.tag ∧ e.2.1 + 0x80 = f.opc ∧ s.clock ≤ e.2.2 + 200000
        let violation (cause : Nat) : Prop :=
          (o.admitted = false → Done i s fun t => { t with oes := s.oes } = s
            ∧ t.oe n = { o with violations := (o.violations + 1) % 2 ^ 16 })
          ∧ (o.admitted = true → (o.violTimes.filter fun t => decide (s.clock ≤ t + 3600 * 2000000000)).length < 2 →
            o.requalifying = false → Done i s fun t => t.events = (s.log 0x9003 (srcOe n) cause).events
              ∧ (t.oe n).violations = (o.violations + 1) % 2 ^ 16 ∧ (t.oe n).lastCause = cause
              ∧ (t.oe n).requalPending = true ∧ (t.oe n).admitted = true ∧ (t.oe n).mailbox = o.mailbox)
          ∧ (o.admitted = true → 2 ≤ (o.violTimes.filter fun t => decide (s.clock ≤ t + 3600 * 2000000000)).length →
            Done i s fun t => (t.oe n).withdrawn = true ∧ (t.oe n).admitted = false
              ∧ ∀ g ∈ oeFibers n, (t.fiber g).inService = false)
        (f.opc ≠ 0x81 → f.opc ≠ 0x82 → f.opc ≠ 0xC0 → violation 1)
        ∧ (f.opc = 0x81 ∨ f.opc = 0x82 ∨ f.opc = 0xC0 → f.rsv ≠ 0 ∨ f.addr ≠ 0 → violation 5)
        ∧ (f.opc = 0x81 ∨ f.opc = 0x82 ∨ f.opc = 0xC0 → f.rsv = 0 → f.addr = 0 → 64 < f.len → violation 2)
        ∧ (plain → f.opc = 0xC0 → 65536 ≤ o.notifiesNow (s.clock / 2000000000) → violation 3)
        ∧ (plain → f.opc = 0x81 ∨ f.opc = 0x82 → ¬ answered → violation 4)
        ∧ (o.admitted = false → Done i s fun t => { t with oes := s.oes } = s
            ∧ t.oe n = { o with violations := (o.violations + 1) % 2 ^ 16 })
        ∧ (plain → o.admitted = true → f.opc = 0xC0 → o.notifiesNow (s.clock / 2000000000) < 65536 → Done i s fun t =>
          { t with oes := s.oes } = s ∧ (t.oe n).mailbox = o.mailbox ++ [f.data] ∧ (t.oe n).violations = o.violations)
        ∧ (plain → o.admitted = true → f.opc = 0x81 ∨ f.opc = 0x82 → answered → Done i s fun t =>
          { t with oes := s.oes } = s ∧ t.oe n = { o with requests := o.requests.filter fun e => e.1 != f.tag })

/-- R376–R381: tallies. A configuration that R376 bars answers 0x80000010, another comes into force. A sample falls in
its bin, counts, and moves the extremes and the sum; a second one in its cycle counts as DROP; one that the unit does
not select changes nothing. A window that has ended is copied to the snapshot with its tick and cleared. A clear waits
for the next tick. -/
def Obligations.TalliesCountTheirSamples : Prop :=
  ∀ (u : Fin 288) (s : State),
    let t := s.tally u
    (∀ (x : Tally) (v : Int), 0 < x.width → let b := x.binOf v
      let w : Int := x.width
      b ≤ 63 ∧ (b = 0 ↔ v < x.low)
      ∧ (x.scale = 0 → (0 < b → x.low + (b - 1) * w ≤ v) ∧ (b < 63 → v < x.low + b * w))
      ∧ (x.scale ≠ 0 → (1 < b → x.low + w * 2 ^ (b - 2) ≤ v) ∧ (0 < b → b < 63 → v < x.low + w * 2 ^ (b - 1))))
    ∧ (∀ event (value : BitVec 32), let i := Instr.tallySample u event value
      t.closeDue = none →
      (t.mode = 0 ∨ paramSelects t.src t.param event = false ∨ s.phaseOk t = false → Done i s fun r =>
        (r.tally u) = t ∧ { r with units := s.units } = s)
      ∧ (t.mode ≠ 0 → t.src ≠ 0x12 → paramSelects t.src t.param event = true → s.phaseOk t = true →
        (t.lastSample = some (s.dieCycle u) → Done i s fun r => { r with units := s.units } = s
          ∧ r.tally u = { t with live := { t.live with drop := (t.live.drop + 1) % 2 ^ 32 } })
        ∧ (t.lastSample ≠ some (s.dieCycle u) → t.live.count < 2 ^ 32 - 1 →
          (let b := t.binOf value.toInt
          let n := tabGet (fun _ => 0) t.live.bins b
          let sum := t.live.sum + value.toInt
          n < 2 ^ 32 - 1 → -(2 ^ 63 : Int) ≤ sum → sum < 2 ^ 63 → Done i s fun r => { r with units := s.units } = s
            ∧ r.tally u = { t with
              lastSample := some (s.dieCycle u)
              live := { t.live with
                sum := sum, count := t.live.count + 1, max := max t.live.max value.toInt, min := min t.live.min value.toInt
                bins := tabSet (fun _ => 0) t.live.bins b (n + 1) } }))
        ∧ (t.lastSample ≠ some (s.dieCycle u) → t.live.count = 2 ^ 32 - 1 → Done i s fun r =>
          (r.tally u).live.count = 2 ^ 32 - 1 ∧ (r.tally u).live.cntsat = true
          ∧ (t.satLogged = false → r.events = (s.log 0x8002 srcHub u).events) ∧ (t.satLogged = true → r.events = s.events))))
    ∧ (∀ e, t.closeDue = some e → Done (.tallyWindowClose u) s fun r => { r with units := s.units } = s
        ∧ (r.tally u).live = {} ∧ (r.tally u).windows = (t.windows + 1) % 2 ^ 32 ∧ (r.tally u).closeDue = none
        ∧ (r.tally u).snap = { t.live with incomplete := t.cut, src := t.src, param := t.param
                                           windows := (t.windows + 1) % 2 ^ 32, epoch := e })
    ∧ (t.closeDue = none → Done (.tallyWindowClose u) s fun r => r.tally u = t ∧ { r with units := s.units } = s)
    ∧ (∀ slot d, Accepts s slot opWrite (0x8100 + u) 1 → WriteFits s (0x8100 + u) 1 (.bytes d) →
        let i := Instr.tallyConfigurationWrite slot u d
        let x : Tally := { config := BitVec.ofNat 128 (leNat d) }
        (s.tallyRule u d ≠ 0 → Answers i s slot opWrite (0x8100 + u) 1 0x80000010 fun r => r = s)
        ∧ (x.width = 0 ∨ x.mode = 3 ∨ x.phase = 3 ∨ s.tallyPlace u = false →
          Answers i s slot opWrite (0x8100 + u) 1 0x80000010 fun r => r = s)
        ∧ (s.tallyRule u d = 0 → s.tick.running = false → Wrote i s slot (0x8100 + u) 1 0 fun r =>
          r.tally u = { t with newConfig := some x.config } ∧ { r with units := s.units } = s)
        ∧ (s.tallyRule u d = 0 → s.tick.running = true → Wrote i s slot (0x8100 + u) 1 1 fun r => r.tally u = t
          ∧ r.dict.deferred = (s.dict.deferred.filter fun e => !(Deferred.write (0x8100 + u) 1 (.bytes d)).replaces e)
            ++ [.write (0x8100 + u) 1 (.bytes d)]))
    ∧ (∀ slot, Accepts s slot opCommand (0x8100 + u) 2 → Answers (.tallyClear slot u) s slot opCommand (0x8100 + u) 2 0 fun r =>
        r.tally u = { t with clearDue := true } ∧ { r with units := s.units } = s ∧ ∀ j, j ≠ u.val → r.tally j = s.tally j)
    ∧ ∀ slot, Accepts s slot opCommand 0x8002 0 → Answers (.tallyClearAll slot) s slot opCommand 0x8002 0 0 fun r =>
        { r with units := s.units } = s ∧ ∀ j, j < 288 → r.tally j = { s.tally j with clearDue := true }
end

