-- ==== Sys2Proof/Laws/Tab.lean ====
section
/-! SUPPORT. Laws of the sparse stores: read after write holds of every list, and writing keeps the canonical form. -/

namespace Sys2Proof.Machine

theorem tabGet_nil {α : Type} (d : Nat → α) (k : Nat) : tabGet d [] k = d k := rfl

theorem tabGet_tabDrop_same {α : Type} (d : Nat → α) (t : Tab α) (k : Nat) : tabGet d (tabDrop t k) k = d k := by
  induction t with
  | nil => rfl
  | cons e t ih => simp only [tabDrop]; split <;> simp_all [tabGet]

theorem tabGet_tabDrop_ne {α : Type} (d : Nat → α) (t : Tab α) {j k : Nat} (h : j ≠ k) :
    tabGet d (tabDrop t k) j = tabGet d t j := by
  induction t with
  | nil => rfl
  | cons e t ih =>
    simp only [tabDrop]
    split
    · next he => simp [tabGet, ih, ← he, h]
    · simp [tabGet, ih]

theorem tabGet_tabPut_same {α : Type} (d : Nat → α) (t : Tab α) (k : Nat) (v : α) : tabGet d (tabPut t k v) k = v := by
  induction t with
  | nil => simp [tabPut, tabGet]
  | cons e t ih =>
    simp only [tabPut]
    split
    · simp [tabGet]
    · split <;> simp_all [tabGet]

theorem tabGet_tabPut_ne {α : Type} (d : Nat → α) (t : Tab α) {j k : Nat} (v : α) (h : j ≠ k) :
    tabGet d (tabPut t k v) j = tabGet d t j := by
  induction t with
  | nil => simp [tabPut, tabGet, h]
  | cons e t ih =>
    simp only [tabPut]
    split
    · simp [tabGet, h]
    · split
      · next he => simp [tabGet, ← he, h]
      · simp [tabGet, ih]

/-- Reading what was just written. -/
@[simp] theorem tabGet_tabSet_same {α : Type} [DecidableEq α] (d : Nat → α) (t : Tab α) (k : Nat) (v : α) :
    tabGet d (tabSet d t k v) k = v := by
  unfold tabSet
  split
  · next h => rw [tabGet_tabDrop_same, h]
  · exact tabGet_tabPut_same d t k v

/-- A write leaves every other key alone. -/
theorem tabGet_tabSet_ne {α : Type} [DecidableEq α] (d : Nat → α) (t : Tab α) {j k : Nat} (v : α) (h : j ≠ k) :
    tabGet d (tabSet d t k v) j = tabGet d t j := by
  unfold tabSet
  split
  · exact tabGet_tabDrop_ne d t h
  · exact tabGet_tabPut_ne d t v h

/-- Read after write, both cases. -/
theorem tabGet_tabSet {α : Type} [DecidableEq α] (d : Nat → α) (t : Tab α) (j k : Nat) (v : α) :
    tabGet d (tabSet d t k v) j = if j = k then v else tabGet d t j := by
  split
  · next h => subst h; simp
  · next h => exact tabGet_tabSet_ne d t v h

/-! ## The canonical form -/

theorem tabWfFrom_mono {α : Type} [DecidableEq α] {d : Nat → α} {t : Tab α} {b c : Nat} (hc : c ≤ b)
    (h : tabWfFrom d b t = true) : tabWfFrom d c t = true := by
  cases t with
  | nil => rfl
  | cons e t => simp only [tabWfFrom, Bool.and_eq_true, decide_eq_true_eq] at h ⊢; exact ⟨⟨Nat.le_trans hc h.1.1, h.1.2⟩, h.2⟩

theorem tabWfFrom_tabDrop {α : Type} [DecidableEq α] {d : Nat → α} {t : Tab α} (k : Nat) {b : Nat}
    (h : tabWfFrom d b t = true) : tabWfFrom d b (tabDrop t k) = true := by
  induction t generalizing b with
  | nil => rfl
  | cons e t ih =>
    have h' := h
    simp only [tabWfFrom, Bool.and_eq_true, decide_eq_true_eq] at h'
    simp only [tabDrop]
    split
    · exact tabWfFrom_mono (by omega) (ih h'.2)
    · simp only [tabWfFrom, Bool.and_eq_true, decide_eq_true_eq]; exact ⟨h'.1, ih h'.2⟩

theorem tabWfFrom_tabPut {α : Type} [DecidableEq α] {d : Nat → α} {t : Tab α} {k : Nat} {v : α} {b : Nat}
    (hb : b ≤ k) (hv : v ≠ d k) (h : tabWfFrom d b t = true) : tabWfFrom d b (tabPut t k v) = true := by
  induction t generalizing b with
  | nil => simp [tabPut, tabWfFrom, hb, hv]
  | cons e t ih =>
    simp only [tabWfFrom, Bool.and_eq_true, decide_eq_true_eq] at h
    simp only [tabPut]
    split
    · simp only [tabWfFrom, Bool.and_eq_true, decide_eq_true_eq]; exact ⟨⟨hb, hv⟩, ⟨by omega, h.1.2⟩, h.2⟩
    · split
      · next he => simp only [tabWfFrom, Bool.and_eq_true, decide_eq_true_eq]; exact ⟨⟨hb, hv⟩, by rw [he]; exact h.2⟩
      · simp only [tabWfFrom, Bool.and_eq_true, decide_eq_true_eq]; exact ⟨h.1, ih (by omega) h.2⟩

/-- A write keeps the canonical form. -/
theorem tabWf_tabSet {α : Type} [DecidableEq α] {d : Nat → α} {t : Tab α} (k : Nat) (v : α) (h : tabWf d t = true) :
    tabWf d (tabSet d t k v) = true := by
  unfold tabWf tabSet at *
  split
  · exact tabWfFrom_tabDrop k h
  · next hv => exact tabWfFrom_tabPut (Nat.zero_le k) hv h

end Sys2Proof.Machine
end

