-- ==== Sys2Proof/Laws/State.lean ====
section
/-! SUPPORT. What each named operation leaves alone, field by field, and what it reads back. -/

namespace Sys2Proof.Machine

variable (s : State)

/-! ## setObj -/

@[simp] theorem State.setObj_pending (i j : Nat) (v : Value) : (s.setObj i j v).pending = s.pending := rfl
@[simp] theorem State.setObj_sent (i j : Nat) (v : Value) : (s.setObj i j v).sent = s.sent := rfl
@[simp] theorem State.setObj_clock (i j : Nat) (v : Value) : (s.setObj i j v).clock = s.clock := rfl
@[simp] theorem State.setObj_fresh (i j : Nat) (v : Value) : (s.setObj i j v).fresh = s.fresh := rfl
@[simp] theorem State.setObj_events (i j : Nat) (v : Value) : (s.setObj i j v).events = s.events := rfl
@[simp] theorem State.setObj_nextSeq (i j : Nat) (v : Value) : (s.setObj i j v).nextSeq = s.nextSeq := rfl
@[simp] theorem State.setObj_mem (i j : Nat) (v : Value) : (s.setObj i j v).mem = s.mem := rfl
@[simp] theorem State.setObj_pens (i j : Nat) (v : Value) : (s.setObj i j v).pens = s.pens := rfl
@[simp] theorem State.setObj_tiles (i j : Nat) (v : Value) : (s.setObj i j v).tiles = s.tiles := rfl
@[simp] theorem State.setObj_tick (i j : Nat) (v : Value) : (s.setObj i j v).tick = s.tick := rfl
@[simp] theorem State.setObj_drover (i j : Nat) (v : Value) : (s.setObj i j v).drover = s.drover := rfl
@[simp] theorem State.setObj_rings (i j : Nat) (v : Value) : (s.setObj i j v).rings = s.rings := rfl
@[simp] theorem State.setObj_rxLanes (i j : Nat) (v : Value) : (s.setObj i j v).rxLanes = s.rxLanes := rfl
@[simp] theorem State.setObj_txLanes (i j : Nat) (v : Value) : (s.setObj i j v).txLanes = s.txLanes := rfl
@[simp] theorem State.setObj_fibers (i j : Nat) (v : Value) : (s.setObj i j v).fibers = s.fibers := rfl
@[simp] theorem State.setObj_lasers (i j : Nat) (v : Value) : (s.setObj i j v).lasers = s.lasers := rfl
@[simp] theorem State.setObj_oes (i j : Nat) (v : Value) : (s.setObj i j v).oes = s.oes := rfl
@[simp] theorem State.setObj_test (i j : Nat) (v : Value) : (s.setObj i j v).test = s.test := rfl
@[simp] theorem State.setObj_links (i j : Nat) (v : Value) : (s.setObj i j v).links = s.links := rfl
@[simp] theorem State.setObj_gallery (i j : Nat) (v : Value) : (s.setObj i j v).gallery = s.gallery := rfl
@[simp] theorem State.setObj_eth (i j : Nat) (v : Value) : (s.setObj i j v).eth = s.eth := rfl
@[simp] theorem State.setObj_service (i j : Nat) (v : Value) : (s.setObj i j v).service = s.service := rfl
@[simp] theorem State.setObj_dict (i j : Nat) (v : Value) : (s.setObj i j v).dict = s.dict := rfl
@[simp] theorem State.setObj_boot (i j : Nat) (v : Value) : (s.setObj i j v).boot = s.boot := rfl
@[simp] theorem State.setObj_tap (i j : Nat) (v : Value) : (s.setObj i j v).tap = s.tap := rfl
@[simp] theorem State.setObj_nv (i j : Nat) (v : Value) : (s.setObj i j v).nv = s.nv := rfl
@[simp] theorem State.setObj_sec (i j : Nat) (v : Value) : (s.setObj i j v).sec = s.sec := rfl
@[simp] theorem State.setObj_units (i j : Nat) (v : Value) : (s.setObj i j v).units = s.units := rfl
@[simp] theorem State.setObj_stagingInForce (i j : Nat) (v : Value) : (s.setObj i j v).stagingInForce = s.stagingInForce := rfl
@[simp] theorem State.setObj_refills (i j : Nat) (v : Value) : (s.setObj i j v).refills = s.refills := rfl
@[simp] theorem State.setObj_macFault (i j : Nat) (v : Value) : (s.setObj i j v).macFault = s.macFault := rfl
@[simp] theorem State.setObj_badWords (i j : Nat) (v : Value) : (s.setObj i j v).badWords = s.badWords := rfl
@[simp] theorem State.setObj_alert (i j : Nat) (v : Value) : (s.setObj i j v).alert = s.alert := rfl

/-! ## setNum -/

@[simp] theorem State.setNum_pending (i j n : Nat) : (s.setNum i j n).pending = s.pending := rfl
@[simp] theorem State.setNum_sent (i j n : Nat) : (s.setNum i j n).sent = s.sent := rfl
@[simp] theorem State.setNum_clock (i j n : Nat) : (s.setNum i j n).clock = s.clock := rfl
@[simp] theorem State.setNum_fresh (i j n : Nat) : (s.setNum i j n).fresh = s.fresh := rfl
@[simp] theorem State.setNum_events (i j n : Nat) : (s.setNum i j n).events = s.events := rfl
@[simp] theorem State.setNum_nextSeq (i j n : Nat) : (s.setNum i j n).nextSeq = s.nextSeq := rfl
@[simp] theorem State.setNum_mem (i j n : Nat) : (s.setNum i j n).mem = s.mem := rfl
@[simp] theorem State.setNum_pens (i j n : Nat) : (s.setNum i j n).pens = s.pens := rfl
@[simp] theorem State.setNum_tiles (i j n : Nat) : (s.setNum i j n).tiles = s.tiles := rfl
@[simp] theorem State.setNum_tick (i j n : Nat) : (s.setNum i j n).tick = s.tick := rfl
@[simp] theorem State.setNum_drover (i j n : Nat) : (s.setNum i j n).drover = s.drover := rfl
@[simp] theorem State.setNum_rings (i j n : Nat) : (s.setNum i j n).rings = s.rings := rfl
@[simp] theorem State.setNum_rxLanes (i j n : Nat) : (s.setNum i j n).rxLanes = s.rxLanes := rfl
@[simp] theorem State.setNum_txLanes (i j n : Nat) : (s.setNum i j n).txLanes = s.txLanes := rfl
@[simp] theorem State.setNum_fibers (i j n : Nat) : (s.setNum i j n).fibers = s.fibers := rfl
@[simp] theorem State.setNum_lasers (i j n : Nat) : (s.setNum i j n).lasers = s.lasers := rfl
@[simp] theorem State.setNum_oes (i j n : Nat) : (s.setNum i j n).oes = s.oes := rfl
@[simp] theorem State.setNum_test (i j n : Nat) : (s.setNum i j n).test = s.test := rfl
@[simp] theorem State.setNum_links (i j n : Nat) : (s.setNum i j n).links = s.links := rfl
@[simp] theorem State.setNum_gallery (i j n : Nat) : (s.setNum i j n).gallery = s.gallery := rfl
@[simp] theorem State.setNum_eth (i j n : Nat) : (s.setNum i j n).eth = s.eth := rfl
@[simp] theorem State.setNum_service (i j n : Nat) : (s.setNum i j n).service = s.service := rfl
@[simp] theorem State.setNum_dict (i j n : Nat) : (s.setNum i j n).dict = s.dict := rfl
@[simp] theorem State.setNum_boot (i j n : Nat) : (s.setNum i j n).boot = s.boot := rfl
@[simp] theorem State.setNum_tap (i j n : Nat) : (s.setNum i j n).tap = s.tap := rfl
@[simp] theorem State.setNum_nv (i j n : Nat) : (s.setNum i j n).nv = s.nv := rfl
@[simp] theorem State.setNum_sec (i j n : Nat) : (s.setNum i j n).sec = s.sec := rfl
@[simp] theorem State.setNum_units (i j n : Nat) : (s.setNum i j n).units = s.units := rfl
@[simp] theorem State.setNum_stagingInForce (i j n : Nat) : (s.setNum i j n).stagingInForce = s.stagingInForce := rfl
@[simp] theorem State.setNum_refills (i j n : Nat) : (s.setNum i j n).refills = s.refills := rfl
@[simp] theorem State.setNum_macFault (i j n : Nat) : (s.setNum i j n).macFault = s.macFault := rfl
@[simp] theorem State.setNum_badWords (i j n : Nat) : (s.setNum i j n).badWords = s.badWords := rfl
@[simp] theorem State.setNum_alert (i j n : Nat) : (s.setNum i j n).alert = s.alert := rfl

/-! ## setBlob -/

@[simp] theorem State.setBlob_pending (i j : Nat) (b : List Byte) : (s.setBlob i j b).pending = s.pending := rfl
@[simp] theorem State.setBlob_sent (i j : Nat) (b : List Byte) : (s.setBlob i j b).sent = s.sent := rfl
@[simp] theorem State.setBlob_clock (i j : Nat) (b : List Byte) : (s.setBlob i j b).clock = s.clock := rfl
@[simp] theorem State.setBlob_fresh (i j : Nat) (b : List Byte) : (s.setBlob i j b).fresh = s.fresh := rfl
@[simp] theorem State.setBlob_events (i j : Nat) (b : List Byte) : (s.setBlob i j b).events = s.events := rfl
@[simp] theorem State.setBlob_nextSeq (i j : Nat) (b : List Byte) : (s.setBlob i j b).nextSeq = s.nextSeq := rfl
@[simp] theorem State.setBlob_mem (i j : Nat) (b : List Byte) : (s.setBlob i j b).mem = s.mem := rfl
@[simp] theorem State.setBlob_pens (i j : Nat) (b : List Byte) : (s.setBlob i j b).pens = s.pens := rfl
@[simp] theorem State.setBlob_tiles (i j : Nat) (b : List Byte) : (s.setBlob i j b).tiles = s.tiles := rfl
@[simp] theorem State.setBlob_tick (i j : Nat) (b : List Byte) : (s.setBlob i j b).tick = s.tick := rfl
@[simp] theorem State.setBlob_drover (i j : Nat) (b : List Byte) : (s.setBlob i j b).drover = s.drover := rfl
@[simp] theorem State.setBlob_rings (i j : Nat) (b : List Byte) : (s.setBlob i j b).rings = s.rings := rfl
@[simp] theorem State.setBlob_rxLanes (i j : Nat) (b : List Byte) : (s.setBlob i j b).rxLanes = s.rxLanes := rfl
@[simp] theorem State.setBlob_txLanes (i j : Nat) (b : List Byte) : (s.setBlob i j b).txLanes = s.txLanes := rfl
@[simp] theorem State.setBlob_fibers (i j : Nat) (b : List Byte) : (s.setBlob i j b).fibers = s.fibers := rfl
@[simp] theorem State.setBlob_lasers (i j : Nat) (b : List Byte) : (s.setBlob i j b).lasers = s.lasers := rfl
@[simp] theorem State.setBlob_oes (i j : Nat) (b : List Byte) : (s.setBlob i j b).oes = s.oes := rfl
@[simp] theorem State.setBlob_test (i j : Nat) (b : List Byte) : (s.setBlob i j b).test = s.test := rfl
@[simp] theorem State.setBlob_links (i j : Nat) (b : List Byte) : (s.setBlob i j b).links = s.links := rfl
@[simp] theorem State.setBlob_gallery (i j : Nat) (b : List Byte) : (s.setBlob i j b).gallery = s.gallery := rfl
@[simp] theorem State.setBlob_eth (i j : Nat) (b : List Byte) : (s.setBlob i j b).eth = s.eth := rfl
@[simp] theorem State.setBlob_service (i j : Nat) (b : List Byte) : (s.setBlob i j b).service = s.service := rfl
@[simp] theorem State.setBlob_dict (i j : Nat) (b : List Byte) : (s.setBlob i j b).dict = s.dict := rfl
@[simp] theorem State.setBlob_boot (i j : Nat) (b : List Byte) : (s.setBlob i j b).boot = s.boot := rfl
@[simp] theorem State.setBlob_tap (i j : Nat) (b : List Byte) : (s.setBlob i j b).tap = s.tap := rfl
@[simp] theorem State.setBlob_nv (i j : Nat) (b : List Byte) : (s.setBlob i j b).nv = s.nv := rfl
@[simp] theorem State.setBlob_sec (i j : Nat) (b : List Byte) : (s.setBlob i j b).sec = s.sec := rfl
@[simp] theorem State.setBlob_units (i j : Nat) (b : List Byte) : (s.setBlob i j b).units = s.units := rfl
@[simp] theorem State.setBlob_stagingInForce (i j : Nat) (b : List Byte) : (s.setBlob i j b).stagingInForce = s.stagingInForce := rfl
@[simp] theorem State.setBlob_refills (i j : Nat) (b : List Byte) : (s.setBlob i j b).refills = s.refills := rfl
@[simp] theorem State.setBlob_macFault (i j : Nat) (b : List Byte) : (s.setBlob i j b).macFault = s.macFault := rfl
@[simp] theorem State.setBlob_badWords (i j : Nat) (b : List Byte) : (s.setBlob i j b).badWords = s.badWords := rfl
@[simp] theorem State.setBlob_alert (i j : Nat) (b : List Byte) : (s.setBlob i j b).alert = s.alert := rfl

/-! ## setByte -/

@[simp] theorem State.setByte_pending (a : Nat) (b : Byte) : (s.setByte a b).pending = s.pending := rfl
@[simp] theorem State.setByte_sent (a : Nat) (b : Byte) : (s.setByte a b).sent = s.sent := rfl
@[simp] theorem State.setByte_clock (a : Nat) (b : Byte) : (s.setByte a b).clock = s.clock := rfl
@[simp] theorem State.setByte_fresh (a : Nat) (b : Byte) : (s.setByte a b).fresh = s.fresh := rfl
@[simp] theorem State.setByte_objs (a : Nat) (b : Byte) : (s.setByte a b).objs = s.objs := rfl
@[simp] theorem State.setByte_events (a : Nat) (b : Byte) : (s.setByte a b).events = s.events := rfl
@[simp] theorem State.setByte_nextSeq (a : Nat) (b : Byte) : (s.setByte a b).nextSeq = s.nextSeq := rfl
@[simp] theorem State.setByte_pens (a : Nat) (b : Byte) : (s.setByte a b).pens = s.pens := rfl
@[simp] theorem State.setByte_tiles (a : Nat) (b : Byte) : (s.setByte a b).tiles = s.tiles := rfl
@[simp] theorem State.setByte_tick (a : Nat) (b : Byte) : (s.setByte a b).tick = s.tick := rfl
@[simp] theorem State.setByte_drover (a : Nat) (b : Byte) : (s.setByte a b).drover = s.drover := rfl
@[simp] theorem State.setByte_rings (a : Nat) (b : Byte) : (s.setByte a b).rings = s.rings := rfl
@[simp] theorem State.setByte_rxLanes (a : Nat) (b : Byte) : (s.setByte a b).rxLanes = s.rxLanes := rfl
@[simp] theorem State.setByte_txLanes (a : Nat) (b : Byte) : (s.setByte a b).txLanes = s.txLanes := rfl
@[simp] theorem State.setByte_fibers (a : Nat) (b : Byte) : (s.setByte a b).fibers = s.fibers := rfl
@[simp] theorem State.setByte_lasers (a : Nat) (b : Byte) : (s.setByte a b).lasers = s.lasers := rfl
@[simp] theorem State.setByte_oes (a : Nat) (b : Byte) : (s.setByte a b).oes = s.oes := rfl
@[simp] theorem State.setByte_test (a : Nat) (b : Byte) : (s.setByte a b).test = s.test := rfl
@[simp] theorem State.setByte_links (a : Nat) (b : Byte) : (s.setByte a b).links = s.links := rfl
@[simp] theorem State.setByte_gallery (a : Nat) (b : Byte) : (s.setByte a b).gallery = s.gallery := rfl
@[simp] theorem State.setByte_eth (a : Nat) (b : Byte) : (s.setByte a b).eth = s.eth := rfl
@[simp] theorem State.setByte_service (a : Nat) (b : Byte) : (s.setByte a b).service = s.service := rfl
@[simp] theorem State.setByte_dict (a : Nat) (b : Byte) : (s.setByte a b).dict = s.dict := rfl
@[simp] theorem State.setByte_boot (a : Nat) (b : Byte) : (s.setByte a b).boot = s.boot := rfl
@[simp] theorem State.setByte_tap (a : Nat) (b : Byte) : (s.setByte a b).tap = s.tap := rfl
@[simp] theorem State.setByte_nv (a : Nat) (b : Byte) : (s.setByte a b).nv = s.nv := rfl
@[simp] theorem State.setByte_sec (a : Nat) (b : Byte) : (s.setByte a b).sec = s.sec := rfl
@[simp] theorem State.setByte_units (a : Nat) (b : Byte) : (s.setByte a b).units = s.units := rfl
@[simp] theorem State.setByte_stagingInForce (a : Nat) (b : Byte) : (s.setByte a b).stagingInForce = s.stagingInForce := rfl
@[simp] theorem State.setByte_refills (a : Nat) (b : Byte) : (s.setByte a b).refills = s.refills := rfl
@[simp] theorem State.setByte_macFault (a : Nat) (b : Byte) : (s.setByte a b).macFault = s.macFault := rfl
@[simp] theorem State.setByte_badWords (a : Nat) (b : Byte) : (s.setByte a b).badWords = s.badWords := rfl
@[simp] theorem State.setByte_alert (a : Nat) (b : Byte) : (s.setByte a b).alert = s.alert := rfl

/-! ## write -/

@[simp] theorem State.write_pending (a : Nat) (b : List Byte) : (s.write a b).pending = s.pending := rfl
@[simp] theorem State.write_sent (a : Nat) (b : List Byte) : (s.write a b).sent = s.sent := rfl
@[simp] theorem State.write_clock (a : Nat) (b : List Byte) : (s.write a b).clock = s.clock := rfl
@[simp] theorem State.write_fresh (a : Nat) (b : List Byte) : (s.write a b).fresh = s.fresh := rfl
@[simp] theorem State.write_objs (a : Nat) (b : List Byte) : (s.write a b).objs = s.objs := rfl
@[simp] theorem State.write_events (a : Nat) (b : List Byte) : (s.write a b).events = s.events := rfl
@[simp] theorem State.write_nextSeq (a : Nat) (b : List Byte) : (s.write a b).nextSeq = s.nextSeq := rfl
@[simp] theorem State.write_pens (a : Nat) (b : List Byte) : (s.write a b).pens = s.pens := rfl
@[simp] theorem State.write_tiles (a : Nat) (b : List Byte) : (s.write a b).tiles = s.tiles := rfl
@[simp] theorem State.write_tick (a : Nat) (b : List Byte) : (s.write a b).tick = s.tick := rfl
@[simp] theorem State.write_drover (a : Nat) (b : List Byte) : (s.write a b).drover = s.drover := rfl
@[simp] theorem State.write_rings (a : Nat) (b : List Byte) : (s.write a b).rings = s.rings := rfl
@[simp] theorem State.write_rxLanes (a : Nat) (b : List Byte) : (s.write a b).rxLanes = s.rxLanes := rfl
@[simp] theorem State.write_txLanes (a : Nat) (b : List Byte) : (s.write a b).txLanes = s.txLanes := rfl
@[simp] theorem State.write_fibers (a : Nat) (b : List Byte) : (s.write a b).fibers = s.fibers := rfl
@[simp] theorem State.write_lasers (a : Nat) (b : List Byte) : (s.write a b).lasers = s.lasers := rfl
@[simp] theorem State.write_oes (a : Nat) (b : List Byte) : (s.write a b).oes = s.oes := rfl
@[simp] theorem State.write_test (a : Nat) (b : List Byte) : (s.write a b).test = s.test := rfl
@[simp] theorem State.write_links (a : Nat) (b : List Byte) : (s.write a b).links = s.links := rfl
@[simp] theorem State.write_gallery (a : Nat) (b : List Byte) : (s.write a b).gallery = s.gallery := rfl
@[simp] theorem State.write_eth (a : Nat) (b : List Byte) : (s.write a b).eth = s.eth := rfl
@[simp] theorem State.write_service (a : Nat) (b : List Byte) : (s.write a b).service = s.service := rfl
@[simp] theorem State.write_dict (a : Nat) (b : List Byte) : (s.write a b).dict = s.dict := rfl
@[simp] theorem State.write_boot (a : Nat) (b : List Byte) : (s.write a b).boot = s.boot := rfl
@[simp] theorem State.write_tap (a : Nat) (b : List Byte) : (s.write a b).tap = s.tap := rfl
@[simp] theorem State.write_nv (a : Nat) (b : List Byte) : (s.write a b).nv = s.nv := rfl
@[simp] theorem State.write_sec (a : Nat) (b : List Byte) : (s.write a b).sec = s.sec := rfl
@[simp] theorem State.write_units (a : Nat) (b : List Byte) : (s.write a b).units = s.units := rfl
@[simp] theorem State.write_stagingInForce (a : Nat) (b : List Byte) : (s.write a b).stagingInForce = s.stagingInForce := rfl
@[simp] theorem State.write_refills (a : Nat) (b : List Byte) : (s.write a b).refills = s.refills := rfl
@[simp] theorem State.write_macFault (a : Nat) (b : List Byte) : (s.write a b).macFault = s.macFault := rfl
@[simp] theorem State.write_badWords (a : Nat) (b : List Byte) : (s.write a b).badWords = s.badWords := rfl
@[simp] theorem State.write_alert (a : Nat) (b : List Byte) : (s.write a b).alert = s.alert := rfl

/-! ## setPen -/

@[simp] theorem State.setPen_pending (p : Nat) (v : Pen) : (s.setPen p v).pending = s.pending := rfl
@[simp] theorem State.setPen_sent (p : Nat) (v : Pen) : (s.setPen p v).sent = s.sent := rfl
@[simp] theorem State.setPen_clock (p : Nat) (v : Pen) : (s.setPen p v).clock = s.clock := rfl
@[simp] theorem State.setPen_fresh (p : Nat) (v : Pen) : (s.setPen p v).fresh = s.fresh := rfl
@[simp] theorem State.setPen_objs (p : Nat) (v : Pen) : (s.setPen p v).objs = s.objs := rfl
@[simp] theorem State.setPen_events (p : Nat) (v : Pen) : (s.setPen p v).events = s.events := rfl
@[simp] theorem State.setPen_nextSeq (p : Nat) (v : Pen) : (s.setPen p v).nextSeq = s.nextSeq := rfl
@[simp] theorem State.setPen_mem (p : Nat) (v : Pen) : (s.setPen p v).mem = s.mem := rfl
@[simp] theorem State.setPen_tiles (p : Nat) (v : Pen) : (s.setPen p v).tiles = s.tiles := rfl
@[simp] theorem State.setPen_tick (p : Nat) (v : Pen) : (s.setPen p v).tick = s.tick := rfl
@[simp] theorem State.setPen_drover (p : Nat) (v : Pen) : (s.setPen p v).drover = s.drover := rfl
@[simp] theorem State.setPen_rings (p : Nat) (v : Pen) : (s.setPen p v).rings = s.rings := rfl
@[simp] theorem State.setPen_rxLanes (p : Nat) (v : Pen) : (s.setPen p v).rxLanes = s.rxLanes := rfl
@[simp] theorem State.setPen_txLanes (p : Nat) (v : Pen) : (s.setPen p v).txLanes = s.txLanes := rfl
@[simp] theorem State.setPen_fibers (p : Nat) (v : Pen) : (s.setPen p v).fibers = s.fibers := rfl
@[simp] theorem State.setPen_lasers (p : Nat) (v : Pen) : (s.setPen p v).lasers = s.lasers := rfl
@[simp] theorem State.setPen_oes (p : Nat) (v : Pen) : (s.setPen p v).oes = s.oes := rfl
@[simp] theorem State.setPen_test (p : Nat) (v : Pen) : (s.setPen p v).test = s.test := rfl
@[simp] theorem State.setPen_links (p : Nat) (v : Pen) : (s.setPen p v).links = s.links := rfl
@[simp] theorem State.setPen_gallery (p : Nat) (v : Pen) : (s.setPen p v).gallery = s.gallery := rfl
@[simp] theorem State.setPen_eth (p : Nat) (v : Pen) : (s.setPen p v).eth = s.eth := rfl
@[simp] theorem State.setPen_service (p : Nat) (v : Pen) : (s.setPen p v).service = s.service := rfl
@[simp] theorem State.setPen_dict (p : Nat) (v : Pen) : (s.setPen p v).dict = s.dict := rfl
@[simp] theorem State.setPen_boot (p : Nat) (v : Pen) : (s.setPen p v).boot = s.boot := rfl
@[simp] theorem State.setPen_tap (p : Nat) (v : Pen) : (s.setPen p v).tap = s.tap := rfl
@[simp] theorem State.setPen_nv (p : Nat) (v : Pen) : (s.setPen p v).nv = s.nv := rfl
@[simp] theorem State.setPen_sec (p : Nat) (v : Pen) : (s.setPen p v).sec = s.sec := rfl
@[simp] theorem State.setPen_units (p : Nat) (v : Pen) : (s.setPen p v).units = s.units := rfl
@[simp] theorem State.setPen_stagingInForce (p : Nat) (v : Pen) : (s.setPen p v).stagingInForce = s.stagingInForce := rfl
@[simp] theorem State.setPen_refills (p : Nat) (v : Pen) : (s.setPen p v).refills = s.refills := rfl
@[simp] theorem State.setPen_macFault (p : Nat) (v : Pen) : (s.setPen p v).macFault = s.macFault := rfl
@[simp] theorem State.setPen_badWords (p : Nat) (v : Pen) : (s.setPen p v).badWords = s.badWords := rfl
@[simp] theorem State.setPen_alert (p : Nat) (v : Pen) : (s.setPen p v).alert = s.alert := rfl

/-! ## modPen -/

@[simp] theorem State.modPen_pending (p : Nat) (f : Pen → Pen) : (s.modPen p f).pending = s.pending := rfl
@[simp] theorem State.modPen_sent (p : Nat) (f : Pen → Pen) : (s.modPen p f).sent = s.sent := rfl
@[simp] theorem State.modPen_clock (p : Nat) (f : Pen → Pen) : (s.modPen p f).clock = s.clock := rfl
@[simp] theorem State.modPen_fresh (p : Nat) (f : Pen → Pen) : (s.modPen p f).fresh = s.fresh := rfl
@[simp] theorem State.modPen_objs (p : Nat) (f : Pen → Pen) : (s.modPen p f).objs = s.objs := rfl
@[simp] theorem State.modPen_events (p : Nat) (f : Pen → Pen) : (s.modPen p f).events = s.events := rfl
@[simp] theorem State.modPen_nextSeq (p : Nat) (f : Pen → Pen) : (s.modPen p f).nextSeq = s.nextSeq := rfl
@[simp] theorem State.modPen_mem (p : Nat) (f : Pen → Pen) : (s.modPen p f).mem = s.mem := rfl
@[simp] theorem State.modPen_tiles (p : Nat) (f : Pen → Pen) : (s.modPen p f).tiles = s.tiles := rfl
@[simp] theorem State.modPen_tick (p : Nat) (f : Pen → Pen) : (s.modPen p f).tick = s.tick := rfl
@[simp] theorem State.modPen_drover (p : Nat) (f : Pen → Pen) : (s.modPen p f).drover = s.drover := rfl
@[simp] theorem State.modPen_rings (p : Nat) (f : Pen → Pen) : (s.modPen p f).rings = s.rings := rfl
@[simp] theorem State.modPen_rxLanes (p : Nat) (f : Pen → Pen) : (s.modPen p f).rxLanes = s.rxLanes := rfl
@[simp] theorem State.modPen_txLanes (p : Nat) (f : Pen → Pen) : (s.modPen p f).txLanes = s.txLanes := rfl
@[simp] theorem State.modPen_fibers (p : Nat) (f : Pen → Pen) : (s.modPen p f).fibers = s.fibers := rfl
@[simp] theorem State.modPen_lasers (p : Nat) (f : Pen → Pen) : (s.modPen p f).lasers = s.lasers := rfl
@[simp] theorem State.modPen_oes (p : Nat) (f : Pen → Pen) : (s.modPen p f).oes = s.oes := rfl
@[simp] theorem State.modPen_test (p : Nat) (f : Pen → Pen) : (s.modPen p f).test = s.test := rfl
@[simp] theorem State.modPen_links (p : Nat) (f : Pen → Pen) : (s.modPen p f).links = s.links := rfl
@[simp] theorem State.modPen_gallery (p : Nat) (f : Pen → Pen) : (s.modPen p f).gallery = s.gallery := rfl
@[simp] theorem State.modPen_eth (p : Nat) (f : Pen → Pen) : (s.modPen p f).eth = s.eth := rfl
@[simp] theorem State.modPen_service (p : Nat) (f : Pen → Pen) : (s.modPen p f).service = s.service := rfl
@[simp] theorem State.modPen_dict (p : Nat) (f : Pen → Pen) : (s.modPen p f).dict = s.dict := rfl
@[simp] theorem State.modPen_boot (p : Nat) (f : Pen → Pen) : (s.modPen p f).boot = s.boot := rfl
@[simp] theorem State.modPen_tap (p : Nat) (f : Pen → Pen) : (s.modPen p f).tap = s.tap := rfl
@[simp] theorem State.modPen_nv (p : Nat) (f : Pen → Pen) : (s.modPen p f).nv = s.nv := rfl
@[simp] theorem State.modPen_sec (p : Nat) (f : Pen → Pen) : (s.modPen p f).sec = s.sec := rfl
@[simp] theorem State.modPen_units (p : Nat) (f : Pen → Pen) : (s.modPen p f).units = s.units := rfl
@[simp] theorem State.modPen_stagingInForce (p : Nat) (f : Pen → Pen) : (s.modPen p f).stagingInForce = s.stagingInForce := rfl
@[simp] theorem State.modPen_refills (p : Nat) (f : Pen → Pen) : (s.modPen p f).refills = s.refills := rfl
@[simp] theorem State.modPen_macFault (p : Nat) (f : Pen → Pen) : (s.modPen p f).macFault = s.macFault := rfl
@[simp] theorem State.modPen_badWords (p : Nat) (f : Pen → Pen) : (s.modPen p f).badWords = s.badWords := rfl
@[simp] theorem State.modPen_alert (p : Nat) (f : Pen → Pen) : (s.modPen p f).alert = s.alert := rfl

/-! ## setTile -/

@[simp] theorem State.setTile_pending (t : Nat) (v : Tile) : (s.setTile t v).pending = s.pending := rfl
@[simp] theorem State.setTile_sent (t : Nat) (v : Tile) : (s.setTile t v).sent = s.sent := rfl
@[simp] theorem State.setTile_clock (t : Nat) (v : Tile) : (s.setTile t v).clock = s.clock := rfl
@[simp] theorem State.setTile_fresh (t : Nat) (v : Tile) : (s.setTile t v).fresh = s.fresh := rfl
@[simp] theorem State.setTile_objs (t : Nat) (v : Tile) : (s.setTile t v).objs = s.objs := rfl
@[simp] theorem State.setTile_events (t : Nat) (v : Tile) : (s.setTile t v).events = s.events := rfl
@[simp] theorem State.setTile_nextSeq (t : Nat) (v : Tile) : (s.setTile t v).nextSeq = s.nextSeq := rfl
@[simp] theorem State.setTile_mem (t : Nat) (v : Tile) : (s.setTile t v).mem = s.mem := rfl
@[simp] theorem State.setTile_pens (t : Nat) (v : Tile) : (s.setTile t v).pens = s.pens := rfl
@[simp] theorem State.setTile_tick (t : Nat) (v : Tile) : (s.setTile t v).tick = s.tick := rfl
@[simp] theorem State.setTile_drover (t : Nat) (v : Tile) : (s.setTile t v).drover = s.drover := rfl
@[simp] theorem State.setTile_rings (t : Nat) (v : Tile) : (s.setTile t v).rings = s.rings := rfl
@[simp] theorem State.setTile_rxLanes (t : Nat) (v : Tile) : (s.setTile t v).rxLanes = s.rxLanes := rfl
@[simp] theorem State.setTile_txLanes (t : Nat) (v : Tile) : (s.setTile t v).txLanes = s.txLanes := rfl
@[simp] theorem State.setTile_fibers (t : Nat) (v : Tile) : (s.setTile t v).fibers = s.fibers := rfl
@[simp] theorem State.setTile_lasers (t : Nat) (v : Tile) : (s.setTile t v).lasers = s.lasers := rfl
@[simp] theorem State.setTile_oes (t : Nat) (v : Tile) : (s.setTile t v).oes = s.oes := rfl
@[simp] theorem State.setTile_test (t : Nat) (v : Tile) : (s.setTile t v).test = s.test := rfl
@[simp] theorem State.setTile_links (t : Nat) (v : Tile) : (s.setTile t v).links = s.links := rfl
@[simp] theorem State.setTile_gallery (t : Nat) (v : Tile) : (s.setTile t v).gallery = s.gallery := rfl
@[simp] theorem State.setTile_eth (t : Nat) (v : Tile) : (s.setTile t v).eth = s.eth := rfl
@[simp] theorem State.setTile_service (t : Nat) (v : Tile) : (s.setTile t v).service = s.service := rfl
@[simp] theorem State.setTile_dict (t : Nat) (v : Tile) : (s.setTile t v).dict = s.dict := rfl
@[simp] theorem State.setTile_boot (t : Nat) (v : Tile) : (s.setTile t v).boot = s.boot := rfl
@[simp] theorem State.setTile_tap (t : Nat) (v : Tile) : (s.setTile t v).tap = s.tap := rfl
@[simp] theorem State.setTile_nv (t : Nat) (v : Tile) : (s.setTile t v).nv = s.nv := rfl
@[simp] theorem State.setTile_sec (t : Nat) (v : Tile) : (s.setTile t v).sec = s.sec := rfl
@[simp] theorem State.setTile_units (t : Nat) (v : Tile) : (s.setTile t v).units = s.units := rfl
@[simp] theorem State.setTile_stagingInForce (t : Nat) (v : Tile) : (s.setTile t v).stagingInForce = s.stagingInForce := rfl
@[simp] theorem State.setTile_refills (t : Nat) (v : Tile) : (s.setTile t v).refills = s.refills := rfl
@[simp] theorem State.setTile_macFault (t : Nat) (v : Tile) : (s.setTile t v).macFault = s.macFault := rfl
@[simp] theorem State.setTile_badWords (t : Nat) (v : Tile) : (s.setTile t v).badWords = s.badWords := rfl
@[simp] theorem State.setTile_alert (t : Nat) (v : Tile) : (s.setTile t v).alert = s.alert := rfl

/-! ## modTile -/

@[simp] theorem State.modTile_pending (t : Nat) (f : Tile → Tile) : (s.modTile t f).pending = s.pending := rfl
@[simp] theorem State.modTile_sent (t : Nat) (f : Tile → Tile) : (s.modTile t f).sent = s.sent := rfl
@[simp] theorem State.modTile_clock (t : Nat) (f : Tile → Tile) : (s.modTile t f).clock = s.clock := rfl
@[simp] theorem State.modTile_fresh (t : Nat) (f : Tile → Tile) : (s.modTile t f).fresh = s.fresh := rfl
@[simp] theorem State.modTile_objs (t : Nat) (f : Tile → Tile) : (s.modTile t f).objs = s.objs := rfl
@[simp] theorem State.modTile_events (t : Nat) (f : Tile → Tile) : (s.modTile t f).events = s.events := rfl
@[simp] theorem State.modTile_nextSeq (t : Nat) (f : Tile → Tile) : (s.modTile t f).nextSeq = s.nextSeq := rfl
@[simp] theorem State.modTile_mem (t : Nat) (f : Tile → Tile) : (s.modTile t f).mem = s.mem := rfl
@[simp] theorem State.modTile_pens (t : Nat) (f : Tile → Tile) : (s.modTile t f).pens = s.pens := rfl
@[simp] theorem State.modTile_tick (t : Nat) (f : Tile → Tile) : (s.modTile t f).tick = s.tick := rfl
@[simp] theorem State.modTile_drover (t : Nat) (f : Tile → Tile) : (s.modTile t f).drover = s.drover := rfl
@[simp] theorem State.modTile_rings (t : Nat) (f : Tile → Tile) : (s.modTile t f).rings = s.rings := rfl
@[simp] theorem State.modTile_rxLanes (t : Nat) (f : Tile → Tile) : (s.modTile t f).rxLanes = s.rxLanes := rfl
@[simp] theorem State.modTile_txLanes (t : Nat) (f : Tile → Tile) : (s.modTile t f).txLanes = s.txLanes := rfl
@[simp] theorem State.modTile_fibers (t : Nat) (f : Tile → Tile) : (s.modTile t f).fibers = s.fibers := rfl
@[simp] theorem State.modTile_lasers (t : Nat) (f : Tile → Tile) : (s.modTile t f).lasers = s.lasers := rfl
@[simp] theorem State.modTile_oes (t : Nat) (f : Tile → Tile) : (s.modTile t f).oes = s.oes := rfl
@[simp] theorem State.modTile_test (t : Nat) (f : Tile → Tile) : (s.modTile t f).test = s.test := rfl
@[simp] theorem State.modTile_links (t : Nat) (f : Tile → Tile) : (s.modTile t f).links = s.links := rfl
@[simp] theorem State.modTile_gallery (t : Nat) (f : Tile → Tile) : (s.modTile t f).gallery = s.gallery := rfl
@[simp] theorem State.modTile_eth (t : Nat) (f : Tile → Tile) : (s.modTile t f).eth = s.eth := rfl
@[simp] theorem State.modTile_service (t : Nat) (f : Tile → Tile) : (s.modTile t f).service = s.service := rfl
@[simp] theorem State.modTile_dict (t : Nat) (f : Tile → Tile) : (s.modTile t f).dict = s.dict := rfl
@[simp] theorem State.modTile_boot (t : Nat) (f : Tile → Tile) : (s.modTile t f).boot = s.boot := rfl
@[simp] theorem State.modTile_tap (t : Nat) (f : Tile → Tile) : (s.modTile t f).tap = s.tap := rfl
@[simp] theorem State.modTile_nv (t : Nat) (f : Tile → Tile) : (s.modTile t f).nv = s.nv := rfl
@[simp] theorem State.modTile_sec (t : Nat) (f : Tile → Tile) : (s.modTile t f).sec = s.sec := rfl
@[simp] theorem State.modTile_units (t : Nat) (f : Tile → Tile) : (s.modTile t f).units = s.units := rfl
@[simp] theorem State.modTile_stagingInForce (t : Nat) (f : Tile → Tile) : (s.modTile t f).stagingInForce = s.stagingInForce := rfl
@[simp] theorem State.modTile_refills (t : Nat) (f : Tile → Tile) : (s.modTile t f).refills = s.refills := rfl
@[simp] theorem State.modTile_macFault (t : Nat) (f : Tile → Tile) : (s.modTile t f).macFault = s.macFault := rfl
@[simp] theorem State.modTile_badWords (t : Nat) (f : Tile → Tile) : (s.modTile t f).badWords = s.badWords := rfl
@[simp] theorem State.modTile_alert (t : Nat) (f : Tile → Tile) : (s.modTile t f).alert = s.alert := rfl

/-! ## modRing -/

@[simp] theorem State.modRing_pending (k : Nat) (f : RingSt → RingSt) : (s.modRing k f).pending = s.pending := rfl
@[simp] theorem State.modRing_sent (k : Nat) (f : RingSt → RingSt) : (s.modRing k f).sent = s.sent := rfl
@[simp] theorem State.modRing_clock (k : Nat) (f : RingSt → RingSt) : (s.modRing k f).clock = s.clock := rfl
@[simp] theorem State.modRing_fresh (k : Nat) (f : RingSt → RingSt) : (s.modRing k f).fresh = s.fresh := rfl
@[simp] theorem State.modRing_objs (k : Nat) (f : RingSt → RingSt) : (s.modRing k f).objs = s.objs := rfl
@[simp] theorem State.modRing_events (k : Nat) (f : RingSt → RingSt) : (s.modRing k f).events = s.events := rfl
@[simp] theorem State.modRing_nextSeq (k : Nat) (f : RingSt → RingSt) : (s.modRing k f).nextSeq = s.nextSeq := rfl
@[simp] theorem State.modRing_mem (k : Nat) (f : RingSt → RingSt) : (s.modRing k f).mem = s.mem := rfl
@[simp] theorem State.modRing_pens (k : Nat) (f : RingSt → RingSt) : (s.modRing k f).pens = s.pens := rfl
@[simp] theorem State.modRing_tiles (k : Nat) (f : RingSt → RingSt) : (s.modRing k f).tiles = s.tiles := rfl
@[simp] theorem State.modRing_tick (k : Nat) (f : RingSt → RingSt) : (s.modRing k f).tick = s.tick := rfl
@[simp] theorem State.modRing_drover (k : Nat) (f : RingSt → RingSt) : (s.modRing k f).drover = s.drover := rfl
@[simp] theorem State.modRing_rxLanes (k : Nat) (f : RingSt → RingSt) : (s.modRing k f).rxLanes = s.rxLanes := rfl
@[simp] theorem State.modRing_txLanes (k : Nat) (f : RingSt → RingSt) : (s.modRing k f).txLanes = s.txLanes := rfl
@[simp] theorem State.modRing_fibers (k : Nat) (f : RingSt → RingSt) : (s.modRing k f).fibers = s.fibers := rfl
@[simp] theorem State.modRing_lasers (k : Nat) (f : RingSt → RingSt) : (s.modRing k f).lasers = s.lasers := rfl
@[simp] theorem State.modRing_oes (k : Nat) (f : RingSt → RingSt) : (s.modRing k f).oes = s.oes := rfl
@[simp] theorem State.modRing_test (k : Nat) (f : RingSt → RingSt) : (s.modRing k f).test = s.test := rfl
@[simp] theorem State.modRing_links (k : Nat) (f : RingSt → RingSt) : (s.modRing k f).links = s.links := rfl
@[simp] theorem State.modRing_gallery (k : Nat) (f : RingSt → RingSt) : (s.modRing k f).gallery = s.gallery := rfl
@[simp] theorem State.modRing_eth (k : Nat) (f : RingSt → RingSt) : (s.modRing k f).eth = s.eth := rfl
@[simp] theorem State.modRing_service (k : Nat) (f : RingSt → RingSt) : (s.modRing k f).service = s.service := rfl
@[simp] theorem State.modRing_dict (k : Nat) (f : RingSt → RingSt) : (s.modRing k f).dict = s.dict := rfl
@[simp] theorem State.modRing_boot (k : Nat) (f : RingSt → RingSt) : (s.modRing k f).boot = s.boot := rfl
@[simp] theorem State.modRing_tap (k : Nat) (f : RingSt → RingSt) : (s.modRing k f).tap = s.tap := rfl
@[simp] theorem State.modRing_nv (k : Nat) (f : RingSt → RingSt) : (s.modRing k f).nv = s.nv := rfl
@[simp] theorem State.modRing_sec (k : Nat) (f : RingSt → RingSt) : (s.modRing k f).sec = s.sec := rfl
@[simp] theorem State.modRing_units (k : Nat) (f : RingSt → RingSt) : (s.modRing k f).units = s.units := rfl
@[simp] theorem State.modRing_stagingInForce (k : Nat) (f : RingSt → RingSt) : (s.modRing k f).stagingInForce = s.stagingInForce := rfl
@[simp] theorem State.modRing_refills (k : Nat) (f : RingSt → RingSt) : (s.modRing k f).refills = s.refills := rfl
@[simp] theorem State.modRing_macFault (k : Nat) (f : RingSt → RingSt) : (s.modRing k f).macFault = s.macFault := rfl
@[simp] theorem State.modRing_badWords (k : Nat) (f : RingSt → RingSt) : (s.modRing k f).badWords = s.badWords := rfl
@[simp] theorem State.modRing_alert (k : Nat) (f : RingSt → RingSt) : (s.modRing k f).alert = s.alert := rfl

/-! ## modRxLane -/

@[simp] theorem State.modRxLane_pending (a b : Nat) (f : LaneSt → LaneSt) : (s.modRxLane a b f).pending = s.pending := rfl
@[simp] theorem State.modRxLane_sent (a b : Nat) (f : LaneSt → LaneSt) : (s.modRxLane a b f).sent = s.sent := rfl
@[simp] theorem State.modRxLane_clock (a b : Nat) (f : LaneSt → LaneSt) : (s.modRxLane a b f).clock = s.clock := rfl
@[simp] theorem State.modRxLane_fresh (a b : Nat) (f : LaneSt → LaneSt) : (s.modRxLane a b f).fresh = s.fresh := rfl
@[simp] theorem State.modRxLane_objs (a b : Nat) (f : LaneSt → LaneSt) : (s.modRxLane a b f).objs = s.objs := rfl
@[simp] theorem State.modRxLane_events (a b : Nat) (f : LaneSt → LaneSt) : (s.modRxLane a b f).events = s.events := rfl
@[simp] theorem State.modRxLane_nextSeq (a b : Nat) (f : LaneSt → LaneSt) : (s.modRxLane a b f).nextSeq = s.nextSeq := rfl
@[simp] theorem State.modRxLane_mem (a b : Nat) (f : LaneSt → LaneSt) : (s.modRxLane a b f).mem = s.mem := rfl
@[simp] theorem State.modRxLane_pens (a b : Nat) (f : LaneSt → LaneSt) : (s.modRxLane a b f).pens = s.pens := rfl
@[simp] theorem State.modRxLane_tiles (a b : Nat) (f : LaneSt → LaneSt) : (s.modRxLane a b f).tiles = s.tiles := rfl
@[simp] theorem State.modRxLane_tick (a b : Nat) (f : LaneSt → LaneSt) : (s.modRxLane a b f).tick = s.tick := rfl
@[simp] theorem State.modRxLane_drover (a b : Nat) (f : LaneSt → LaneSt) : (s.modRxLane a b f).drover = s.drover := rfl
@[simp] theorem State.modRxLane_rings (a b : Nat) (f : LaneSt → LaneSt) : (s.modRxLane a b f).rings = s.rings := rfl
@[simp] theorem State.modRxLane_txLanes (a b : Nat) (f : LaneSt → LaneSt) : (s.modRxLane a b f).txLanes = s.txLanes := rfl
@[simp] theorem State.modRxLane_fibers (a b : Nat) (f : LaneSt → LaneSt) : (s.modRxLane a b f).fibers = s.fibers := rfl
@[simp] theorem State.modRxLane_lasers (a b : Nat) (f : LaneSt → LaneSt) : (s.modRxLane a b f).lasers = s.lasers := rfl
@[simp] theorem State.modRxLane_oes (a b : Nat) (f : LaneSt → LaneSt) : (s.modRxLane a b f).oes = s.oes := rfl
@[simp] theorem State.modRxLane_test (a b : Nat) (f : LaneSt → LaneSt) : (s.modRxLane a b f).test = s.test := rfl
@[simp] theorem State.modRxLane_links (a b : Nat) (f : LaneSt → LaneSt) : (s.modRxLane a b f).links = s.links := rfl
@[simp] theorem State.modRxLane_gallery (a b : Nat) (f : LaneSt → LaneSt) : (s.modRxLane a b f).gallery = s.gallery := rfl
@[simp] theorem State.modRxLane_eth (a b : Nat) (f : LaneSt → LaneSt) : (s.modRxLane a b f).eth = s.eth := rfl
@[simp] theorem State.modRxLane_service (a b : Nat) (f : LaneSt → LaneSt) : (s.modRxLane a b f).service = s.service := rfl
@[simp] theorem State.modRxLane_dict (a b : Nat) (f : LaneSt → LaneSt) : (s.modRxLane a b f).dict = s.dict := rfl
@[simp] theorem State.modRxLane_boot (a b : Nat) (f : LaneSt → LaneSt) : (s.modRxLane a b f).boot = s.boot := rfl
@[simp] theorem State.modRxLane_tap (a b : Nat) (f : LaneSt → LaneSt) : (s.modRxLane a b f).tap = s.tap := rfl
@[simp] theorem State.modRxLane_nv (a b : Nat) (f : LaneSt → LaneSt) : (s.modRxLane a b f).nv = s.nv := rfl
@[simp] theorem State.modRxLane_sec (a b : Nat) (f : LaneSt → LaneSt) : (s.modRxLane a b f).sec = s.sec := rfl
@[simp] theorem State.modRxLane_units (a b : Nat) (f : LaneSt → LaneSt) : (s.modRxLane a b f).units = s.units := rfl
@[simp] theorem State.modRxLane_stagingInForce (a b : Nat) (f : LaneSt → LaneSt) : (s.modRxLane a b f).stagingInForce = s.stagingInForce := rfl
@[simp] theorem State.modRxLane_refills (a b : Nat) (f : LaneSt → LaneSt) : (s.modRxLane a b f).refills = s.refills := rfl
@[simp] theorem State.modRxLane_macFault (a b : Nat) (f : LaneSt → LaneSt) : (s.modRxLane a b f).macFault = s.macFault := rfl
@[simp] theorem State.modRxLane_badWords (a b : Nat) (f : LaneSt → LaneSt) : (s.modRxLane a b f).badWords = s.badWords := rfl
@[simp] theorem State.modRxLane_alert (a b : Nat) (f : LaneSt → LaneSt) : (s.modRxLane a b f).alert = s.alert := rfl

/-! ## modTxLane -/

@[simp] theorem State.modTxLane_pending (a b : Nat) (f : LaneSt → LaneSt) : (s.modTxLane a b f).pending = s.pending := rfl
@[simp] theorem State.modTxLane_sent (a b : Nat) (f : LaneSt → LaneSt) : (s.modTxLane a b f).sent = s.sent := rfl
@[simp] theorem State.modTxLane_clock (a b : Nat) (f : LaneSt → LaneSt) : (s.modTxLane a b f).clock = s.clock := rfl
@[simp] theorem State.modTxLane_fresh (a b : Nat) (f : LaneSt → LaneSt) : (s.modTxLane a b f).fresh = s.fresh := rfl
@[simp] theorem State.modTxLane_objs (a b : Nat) (f : LaneSt → LaneSt) : (s.modTxLane a b f).objs = s.objs := rfl
@[simp] theorem State.modTxLane_events (a b : Nat) (f : LaneSt → LaneSt) : (s.modTxLane a b f).events = s.events := rfl
@[simp] theorem State.modTxLane_nextSeq (a b : Nat) (f : LaneSt → LaneSt) : (s.modTxLane a b f).nextSeq = s.nextSeq := rfl
@[simp] theorem State.modTxLane_mem (a b : Nat) (f : LaneSt → LaneSt) : (s.modTxLane a b f).mem = s.mem := rfl
@[simp] theorem State.modTxLane_pens (a b : Nat) (f : LaneSt → LaneSt) : (s.modTxLane a b f).pens = s.pens := rfl
@[simp] theorem State.modTxLane_tiles (a b : Nat) (f : LaneSt → LaneSt) : (s.modTxLane a b f).tiles = s.tiles := rfl
@[simp] theorem State.modTxLane_tick (a b : Nat) (f : LaneSt → LaneSt) : (s.modTxLane a b f).tick = s.tick := rfl
@[simp] theorem State.modTxLane_drover (a b : Nat) (f : LaneSt → LaneSt) : (s.modTxLane a b f).drover = s.drover := rfl
@[simp] theorem State.modTxLane_rings (a b : Nat) (f : LaneSt → LaneSt) : (s.modTxLane a b f).rings = s.rings := rfl
@[simp] theorem State.modTxLane_rxLanes (a b : Nat) (f : LaneSt → LaneSt) : (s.modTxLane a b f).rxLanes = s.rxLanes := rfl
@[simp] theorem State.modTxLane_fibers (a b : Nat) (f : LaneSt → LaneSt) : (s.modTxLane a b f).fibers = s.fibers := rfl
@[simp] theorem State.modTxLane_lasers (a b : Nat) (f : LaneSt → LaneSt) : (s.modTxLane a b f).lasers = s.lasers := rfl
@[simp] theorem State.modTxLane_oes (a b : Nat) (f : LaneSt → LaneSt) : (s.modTxLane a b f).oes = s.oes := rfl
@[simp] theorem State.modTxLane_test (a b : Nat) (f : LaneSt → LaneSt) : (s.modTxLane a b f).test = s.test := rfl
@[simp] theorem State.modTxLane_links (a b : Nat) (f : LaneSt → LaneSt) : (s.modTxLane a b f).links = s.links := rfl
@[simp] theorem State.modTxLane_gallery (a b : Nat) (f : LaneSt → LaneSt) : (s.modTxLane a b f).gallery = s.gallery := rfl
@[simp] theorem State.modTxLane_eth (a b : Nat) (f : LaneSt → LaneSt) : (s.modTxLane a b f).eth = s.eth := rfl
@[simp] theorem State.modTxLane_service (a b : Nat) (f : LaneSt → LaneSt) : (s.modTxLane a b f).service = s.service := rfl
@[simp] theorem State.modTxLane_dict (a b : Nat) (f : LaneSt → LaneSt) : (s.modTxLane a b f).dict = s.dict := rfl
@[simp] theorem State.modTxLane_boot (a b : Nat) (f : LaneSt → LaneSt) : (s.modTxLane a b f).boot = s.boot := rfl
@[simp] theorem State.modTxLane_tap (a b : Nat) (f : LaneSt → LaneSt) : (s.modTxLane a b f).tap = s.tap := rfl
@[simp] theorem State.modTxLane_nv (a b : Nat) (f : LaneSt → LaneSt) : (s.modTxLane a b f).nv = s.nv := rfl
@[simp] theorem State.modTxLane_sec (a b : Nat) (f : LaneSt → LaneSt) : (s.modTxLane a b f).sec = s.sec := rfl
@[simp] theorem State.modTxLane_units (a b : Nat) (f : LaneSt → LaneSt) : (s.modTxLane a b f).units = s.units := rfl
@[simp] theorem State.modTxLane_stagingInForce (a b : Nat) (f : LaneSt → LaneSt) : (s.modTxLane a b f).stagingInForce = s.stagingInForce := rfl
@[simp] theorem State.modTxLane_refills (a b : Nat) (f : LaneSt → LaneSt) : (s.modTxLane a b f).refills = s.refills := rfl
@[simp] theorem State.modTxLane_macFault (a b : Nat) (f : LaneSt → LaneSt) : (s.modTxLane a b f).macFault = s.macFault := rfl
@[simp] theorem State.modTxLane_badWords (a b : Nat) (f : LaneSt → LaneSt) : (s.modTxLane a b f).badWords = s.badWords := rfl
@[simp] theorem State.modTxLane_alert (a b : Nat) (f : LaneSt → LaneSt) : (s.modTxLane a b f).alert = s.alert := rfl

/-! ## modFiber -/

@[simp] theorem State.modFiber_pending (k : Nat) (f : FiberSt → FiberSt) : (s.modFiber k f).pending = s.pending := rfl
@[simp] theorem State.modFiber_sent (k : Nat) (f : FiberSt → FiberSt) : (s.modFiber k f).sent = s.sent := rfl
@[simp] theorem State.modFiber_clock (k : Nat) (f : FiberSt → FiberSt) : (s.modFiber k f).clock = s.clock := rfl
@[simp] theorem State.modFiber_fresh (k : Nat) (f : FiberSt → FiberSt) : (s.modFiber k f).fresh = s.fresh := rfl
@[simp] theorem State.modFiber_objs (k : Nat) (f : FiberSt → FiberSt) : (s.modFiber k f).objs = s.objs := rfl
@[simp] theorem State.modFiber_events (k : Nat) (f : FiberSt → FiberSt) : (s.modFiber k f).events = s.events := rfl
@[simp] theorem State.modFiber_nextSeq (k : Nat) (f : FiberSt → FiberSt) : (s.modFiber k f).nextSeq = s.nextSeq := rfl
@[simp] theorem State.modFiber_mem (k : Nat) (f : FiberSt → FiberSt) : (s.modFiber k f).mem = s.mem := rfl
@[simp] theorem State.modFiber_pens (k : Nat) (f : FiberSt → FiberSt) : (s.modFiber k f).pens = s.pens := rfl
@[simp] theorem State.modFiber_tiles (k : Nat) (f : FiberSt → FiberSt) : (s.modFiber k f).tiles = s.tiles := rfl
@[simp] theorem State.modFiber_tick (k : Nat) (f : FiberSt → FiberSt) : (s.modFiber k f).tick = s.tick := rfl
@[simp] theorem State.modFiber_drover (k : Nat) (f : FiberSt → FiberSt) : (s.modFiber k f).drover = s.drover := rfl
@[simp] theorem State.modFiber_rings (k : Nat) (f : FiberSt → FiberSt) : (s.modFiber k f).rings = s.rings := rfl
@[simp] theorem State.modFiber_rxLanes (k : Nat) (f : FiberSt → FiberSt) : (s.modFiber k f).rxLanes = s.rxLanes := rfl
@[simp] theorem State.modFiber_txLanes (k : Nat) (f : FiberSt → FiberSt) : (s.modFiber k f).txLanes = s.txLanes := rfl
@[simp] theorem State.modFiber_lasers (k : Nat) (f : FiberSt → FiberSt) : (s.modFiber k f).lasers = s.lasers := rfl
@[simp] theorem State.modFiber_oes (k : Nat) (f : FiberSt → FiberSt) : (s.modFiber k f).oes = s.oes := rfl
@[simp] theorem State.modFiber_test (k : Nat) (f : FiberSt → FiberSt) : (s.modFiber k f).test = s.test := rfl
@[simp] theorem State.modFiber_links (k : Nat) (f : FiberSt → FiberSt) : (s.modFiber k f).links = s.links := rfl
@[simp] theorem State.modFiber_gallery (k : Nat) (f : FiberSt → FiberSt) : (s.modFiber k f).gallery = s.gallery := rfl
@[simp] theorem State.modFiber_eth (k : Nat) (f : FiberSt → FiberSt) : (s.modFiber k f).eth = s.eth := rfl
@[simp] theorem State.modFiber_service (k : Nat) (f : FiberSt → FiberSt) : (s.modFiber k f).service = s.service := rfl
@[simp] theorem State.modFiber_dict (k : Nat) (f : FiberSt → FiberSt) : (s.modFiber k f).dict = s.dict := rfl
@[simp] theorem State.modFiber_boot (k : Nat) (f : FiberSt → FiberSt) : (s.modFiber k f).boot = s.boot := rfl
@[simp] theorem State.modFiber_tap (k : Nat) (f : FiberSt → FiberSt) : (s.modFiber k f).tap = s.tap := rfl
@[simp] theorem State.modFiber_nv (k : Nat) (f : FiberSt → FiberSt) : (s.modFiber k f).nv = s.nv := rfl
@[simp] theorem State.modFiber_sec (k : Nat) (f : FiberSt → FiberSt) : (s.modFiber k f).sec = s.sec := rfl
@[simp] theorem State.modFiber_units (k : Nat) (f : FiberSt → FiberSt) : (s.modFiber k f).units = s.units := rfl
@[simp] theorem State.modFiber_stagingInForce (k : Nat) (f : FiberSt → FiberSt) : (s.modFiber k f).stagingInForce = s.stagingInForce := rfl
@[simp] theorem State.modFiber_refills (k : Nat) (f : FiberSt → FiberSt) : (s.modFiber k f).refills = s.refills := rfl
@[simp] theorem State.modFiber_macFault (k : Nat) (f : FiberSt → FiberSt) : (s.modFiber k f).macFault = s.macFault := rfl
@[simp] theorem State.modFiber_badWords (k : Nat) (f : FiberSt → FiberSt) : (s.modFiber k f).badWords = s.badWords := rfl
@[simp] theorem State.modFiber_alert (k : Nat) (f : FiberSt → FiberSt) : (s.modFiber k f).alert = s.alert := rfl

/-! ## modLaser -/

@[simp] theorem State.modLaser_pending (a b : Nat) (f : LaserSt → LaserSt) : (s.modLaser a b f).pending = s.pending := rfl
@[simp] theorem State.modLaser_sent (a b : Nat) (f : LaserSt → LaserSt) : (s.modLaser a b f).sent = s.sent := rfl
@[simp] theorem State.modLaser_clock (a b : Nat) (f : LaserSt → LaserSt) : (s.modLaser a b f).clock = s.clock := rfl
@[simp] theorem State.modLaser_fresh (a b : Nat) (f : LaserSt → LaserSt) : (s.modLaser a b f).fresh = s.fresh := rfl
@[simp] theorem State.modLaser_objs (a b : Nat) (f : LaserSt → LaserSt) : (s.modLaser a b f).objs = s.objs := rfl
@[simp] theorem State.modLaser_events (a b : Nat) (f : LaserSt → LaserSt) : (s.modLaser a b f).events = s.events := rfl
@[simp] theorem State.modLaser_nextSeq (a b : Nat) (f : LaserSt → LaserSt) : (s.modLaser a b f).nextSeq = s.nextSeq := rfl
@[simp] theorem State.modLaser_mem (a b : Nat) (f : LaserSt → LaserSt) : (s.modLaser a b f).mem = s.mem := rfl
@[simp] theorem State.modLaser_pens (a b : Nat) (f : LaserSt → LaserSt) : (s.modLaser a b f).pens = s.pens := rfl
@[simp] theorem State.modLaser_tiles (a b : Nat) (f : LaserSt → LaserSt) : (s.modLaser a b f).tiles = s.tiles := rfl
@[simp] theorem State.modLaser_tick (a b : Nat) (f : LaserSt → LaserSt) : (s.modLaser a b f).tick = s.tick := rfl
@[simp] theorem State.modLaser_drover (a b : Nat) (f : LaserSt → LaserSt) : (s.modLaser a b f).drover = s.drover := rfl
@[simp] theorem State.modLaser_rings (a b : Nat) (f : LaserSt → LaserSt) : (s.modLaser a b f).rings = s.rings := rfl
@[simp] theorem State.modLaser_rxLanes (a b : Nat) (f : LaserSt → LaserSt) : (s.modLaser a b f).rxLanes = s.rxLanes := rfl
@[simp] theorem State.modLaser_txLanes (a b : Nat) (f : LaserSt → LaserSt) : (s.modLaser a b f).txLanes = s.txLanes := rfl
@[simp] theorem State.modLaser_fibers (a b : Nat) (f : LaserSt → LaserSt) : (s.modLaser a b f).fibers = s.fibers := rfl
@[simp] theorem State.modLaser_oes (a b : Nat) (f : LaserSt → LaserSt) : (s.modLaser a b f).oes = s.oes := rfl
@[simp] theorem State.modLaser_test (a b : Nat) (f : LaserSt → LaserSt) : (s.modLaser a b f).test = s.test := rfl
@[simp] theorem State.modLaser_links (a b : Nat) (f : LaserSt → LaserSt) : (s.modLaser a b f).links = s.links := rfl
@[simp] theorem State.modLaser_gallery (a b : Nat) (f : LaserSt → LaserSt) : (s.modLaser a b f).gallery = s.gallery := rfl
@[simp] theorem State.modLaser_eth (a b : Nat) (f : LaserSt → LaserSt) : (s.modLaser a b f).eth = s.eth := rfl
@[simp] theorem State.modLaser_service (a b : Nat) (f : LaserSt → LaserSt) : (s.modLaser a b f).service = s.service := rfl
@[simp] theorem State.modLaser_dict (a b : Nat) (f : LaserSt → LaserSt) : (s.modLaser a b f).dict = s.dict := rfl
@[simp] theorem State.modLaser_boot (a b : Nat) (f : LaserSt → LaserSt) : (s.modLaser a b f).boot = s.boot := rfl
@[simp] theorem State.modLaser_tap (a b : Nat) (f : LaserSt → LaserSt) : (s.modLaser a b f).tap = s.tap := rfl
@[simp] theorem State.modLaser_nv (a b : Nat) (f : LaserSt → LaserSt) : (s.modLaser a b f).nv = s.nv := rfl
@[simp] theorem State.modLaser_sec (a b : Nat) (f : LaserSt → LaserSt) : (s.modLaser a b f).sec = s.sec := rfl
@[simp] theorem State.modLaser_units (a b : Nat) (f : LaserSt → LaserSt) : (s.modLaser a b f).units = s.units := rfl
@[simp] theorem State.modLaser_stagingInForce (a b : Nat) (f : LaserSt → LaserSt) : (s.modLaser a b f).stagingInForce = s.stagingInForce := rfl
@[simp] theorem State.modLaser_refills (a b : Nat) (f : LaserSt → LaserSt) : (s.modLaser a b f).refills = s.refills := rfl
@[simp] theorem State.modLaser_macFault (a b : Nat) (f : LaserSt → LaserSt) : (s.modLaser a b f).macFault = s.macFault := rfl
@[simp] theorem State.modLaser_badWords (a b : Nat) (f : LaserSt → LaserSt) : (s.modLaser a b f).badWords = s.badWords := rfl
@[simp] theorem State.modLaser_alert (a b : Nat) (f : LaserSt → LaserSt) : (s.modLaser a b f).alert = s.alert := rfl

/-! ## modOe -/

@[simp] theorem State.modOe_pending (k : Nat) (f : OeSt → OeSt) : (s.modOe k f).pending = s.pending := rfl
@[simp] theorem State.modOe_sent (k : Nat) (f : OeSt → OeSt) : (s.modOe k f).sent = s.sent := rfl
@[simp] theorem State.modOe_clock (k : Nat) (f : OeSt → OeSt) : (s.modOe k f).clock = s.clock := rfl
@[simp] theorem State.modOe_fresh (k : Nat) (f : OeSt → OeSt) : (s.modOe k f).fresh = s.fresh := rfl
@[simp] theorem State.modOe_objs (k : Nat) (f : OeSt → OeSt) : (s.modOe k f).objs = s.objs := rfl
@[simp] theorem State.modOe_events (k : Nat) (f : OeSt → OeSt) : (s.modOe k f).events = s.events := rfl
@[simp] theorem State.modOe_nextSeq (k : Nat) (f : OeSt → OeSt) : (s.modOe k f).nextSeq = s.nextSeq := rfl
@[simp] theorem State.modOe_mem (k : Nat) (f : OeSt → OeSt) : (s.modOe k f).mem = s.mem := rfl
@[simp] theorem State.modOe_pens (k : Nat) (f : OeSt → OeSt) : (s.modOe k f).pens = s.pens := rfl
@[simp] theorem State.modOe_tiles (k : Nat) (f : OeSt → OeSt) : (s.modOe k f).tiles = s.tiles := rfl
@[simp] theorem State.modOe_tick (k : Nat) (f : OeSt → OeSt) : (s.modOe k f).tick = s.tick := rfl
@[simp] theorem State.modOe_drover (k : Nat) (f : OeSt → OeSt) : (s.modOe k f).drover = s.drover := rfl
@[simp] theorem State.modOe_rings (k : Nat) (f : OeSt → OeSt) : (s.modOe k f).rings = s.rings := rfl
@[simp] theorem State.modOe_rxLanes (k : Nat) (f : OeSt → OeSt) : (s.modOe k f).rxLanes = s.rxLanes := rfl
@[simp] theorem State.modOe_txLanes (k : Nat) (f : OeSt → OeSt) : (s.modOe k f).txLanes = s.txLanes := rfl
@[simp] theorem State.modOe_fibers (k : Nat) (f : OeSt → OeSt) : (s.modOe k f).fibers = s.fibers := rfl
@[simp] theorem State.modOe_lasers (k : Nat) (f : OeSt → OeSt) : (s.modOe k f).lasers = s.lasers := rfl
@[simp] theorem State.modOe_test (k : Nat) (f : OeSt → OeSt) : (s.modOe k f).test = s.test := rfl
@[simp] theorem State.modOe_links (k : Nat) (f : OeSt → OeSt) : (s.modOe k f).links = s.links := rfl
@[simp] theorem State.modOe_gallery (k : Nat) (f : OeSt → OeSt) : (s.modOe k f).gallery = s.gallery := rfl
@[simp] theorem State.modOe_eth (k : Nat) (f : OeSt → OeSt) : (s.modOe k f).eth = s.eth := rfl
@[simp] theorem State.modOe_service (k : Nat) (f : OeSt → OeSt) : (s.modOe k f).service = s.service := rfl
@[simp] theorem State.modOe_dict (k : Nat) (f : OeSt → OeSt) : (s.modOe k f).dict = s.dict := rfl
@[simp] theorem State.modOe_boot (k : Nat) (f : OeSt → OeSt) : (s.modOe k f).boot = s.boot := rfl
@[simp] theorem State.modOe_tap (k : Nat) (f : OeSt → OeSt) : (s.modOe k f).tap = s.tap := rfl
@[simp] theorem State.modOe_nv (k : Nat) (f : OeSt → OeSt) : (s.modOe k f).nv = s.nv := rfl
@[simp] theorem State.modOe_sec (k : Nat) (f : OeSt → OeSt) : (s.modOe k f).sec = s.sec := rfl
@[simp] theorem State.modOe_units (k : Nat) (f : OeSt → OeSt) : (s.modOe k f).units = s.units := rfl
@[simp] theorem State.modOe_stagingInForce (k : Nat) (f : OeSt → OeSt) : (s.modOe k f).stagingInForce = s.stagingInForce := rfl
@[simp] theorem State.modOe_refills (k : Nat) (f : OeSt → OeSt) : (s.modOe k f).refills = s.refills := rfl
@[simp] theorem State.modOe_macFault (k : Nat) (f : OeSt → OeSt) : (s.modOe k f).macFault = s.macFault := rfl
@[simp] theorem State.modOe_badWords (k : Nat) (f : OeSt → OeSt) : (s.modOe k f).badWords = s.badWords := rfl
@[simp] theorem State.modOe_alert (k : Nat) (f : OeSt → OeSt) : (s.modOe k f).alert = s.alert := rfl

/-! ## setLink -/

@[simp] theorem State.setLink_pending (k : Nat) (v : LinkSt) : (s.setLink k v).pending = s.pending := rfl
@[simp] theorem State.setLink_sent (k : Nat) (v : LinkSt) : (s.setLink k v).sent = s.sent := rfl
@[simp] theorem State.setLink_clock (k : Nat) (v : LinkSt) : (s.setLink k v).clock = s.clock := rfl
@[simp] theorem State.setLink_fresh (k : Nat) (v : LinkSt) : (s.setLink k v).fresh = s.fresh := rfl
@[simp] theorem State.setLink_objs (k : Nat) (v : LinkSt) : (s.setLink k v).objs = s.objs := rfl
@[simp] theorem State.setLink_events (k : Nat) (v : LinkSt) : (s.setLink k v).events = s.events := rfl
@[simp] theorem State.setLink_nextSeq (k : Nat) (v : LinkSt) : (s.setLink k v).nextSeq = s.nextSeq := rfl
@[simp] theorem State.setLink_mem (k : Nat) (v : LinkSt) : (s.setLink k v).mem = s.mem := rfl
@[simp] theorem State.setLink_pens (k : Nat) (v : LinkSt) : (s.setLink k v).pens = s.pens := rfl
@[simp] theorem State.setLink_tiles (k : Nat) (v : LinkSt) : (s.setLink k v).tiles = s.tiles := rfl
@[simp] theorem State.setLink_tick (k : Nat) (v : LinkSt) : (s.setLink k v).tick = s.tick := rfl
@[simp] theorem State.setLink_drover (k : Nat) (v : LinkSt) : (s.setLink k v).drover = s.drover := rfl
@[simp] theorem State.setLink_rings (k : Nat) (v : LinkSt) : (s.setLink k v).rings = s.rings := rfl
@[simp] theorem State.setLink_rxLanes (k : Nat) (v : LinkSt) : (s.setLink k v).rxLanes = s.rxLanes := rfl
@[simp] theorem State.setLink_txLanes (k : Nat) (v : LinkSt) : (s.setLink k v).txLanes = s.txLanes := rfl
@[simp] theorem State.setLink_fibers (k : Nat) (v : LinkSt) : (s.setLink k v).fibers = s.fibers := rfl
@[simp] theorem State.setLink_lasers (k : Nat) (v : LinkSt) : (s.setLink k v).lasers = s.lasers := rfl
@[simp] theorem State.setLink_oes (k : Nat) (v : LinkSt) : (s.setLink k v).oes = s.oes := rfl
@[simp] theorem State.setLink_test (k : Nat) (v : LinkSt) : (s.setLink k v).test = s.test := rfl
@[simp] theorem State.setLink_gallery (k : Nat) (v : LinkSt) : (s.setLink k v).gallery = s.gallery := rfl
@[simp] theorem State.setLink_eth (k : Nat) (v : LinkSt) : (s.setLink k v).eth = s.eth := rfl
@[simp] theorem State.setLink_service (k : Nat) (v : LinkSt) : (s.setLink k v).service = s.service := rfl
@[simp] theorem State.setLink_dict (k : Nat) (v : LinkSt) : (s.setLink k v).dict = s.dict := rfl
@[simp] theorem State.setLink_boot (k : Nat) (v : LinkSt) : (s.setLink k v).boot = s.boot := rfl
@[simp] theorem State.setLink_tap (k : Nat) (v : LinkSt) : (s.setLink k v).tap = s.tap := rfl
@[simp] theorem State.setLink_nv (k : Nat) (v : LinkSt) : (s.setLink k v).nv = s.nv := rfl
@[simp] theorem State.setLink_sec (k : Nat) (v : LinkSt) : (s.setLink k v).sec = s.sec := rfl
@[simp] theorem State.setLink_units (k : Nat) (v : LinkSt) : (s.setLink k v).units = s.units := rfl
@[simp] theorem State.setLink_stagingInForce (k : Nat) (v : LinkSt) : (s.setLink k v).stagingInForce = s.stagingInForce := rfl
@[simp] theorem State.setLink_refills (k : Nat) (v : LinkSt) : (s.setLink k v).refills = s.refills := rfl
@[simp] theorem State.setLink_macFault (k : Nat) (v : LinkSt) : (s.setLink k v).macFault = s.macFault := rfl
@[simp] theorem State.setLink_badWords (k : Nat) (v : LinkSt) : (s.setLink k v).badWords = s.badWords := rfl
@[simp] theorem State.setLink_alert (k : Nat) (v : LinkSt) : (s.setLink k v).alert = s.alert := rfl

/-! ## modLink -/

@[simp] theorem State.modLink_pending (k : Nat) (f : LinkSt → LinkSt) : (s.modLink k f).pending = s.pending := rfl
@[simp] theorem State.modLink_sent (k : Nat) (f : LinkSt → LinkSt) : (s.modLink k f).sent = s.sent := rfl
@[simp] theorem State.modLink_clock (k : Nat) (f : LinkSt → LinkSt) : (s.modLink k f).clock = s.clock := rfl
@[simp] theorem State.modLink_fresh (k : Nat) (f : LinkSt → LinkSt) : (s.modLink k f).fresh = s.fresh := rfl
@[simp] theorem State.modLink_objs (k : Nat) (f : LinkSt → LinkSt) : (s.modLink k f).objs = s.objs := rfl
@[simp] theorem State.modLink_events (k : Nat) (f : LinkSt → LinkSt) : (s.modLink k f).events = s.events := rfl
@[simp] theorem State.modLink_nextSeq (k : Nat) (f : LinkSt → LinkSt) : (s.modLink k f).nextSeq = s.nextSeq := rfl
@[simp] theorem State.modLink_mem (k : Nat) (f : LinkSt → LinkSt) : (s.modLink k f).mem = s.mem := rfl
@[simp] theorem State.modLink_pens (k : Nat) (f : LinkSt → LinkSt) : (s.modLink k f).pens = s.pens := rfl
@[simp] theorem State.modLink_tiles (k : Nat) (f : LinkSt → LinkSt) : (s.modLink k f).tiles = s.tiles := rfl
@[simp] theorem State.modLink_tick (k : Nat) (f : LinkSt → LinkSt) : (s.modLink k f).tick = s.tick := rfl
@[simp] theorem State.modLink_drover (k : Nat) (f : LinkSt → LinkSt) : (s.modLink k f).drover = s.drover := rfl
@[simp] theorem State.modLink_rings (k : Nat) (f : LinkSt → LinkSt) : (s.modLink k f).rings = s.rings := rfl
@[simp] theorem State.modLink_rxLanes (k : Nat) (f : LinkSt → LinkSt) : (s.modLink k f).rxLanes = s.rxLanes := rfl
@[simp] theorem State.modLink_txLanes (k : Nat) (f : LinkSt → LinkSt) : (s.modLink k f).txLanes = s.txLanes := rfl
@[simp] theorem State.modLink_fibers (k : Nat) (f : LinkSt → LinkSt) : (s.modLink k f).fibers = s.fibers := rfl
@[simp] theorem State.modLink_lasers (k : Nat) (f : LinkSt → LinkSt) : (s.modLink k f).lasers = s.lasers := rfl
@[simp] theorem State.modLink_oes (k : Nat) (f : LinkSt → LinkSt) : (s.modLink k f).oes = s.oes := rfl
@[simp] theorem State.modLink_test (k : Nat) (f : LinkSt → LinkSt) : (s.modLink k f).test = s.test := rfl
@[simp] theorem State.modLink_gallery (k : Nat) (f : LinkSt → LinkSt) : (s.modLink k f).gallery = s.gallery := rfl
@[simp] theorem State.modLink_eth (k : Nat) (f : LinkSt → LinkSt) : (s.modLink k f).eth = s.eth := rfl
@[simp] theorem State.modLink_service (k : Nat) (f : LinkSt → LinkSt) : (s.modLink k f).service = s.service := rfl
@[simp] theorem State.modLink_dict (k : Nat) (f : LinkSt → LinkSt) : (s.modLink k f).dict = s.dict := rfl
@[simp] theorem State.modLink_boot (k : Nat) (f : LinkSt → LinkSt) : (s.modLink k f).boot = s.boot := rfl
@[simp] theorem State.modLink_tap (k : Nat) (f : LinkSt → LinkSt) : (s.modLink k f).tap = s.tap := rfl
@[simp] theorem State.modLink_nv (k : Nat) (f : LinkSt → LinkSt) : (s.modLink k f).nv = s.nv := rfl
@[simp] theorem State.modLink_sec (k : Nat) (f : LinkSt → LinkSt) : (s.modLink k f).sec = s.sec := rfl
@[simp] theorem State.modLink_units (k : Nat) (f : LinkSt → LinkSt) : (s.modLink k f).units = s.units := rfl
@[simp] theorem State.modLink_stagingInForce (k : Nat) (f : LinkSt → LinkSt) : (s.modLink k f).stagingInForce = s.stagingInForce := rfl
@[simp] theorem State.modLink_refills (k : Nat) (f : LinkSt → LinkSt) : (s.modLink k f).refills = s.refills := rfl
@[simp] theorem State.modLink_macFault (k : Nat) (f : LinkSt → LinkSt) : (s.modLink k f).macFault = s.macFault := rfl
@[simp] theorem State.modLink_badWords (k : Nat) (f : LinkSt → LinkSt) : (s.modLink k f).badWords = s.badWords := rfl
@[simp] theorem State.modLink_alert (k : Nat) (f : LinkSt → LinkSt) : (s.modLink k f).alert = s.alert := rfl

/-! ## setQp -/

@[simp] theorem State.setQp_pending (k : Nat) (v : QpSt) : (s.setQp k v).pending = s.pending := rfl
@[simp] theorem State.setQp_sent (k : Nat) (v : QpSt) : (s.setQp k v).sent = s.sent := rfl
@[simp] theorem State.setQp_clock (k : Nat) (v : QpSt) : (s.setQp k v).clock = s.clock := rfl
@[simp] theorem State.setQp_fresh (k : Nat) (v : QpSt) : (s.setQp k v).fresh = s.fresh := rfl
@[simp] theorem State.setQp_objs (k : Nat) (v : QpSt) : (s.setQp k v).objs = s.objs := rfl
@[simp] theorem State.setQp_events (k : Nat) (v : QpSt) : (s.setQp k v).events = s.events := rfl
@[simp] theorem State.setQp_nextSeq (k : Nat) (v : QpSt) : (s.setQp k v).nextSeq = s.nextSeq := rfl
@[simp] theorem State.setQp_mem (k : Nat) (v : QpSt) : (s.setQp k v).mem = s.mem := rfl
@[simp] theorem State.setQp_pens (k : Nat) (v : QpSt) : (s.setQp k v).pens = s.pens := rfl
@[simp] theorem State.setQp_tiles (k : Nat) (v : QpSt) : (s.setQp k v).tiles = s.tiles := rfl
@[simp] theorem State.setQp_tick (k : Nat) (v : QpSt) : (s.setQp k v).tick = s.tick := rfl
@[simp] theorem State.setQp_drover (k : Nat) (v : QpSt) : (s.setQp k v).drover = s.drover := rfl
@[simp] theorem State.setQp_rings (k : Nat) (v : QpSt) : (s.setQp k v).rings = s.rings := rfl
@[simp] theorem State.setQp_rxLanes (k : Nat) (v : QpSt) : (s.setQp k v).rxLanes = s.rxLanes := rfl
@[simp] theorem State.setQp_txLanes (k : Nat) (v : QpSt) : (s.setQp k v).txLanes = s.txLanes := rfl
@[simp] theorem State.setQp_fibers (k : Nat) (v : QpSt) : (s.setQp k v).fibers = s.fibers := rfl
@[simp] theorem State.setQp_lasers (k : Nat) (v : QpSt) : (s.setQp k v).lasers = s.lasers := rfl
@[simp] theorem State.setQp_oes (k : Nat) (v : QpSt) : (s.setQp k v).oes = s.oes := rfl
@[simp] theorem State.setQp_test (k : Nat) (v : QpSt) : (s.setQp k v).test = s.test := rfl
@[simp] theorem State.setQp_links (k : Nat) (v : QpSt) : (s.setQp k v).links = s.links := rfl
@[simp] theorem State.setQp_gallery (k : Nat) (v : QpSt) : (s.setQp k v).gallery = s.gallery := rfl
@[simp] theorem State.setQp_service (k : Nat) (v : QpSt) : (s.setQp k v).service = s.service := rfl
@[simp] theorem State.setQp_dict (k : Nat) (v : QpSt) : (s.setQp k v).dict = s.dict := rfl
@[simp] theorem State.setQp_boot (k : Nat) (v : QpSt) : (s.setQp k v).boot = s.boot := rfl
@[simp] theorem State.setQp_tap (k : Nat) (v : QpSt) : (s.setQp k v).tap = s.tap := rfl
@[simp] theorem State.setQp_nv (k : Nat) (v : QpSt) : (s.setQp k v).nv = s.nv := rfl
@[simp] theorem State.setQp_sec (k : Nat) (v : QpSt) : (s.setQp k v).sec = s.sec := rfl
@[simp] theorem State.setQp_units (k : Nat) (v : QpSt) : (s.setQp k v).units = s.units := rfl
@[simp] theorem State.setQp_stagingInForce (k : Nat) (v : QpSt) : (s.setQp k v).stagingInForce = s.stagingInForce := rfl
@[simp] theorem State.setQp_refills (k : Nat) (v : QpSt) : (s.setQp k v).refills = s.refills := rfl
@[simp] theorem State.setQp_macFault (k : Nat) (v : QpSt) : (s.setQp k v).macFault = s.macFault := rfl
@[simp] theorem State.setQp_badWords (k : Nat) (v : QpSt) : (s.setQp k v).badWords = s.badWords := rfl
@[simp] theorem State.setQp_alert (k : Nat) (v : QpSt) : (s.setQp k v).alert = s.alert := rfl

/-! ## modQp -/

@[simp] theorem State.modQp_pending (k : Nat) (f : QpSt → QpSt) : (s.modQp k f).pending = s.pending := rfl
@[simp] theorem State.modQp_sent (k : Nat) (f : QpSt → QpSt) : (s.modQp k f).sent = s.sent := rfl
@[simp] theorem State.modQp_clock (k : Nat) (f : QpSt → QpSt) : (s.modQp k f).clock = s.clock := rfl
@[simp] theorem State.modQp_fresh (k : Nat) (f : QpSt → QpSt) : (s.modQp k f).fresh = s.fresh := rfl
@[simp] theorem State.modQp_objs (k : Nat) (f : QpSt → QpSt) : (s.modQp k f).objs = s.objs := rfl
@[simp] theorem State.modQp_events (k : Nat) (f : QpSt → QpSt) : (s.modQp k f).events = s.events := rfl
@[simp] theorem State.modQp_nextSeq (k : Nat) (f : QpSt → QpSt) : (s.modQp k f).nextSeq = s.nextSeq := rfl
@[simp] theorem State.modQp_mem (k : Nat) (f : QpSt → QpSt) : (s.modQp k f).mem = s.mem := rfl
@[simp] theorem State.modQp_pens (k : Nat) (f : QpSt → QpSt) : (s.modQp k f).pens = s.pens := rfl
@[simp] theorem State.modQp_tiles (k : Nat) (f : QpSt → QpSt) : (s.modQp k f).tiles = s.tiles := rfl
@[simp] theorem State.modQp_tick (k : Nat) (f : QpSt → QpSt) : (s.modQp k f).tick = s.tick := rfl
@[simp] theorem State.modQp_drover (k : Nat) (f : QpSt → QpSt) : (s.modQp k f).drover = s.drover := rfl
@[simp] theorem State.modQp_rings (k : Nat) (f : QpSt → QpSt) : (s.modQp k f).rings = s.rings := rfl
@[simp] theorem State.modQp_rxLanes (k : Nat) (f : QpSt → QpSt) : (s.modQp k f).rxLanes = s.rxLanes := rfl
@[simp] theorem State.modQp_txLanes (k : Nat) (f : QpSt → QpSt) : (s.modQp k f).txLanes = s.txLanes := rfl
@[simp] theorem State.modQp_fibers (k : Nat) (f : QpSt → QpSt) : (s.modQp k f).fibers = s.fibers := rfl
@[simp] theorem State.modQp_lasers (k : Nat) (f : QpSt → QpSt) : (s.modQp k f).lasers = s.lasers := rfl
@[simp] theorem State.modQp_oes (k : Nat) (f : QpSt → QpSt) : (s.modQp k f).oes = s.oes := rfl
@[simp] theorem State.modQp_test (k : Nat) (f : QpSt → QpSt) : (s.modQp k f).test = s.test := rfl
@[simp] theorem State.modQp_links (k : Nat) (f : QpSt → QpSt) : (s.modQp k f).links = s.links := rfl
@[simp] theorem State.modQp_gallery (k : Nat) (f : QpSt → QpSt) : (s.modQp k f).gallery = s.gallery := rfl
@[simp] theorem State.modQp_service (k : Nat) (f : QpSt → QpSt) : (s.modQp k f).service = s.service := rfl
@[simp] theorem State.modQp_dict (k : Nat) (f : QpSt → QpSt) : (s.modQp k f).dict = s.dict := rfl
@[simp] theorem State.modQp_boot (k : Nat) (f : QpSt → QpSt) : (s.modQp k f).boot = s.boot := rfl
@[simp] theorem State.modQp_tap (k : Nat) (f : QpSt → QpSt) : (s.modQp k f).tap = s.tap := rfl
@[simp] theorem State.modQp_nv (k : Nat) (f : QpSt → QpSt) : (s.modQp k f).nv = s.nv := rfl
@[simp] theorem State.modQp_sec (k : Nat) (f : QpSt → QpSt) : (s.modQp k f).sec = s.sec := rfl
@[simp] theorem State.modQp_units (k : Nat) (f : QpSt → QpSt) : (s.modQp k f).units = s.units := rfl
@[simp] theorem State.modQp_stagingInForce (k : Nat) (f : QpSt → QpSt) : (s.modQp k f).stagingInForce = s.stagingInForce := rfl
@[simp] theorem State.modQp_refills (k : Nat) (f : QpSt → QpSt) : (s.modQp k f).refills = s.refills := rfl
@[simp] theorem State.modQp_macFault (k : Nat) (f : QpSt → QpSt) : (s.modQp k f).macFault = s.macFault := rfl
@[simp] theorem State.modQp_badWords (k : Nat) (f : QpSt → QpSt) : (s.modQp k f).badWords = s.badWords := rfl
@[simp] theorem State.modQp_alert (k : Nat) (f : QpSt → QpSt) : (s.modQp k f).alert = s.alert := rfl

/-! ## setSession -/

@[simp] theorem State.setSession_pending (k : Nat) (v : Option Session) : (s.setSession k v).pending = s.pending := rfl
@[simp] theorem State.setSession_sent (k : Nat) (v : Option Session) : (s.setSession k v).sent = s.sent := rfl
@[simp] theorem State.setSession_clock (k : Nat) (v : Option Session) : (s.setSession k v).clock = s.clock := rfl
@[simp] theorem State.setSession_fresh (k : Nat) (v : Option Session) : (s.setSession k v).fresh = s.fresh := rfl
@[simp] theorem State.setSession_objs (k : Nat) (v : Option Session) : (s.setSession k v).objs = s.objs := rfl
@[simp] theorem State.setSession_events (k : Nat) (v : Option Session) : (s.setSession k v).events = s.events := rfl
@[simp] theorem State.setSession_nextSeq (k : Nat) (v : Option Session) : (s.setSession k v).nextSeq = s.nextSeq := rfl
@[simp] theorem State.setSession_mem (k : Nat) (v : Option Session) : (s.setSession k v).mem = s.mem := rfl
@[simp] theorem State.setSession_pens (k : Nat) (v : Option Session) : (s.setSession k v).pens = s.pens := rfl
@[simp] theorem State.setSession_tiles (k : Nat) (v : Option Session) : (s.setSession k v).tiles = s.tiles := rfl
@[simp] theorem State.setSession_tick (k : Nat) (v : Option Session) : (s.setSession k v).tick = s.tick := rfl
@[simp] theorem State.setSession_drover (k : Nat) (v : Option Session) : (s.setSession k v).drover = s.drover := rfl
@[simp] theorem State.setSession_rings (k : Nat) (v : Option Session) : (s.setSession k v).rings = s.rings := rfl
@[simp] theorem State.setSession_rxLanes (k : Nat) (v : Option Session) : (s.setSession k v).rxLanes = s.rxLanes := rfl
@[simp] theorem State.setSession_txLanes (k : Nat) (v : Option Session) : (s.setSession k v).txLanes = s.txLanes := rfl
@[simp] theorem State.setSession_fibers (k : Nat) (v : Option Session) : (s.setSession k v).fibers = s.fibers := rfl
@[simp] theorem State.setSession_lasers (k : Nat) (v : Option Session) : (s.setSession k v).lasers = s.lasers := rfl
@[simp] theorem State.setSession_oes (k : Nat) (v : Option Session) : (s.setSession k v).oes = s.oes := rfl
@[simp] theorem State.setSession_test (k : Nat) (v : Option Session) : (s.setSession k v).test = s.test := rfl
@[simp] theorem State.setSession_links (k : Nat) (v : Option Session) : (s.setSession k v).links = s.links := rfl
@[simp] theorem State.setSession_gallery (k : Nat) (v : Option Session) : (s.setSession k v).gallery = s.gallery := rfl
@[simp] theorem State.setSession_eth (k : Nat) (v : Option Session) : (s.setSession k v).eth = s.eth := rfl
@[simp] theorem State.setSession_dict (k : Nat) (v : Option Session) : (s.setSession k v).dict = s.dict := rfl
@[simp] theorem State.setSession_boot (k : Nat) (v : Option Session) : (s.setSession k v).boot = s.boot := rfl
@[simp] theorem State.setSession_tap (k : Nat) (v : Option Session) : (s.setSession k v).tap = s.tap := rfl
@[simp] theorem State.setSession_nv (k : Nat) (v : Option Session) : (s.setSession k v).nv = s.nv := rfl
@[simp] theorem State.setSession_sec (k : Nat) (v : Option Session) : (s.setSession k v).sec = s.sec := rfl
@[simp] theorem State.setSession_units (k : Nat) (v : Option Session) : (s.setSession k v).units = s.units := rfl
@[simp] theorem State.setSession_stagingInForce (k : Nat) (v : Option Session) : (s.setSession k v).stagingInForce = s.stagingInForce := rfl
@[simp] theorem State.setSession_refills (k : Nat) (v : Option Session) : (s.setSession k v).refills = s.refills := rfl
@[simp] theorem State.setSession_macFault (k : Nat) (v : Option Session) : (s.setSession k v).macFault = s.macFault := rfl
@[simp] theorem State.setSession_badWords (k : Nat) (v : Option Session) : (s.setSession k v).badWords = s.badWords := rfl
@[simp] theorem State.setSession_alert (k : Nat) (v : Option Session) : (s.setSession k v).alert = s.alert := rfl

/-! ## modSession -/

@[simp] theorem State.modSession_pending (k : Nat) (f : Session → Session) : (s.modSession k f).pending = s.pending := rfl
@[simp] theorem State.modSession_sent (k : Nat) (f : Session → Session) : (s.modSession k f).sent = s.sent := rfl
@[simp] theorem State.modSession_clock (k : Nat) (f : Session → Session) : (s.modSession k f).clock = s.clock := rfl
@[simp] theorem State.modSession_fresh (k : Nat) (f : Session → Session) : (s.modSession k f).fresh = s.fresh := rfl
@[simp] theorem State.modSession_objs (k : Nat) (f : Session → Session) : (s.modSession k f).objs = s.objs := rfl
@[simp] theorem State.modSession_events (k : Nat) (f : Session → Session) : (s.modSession k f).events = s.events := rfl
@[simp] theorem State.modSession_nextSeq (k : Nat) (f : Session → Session) : (s.modSession k f).nextSeq = s.nextSeq := rfl
@[simp] theorem State.modSession_mem (k : Nat) (f : Session → Session) : (s.modSession k f).mem = s.mem := rfl
@[simp] theorem State.modSession_pens (k : Nat) (f : Session → Session) : (s.modSession k f).pens = s.pens := rfl
@[simp] theorem State.modSession_tiles (k : Nat) (f : Session → Session) : (s.modSession k f).tiles = s.tiles := rfl
@[simp] theorem State.modSession_tick (k : Nat) (f : Session → Session) : (s.modSession k f).tick = s.tick := rfl
@[simp] theorem State.modSession_drover (k : Nat) (f : Session → Session) : (s.modSession k f).drover = s.drover := rfl
@[simp] theorem State.modSession_rings (k : Nat) (f : Session → Session) : (s.modSession k f).rings = s.rings := rfl
@[simp] theorem State.modSession_rxLanes (k : Nat) (f : Session → Session) : (s.modSession k f).rxLanes = s.rxLanes := rfl
@[simp] theorem State.modSession_txLanes (k : Nat) (f : Session → Session) : (s.modSession k f).txLanes = s.txLanes := rfl
@[simp] theorem State.modSession_fibers (k : Nat) (f : Session → Session) : (s.modSession k f).fibers = s.fibers := rfl
@[simp] theorem State.modSession_lasers (k : Nat) (f : Session → Session) : (s.modSession k f).lasers = s.lasers := rfl
@[simp] theorem State.modSession_oes (k : Nat) (f : Session → Session) : (s.modSession k f).oes = s.oes := rfl
@[simp] theorem State.modSession_test (k : Nat) (f : Session → Session) : (s.modSession k f).test = s.test := rfl
@[simp] theorem State.modSession_links (k : Nat) (f : Session → Session) : (s.modSession k f).links = s.links := rfl
@[simp] theorem State.modSession_gallery (k : Nat) (f : Session → Session) : (s.modSession k f).gallery = s.gallery := rfl
@[simp] theorem State.modSession_eth (k : Nat) (f : Session → Session) : (s.modSession k f).eth = s.eth := rfl
@[simp] theorem State.modSession_dict (k : Nat) (f : Session → Session) : (s.modSession k f).dict = s.dict := rfl
@[simp] theorem State.modSession_boot (k : Nat) (f : Session → Session) : (s.modSession k f).boot = s.boot := rfl
@[simp] theorem State.modSession_tap (k : Nat) (f : Session → Session) : (s.modSession k f).tap = s.tap := rfl
@[simp] theorem State.modSession_nv (k : Nat) (f : Session → Session) : (s.modSession k f).nv = s.nv := rfl
@[simp] theorem State.modSession_sec (k : Nat) (f : Session → Session) : (s.modSession k f).sec = s.sec := rfl
@[simp] theorem State.modSession_units (k : Nat) (f : Session → Session) : (s.modSession k f).units = s.units := rfl
@[simp] theorem State.modSession_stagingInForce (k : Nat) (f : Session → Session) : (s.modSession k f).stagingInForce = s.stagingInForce := rfl
@[simp] theorem State.modSession_refills (k : Nat) (f : Session → Session) : (s.modSession k f).refills = s.refills := rfl
@[simp] theorem State.modSession_macFault (k : Nat) (f : Session → Session) : (s.modSession k f).macFault = s.macFault := rfl
@[simp] theorem State.modSession_badWords (k : Nat) (f : Session → Session) : (s.modSession k f).badWords = s.badWords := rfl
@[simp] theorem State.modSession_alert (k : Nat) (f : Session → Session) : (s.modSession k f).alert = s.alert := rfl

/-! ## modModel -/

@[simp] theorem State.modModel_pending (k : Nat) (f : Model → Model) : (s.modModel k f).pending = s.pending := rfl
@[simp] theorem State.modModel_sent (k : Nat) (f : Model → Model) : (s.modModel k f).sent = s.sent := rfl
@[simp] theorem State.modModel_clock (k : Nat) (f : Model → Model) : (s.modModel k f).clock = s.clock := rfl
@[simp] theorem State.modModel_fresh (k : Nat) (f : Model → Model) : (s.modModel k f).fresh = s.fresh := rfl
@[simp] theorem State.modModel_objs (k : Nat) (f : Model → Model) : (s.modModel k f).objs = s.objs := rfl
@[simp] theorem State.modModel_events (k : Nat) (f : Model → Model) : (s.modModel k f).events = s.events := rfl
@[simp] theorem State.modModel_nextSeq (k : Nat) (f : Model → Model) : (s.modModel k f).nextSeq = s.nextSeq := rfl
@[simp] theorem State.modModel_mem (k : Nat) (f : Model → Model) : (s.modModel k f).mem = s.mem := rfl
@[simp] theorem State.modModel_pens (k : Nat) (f : Model → Model) : (s.modModel k f).pens = s.pens := rfl
@[simp] theorem State.modModel_tiles (k : Nat) (f : Model → Model) : (s.modModel k f).tiles = s.tiles := rfl
@[simp] theorem State.modModel_tick (k : Nat) (f : Model → Model) : (s.modModel k f).tick = s.tick := rfl
@[simp] theorem State.modModel_drover (k : Nat) (f : Model → Model) : (s.modModel k f).drover = s.drover := rfl
@[simp] theorem State.modModel_rings (k : Nat) (f : Model → Model) : (s.modModel k f).rings = s.rings := rfl
@[simp] theorem State.modModel_rxLanes (k : Nat) (f : Model → Model) : (s.modModel k f).rxLanes = s.rxLanes := rfl
@[simp] theorem State.modModel_txLanes (k : Nat) (f : Model → Model) : (s.modModel k f).txLanes = s.txLanes := rfl
@[simp] theorem State.modModel_fibers (k : Nat) (f : Model → Model) : (s.modModel k f).fibers = s.fibers := rfl
@[simp] theorem State.modModel_lasers (k : Nat) (f : Model → Model) : (s.modModel k f).lasers = s.lasers := rfl
@[simp] theorem State.modModel_oes (k : Nat) (f : Model → Model) : (s.modModel k f).oes = s.oes := rfl
@[simp] theorem State.modModel_test (k : Nat) (f : Model → Model) : (s.modModel k f).test = s.test := rfl
@[simp] theorem State.modModel_links (k : Nat) (f : Model → Model) : (s.modModel k f).links = s.links := rfl
@[simp] theorem State.modModel_gallery (k : Nat) (f : Model → Model) : (s.modModel k f).gallery = s.gallery := rfl
@[simp] theorem State.modModel_eth (k : Nat) (f : Model → Model) : (s.modModel k f).eth = s.eth := rfl
@[simp] theorem State.modModel_dict (k : Nat) (f : Model → Model) : (s.modModel k f).dict = s.dict := rfl
@[simp] theorem State.modModel_boot (k : Nat) (f : Model → Model) : (s.modModel k f).boot = s.boot := rfl
@[simp] theorem State.modModel_tap (k : Nat) (f : Model → Model) : (s.modModel k f).tap = s.tap := rfl
@[simp] theorem State.modModel_nv (k : Nat) (f : Model → Model) : (s.modModel k f).nv = s.nv := rfl
@[simp] theorem State.modModel_sec (k : Nat) (f : Model → Model) : (s.modModel k f).sec = s.sec := rfl
@[simp] theorem State.modModel_units (k : Nat) (f : Model → Model) : (s.modModel k f).units = s.units := rfl
@[simp] theorem State.modModel_stagingInForce (k : Nat) (f : Model → Model) : (s.modModel k f).stagingInForce = s.stagingInForce := rfl
@[simp] theorem State.modModel_refills (k : Nat) (f : Model → Model) : (s.modModel k f).refills = s.refills := rfl
@[simp] theorem State.modModel_macFault (k : Nat) (f : Model → Model) : (s.modModel k f).macFault = s.macFault := rfl
@[simp] theorem State.modModel_badWords (k : Nat) (f : Model → Model) : (s.modModel k f).badWords = s.badWords := rfl
@[simp] theorem State.modModel_alert (k : Nat) (f : Model → Model) : (s.modModel k f).alert = s.alert := rfl

/-! ## setTally -/

@[simp] theorem State.setTally_pending (k : Nat) (v : Tally) : (s.setTally k v).pending = s.pending := rfl
@[simp] theorem State.setTally_sent (k : Nat) (v : Tally) : (s.setTally k v).sent = s.sent := rfl
@[simp] theorem State.setTally_clock (k : Nat) (v : Tally) : (s.setTally k v).clock = s.clock := rfl
@[simp] theorem State.setTally_fresh (k : Nat) (v : Tally) : (s.setTally k v).fresh = s.fresh := rfl
@[simp] theorem State.setTally_objs (k : Nat) (v : Tally) : (s.setTally k v).objs = s.objs := rfl
@[simp] theorem State.setTally_events (k : Nat) (v : Tally) : (s.setTally k v).events = s.events := rfl
@[simp] theorem State.setTally_nextSeq (k : Nat) (v : Tally) : (s.setTally k v).nextSeq = s.nextSeq := rfl
@[simp] theorem State.setTally_mem (k : Nat) (v : Tally) : (s.setTally k v).mem = s.mem := rfl
@[simp] theorem State.setTally_pens (k : Nat) (v : Tally) : (s.setTally k v).pens = s.pens := rfl
@[simp] theorem State.setTally_tiles (k : Nat) (v : Tally) : (s.setTally k v).tiles = s.tiles := rfl
@[simp] theorem State.setTally_tick (k : Nat) (v : Tally) : (s.setTally k v).tick = s.tick := rfl
@[simp] theorem State.setTally_drover (k : Nat) (v : Tally) : (s.setTally k v).drover = s.drover := rfl
@[simp] theorem State.setTally_rings (k : Nat) (v : Tally) : (s.setTally k v).rings = s.rings := rfl
@[simp] theorem State.setTally_rxLanes (k : Nat) (v : Tally) : (s.setTally k v).rxLanes = s.rxLanes := rfl
@[simp] theorem State.setTally_txLanes (k : Nat) (v : Tally) : (s.setTally k v).txLanes = s.txLanes := rfl
@[simp] theorem State.setTally_fibers (k : Nat) (v : Tally) : (s.setTally k v).fibers = s.fibers := rfl
@[simp] theorem State.setTally_lasers (k : Nat) (v : Tally) : (s.setTally k v).lasers = s.lasers := rfl
@[simp] theorem State.setTally_oes (k : Nat) (v : Tally) : (s.setTally k v).oes = s.oes := rfl
@[simp] theorem State.setTally_test (k : Nat) (v : Tally) : (s.setTally k v).test = s.test := rfl
@[simp] theorem State.setTally_links (k : Nat) (v : Tally) : (s.setTally k v).links = s.links := rfl
@[simp] theorem State.setTally_gallery (k : Nat) (v : Tally) : (s.setTally k v).gallery = s.gallery := rfl
@[simp] theorem State.setTally_eth (k : Nat) (v : Tally) : (s.setTally k v).eth = s.eth := rfl
@[simp] theorem State.setTally_service (k : Nat) (v : Tally) : (s.setTally k v).service = s.service := rfl
@[simp] theorem State.setTally_dict (k : Nat) (v : Tally) : (s.setTally k v).dict = s.dict := rfl
@[simp] theorem State.setTally_boot (k : Nat) (v : Tally) : (s.setTally k v).boot = s.boot := rfl
@[simp] theorem State.setTally_tap (k : Nat) (v : Tally) : (s.setTally k v).tap = s.tap := rfl
@[simp] theorem State.setTally_nv (k : Nat) (v : Tally) : (s.setTally k v).nv = s.nv := rfl
@[simp] theorem State.setTally_sec (k : Nat) (v : Tally) : (s.setTally k v).sec = s.sec := rfl
@[simp] theorem State.setTally_stagingInForce (k : Nat) (v : Tally) : (s.setTally k v).stagingInForce = s.stagingInForce := rfl
@[simp] theorem State.setTally_refills (k : Nat) (v : Tally) : (s.setTally k v).refills = s.refills := rfl
@[simp] theorem State.setTally_macFault (k : Nat) (v : Tally) : (s.setTally k v).macFault = s.macFault := rfl
@[simp] theorem State.setTally_badWords (k : Nat) (v : Tally) : (s.setTally k v).badWords = s.badWords := rfl
@[simp] theorem State.setTally_alert (k : Nat) (v : Tally) : (s.setTally k v).alert = s.alert := rfl

/-! ## modTally -/

@[simp] theorem State.modTally_pending (k : Nat) (f : Tally → Tally) : (s.modTally k f).pending = s.pending := rfl
@[simp] theorem State.modTally_sent (k : Nat) (f : Tally → Tally) : (s.modTally k f).sent = s.sent := rfl
@[simp] theorem State.modTally_clock (k : Nat) (f : Tally → Tally) : (s.modTally k f).clock = s.clock := rfl
@[simp] theorem State.modTally_fresh (k : Nat) (f : Tally → Tally) : (s.modTally k f).fresh = s.fresh := rfl
@[simp] theorem State.modTally_objs (k : Nat) (f : Tally → Tally) : (s.modTally k f).objs = s.objs := rfl
@[simp] theorem State.modTally_events (k : Nat) (f : Tally → Tally) : (s.modTally k f).events = s.events := rfl
@[simp] theorem State.modTally_nextSeq (k : Nat) (f : Tally → Tally) : (s.modTally k f).nextSeq = s.nextSeq := rfl
@[simp] theorem State.modTally_mem (k : Nat) (f : Tally → Tally) : (s.modTally k f).mem = s.mem := rfl
@[simp] theorem State.modTally_pens (k : Nat) (f : Tally → Tally) : (s.modTally k f).pens = s.pens := rfl
@[simp] theorem State.modTally_tiles (k : Nat) (f : Tally → Tally) : (s.modTally k f).tiles = s.tiles := rfl
@[simp] theorem State.modTally_tick (k : Nat) (f : Tally → Tally) : (s.modTally k f).tick = s.tick := rfl
@[simp] theorem State.modTally_drover (k : Nat) (f : Tally → Tally) : (s.modTally k f).drover = s.drover := rfl
@[simp] theorem State.modTally_rings (k : Nat) (f : Tally → Tally) : (s.modTally k f).rings = s.rings := rfl
@[simp] theorem State.modTally_rxLanes (k : Nat) (f : Tally → Tally) : (s.modTally k f).rxLanes = s.rxLanes := rfl
@[simp] theorem State.modTally_txLanes (k : Nat) (f : Tally → Tally) : (s.modTally k f).txLanes = s.txLanes := rfl
@[simp] theorem State.modTally_fibers (k : Nat) (f : Tally → Tally) : (s.modTally k f).fibers = s.fibers := rfl
@[simp] theorem State.modTally_lasers (k : Nat) (f : Tally → Tally) : (s.modTally k f).lasers = s.lasers := rfl
@[simp] theorem State.modTally_oes (k : Nat) (f : Tally → Tally) : (s.modTally k f).oes = s.oes := rfl
@[simp] theorem State.modTally_test (k : Nat) (f : Tally → Tally) : (s.modTally k f).test = s.test := rfl
@[simp] theorem State.modTally_links (k : Nat) (f : Tally → Tally) : (s.modTally k f).links = s.links := rfl
@[simp] theorem State.modTally_gallery (k : Nat) (f : Tally → Tally) : (s.modTally k f).gallery = s.gallery := rfl
@[simp] theorem State.modTally_eth (k : Nat) (f : Tally → Tally) : (s.modTally k f).eth = s.eth := rfl
@[simp] theorem State.modTally_service (k : Nat) (f : Tally → Tally) : (s.modTally k f).service = s.service := rfl
@[simp] theorem State.modTally_dict (k : Nat) (f : Tally → Tally) : (s.modTally k f).dict = s.dict := rfl
@[simp] theorem State.modTally_boot (k : Nat) (f : Tally → Tally) : (s.modTally k f).boot = s.boot := rfl
@[simp] theorem State.modTally_tap (k : Nat) (f : Tally → Tally) : (s.modTally k f).tap = s.tap := rfl
@[simp] theorem State.modTally_nv (k : Nat) (f : Tally → Tally) : (s.modTally k f).nv = s.nv := rfl
@[simp] theorem State.modTally_sec (k : Nat) (f : Tally → Tally) : (s.modTally k f).sec = s.sec := rfl
@[simp] theorem State.modTally_stagingInForce (k : Nat) (f : Tally → Tally) : (s.modTally k f).stagingInForce = s.stagingInForce := rfl
@[simp] theorem State.modTally_refills (k : Nat) (f : Tally → Tally) : (s.modTally k f).refills = s.refills := rfl
@[simp] theorem State.modTally_macFault (k : Nat) (f : Tally → Tally) : (s.modTally k f).macFault = s.macFault := rfl
@[simp] theorem State.modTally_badWords (k : Nat) (f : Tally → Tally) : (s.modTally k f).badWords = s.badWords := rfl
@[simp] theorem State.modTally_alert (k : Nat) (f : Tally → Tally) : (s.modTally k f).alert = s.alert := rfl

/-! ## log -/

@[simp] theorem State.log_pending (c i d : Nat) : (s.log c i d).pending = s.pending := rfl
@[simp] theorem State.log_sent (c i d : Nat) : (s.log c i d).sent = s.sent := rfl
@[simp] theorem State.log_clock (c i d : Nat) : (s.log c i d).clock = s.clock := rfl
@[simp] theorem State.log_fresh (c i d : Nat) : (s.log c i d).fresh = s.fresh := rfl
@[simp] theorem State.log_objs (c i d : Nat) : (s.log c i d).objs = s.objs := rfl
@[simp] theorem State.log_mem (c i d : Nat) : (s.log c i d).mem = s.mem := rfl
@[simp] theorem State.log_pens (c i d : Nat) : (s.log c i d).pens = s.pens := rfl
@[simp] theorem State.log_tiles (c i d : Nat) : (s.log c i d).tiles = s.tiles := rfl
@[simp] theorem State.log_tick (c i d : Nat) : (s.log c i d).tick = s.tick := rfl
@[simp] theorem State.log_drover (c i d : Nat) : (s.log c i d).drover = s.drover := rfl
@[simp] theorem State.log_rings (c i d : Nat) : (s.log c i d).rings = s.rings := rfl
@[simp] theorem State.log_rxLanes (c i d : Nat) : (s.log c i d).rxLanes = s.rxLanes := rfl
@[simp] theorem State.log_txLanes (c i d : Nat) : (s.log c i d).txLanes = s.txLanes := rfl
@[simp] theorem State.log_fibers (c i d : Nat) : (s.log c i d).fibers = s.fibers := rfl
@[simp] theorem State.log_lasers (c i d : Nat) : (s.log c i d).lasers = s.lasers := rfl
@[simp] theorem State.log_oes (c i d : Nat) : (s.log c i d).oes = s.oes := rfl
@[simp] theorem State.log_test (c i d : Nat) : (s.log c i d).test = s.test := rfl
@[simp] theorem State.log_links (c i d : Nat) : (s.log c i d).links = s.links := rfl
@[simp] theorem State.log_gallery (c i d : Nat) : (s.log c i d).gallery = s.gallery := rfl
@[simp] theorem State.log_eth (c i d : Nat) : (s.log c i d).eth = s.eth := rfl
@[simp] theorem State.log_service (c i d : Nat) : (s.log c i d).service = s.service := rfl
@[simp] theorem State.log_dict (c i d : Nat) : (s.log c i d).dict = s.dict := rfl
@[simp] theorem State.log_boot (c i d : Nat) : (s.log c i d).boot = s.boot := rfl
@[simp] theorem State.log_tap (c i d : Nat) : (s.log c i d).tap = s.tap := rfl
@[simp] theorem State.log_nv (c i d : Nat) : (s.log c i d).nv = s.nv := rfl
@[simp] theorem State.log_sec (c i d : Nat) : (s.log c i d).sec = s.sec := rfl
@[simp] theorem State.log_units (c i d : Nat) : (s.log c i d).units = s.units := rfl
@[simp] theorem State.log_stagingInForce (c i d : Nat) : (s.log c i d).stagingInForce = s.stagingInForce := rfl
@[simp] theorem State.log_refills (c i d : Nat) : (s.log c i d).refills = s.refills := rfl
@[simp] theorem State.log_macFault (c i d : Nat) : (s.log c i d).macFault = s.macFault := rfl
@[simp] theorem State.log_badWords (c i d : Nat) : (s.log c i d).badWords = s.badWords := rfl
@[simp] theorem State.log_alert (c i d : Nat) : (s.log c i d).alert = s.alert := rfl

/-! ## send -/

@[simp] theorem State.send_pending (o : Out) : (s.send o).pending = s.pending := rfl
@[simp] theorem State.send_clock (o : Out) : (s.send o).clock = s.clock := rfl
@[simp] theorem State.send_fresh (o : Out) : (s.send o).fresh = s.fresh := rfl
@[simp] theorem State.send_objs (o : Out) : (s.send o).objs = s.objs := rfl
@[simp] theorem State.send_events (o : Out) : (s.send o).events = s.events := rfl
@[simp] theorem State.send_nextSeq (o : Out) : (s.send o).nextSeq = s.nextSeq := rfl
@[simp] theorem State.send_mem (o : Out) : (s.send o).mem = s.mem := rfl
@[simp] theorem State.send_pens (o : Out) : (s.send o).pens = s.pens := rfl
@[simp] theorem State.send_tiles (o : Out) : (s.send o).tiles = s.tiles := rfl
@[simp] theorem State.send_tick (o : Out) : (s.send o).tick = s.tick := rfl
@[simp] theorem State.send_drover (o : Out) : (s.send o).drover = s.drover := rfl
@[simp] theorem State.send_rings (o : Out) : (s.send o).rings = s.rings := rfl
@[simp] theorem State.send_rxLanes (o : Out) : (s.send o).rxLanes = s.rxLanes := rfl
@[simp] theorem State.send_txLanes (o : Out) : (s.send o).txLanes = s.txLanes := rfl
@[simp] theorem State.send_fibers (o : Out) : (s.send o).fibers = s.fibers := rfl
@[simp] theorem State.send_lasers (o : Out) : (s.send o).lasers = s.lasers := rfl
@[simp] theorem State.send_oes (o : Out) : (s.send o).oes = s.oes := rfl
@[simp] theorem State.send_test (o : Out) : (s.send o).test = s.test := rfl
@[simp] theorem State.send_links (o : Out) : (s.send o).links = s.links := rfl
@[simp] theorem State.send_gallery (o : Out) : (s.send o).gallery = s.gallery := rfl
@[simp] theorem State.send_eth (o : Out) : (s.send o).eth = s.eth := rfl
@[simp] theorem State.send_service (o : Out) : (s.send o).service = s.service := rfl
@[simp] theorem State.send_dict (o : Out) : (s.send o).dict = s.dict := rfl
@[simp] theorem State.send_boot (o : Out) : (s.send o).boot = s.boot := rfl
@[simp] theorem State.send_tap (o : Out) : (s.send o).tap = s.tap := rfl
@[simp] theorem State.send_nv (o : Out) : (s.send o).nv = s.nv := rfl
@[simp] theorem State.send_sec (o : Out) : (s.send o).sec = s.sec := rfl
@[simp] theorem State.send_units (o : Out) : (s.send o).units = s.units := rfl
@[simp] theorem State.send_stagingInForce (o : Out) : (s.send o).stagingInForce = s.stagingInForce := rfl
@[simp] theorem State.send_refills (o : Out) : (s.send o).refills = s.refills := rfl
@[simp] theorem State.send_macFault (o : Out) : (s.send o).macFault = s.macFault := rfl
@[simp] theorem State.send_badWords (o : Out) : (s.send o).badWords = s.badWords := rfl
@[simp] theorem State.send_alert (o : Out) : (s.send o).alert = s.alert := rfl

/-! ## answer -/

@[simp] theorem State.answer_pending (sl op i j c : Nat) : (s.answer sl op i j c).pending = s.pending := rfl
@[simp] theorem State.answer_clock (sl op i j c : Nat) : (s.answer sl op i j c).clock = s.clock := rfl
@[simp] theorem State.answer_fresh (sl op i j c : Nat) : (s.answer sl op i j c).fresh = s.fresh := rfl
@[simp] theorem State.answer_objs (sl op i j c : Nat) : (s.answer sl op i j c).objs = s.objs := rfl
@[simp] theorem State.answer_events (sl op i j c : Nat) : (s.answer sl op i j c).events = s.events := rfl
@[simp] theorem State.answer_nextSeq (sl op i j c : Nat) : (s.answer sl op i j c).nextSeq = s.nextSeq := rfl
@[simp] theorem State.answer_mem (sl op i j c : Nat) : (s.answer sl op i j c).mem = s.mem := rfl
@[simp] theorem State.answer_pens (sl op i j c : Nat) : (s.answer sl op i j c).pens = s.pens := rfl
@[simp] theorem State.answer_tiles (sl op i j c : Nat) : (s.answer sl op i j c).tiles = s.tiles := rfl
@[simp] theorem State.answer_tick (sl op i j c : Nat) : (s.answer sl op i j c).tick = s.tick := rfl
@[simp] theorem State.answer_drover (sl op i j c : Nat) : (s.answer sl op i j c).drover = s.drover := rfl
@[simp] theorem State.answer_rings (sl op i j c : Nat) : (s.answer sl op i j c).rings = s.rings := rfl
@[simp] theorem State.answer_rxLanes (sl op i j c : Nat) : (s.answer sl op i j c).rxLanes = s.rxLanes := rfl
@[simp] theorem State.answer_txLanes (sl op i j c : Nat) : (s.answer sl op i j c).txLanes = s.txLanes := rfl
@[simp] theorem State.answer_fibers (sl op i j c : Nat) : (s.answer sl op i j c).fibers = s.fibers := rfl
@[simp] theorem State.answer_lasers (sl op i j c : Nat) : (s.answer sl op i j c).lasers = s.lasers := rfl
@[simp] theorem State.answer_oes (sl op i j c : Nat) : (s.answer sl op i j c).oes = s.oes := rfl
@[simp] theorem State.answer_test (sl op i j c : Nat) : (s.answer sl op i j c).test = s.test := rfl
@[simp] theorem State.answer_links (sl op i j c : Nat) : (s.answer sl op i j c).links = s.links := rfl
@[simp] theorem State.answer_gallery (sl op i j c : Nat) : (s.answer sl op i j c).gallery = s.gallery := rfl
@[simp] theorem State.answer_eth (sl op i j c : Nat) : (s.answer sl op i j c).eth = s.eth := rfl
@[simp] theorem State.answer_service (sl op i j c : Nat) : (s.answer sl op i j c).service = s.service := rfl
@[simp] theorem State.answer_dict (sl op i j c : Nat) : (s.answer sl op i j c).dict = s.dict := rfl
@[simp] theorem State.answer_boot (sl op i j c : Nat) : (s.answer sl op i j c).boot = s.boot := rfl
@[simp] theorem State.answer_tap (sl op i j c : Nat) : (s.answer sl op i j c).tap = s.tap := rfl
@[simp] theorem State.answer_nv (sl op i j c : Nat) : (s.answer sl op i j c).nv = s.nv := rfl
@[simp] theorem State.answer_sec (sl op i j c : Nat) : (s.answer sl op i j c).sec = s.sec := rfl
@[simp] theorem State.answer_units (sl op i j c : Nat) : (s.answer sl op i j c).units = s.units := rfl
@[simp] theorem State.answer_stagingInForce (sl op i j c : Nat) : (s.answer sl op i j c).stagingInForce = s.stagingInForce := rfl
@[simp] theorem State.answer_refills (sl op i j c : Nat) : (s.answer sl op i j c).refills = s.refills := rfl
@[simp] theorem State.answer_macFault (sl op i j c : Nat) : (s.answer sl op i j c).macFault = s.macFault := rfl
@[simp] theorem State.answer_badWords (sl op i j c : Nat) : (s.answer sl op i j c).badWords = s.badWords := rfl
@[simp] theorem State.answer_alert (sl op i j c : Nat) : (s.answer sl op i j c).alert = s.alert := rfl

/-! ## setInt and count: an object's number, or nothing where no row describes it -/

@[simp] theorem State.setInt_pending (i j : Nat) (v : Int) : (s.setInt i j v).pending = s.pending := by unfold State.setInt; split <;> rfl
@[simp] theorem State.setInt_sent (i j : Nat) (v : Int) : (s.setInt i j v).sent = s.sent := by unfold State.setInt; split <;> rfl
@[simp] theorem State.setInt_clock (i j : Nat) (v : Int) : (s.setInt i j v).clock = s.clock := by unfold State.setInt; split <;> rfl
@[simp] theorem State.setInt_fresh (i j : Nat) (v : Int) : (s.setInt i j v).fresh = s.fresh := by unfold State.setInt; split <;> rfl
@[simp] theorem State.setInt_events (i j : Nat) (v : Int) : (s.setInt i j v).events = s.events := by unfold State.setInt; split <;> rfl
@[simp] theorem State.setInt_nextSeq (i j : Nat) (v : Int) : (s.setInt i j v).nextSeq = s.nextSeq := by unfold State.setInt; split <;> rfl
@[simp] theorem State.setInt_mem (i j : Nat) (v : Int) : (s.setInt i j v).mem = s.mem := by unfold State.setInt; split <;> rfl
@[simp] theorem State.setInt_pens (i j : Nat) (v : Int) : (s.setInt i j v).pens = s.pens := by unfold State.setInt; split <;> rfl
@[simp] theorem State.setInt_tiles (i j : Nat) (v : Int) : (s.setInt i j v).tiles = s.tiles := by unfold State.setInt; split <;> rfl
@[simp] theorem State.setInt_tick (i j : Nat) (v : Int) : (s.setInt i j v).tick = s.tick := by unfold State.setInt; split <;> rfl
@[simp] theorem State.setInt_drover (i j : Nat) (v : Int) : (s.setInt i j v).drover = s.drover := by unfold State.setInt; split <;> rfl
@[simp] theorem State.setInt_rings (i j : Nat) (v : Int) : (s.setInt i j v).rings = s.rings := by unfold State.setInt; split <;> rfl
@[simp] theorem State.setInt_rxLanes (i j : Nat) (v : Int) : (s.setInt i j v).rxLanes = s.rxLanes := by unfold State.setInt; split <;> rfl
@[simp] theorem State.setInt_txLanes (i j : Nat) (v : Int) : (s.setInt i j v).txLanes = s.txLanes := by unfold State.setInt; split <;> rfl
@[simp] theorem State.setInt_fibers (i j : Nat) (v : Int) : (s.setInt i j v).fibers = s.fibers := by unfold State.setInt; split <;> rfl
@[simp] theorem State.setInt_lasers (i j : Nat) (v : Int) : (s.setInt i j v).lasers = s.lasers := by unfold State.setInt; split <;> rfl
@[simp] theorem State.setInt_oes (i j : Nat) (v : Int) : (s.setInt i j v).oes = s.oes := by unfold State.setInt; split <;> rfl
@[simp] theorem State.setInt_test (i j : Nat) (v : Int) : (s.setInt i j v).test = s.test := by unfold State.setInt; split <;> rfl
@[simp] theorem State.setInt_links (i j : Nat) (v : Int) : (s.setInt i j v).links = s.links := by unfold State.setInt; split <;> rfl
@[simp] theorem State.setInt_gallery (i j : Nat) (v : Int) : (s.setInt i j v).gallery = s.gallery := by unfold State.setInt; split <;> rfl
@[simp] theorem State.setInt_eth (i j : Nat) (v : Int) : (s.setInt i j v).eth = s.eth := by unfold State.setInt; split <;> rfl
@[simp] theorem State.setInt_service (i j : Nat) (v : Int) : (s.setInt i j v).service = s.service := by unfold State.setInt; split <;> rfl
@[simp] theorem State.setInt_dict (i j : Nat) (v : Int) : (s.setInt i j v).dict = s.dict := by unfold State.setInt; split <;> rfl
@[simp] theorem State.setInt_boot (i j : Nat) (v : Int) : (s.setInt i j v).boot = s.boot := by unfold State.setInt; split <;> rfl
@[simp] theorem State.setInt_tap (i j : Nat) (v : Int) : (s.setInt i j v).tap = s.tap := by unfold State.setInt; split <;> rfl
@[simp] theorem State.setInt_nv (i j : Nat) (v : Int) : (s.setInt i j v).nv = s.nv := by unfold State.setInt; split <;> rfl
@[simp] theorem State.setInt_sec (i j : Nat) (v : Int) : (s.setInt i j v).sec = s.sec := by unfold State.setInt; split <;> rfl
@[simp] theorem State.setInt_units (i j : Nat) (v : Int) : (s.setInt i j v).units = s.units := by unfold State.setInt; split <;> rfl
@[simp] theorem State.setInt_stagingInForce (i j : Nat) (v : Int) : (s.setInt i j v).stagingInForce = s.stagingInForce := by unfold State.setInt; split <;> rfl
@[simp] theorem State.setInt_refills (i j : Nat) (v : Int) : (s.setInt i j v).refills = s.refills := by unfold State.setInt; split <;> rfl
@[simp] theorem State.setInt_macFault (i j : Nat) (v : Int) : (s.setInt i j v).macFault = s.macFault := by unfold State.setInt; split <;> rfl
@[simp] theorem State.setInt_badWords (i j : Nat) (v : Int) : (s.setInt i j v).badWords = s.badWords := by unfold State.setInt; split <;> rfl
@[simp] theorem State.setInt_alert (i j : Nat) (v : Int) : (s.setInt i j v).alert = s.alert := by unfold State.setInt; split <;> rfl

@[simp] theorem State.count_pending (i j n : Nat) : (s.count i j n).pending = s.pending := by unfold State.count; split <;> rfl
@[simp] theorem State.count_sent (i j n : Nat) : (s.count i j n).sent = s.sent := by unfold State.count; split <;> rfl
@[simp] theorem State.count_clock (i j n : Nat) : (s.count i j n).clock = s.clock := by unfold State.count; split <;> rfl
@[simp] theorem State.count_fresh (i j n : Nat) : (s.count i j n).fresh = s.fresh := by unfold State.count; split <;> rfl
@[simp] theorem State.count_events (i j n : Nat) : (s.count i j n).events = s.events := by unfold State.count; split <;> rfl
@[simp] theorem State.count_nextSeq (i j n : Nat) : (s.count i j n).nextSeq = s.nextSeq := by unfold State.count; split <;> rfl
@[simp] theorem State.count_mem (i j n : Nat) : (s.count i j n).mem = s.mem := by unfold State.count; split <;> rfl
@[simp] theorem State.count_pens (i j n : Nat) : (s.count i j n).pens = s.pens := by unfold State.count; split <;> rfl
@[simp] theorem State.count_tiles (i j n : Nat) : (s.count i j n).tiles = s.tiles := by unfold State.count; split <;> rfl
@[simp] theorem State.count_tick (i j n : Nat) : (s.count i j n).tick = s.tick := by unfold State.count; split <;> rfl
@[simp] theorem State.count_drover (i j n : Nat) : (s.count i j n).drover = s.drover := by unfold State.count; split <;> rfl
@[simp] theorem State.count_rings (i j n : Nat) : (s.count i j n).rings = s.rings := by unfold State.count; split <;> rfl
@[simp] theorem State.count_rxLanes (i j n : Nat) : (s.count i j n).rxLanes = s.rxLanes := by unfold State.count; split <;> rfl
@[simp] theorem State.count_txLanes (i j n : Nat) : (s.count i j n).txLanes = s.txLanes := by unfold State.count; split <;> rfl
@[simp] theorem State.count_fibers (i j n : Nat) : (s.count i j n).fibers = s.fibers := by unfold State.count; split <;> rfl
@[simp] theorem State.count_lasers (i j n : Nat) : (s.count i j n).lasers = s.lasers := by unfold State.count; split <;> rfl
@[simp] theorem State.count_oes (i j n : Nat) : (s.count i j n).oes = s.oes := by unfold State.count; split <;> rfl
@[simp] theorem State.count_test (i j n : Nat) : (s.count i j n).test = s.test := by unfold State.count; split <;> rfl
@[simp] theorem State.count_links (i j n : Nat) : (s.count i j n).links = s.links := by unfold State.count; split <;> rfl
@[simp] theorem State.count_gallery (i j n : Nat) : (s.count i j n).gallery = s.gallery := by unfold State.count; split <;> rfl
@[simp] theorem State.count_eth (i j n : Nat) : (s.count i j n).eth = s.eth := by unfold State.count; split <;> rfl
@[simp] theorem State.count_service (i j n : Nat) : (s.count i j n).service = s.service := by unfold State.count; split <;> rfl
@[simp] theorem State.count_dict (i j n : Nat) : (s.count i j n).dict = s.dict := by unfold State.count; split <;> rfl
@[simp] theorem State.count_boot (i j n : Nat) : (s.count i j n).boot = s.boot := by unfold State.count; split <;> rfl
@[simp] theorem State.count_tap (i j n : Nat) : (s.count i j n).tap = s.tap := by unfold State.count; split <;> rfl
@[simp] theorem State.count_nv (i j n : Nat) : (s.count i j n).nv = s.nv := by unfold State.count; split <;> rfl
@[simp] theorem State.count_sec (i j n : Nat) : (s.count i j n).sec = s.sec := by unfold State.count; split <;> rfl
@[simp] theorem State.count_units (i j n : Nat) : (s.count i j n).units = s.units := by unfold State.count; split <;> rfl
@[simp] theorem State.count_stagingInForce (i j n : Nat) : (s.count i j n).stagingInForce = s.stagingInForce := by unfold State.count; split <;> rfl
@[simp] theorem State.count_refills (i j n : Nat) : (s.count i j n).refills = s.refills := by unfold State.count; split <;> rfl
@[simp] theorem State.count_macFault (i j n : Nat) : (s.count i j n).macFault = s.macFault := by unfold State.count; split <;> rfl
@[simp] theorem State.count_badWords (i j n : Nat) : (s.count i j n).badWords = s.badWords := by unfold State.count; split <;> rfl
@[simp] theorem State.count_alert (i j n : Nat) : (s.count i j n).alert = s.alert := by unfold State.count; split <;> rfl

/-! ## Reading back -/

theorem State.pen_setPen (p q : Nat) (v : Pen) : (s.setPen p v).pen q = if q = p then v else s.pen q :=
  tabGet_tabSet _ _ _ _ _
theorem State.pen_modPen (p q : Nat) (f : Pen → Pen) : (s.modPen p f).pen q = if q = p then f (s.pen p) else s.pen q :=
  tabGet_tabSet _ _ _ _ _
@[simp] theorem State.pen_setPen_same (p : Nat) (v : Pen) : (s.setPen p v).pen p = v := by simp [State.pen_setPen]
@[simp] theorem State.pen_modPen_same (p : Nat) (f : Pen → Pen) : (s.modPen p f).pen p = f (s.pen p) := by
  simp [State.pen_modPen]
theorem State.tile_setTile (t u : Nat) (v : Tile) : (s.setTile t v).tile u = if u = t then v else s.tile u :=
  tabGet_tabSet _ _ _ _ _
theorem State.tile_modTile (t u : Nat) (f : Tile → Tile) :
    (s.modTile t f).tile u = if u = t then f (s.tile t) else s.tile u := tabGet_tabSet _ _ _ _ _
@[simp] theorem State.tile_modTile_same (t : Nat) (f : Tile → Tile) : (s.modTile t f).tile t = f (s.tile t) := by
  simp [State.tile_modTile]
theorem State.link_setLink (a b : Nat) (v : LinkSt) : (s.setLink a v).link b = if b = a then v else s.link b :=
  tabGet_tabSet _ _ _ _ _
theorem State.link_modLink (a b : Nat) (f : LinkSt → LinkSt) :
    (s.modLink a f).link b = if b = a then f (s.link a) else s.link b := tabGet_tabSet _ _ _ _ _
theorem State.fiber_modFiber (a b : Nat) (f : FiberSt → FiberSt) :
    (s.modFiber a f).fiber b = if b = a then f (s.fiber a) else s.fiber b := tabGet_tabSet _ _ _ _ _
theorem State.oe_modOe (a b : Nat) (f : OeSt → OeSt) : (s.modOe a f).oe b = if b = a then f (s.oe a) else s.oe b :=
  tabGet_tabSet _ _ _ _ _
theorem State.ring_modRing (a b : Nat) (f : RingSt → RingSt) :
    (s.modRing a f).ring b = if b = a then f (s.ring a) else s.ring b := tabGet_tabSet _ _ _ _ _
theorem State.qp_setQp (a b : Nat) (v : QpSt) : (s.setQp a v).qp b = if b = a then v else s.qp b :=
  tabGet_tabSet _ _ _ _ _
theorem State.qp_modQp (a b : Nat) (f : QpSt → QpSt) : (s.modQp a f).qp b = if b = a then f (s.qp a) else s.qp b :=
  tabGet_tabSet _ _ _ _ _
theorem State.session_setSession (a b : Nat) (v : Option Session) :
    (s.setSession a v).session b = if b = a then v else s.session b := tabGet_tabSet _ _ _ _ _
theorem State.session_modSession (a b : Nat) (f : Session → Session) :
    (s.modSession a f).session b = if b = a then (s.session a).map f else s.session b := tabGet_tabSet _ _ _ _ _
theorem State.model_modModel (a b : Nat) (f : Model → Model) :
    (s.modModel a f).model b = if b = a then f (s.model a) else s.model b := tabGet_tabSet _ _ _ _ _
theorem State.tally_setTally (a b : Nat) (v : Tally) : (s.setTally a v).tally b = if b = a then v else s.tally b :=
  tabGet_tabSet _ _ _ _ _
theorem State.tally_modTally (a b : Nat) (f : Tally → Tally) :
    (s.modTally a f).tally b = if b = a then f (s.tally a) else s.tally b := tabGet_tabSet _ _ _ _ _

/-- Lanes by their key 18 × fiber + line. -/
theorem State.rxLane_modRxLane (a b c d : Nat) (f : LaneSt → LaneSt) : (s.modRxLane a b f).rxLane c d
    = if 18 * c + d = 18 * a + b then f (s.rxLane a b) else s.rxLane c d := tabGet_tabSet _ _ _ _ _
theorem State.txLane_modTxLane (a b c d : Nat) (f : LaneSt → LaneSt) : (s.modTxLane a b f).txLane c d
    = if 18 * c + d = 18 * a + b then f (s.txLane a b) else s.txLane c d := tabGet_tabSet _ _ _ _ _
theorem State.laser_modLaser (a b c d : Nat) (f : LaserSt → LaserSt) : (s.modLaser a b f).laser c d
    = if 18 * c + d = 18 * a + b then f (s.laser a b) else s.laser c d := tabGet_tabSet _ _ _ _ _

/-- An object read after a write, by its key 256 × index + sub. -/
theorem State.obj_setObj (i j k l : Nat) (v : Value) :
    (s.setObj i j v).obj k l = if objKey k l = objKey i j then v else s.obj k l := tabGet_tabSet _ _ _ _ _
@[simp] theorem State.num_setNum_same (i j n : Nat) : (s.setNum i j n).num i j = n := by
  simp [State.num, State.setNum, State.obj_setObj]
theorem State.num_setNum (i j k l n : Nat) :
    (s.setNum i j n).num k l = if objKey k l = objKey i j then n else s.num k l := by
  by_cases h : objKey k l = objKey i j <;> simp [State.num, State.setNum, State.obj_setObj, h]
@[simp] theorem State.blob_setBlob_same (i j : Nat) (b : List Byte) : (s.setBlob i j b).blob i j = b := by
  simp [State.blob, State.setBlob, State.obj_setObj]

/-- A byte of memory after one was written. -/
theorem State.byte_setByte (a b : Nat) (v : Byte) : (s.setByte a v).byte b = if b = a then v else s.byte b :=
  tabGet_tabSet _ _ _ _ _

end Sys2Proof.Machine
end

