-- ==== Sys2Proof/Laws/Bale.lean ====
section
/-! SUPPORT. Where a part of a bale is read or written depends on the redirect map, the failed channels and the tiles' power
alone; what a write from inside the module does. -/

namespace Sys2Proof.Machine

theorem State.translate_congr {s t : State} (h : s.objs = t.objs) (a : Nat) (b : Bool) :
    s.translate a b = t.translate a b := by
  unfold State.translate State.redirect State.blob State.obj; rw [h]

theorem State.channelBad_congr {s t : State} (h : s.objs = t.objs) (a b : Nat) :
    s.channelBad a b = t.channelBad a b := by
  unfold State.channelBad State.num State.obj; rw [h]

theorem State.writePart_congr {s t : State} (h : s.objs = t.objs) (k : ∀ i, (s.tile i).tileOn = (t.tile i).tileOn ∧ (s.tile i).flockOn = (t.tile i).flockOn) (a : Nat) :
  s.writePart a = t.writePart a := by
  unfold State.writePart
  simp only [State.translate_congr h, State.channelBad_congr h, (k _).1, (k _).2]

theorem State.readPart_congr {s t : State} (h : s.objs = t.objs) (k : ∀ i, (s.tile i).tileOn = (t.tile i).tileOn) (a : Nat) :
  s.readPart a = t.readPart a := by
  unfold State.readPart
  simp only [State.translate_congr h, State.channelBad_congr h, k]

theorem State.countDiscard_power (s : State) (u : Option Nat) (i : Nat) :
    ((s.countDiscard u).tile i).tileOn = (s.tile i).tileOn ∧ ((s.countDiscard u).tile i).flockOn = (s.tile i).flockOn := by
  unfold State.countDiscard
  cases u with
  | none => exact ⟨rfl, rfl⟩
  | some u => simp only [State.tile_modTile]; split <;> simp_all

theorem State.countDiscard_objs (s : State) (u : Option Nat) : (s.countDiscard u).objs = s.objs := by
  unfold State.countDiscard; cases u <;> rfl

theorem State.writePart_countDiscard (s : State) (u : Option Nat) (a : Nat) :
    (s.countDiscard u).writePart a = s.writePart a :=
  State.writePart_congr (s.countDiscard_objs u) (s.countDiscard_power u) a

theorem State.writePart_write (s : State) (b : Nat) (d : List Byte) (a : Nat) :
    (s.write b d).writePart a = s.writePart a :=
  State.writePart_congr rfl (fun _ => ⟨rfl, rfl⟩) a

theorem State.writePart_setPen (s : State) (p : Nat) (q : Pen) (a : Nat) : (s.setPen p q).writePart a = s.writePart a :=
  State.writePart_congr rfl (fun _ => ⟨rfl, rfl⟩) a

/-- A write that can be placed stores its bytes there. -/
theorem State.store_ok {s : State} {a b : Nat} (d : List Byte) (h : s.writePart a = .ok b) :
    s.store a d = s.write b d := by
  unfold State.store; rw [h]

/-- Any other is discarded, and counted where a channel discards it (R125). -/
theorem State.store_error {s : State} {a : Nat} {u : Option Nat} (d : List Byte) (h : s.writePart a = .error u) :
    s.store a d = s.countDiscard u := by
  unfold State.store; rw [h]

end Sys2Proof.Machine
end

