-- ==== Sys2Proof/Laws/Exec.lean ====
section
/-! SUPPORT. Each command is one meaning: `exec` by constructor. -/

namespace Sys2Proof.Machine

@[simp] theorem exec_tick (pathFault : BitVec 64) (s : State) : exec (.tick pathFault) s = execTick pathFault s := rfl
@[simp] theorem exec_landingOpen (late : BitVec 64) (s : State) :
    exec (.landingOpen late) s = execLandingOpen late s := rfl
@[simp] theorem exec_batchCapGrowth (tile : Fin 64) (s : State) :
    exec (.batchCapGrowth tile) s = execBatchCapGrowth tile s := rfl
@[simp] theorem exec_startTreads (slot : Nat) (s : State) : exec (.startTreads slot) s = execStartTreads slot s := rfl
@[simp] theorem exec_stopTreads (slot : Nat) (s : State) : exec (.stopTreads slot) s = execStopTreads slot s := rfl
@[simp] theorem exec_tickGroupCommit (slot : Nat) (s : State) :
    exec (.tickGroupCommit slot) s = execTickGroupCommit slot s := rfl
@[simp] theorem exec_changeCountdownZero (s : State) : exec .changeCountdownZero s = execChangeCountdownZero s := rfl
@[simp] theorem exec_tickLost (s : State) : exec .tickLost s = execTickLost s := rfl
@[simp] theorem exec_beaconReceived (fiber : Fin 96) (b : Beacon) (raw : Int) (upstream : Int) (s : State) :
    exec (.beaconReceived fiber b raw upstream) s = execBeaconReceived fiber b raw upstream s := rfl
@[simp] theorem exec_delayProbePeriod (s : State) : exec .delayProbePeriod s = execDelayProbePeriod s := rfl
@[simp] theorem exec_delayProbeReceived (fiber : Fin 96) (p : Probe) (s : State) :
    exec (.delayProbeReceived fiber p) s = execDelayProbeReceived fiber p s := rfl
@[simp] theorem exec_probeReplyReceived (fiber : Fin 96) (p : Probe) (s : State) :
    exec (.probeReplyReceived fiber p) s = execProbeReplyReceived fiber p s := rfl
@[simp] theorem exec_treadConfirm (s : State) : exec .treadConfirm s = execTreadConfirm s := rfl
@[simp] theorem exec_claimInChange (asserted : Bool) (s : State) :
    exec (.claimInChange asserted) s = execClaimInChange asserted s := rfl
@[simp] theorem exec_claimTimeout (s : State) : exec .claimTimeout s = execClaimTimeout s := rfl
@[simp] theorem exec_tickDisputeReceived (d : Dispute) (s : State) :
    exec (.tickDisputeReceived d) s = execTickDisputeReceived d s := rfl
@[simp] theorem exec_reclaim (s : State) : exec .reclaim s = execReclaim s := rfl
@[simp] theorem exec_nop (pen : Fin 1024) (w : PenWord) (s : State) : exec (.nop pen w) s = execNop pen w s := rfl
@[simp] theorem exec_endJob (pen : Fin 1024) (w : PenWord) (s : State) :
    exec (.endJob pen w) s = execEndJob pen w s := rfl
@[simp] theorem exec_br (pen : Fin 1024) (w : PenWord) (s : State) : exec (.br pen w) s = execBr pen w s := rfl
@[simp] theorem exec_brc (pen : Fin 1024) (w : PenWord) (s : State) : exec (.brc pen w) s = execBrc pen w s := rfl
@[simp] theorem exec_loop (pen : Fin 1024) (w : PenWord) (s : State) : exec (.loop pen w) s = execLoop pen w s := rfl
@[simp] theorem exec_trap (pen : Fin 1024) (w : PenWord) (s : State) : exec (.trap pen w) s = execTrap pen w s := rfl
@[simp] theorem exec_trd (pen : Fin 1024) (w : PenWord) (s : State) : exec (.trd pen w) s = execTrd pen w s := rfl
@[simp] theorem exec_fence (pen : Fin 1024) (w : PenWord) (s : State) : exec (.fence pen w) s = execFence pen w s := rfl
@[simp] theorem exec_twait (pen : Fin 1024) (w : PenWord) (s : State) : exec (.twait pen w) s = execTwait pen w s := rfl
@[simp] theorem exec_sli (pen : Fin 1024) (w : PenWord) (s : State) : exec (.sli pen w) s = execSli pen w s := rfl
@[simp] theorem exec_salu (pen : Fin 1024) (w : PenWord) (s : State) : exec (.salu pen w) s = execSalu pen w s := rfl
@[simp] theorem exec_sld (pen : Fin 1024) (w : PenWord) (s : State) : exec (.sld pen w) s = execSld pen w s := rfl
@[simp] theorem exec_sst (pen : Fin 1024) (w : PenWord) (s : State) : exec (.sst pen w) s = execSst pen w s := rfl
@[simp] theorem exec_sfp (pen : Fin 1024) (w : PenWord) (s : State) : exec (.sfp pen w) s = execSfp pen w s := rfl
@[simp] theorem exec_vset (pen : Fin 1024) (w : PenWord) (s : State) : exec (.vset pen w) s = execVset pen w s := rfl
@[simp] theorem exec_vadv (pen : Fin 1024) (w : PenWord) (s : State) : exec (.vadv pen w) s = execVadv pen w s := rfl
@[simp] theorem exec_vld (pen : Fin 1024) (w : PenWord) (s : State) : exec (.vld pen w) s = execVld pen w s := rfl
@[simp] theorem exec_bld (pen : Fin 1024) (w : PenWord) (s : State) : exec (.bld pen w) s = execBld pen w s := rfl
@[simp] theorem exec_baleReadArrival (pen : Fin 1024) (slot : Fin 64) (badMoves : Nat) (s : State) :
    exec (.baleReadArrival pen slot badMoves) s = execBaleReadArrival pen slot badMoves s := rfl
@[simp] theorem exec_bst (pen : Fin 1024) (w : PenWord) (s : State) : exec (.bst pen w) s = execBst pen w s := rfl
@[simp] theorem exec_emit (pen : Fin 1024) (w : PenWord) (s : State) : exec (.emit pen w) s = execEmit pen w s := rfl
@[simp] theorem exec_take (pen : Fin 1024) (w : PenWord) (s : State) : exec (.take pen w) s = execTake pen w s := rfl
@[simp] theorem exec_tokw (pen : Fin 1024) (w : PenWord) (s : State) : exec (.tokw pen w) s = execTokw pen w s := rfl
@[simp] theorem exec_mma (pen : Fin 1024) (w : PenWord) (s : State) : exec (.mma pen w) s = execMma pen w s := rfl
@[simp] theorem exec_aclr (pen : Fin 1024) (w : PenWord) (s : State) : exec (.aclr pen w) s = execAclr pen w s := rfl
@[simp] theorem exec_vop (pen : Fin 1024) (w : PenWord) (s : State) : exec (.vop pen w) s = execVop pen w s := rfl
@[simp] theorem exec_vfma (pen : Fin 1024) (w : PenWord) (s : State) : exec (.vfma pen w) s = execVfma pen w s := rfl
@[simp] theorem exec_vun (pen : Fin 1024) (w : PenWord) (s : State) : exec (.vun pen w) s = execVun pen w s := rfl
@[simp] theorem exec_vsel (pen : Fin 1024) (w : PenWord) (s : State) : exec (.vsel pen w) s = execVsel pen w s := rfl
@[simp] theorem exec_cvt (pen : Fin 1024) (w : PenWord) (s : State) : exec (.cvt pen w) s = execCvt pen w s := rfl
@[simp] theorem exec_red (pen : Fin 1024) (w : PenWord) (s : State) : exec (.red pen w) s = execRed pen w s := rfl
@[simp] theorem exec_csum (pen : Fin 1024) (w : PenWord) (s : State) : exec (.csum pen w) s = execCsum pen w s := rfl
@[simp] theorem exec_find (pen : Fin 1024) (w : PenWord) (s : State) : exec (.find pen w) s = execFind pen w s := rfl
@[simp] theorem exec_osm (pen : Fin 1024) (w : PenWord) (s : State) : exec (.osm pen w) s = execOsm pen w s := rfl
@[simp] theorem exec_topk (pen : Fin 1024) (w : PenWord) (s : State) : exec (.topk pen w) s = execTopk pen w s := rfl
@[simp] theorem exec_gath (pen : Fin 1024) (w : PenWord) (s : State) : exec (.gath pen w) s = execGath pen w s := rfl
@[simp] theorem exec_scat (pen : Fin 1024) (w : PenWord) (s : State) : exec (.scat pen w) s = execScat pen w s := rfl
@[simp] theorem exec_rng (pen : Fin 1024) (w : PenWord) (s : State) : exec (.rng pen w) s = execRng pen w s := rfl
@[simp] theorem exec_rchk (pen : Fin 1024) (w : PenWord) (s : State) : exec (.rchk pen w) s = execRchk pen w s := rfl
@[simp] theorem exec_cycleBoundExpiry (pen : Fin 1024) (s : State) :
    exec (.cycleBoundExpiry pen) s = execCycleBoundExpiry pen s := rfl
@[simp] theorem exec_macFaultInjection (slot : Nat) (value : BitVec 32) (s : State) :
    exec (.macFaultInjection slot value) s = execMacFaultInjection slot value s := rfl
@[simp] theorem exec_planDoorbell (tile : Fin 64) (offset : Nat) (s : State) :
    exec (.planDoorbell tile offset) s = execPlanDoorbell tile offset s := rfl
@[simp] theorem exec_jobDispatch (pen : Fin 1024) (s : State) : exec (.jobDispatch pen) s = execJobDispatch pen s := rfl
@[simp] theorem exec_jobComplete (pen : Fin 1024) (s : State) : exec (.jobComplete pen) s = execJobComplete pen s := rfl
@[simp] theorem exec_inFieldTestComplete (pen : Fin 1024) (digest : Option (BitVec 32)) (reference : Option (BitVec 32)) (s : State) :
    exec (.inFieldTestComplete pen digest reference third) s = execInFieldTestComplete pen digest reference third s := rfl
@[simp] theorem exec_grantSlotBoundary (tile : Fin 64) (s : State) :
    exec (.grantSlotBoundary tile) s = execGrantSlotBoundary tile s := rfl
@[simp] theorem exec_tradeIdleExpiry (pen : Fin 1024) (s : State) :
    exec (.tradeIdleExpiry pen) s = execTradeIdleExpiry pen s := rfl
@[simp] theorem exec_tradeRequestReceived (donor : Fin 64) (requester : Fin 64) (clkt : Nat) (commits staging records : Nat) (s : State) :
    exec (.tradeRequestReceived donor requester clkt commits staging records) s = execTradeRequestReceived donor requester clkt commits staging records s := rfl
@[simp] theorem exec_tradeGrantReceived (receiver : Fin 64) (donor : Fin 64) (jobs : List TradedJob) (s : State) :
    exec (.tradeGrantReceived receiver donor jobs) s = execTradeGrantReceived receiver donor jobs s := rfl
@[simp] theorem exec_tradeCompletionReport (donor : Fin 64) (jobId : Nat) (cls : Nat) (s : State) :
    exec (.tradeCompletionReport donor jobId cls) s = execTradeCompletionReport donor jobId cls s := rfl
@[simp] theorem exec_memoryRead (pen : Fin 1024) (slot : Fin 64) (linkErrors : Nat) (s : State) :
    exec (.memoryRead pen slot linkErrors) s = execMemoryRead pen slot linkErrors s := rfl
@[simp] theorem exec_commitWrite (tile : Fin 64) (slot : Nat) (badFetches : Nat) (s : State) :
    exec (.commitWrite tile slot badFetches) s = execCommitWrite tile slot badFetches s := rfl
@[simp] theorem exec_commitWriteComplete (tile : Fin 64) (slot : Nat) (s : State) :
    exec (.commitWriteComplete tile slot) s = execCommitWriteComplete tile slot s := rfl
@[simp] theorem exec_commitWriteTimeout (tile : Fin 64) (slot : Nat) (s : State) :
    exec (.commitWriteTimeout tile slot) s = execCommitWriteTimeout tile slot s := rfl
@[simp] theorem exec_baleReadTimeout (pen : Fin 1024) (slot : Fin 64) (s : State) :
    exec (.baleReadTimeout pen slot) s = execBaleReadTimeout pen slot s := rfl
@[simp] theorem exec_refreshRatePoll (tile : Fin 64) (report : Nat) (s : State) :
    exec (.refreshRatePoll tile report) s = execRefreshRatePoll tile report s := rfl
@[simp] theorem exec_channelFailed (tile : Fin 64) (channel : Fin 6) (s : State) :
    exec (.channelFailed tile channel) s = execChannelFailed tile channel s := rfl
@[simp] theorem exec_rehomingCopyComplete (tile : Fin 64) (gib : Fin 48) (s : State) :
    exec (.rehomingCopyComplete tile gib) s = execRehomingCopyComplete tile gib s := rfl
@[simp] theorem exec_redirectGroupCommit (slot : Nat) (s : State) :
    exec (.redirectGroupCommit slot) s = execRedirectGroupCommit slot s := rfl
@[simp] theorem exec_regionMapWrite (slot : Nat) (data : List Byte) (s : State) :
    exec (.regionMapWrite slot data) s = execRegionMapWrite slot data s := rfl
@[simp] theorem exec_senseWindow (currents : List (Nat × Nat)) (s : State) :
    exec (.senseWindow currents) s = execSenseWindow currents s := rfl
@[simp] theorem exec_reinHeldLimit (s : State) : exec .reinHeldLimit s = execReinHeldLimit s := rfl
@[simp] theorem exec_inputReading (millivolts : Nat) (milliampsA milliampsB : Nat) (vkMilliwatts : Nat) (s : State) :
    exec (.inputReading millivolts milliampsA milliampsB vkMilliwatts) s = execInputReading millivolts milliampsA milliampsB vkMilliwatts s := rfl
@[simp] theorem exec_tabFault (s : State) : exec .tabFault s = execTabFault s := rfl
@[simp] theorem exec_tabFaultClear (s : State) : exec .tabFaultClear s = execTabFaultClear s := rfl
@[simp] theorem exec_inputOutOfRange (high : Bool) (s : State) :
    exec (.inputOutOfRange high) s = execInputOutOfRange high s := rfl
@[simp] theorem exec_inputReturn (s : State) : exec .inputReturn s = execInputReturn s := rfl
@[simp] theorem exec_powerCapWrite (slot : Nat) (value : Nat) (s : State) :
    exec (.powerCapWrite slot value) s = execPowerCapWrite slot value s := rfl
@[simp] theorem exec_thermalUpdate (s : State) : exec .thermalUpdate s = execThermalUpdate s := rfl
@[simp] theorem exec_diodeRead (readings : List Int) (s : State) :
    exec (.diodeRead readings) s = execDiodeRead readings s := rfl
@[simp] theorem exec_thermalShutdown (s : State) : exec .thermalShutdown s = execThermalShutdown s := rfl
@[simp] theorem exec_thermalReenable (slot : Nat) (s : State) :
    exec (.thermalReenable slot) s = execThermalReenable slot s := rfl
@[simp] theorem exec_ringAcquisition (ring : Ring) (s : State) :
    exec (.ringAcquisition ring) s = execRingAcquisition ring s := rfl
@[simp] theorem exec_ringSweepComplete (ring : Ring) (dips : List Nat) (s : State) :
    exec (.ringSweepComplete ring dips) s = execRingSweepComplete ring dips s := rfl
@[simp] theorem exec_ringAcquireComplete (ring : Ring) (converged : Option Nat) (s : State) :
    exec (.ringAcquireComplete ring converged) s = execRingAcquireComplete ring converged s := rfl
@[simp] theorem exec_ringVerifyComplete (ring : Ring) (tone : Option (Fin 18)) (s : State) :
    exec (.ringVerifyComplete ring tone) s = execRingVerifyComplete ring tone s := rfl
@[simp] theorem exec_ringNarrowComplete (ring : Ring) (dips : List Nat) (s : State) :
    exec (.ringNarrowComplete ring dips) s = execRingNarrowComplete ring dips s := rfl
@[simp] theorem exec_ringTrack (ring : Ring) (heat : Option Nat) (s : State) :
    exec (.ringTrack ring heat) s = execRingTrack ring heat s := rfl
@[simp] theorem exec_mpdSample (oe : Fin 12) (line : Fin 18) (reading : Nat) (lowFor100us : Bool) (s : State) :
    exec (.mpdSample oe line reading lowFor100us) s = execMpdSample oe line reading lowFor100us s := rfl
@[simp] theorem exec_laserDailyMean (oe : Fin 12) (line : Fin 18) (s : State) :
    exec (.laserDailyMean oe line) s = execLaserDailyMean oe line s := rfl
@[simp] theorem exec_marginWarningExpiry (oe : Fin 12) (line : Fin 18) (s : State) :
    exec (.marginWarningExpiry oe line) s = execMarginWarningExpiry oe line s := rfl
@[simp] theorem exec_dupReceived (fiber : Fin 96) (n : Notice) (s : State) :
    exec (.dupReceived fiber n) s = execDupReceived fiber n s := rfl
@[simp] theorem exec_steeringCompareComplete (fiber : Fin 96) (token : Nat) (seq : Nat) (s : State) :
    exec (.steeringCompareComplete fiber token seq) s = execSteeringCompareComplete fiber token seq s := rfl
@[simp] theorem exec_steeringCompareTimeout (fiber : Fin 96) (token : Nat) (s : State) :
    exec (.steeringCompareTimeout fiber token) s = execSteeringCompareTimeout fiber token s := rfl
@[simp] theorem exec_switchedReceived (fiber : Fin 96) (n : Notice) (s : State) :
    exec (.switchedReceived fiber n) s = execSwitchedReceived fiber n s := rfl
@[simp] theorem exec_refuseReceived (fiber : Fin 96) (n : Notice) (s : State) :
    exec (.refuseReceived fiber n) s = execRefuseReceived fiber n s := rfl
@[simp] theorem exec_askReceived (fiber : Fin 96) (n : Notice) (s : State) :
    exec (.askReceived fiber n) s = execAskReceived fiber n s := rfl
@[simp] theorem exec_dropReceived (fiber : Fin 96) (n : Notice) (s : State) :
    exec (.dropReceived fiber n) s = execDropReceived fiber n s := rfl
@[simp] theorem exec_restoreReceived (fiber : Fin 96) (n : Notice) (s : State) :
    exec (.restoreReceived fiber n) s = execRestoreReceived fiber n s := rfl
@[simp] theorem exec_exchangeTimeout (fiber : Fin 96) (rx : Bool) (s : State) :
    exec (.exchangeTimeout fiber rx) s = execExchangeTimeout fiber rx s := rfl
@[simp] theorem exec_calibrationStepTime (k : Fin 216) (s : State) :
    exec (.calibrationStepTime k) s = execCalibrationStepTime k s := rfl
@[simp] theorem exec_calibrationWindowStart (s : State) :
    exec .calibrationWindowStart s = execCalibrationWindowStart s := rfl
@[simp] theorem exec_calibrationStepTimeout (oe : Fin 12) (s : State) :
    exec (.calibrationStepTimeout oe) s = execCalibrationStepTimeout oe s := rfl
@[simp] theorem exec_manualMove (slot : Nat) (s : State) : exec (.manualMove slot) s = execManualMove slot s := rfl
@[simp] theorem exec_shutterClose (fiber : Fin 96) (s : State) :
    exec (.shutterClose fiber) s = execShutterClose fiber s := rfl
@[simp] theorem exec_shutterProbeOpen (fiber : Fin 96) (s : State) :
    exec (.shutterProbeOpen fiber) s = execShutterProbeOpen fiber s := rfl
@[simp] theorem exec_shutterProbeClose (fiber : Fin 96) (s : State) :
    exec (.shutterProbeClose fiber) s = execShutterProbeClose fiber s := rfl
@[simp] theorem exec_idleGroupReceived (fiber : Fin 96) (g : List CtrlBlock) (s : State) :
    exec (.idleGroupReceived fiber g) s = execIdleGroupReceived fiber g s := rfl
@[simp] theorem exec_trainGroupReceived (fiber : Fin 96) (g : List CtrlBlock) (s : State) :
    exec (.trainGroupReceived fiber g) s = execTrainGroupReceived fiber g s := rfl
@[simp] theorem exec_modeGroupReceived (fiber : Fin 96) (g : List CtrlBlock) (s : State) :
    exec (.modeGroupReceived fiber g) s = execModeGroupReceived fiber g s := rfl
@[simp] theorem exec_blockLockAcquired (fiber : Fin 96) (line : Fin 18) (s : State) :
    exec (.blockLockAcquired fiber line) s = execBlockLockAcquired fiber line s := rfl
@[simp] theorem exec_blockLockLost (fiber : Fin 96) (line : Fin 18) (invalidHeaders : Nat) (s : State) :
    exec (.blockLockLost fiber line invalidHeaders) s = execBlockLockLost fiber line invalidHeaders s := rfl
@[simp] theorem exec_adaptComplete (fiber : Fin 96) (line : Fin 18) (skew : Int) (s : State) :
    exec (.adaptComplete fiber line skew) s = execAdaptComplete fiber line skew s := rfl
@[simp] theorem exec_marginMeasurement (fiber : Fin 96) (line : Fin 18) (margin : Nat) (s : State) :
    exec (.marginMeasurement fiber line margin) s = execMarginMeasurement fiber line margin s := rfl
@[simp] theorem exec_fmarginTimeout (fiber : Fin 96) (line : Fin 18) (s : State) :
    exec (.fmarginTimeout fiber line) s = execFmarginTimeout fiber line s := rfl
@[simp] theorem exec_lossOfSignalSet (fiber : Fin 96) (s : State) :
    exec (.lossOfSignalSet fiber) s = execLossOfSignalSet fiber s := rfl
@[simp] theorem exec_lossOfSignalClear (fiber : Fin 96) (s : State) :
    exec (.lossOfSignalClear fiber) s = execLossOfSignalClear fiber s := rfl
@[simp] theorem exec_laneReturnTimeout (fiber : Fin 96) (line : Fin 18) (s : State) :
    exec (.laneReturnTimeout fiber line) s = execLaneReturnTimeout fiber line s := rfl
@[simp] theorem exec_laneTrainingStart (fiber : Fin 96) (s : State) :
    exec (.laneTrainingStart fiber) s = execLaneTrainingStart fiber s := rfl
@[simp] theorem exec_trainingTimeout (fiber : Fin 96) (s : State) :
    exec (.trainingTimeout fiber) s = execTrainingTimeout fiber s := rfl
@[simp] theorem exec_prbsStart (slot : Nat) (s : State) : exec (.prbsStart slot) s = execPrbsStart slot s := rfl
@[simp] theorem exec_prbsStop (slot : Nat) (s : State) : exec (.prbsStop slot) s = execPrbsStop slot s := rfl
@[simp] theorem exec_injectionWord (slot : Nat) (value : BitVec 32) (s : State) :
    exec (.injectionWord slot value) s = execInjectionWord slot value s := rfl
@[simp] theorem exec_injectionFire (s : State) : exec .injectionFire s = execInjectionFire s := rfl
@[simp] theorem exec_flitReceived (fiber : Fin 96) (flit : List Byte) (headers : List (BitVec 2)) (s : State) :
    exec (.flitReceived fiber flit headers) s = execFlitReceived fiber flit headers s := rfl
@[simp] theorem exec_ackonlyReceived (fiber : Fin 96) (flit : List Byte) (headers : List (BitVec 2)) (s : State) :
    exec (.ackonlyReceived fiber flit headers) s = execAckonlyReceived fiber flit headers s := rfl
@[simp] theorem exec_nakReceived (fiber : Fin 96) (flit : List Byte) (headers : List (BitVec 2)) (s : State) :
    exec (.nakReceived fiber flit headers) s = execNakReceived fiber flit headers s := rfl
@[simp] theorem exec_cmarkReceived (fiber : Fin 96) (flit : List Byte) (headers : List (BitVec 2)) (s : State) :
    exec (.cmarkReceived fiber flit headers) s = execCmarkReceived fiber flit headers s := rfl
@[simp] theorem exec_initReceived (fiber : Fin 96) (flit : List Byte) (headers : List (BitVec 2)) (s : State) :
    exec (.initReceived fiber flit headers) s = execInitReceived fiber flit headers s := rfl
@[simp] theorem exec_resumeReceived (fiber : Fin 96) (flit : List Byte) (headers : List (BitVec 2)) (s : State) :
    exec (.resumeReceived fiber flit headers) s = execResumeReceived fiber flit headers s := rfl
@[simp] theorem exec_initResendTimer (fiber : Fin 96) (s : State) :
    exec (.initResendTimer fiber) s = execInitResendTimer fiber s := rfl
@[simp] theorem exec_nakRepeat (fiber : Fin 96) (s : State) : exec (.nakRepeat fiber) s = execNakRepeat fiber s := rfl
@[simp] theorem exec_replayTimeout (fiber : Fin 96) (s : State) :
    exec (.replayTimeout fiber) s = execReplayTimeout fiber s := rfl
@[simp] theorem exec_ackCoalesceTimeout (fiber : Fin 96) (s : State) :
    exec (.ackCoalesceTimeout fiber) s = execAckCoalesceTimeout fiber s := rfl
@[simp] theorem exec_ackonlyTimer (fiber : Fin 96) (s : State) :
    exec (.ackonlyTimer fiber) s = execAckonlyTimer fiber s := rfl
@[simp] theorem exec_cmarkTimer (fiber : Fin 96) (s : State) :
    exec (.cmarkTimer fiber) s = execCmarkTimer fiber s := rfl
@[simp] theorem exec_rowSend (fiber : Fin 96) (s : State) : exec (.rowSend fiber) s = execRowSend fiber s := rfl
@[simp] theorem exec_spillReadComplete (fiber : Fin 96) (entryGood : Bool) (s : State) :
    exec (.spillReadComplete fiber entryGood) s = execSpillReadComplete fiber entryGood s := rfl
@[simp] theorem exec_creditTimeout (fiber : Fin 96) (s : State) :
    exec (.creditTimeout fiber) s = execCreditTimeout fiber s := rfl
@[simp] theorem exec_linkRestore (slot : Nat) (fiber : Fin 96) (s : State) :
    exec (.linkRestore slot fiber) s = execLinkRestore slot fiber s := rfl
@[simp] theorem exec_spillRegionWrite (slot : Nat) (fiber : Fin 96) (isSize : Bool) (value : Nat) (s : State) :
    exec (.spillRegionWrite slot fiber isSize value) s = execSpillRegionWrite slot fiber isSize value s := rfl
@[simp] theorem exec_reservedMinimumWrite (slot : Nat) (cls : Fin 5) (value : Nat) (s : State) :
    exec (.reservedMinimumWrite slot cls value) s = execReservedMinimumWrite slot cls value s := rfl
@[simp] theorem exec_forwardingEnvelope (fiber : Fin 96) (tc : Nat) (payload : List Byte) (s : State) :
    exec (.forwardingEnvelope fiber tc payload) s = execForwardingEnvelope fiber tc payload s := rfl
@[simp] theorem exec_stagedScheduleWrite (slot : Nat) (data : List Byte) (s : State) :
    exec (.stagedScheduleWrite slot data) s = execStagedScheduleWrite slot data s := rfl
@[simp] theorem exec_membershipListWrite (slot : Nat) (data : List Byte) (s : State) :
    exec (.membershipListWrite slot data) s = execMembershipListWrite slot data s := rfl
@[simp] theorem exec_buildFlight (slot : Nat) (s : State) : exec (.buildFlight slot) s = execBuildFlight slot s := rfl
@[simp] theorem exec_flightBuildComplete (arrivalOffsets : List (Fin 96 × Int)) (s : State) :
    exec (.flightBuildComplete arrivalOffsets) s = execFlightBuildComplete arrivalOffsets s := rfl
@[simp] theorem exec_memberLost (position : Fin 256) (s : State) :
    exec (.memberLost position) s = execMemberLost position s := rfl
@[simp] theorem exec_membershipUpdateReceived (inner : List Byte) (s : State) :
    exec (.membershipUpdateReceived inner) s = execMembershipUpdateReceived inner s := rfl
@[simp] theorem exec_membershipUpdateTimeout (s : State) :
    exec .membershipUpdateTimeout s = execMembershipUpdateTimeout s := rfl
@[simp] theorem exec_portModeWrite (slot : Nat) (port : Fin 4) (mode : Nat) (s : State) :
    exec (.portModeWrite slot port mode) s = execPortModeWrite slot port mode s := rfl
@[simp] theorem exec_ethernetLinkUp (lport : Fin 16) (s : State) :
    exec (.ethernetLinkUp lport) s = execEthernetLinkUp lport s := rfl
@[simp] theorem exec_ethernetLinkDown (lport : Fin 16) (s : State) :
    exec (.ethernetLinkDown lport) s = execEthernetLinkDown lport s := rfl
@[simp] theorem exec_ethernetFrameReceived (lport : Fin 16) (f : EthFrame) (s : State) :
    exec (.ethernetFrameReceived lport f) s = execEthernetFrameReceived lport f s := rfl
@[simp] theorem exec_arpRequest (port : Option (Fin 16)) (senderIp senderMac targetIp : Nat) (s : State) :
    exec (.arpRequest port senderIp senderMac targetIp) s = execArpRequest port senderIp senderMac targetIp s := rfl
@[simp] theorem exec_neighbourSolicitation (lport : Fin 16) (senderIp senderMac targetIp : Nat) (s : State) :
    exec (.neighbourSolicitation lport senderIp senderMac targetIp) s = execNeighbourSolicitation lport senderIp senderMac targetIp s := rfl
@[simp] theorem exec_icmpEchoRequest (port : Option (Fin 16)) (v6 : Bool) (srcIp dstIp : Nat) (data : List Byte) (s : State) :
    exec (.icmpEchoRequest port v6 srcIp dstIp data) s = execIcmpEchoRequest port v6 srcIp dstIp data s := rfl
@[simp] theorem exec_neighbourEntryExpiry (lport : Fin 16) (ip : Nat) (s : State) :
    exec (.neighbourEntryExpiry lport ip) s = execNeighbourEntryExpiry lport ip s := rfl
@[simp] theorem exec_cmReq (lport : Fin 16) (r : CmReq) (s : State) :
    exec (.cmReq lport r) s = execCmReq lport r s := rfl
@[simp] theorem exec_cmRtu (qp : Fin 65536) (s : State) : exec (.cmRtu qp) s = execCmRtu qp s := rfl
@[simp] theorem exec_cmDreq (qp : Fin 65536) (s : State) : exec (.cmDreq qp) s = execCmDreq qp s := rfl
@[simp] theorem exec_roceSendReceived (qp : Fin 65536) (p : RcPacket) (s : State) :
    exec (.roceSendReceived qp p) s = execRoceSendReceived qp p s := rfl
@[simp] theorem exec_rdmaWriteReceived (qp : Fin 65536) (p : RcPacket) (s : State) :
    exec (.rdmaWriteReceived qp p) s = execRdmaWriteReceived qp p s := rfl
@[simp] theorem exec_rdmaReadRequest (qp : Fin 65536) (p : RcPacket) (linkError : Bool) (s : State) :
    exec (.rdmaReadRequest qp p linkError) s = execRdmaReadRequest qp p linkError s := rfl
@[simp] theorem exec_unsupportedOpcodeReceived (qp : Fin 65536) (opcode psn : Nat) (ce : Bool) (s : State) :
    exec (.unsupportedOpcodeReceived qp opcode psn ce) s = execUnsupportedOpcodeReceived qp opcode psn ce s := rfl
@[simp] theorem exec_rcAckReceived (qp : Fin 65536) (syndrome psn : Nat) (ce : Bool) (s : State) :
    exec (.rcAckReceived qp syndrome psn ce) s = execRcAckReceived qp syndrome psn ce s := rfl
@[simp] theorem exec_localAckTimeout (qp : Fin 65536) (s : State) :
    exec (.localAckTimeout qp) s = execLocalAckTimeout qp s := rfl
@[simp] theorem exec_cnpReceived (qp : Fin 65536) (ce : Bool) (s : State) :
    exec (.cnpReceived qp ce) s = execCnpReceived qp ce s := rfl
@[simp] theorem exec_dcqcnAlphaTimer (qp : Fin 65536) (s : State) :
    exec (.dcqcnAlphaTimer qp) s = execDcqcnAlphaTimer qp s := rfl
@[simp] theorem exec_dcqcnRateTimer (qp : Fin 65536) (s : State) :
    exec (.dcqcnRateTimer qp) s = execDcqcnRateTimer qp s := rfl
@[simp] theorem exec_dcqcnByteCounter (qp : Fin 65536) (s : State) :
    exec (.dcqcnByteCounter qp) s = execDcqcnByteCounter qp s := rfl
@[simp] theorem exec_windowDescriptorWrite (slot : Nat) (data : List Byte) (s : State) :
    exec (.windowDescriptorWrite slot data) s = execWindowDescriptorWrite slot data s := rfl
@[simp] theorem exec_pfcFrameReceived (lport : Fin 16) (mask : BitVec 8) (quanta : List Nat) (s : State) :
    exec (.pfcFrameReceived lport mask quanta) s = execPfcFrameReceived lport mask quanta s := rfl
@[simp] theorem exec_pfcRepeat (lport : Fin 16) (prio : Fin 8) (s : State) :
    exec (.pfcRepeat lport prio) s = execPfcRepeat lport prio s := rfl
@[simp] theorem exec_pauseWatchdogExpiry (lport : Fin 16) (prio : Fin 8) (s : State) :
    exec (.pauseWatchdogExpiry lport prio) s = execPauseWatchdogExpiry lport prio s := rfl
@[simp] theorem exec_pauseWatchdogResume (lport : Fin 16) (prio : Fin 8) (s : State) :
    exec (.pauseWatchdogResume lport prio) s = execPauseWatchdogResume lport prio s := rfl
@[simp] theorem exec_pfcMaskWrite (slot : Nat) (isHeadroom : Bool) (value : Nat) (s : State) :
    exec (.pfcMaskWrite slot isHeadroom value) s = execPfcMaskWrite slot isHeadroom value s := rfl
@[simp] theorem exec_openReq (qp : Fin 65536) (s : State) : exec (.openReq qp) s = execOpenReq qp s := rfl
@[simp] theorem exec_continueReq (qp : Fin 65536) (s : State) : exec (.continueReq qp) s = execContinueReq qp s := rfl
@[simp] theorem exec_closeReq (qp : Fin 65536) (s : State) : exec (.closeReq qp) s = execCloseReq qp s := rfl
@[simp] theorem exec_nopRequest (qp : Fin 65536) (s : State) : exec (.nopRequest qp) s = execNopRequest qp s := rfl
@[simp] theorem exec_batchCut (s : State) : exec .batchCut s = execBatchCut s := rfl
@[simp] theorem exec_admissionTimeout (session : Fin 32768) (s : State) :
    exec (.admissionTimeout session) s = execAdmissionTimeout session s := rfl
@[simp] theorem exec_idleTimeout (session : Fin 32768) (s : State) :
    exec (.idleTimeout session) s = execIdleTimeout session s := rfl
@[simp] theorem exec_loadModel (slot : Nat) (s : State) : exec (.loadModel slot) s = execLoadModel slot s := rfl
@[simp] theorem exec_modelLoadComplete (index : Fin 16) (badBale : Option Nat) (s : State) :
    exec (.modelLoadComplete index badBale) s = execModelLoadComplete index badBale s := rfl
@[simp] theorem exec_unloadModel (slot : Nat) (s : State) : exec (.unloadModel slot) s = execUnloadModel slot s := rfl
@[simp] theorem exec_ringPoolWrite (slot : Nat) (isSize : Bool) (value : Nat) (s : State) :
    exec (.ringPoolWrite slot isSize value) s = execRingPoolWrite slot isSize value s := rfl
@[simp] theorem exec_mopDatagram (inband : Option (Fin 16)) (full : Bool) (srcIp srcPort : Nat) (bytes : List Byte) (s : State) :
    exec (.mopDatagram inband full srcIp srcPort bytes) s = execMopDatagram inband full srcIp srcPort bytes s := rfl
@[simp] theorem exec_mopRead (slot index sub type offset dlen : Nat) (stagedFlag : Bool) (s : State) :
    exec (.mopRead slot index sub type offset dlen stagedFlag) s = execMopRead slot index sub type offset dlen stagedFlag s := rfl
@[simp] theorem exec_mopWrite (slot index sub type offset : Nat) (last : Bool) (data : List Byte) (s : State) :
    exec (.mopWrite slot index sub type offset last data) s = execMopWrite slot index sub type offset last data s := rfl
@[simp] theorem exec_describe (slot index sub type dlen : Nat) (s : State) :
    exec (.describe slot index sub type dlen) s = execDescribe slot index sub type dlen s := rfl
@[simp] theorem exec_discard (slot index sub type dlen : Nat) (s : State) :
    exec (.discard slot index sub type dlen) s = execDiscard slot index sub type dlen s := rfl
@[simp] theorem exec_memread (slot addr len : Nat) (s : State) :
    exec (.memread slot addr len) s = execMemread slot addr len s := rfl
@[simp] theorem exec_memwrite (slot addr : Nat) (data : List Byte) (s : State) :
    exec (.memwrite slot addr data) s = execMemwrite slot addr data s := rfl
@[simp] theorem exec_stagingTimeout (tickGroup : Bool) (s : State) :
    exec (.stagingTimeout tickGroup) s = execStagingTimeout tickGroup s := rfl
@[simp] theorem exec_assemblyTimeout (index sub : Nat) (s : State) :
    exec (.assemblyTimeout index sub) s = execAssemblyTimeout index sub s := rfl
@[simp] theorem exec_readHoldTimeout (slot index sub : Nat) (s : State) :
    exec (.readHoldTimeout slot index sub) s = execReadHoldTimeout slot index sub s := rfl
@[simp] theorem exec_hubForwardTimeout (slot op index sub : Nat) (s : State) :
    exec (.hubForwardTimeout slot op index sub) s = execHubForwardTimeout slot op index sub s := rfl
@[simp] theorem exec_eventLogSave (s : State) : exec .eventLogSave s = execEventLogSave s := rfl
@[simp] theorem exec_powerOnReset (s : State) : exec .powerOnReset s = execPowerOnReset s := rfl
@[simp] theorem exec_keeperBoot (romGood : Bool) (nvGood : Bool) (s : State) :
    exec (.keeperBoot romGood nvGood) s = execKeeperBoot romGood nvGood s := rfl
@[simp] theorem exec_firmwareVerification (readable : Bool) (s : State) :
    exec (.firmwareVerification readable) s = execFirmwareVerification readable s := rfl
@[simp] theorem exec_hubBringup (rails : Bool) (pll : Bool) (sram : Bool) (idle : List (Nat × Nat)) (diodes : List Int) (s : State) :
    exec (.hubBringup rails pll sram idle diodes) s = execHubBringup rails pll sram idle diodes s := rfl
@[simp] theorem exec_oeQualification (oe : Fin 12) (r : OeChecks) (s : State) :
    exec (.oeQualification oe r) s = execOeQualification oe r s := rfl
@[simp] theorem exec_tileDieToDieTest (tiles : List (Fin 64 × TileChecks)) (s : State) :
    exec (.tileDieToDieTest tiles) s = execTileDieToDieTest tiles s := rfl
@[simp] theorem exec_memoryTraining (bad : List (Fin 64 × Fin 6)) (s : State) :
    exec (.memoryTraining bad) s = execMemoryTraining bad s := rfl
@[simp] theorem exec_penSelfTest (digests : List (Fin 1024 × BitVec 32)) (s : State) :
    exec (.penSelfTest digests) s = execPenSelfTest digests s := rfl
@[simp] theorem exec_capabilityNegotiation (s : State) :
    exec .capabilityNegotiation s = execCapabilityNegotiation s := rfl
@[simp] theorem exec_ready (s : State) : exec .ready s = execReady s := rfl
@[simp] theorem exec_stageTimeout (s : State) : exec .stageTimeout s = execStageTimeout s := rfl
@[simp] theorem exec_railTimeout (step : Nat) (part : Nat) (s : State) :
    exec (.railTimeout step part) s = execRailTimeout step part s := rfl
@[simp] theorem exec_referenceRetry (locked : Bool) (s : State) :
    exec (.referenceRetry locked) s = execReferenceRetry locked s := rfl
@[simp] theorem exec_ethernetReferenceChange (present : Bool) (s : State) :
    exec (.ethernetReferenceChange present) s = execEthernetReferenceChange present s := rfl
@[simp] theorem exec_moduleReset (slot : Nat) (s : State) : exec (.moduleReset slot) s = execModuleReset slot s := rfl
@[simp] theorem exec_modrstAssert (s : State) : exec .modrstAssert s = execModrstAssert s := rfl
@[simp] theorem exec_modrstRelease (s : State) : exec .modrstRelease s = execModrstRelease s := rfl
@[simp] theorem exec_firmwareRestart (s : State) : exec .firmwareRestart s = execFirmwareRestart s := rfl
@[simp] theorem exec_oeRequalification (oe : Fin 12) (r : OeChecks) (s : State) :
    exec (.oeRequalification oe r) s = execOeRequalification oe r s := rfl
@[simp] theorem exec_powerLoss (s : State) : exec .powerLoss s = execPowerLoss s := rfl
@[simp] theorem exec_bypass (opcode : BitVec 8) (s : State) : exec (.bypass opcode) s = execBypass opcode s := rfl
@[simp] theorem exec_idcode (s : State) : exec .idcode s = execIdcode s := rfl
@[simp] theorem exec_samplePreload (captured loaded : BitVec 21) (s : State) :
    exec (.samplePreload captured loaded) s = execSamplePreload captured loaded s := rfl
@[simp] theorem exec_extest (s : State) : exec .extest s = execExtest s := rfl
@[simp] theorem exec_clamp (s : State) : exec .clamp s = execClamp s := rfl
@[simp] theorem exec_highz (s : State) : exec .highz s = execHighz s := rfl
@[simp] theorem exec_dtest (value : BitVec 32) (s : State) : exec (.dtest value) s = execDtest value s := rfl
@[simp] theorem exec_dstat (s : State) : exec .dstat s = execDstat s := rfl
@[simp] theorem exec_dtestComplete (result : Fin 3) (nfail first : Nat) (s : State) :
    exec (.dtestComplete result nfail first) s = execDtestComplete result nfail first s := rfl
@[simp] theorem exec_sliceRetired (die : Nat) (port : Nat) (tx : Bool) (slice : Fin 4) (s : State) :
    exec (.sliceRetired die port tx slice) s = execSliceRetired die port tx slice s := rfl
@[simp] theorem exec_tilePllUnlock (tile : Fin 64) (s : State) :
    exec (.tilePllUnlock tile) s = execTilePllUnlock tile s := rfl
@[simp] theorem exec_memoryControllerTimeout (tile : Fin 64) (s : State) :
    exec (.memoryControllerTimeout tile) s = execMemoryControllerTimeout tile s := rfl
@[simp] theorem exec_shepherdWatchdogExpiry (tile : Fin 64) (s : State) :
    exec (.shepherdWatchdogExpiry tile) s = execShepherdWatchdogExpiry tile s := rfl
@[simp] theorem exec_hubWatchdogExpiry (s : State) : exec .hubWatchdogExpiry s = execHubWatchdogExpiry s := rfl
@[simp] theorem exec_keeperWatchdogExpiry (s : State) : exec .keeperWatchdogExpiry s = execKeeperWatchdogExpiry s := rfl
@[simp] theorem exec_penFence (slot : Nat) (s : State) : exec (.penFence slot) s = execPenFence slot s := rfl
@[simp] theorem exec_penRestore (slot : Nat) (s : State) : exec (.penRestore slot) s = execPenRestore slot s := rfl
@[simp] theorem exec_tileRestart (slot : Nat) (r : TileChecks) (s : State) :
    exec (.tileRestart slot r) s = execTileRestart slot r s := rfl
@[simp] theorem exec_powerOff (slot : Nat) (s : State) : exec (.powerOff slot) s = execPowerOff slot s := rfl
@[simp] theorem exec_allLasersOff (slot : Nat) (s : State) :
    exec (.allLasersOff slot) s = execAllLasersOff slot s := rfl
@[simp] theorem exec_tilePowerDown (slot : Nat) (s : State) :
    exec (.tilePowerDown slot) s = execTilePowerDown slot s := rfl
@[simp] theorem exec_smbusStatusRead (s : State) : exec .smbusStatusRead s = execSmbusStatusRead s := rfl
@[simp] theorem exec_smbusAlertClear (mask : BitVec 8) (pecGood : Bool) (s : State) :
    exec (.smbusAlertClear mask pecGood) s = execSmbusAlertClear mask pecGood s := rfl
@[simp] theorem exec_smbusAlertResponse (s : State) : exec .smbusAlertResponse s = execSmbusAlertResponse s := rfl
@[simp] theorem exec_tallySample (unit : Fin 288) (event : Nat) (value : BitVec 32) (s : State) :
    exec (.tallySample unit event value) s = execTallySample unit event value s := rfl
@[simp] theorem exec_tallyWindowClose (unit : Fin 288) (s : State) :
    exec (.tallyWindowClose unit) s = execTallyWindowClose unit s := rfl
@[simp] theorem exec_tallyConfigurationWrite (slot : Nat) (unit : Fin 288) (data : List Byte) (s : State) :
    exec (.tallyConfigurationWrite slot unit data) s = execTallyConfigurationWrite slot unit data s := rfl
@[simp] theorem exec_tallyClear (slot : Nat) (unit : Fin 288) (s : State) :
    exec (.tallyClear slot unit) s = execTallyClear slot unit s := rfl
@[simp] theorem exec_tallyClearAll (slot : Nat) (s : State) :
    exec (.tallyClearAll slot) s = execTallyClearAll slot s := rfl
@[simp] theorem exec_firmwareImageWrite (slot offset : Nat) (last : Bool) (data : List Byte) (s : State) :
    exec (.firmwareImageWrite slot offset last data) s = execFirmwareImageWrite slot offset last data s := rfl
@[simp] theorem exec_installImage (slot : Nat) (s : State) :
    exec (.installImage slot) s = execInstallImage slot s := rfl
@[simp] theorem exec_installComplete (matched : Bool) (answered : Bool) (s : State) :
    exec (.installComplete matched answered) s = execInstallComplete matched answered s := rfl
@[simp] theorem exec_raiseFloor (slot : Nat) (s : State) : exec (.raiseFloor slot) s = execRaiseFloor slot s := rfl
@[simp] theorem exec_keyInstall (slot : Nat) (target : Fin 8) (data : List Byte) (s : State) :
    exec (.keyInstall slot target data) s = execKeyInstall slot target data s := rfl
@[simp] theorem exec_keyClear (slot : Nat) (target : Fin 8) (s : State) :
    exec (.keyClear slot target) s = execKeyClear slot target s := rfl
@[simp] theorem exec_attest (slot : Nat) (s : State) : exec (.attest slot) s = execAttest slot s := rfl
@[simp] theorem exec_attestationComplete (s : State) : exec .attestationComplete s = execAttestationComplete s := rfl
@[simp] theorem exec_treeGenerationComplete (s : State) :
    exec .treeGenerationComplete s = execTreeGenerationComplete s := rfl
@[simp] theorem exec_lifecycleTransition (slot : Nat) (s : State) :
    exec (.lifecycleTransition slot) s = execLifecycleTransition slot s := rfl
@[simp] theorem exec_oeControlFrame (oe : Fin 12) (f : OeFrame) (s : State) :
    exec (.oeControlFrame oe f) s = execOeControlFrame oe f s := rfl
@[simp] theorem exec_oeResponseTimeout (oe : Fin 12) (tag : Nat) (s : State) :
    exec (.oeResponseTimeout oe tag) s = execOeResponseTimeout oe tag s := rfl
@[simp] theorem exec_registerWrite (slot index sub : Nat) (value : Nat) (s : State) :
    exec (.registerWrite slot index sub value) s = execRegisterWrite slot index sub value s := rfl
@[simp] theorem exec_uncorrectableEccError (site : Fin 6) (unit : Nat) (address : Nat) (s : State) :
    exec (.uncorrectableEccError site unit address) s = execUncorrectableEccError site unit address s := rfl
@[simp] theorem exec_spillWriteComplete (fiber : Fin 96) (s : State) :
    exec (.spillWriteComplete fiber) s = execSpillWriteComplete fiber s := rfl
@[simp] theorem exec_externalWriteComplete (writer : Nat) (s : State) :
    exec (.externalWriteComplete writer) s = execExternalWriteComplete writer s := rfl
@[simp] theorem exec_calibrationMeasurementComplete (oe : Fin 12) (reading : Nat) (s : State) :
    exec (.calibrationMeasurementComplete oe reading) s = execCalibrationMeasurementComplete oe reading s := rfl
@[simp] theorem exec_laserBiasRampEnd (oe : Fin 12) (s : State) :
    exec (.laserBiasRampEnd oe) s = execLaserBiasRampEnd oe s := rfl
@[simp] theorem exec_prbsPatternLock (s : State) : exec .prbsPatternLock s = execPrbsPatternLock s := rfl
@[simp] theorem exec_prbsPatternLockLost (s : State) : exec .prbsPatternLockLost s = execPrbsPatternLockLost s := rfl
@[simp] theorem exec_restoreAnswerTimeout (fiber : Fin 96) (s : State) :
    exec (.restoreAnswerTimeout fiber) s = execRestoreAnswerTimeout fiber s := rfl
@[simp] theorem exec_plcaBeaconChange (seen : Bool) (s : State) :
    exec (.plcaBeaconChange seen) s = execPlcaBeaconChange seen s := rfl

end Sys2Proof.Machine
end

