-- ==== Sys2Proof/Laws/Memory.lean ====
section
/-! SUPPORT. Bytes written and read back, and the canonical form of memory. -/

namespace Sys2Proof.Machine

@[simp] theorem leBytes_length (n v : Nat) : (leBytes n v).length = n := by
  induction n generalizing v with
  | zero => rfl
  | succ n ih => simp [leBytes, ih]
/-- A byte after bytes were written from address `a`. -/
theorem tabGet_writeTab (m : Tab Byte) (a : Nat) (bs : List Byte) (k : Nat) :
   tabGet memDefault (writeTab m a bs) k = if h : a ≤ k ∧ k < a + bs.length then bs[k - a]'(by omega) else tabGet memDefault m k := by
  induction bs generalizing m a with
  | nil => simp [writeTab]
  | cons b t ih =>
    simp only [writeTab, ih, tabGet_tabSet]
    by_cases hk : k = a
    · subst hk; simp
    · by_cases h : a + 1 ≤ k ∧ k < a + 1 + t.length
      · have h2 : a ≤ k ∧ k < a + (b :: t).length := by simp; omega
        rw [dif_pos h, dif_pos h2]
        have : k - a = (k - (a+1)) + 1 := by omega
        simp only [this, List.getElem_cons_succ]
      · have h2 : ¬ (a ≤ k ∧ k < a + (b :: t).length) := by simp; omega
        rw [dif_neg h, dif_neg h2, if_neg hk]
/-- The bytes written read back. -/
theorem readTab_writeTab (m : Tab Byte) (a : Nat) (bs : List Byte) : readTab (writeTab m a bs) a bs.length = bs := by
  have : ∀ (bs pre : List Byte) (m : Tab Byte) , (∀ k, (h : k < bs.length) → tabGet memDefault m (a + pre.length + k) = bs[k]) → readTab m (a + pre.length) bs.length = bs := by
    intro bs
    induction bs with
    | nil => intros; rfl
    | cons b t ih =>
      intro pre m h
      simp only [List.length_cons, readTab]
      have h0 := h 0 (by simp)
      simp at h0
      rw [h0]
      have := ih (pre ++ [b]) m (by
        intro k hk
        have := h (k+1) (by simp; omega)
        simp at this
        simp; rw [← this]; congr 1; omega)
      simp at this
      rw [show a + pre.length + 1 = a + (pre.length + 1) by omega, this]
  have := this bs [] (writeTab m a bs) (by
    intro k hk
    rw [tabGet_writeTab, dif_pos (by simp; omega)]
    simp)
  simpa using this

/-- Reading bytes that two stores share. -/
theorem readTab_congr {m m' : Tab Byte} {a n : Nat}
    (h : ∀ k, a ≤ k → k < a + n → tabGet memDefault m k = tabGet memDefault m' k) : readTab m a n = readTab m' a n := by
  induction n generalizing a with
  | zero => rfl
  | succ n ih =>
    simp only [readTab]
    rw [h a (Nat.le_refl a) (by omega), ih fun k h1 h2 => h k (by omega) (by omega)]

@[simp] theorem readTab_length (m : Tab Byte) (a n : Nat) : (readTab m a n).length = n := by
  induction n generalizing a with
  | zero => rfl
  | succ n ih => simp [readTab, ih]

/-- Writing bytes keeps the canonical form. -/
theorem tabWf_writeTab {m : Tab Byte} (a : Nat) (bs : List Byte) (h : tabWf memDefault m = true) :
    tabWf memDefault (writeTab m a bs) = true := by
  induction bs generalizing m a with
  | nil => exact h
  | cons b t ih => exact ih (a + 1) (tabWf_tabSet a b h)

/-- A byte written to module memory keeps the canonical form. -/
theorem State.wf_setByte {s : State} (a : Nat) (b : Byte) (h : Memory.wf s.mem = true) :
    Memory.wf (s.setByte a b).mem = true := tabWf_tabSet a b h

/-- Bytes written to module memory keep the canonical form. -/
theorem State.wf_write {s : State} (a : Nat) (bs : List Byte) (h : Memory.wf s.mem = true) :
    Memory.wf (s.write a bs).mem = true := tabWf_writeTab a bs h

end Sys2Proof.Machine
end

