-- ==== Sys2Proof/Laws/Frame.lean ====
section
/-! SUPPORT. What an operation can change: `Only l s t` says that from s to t only the parts listed in l changed, that memory kept
its canonical form and that the one-way state did not go back. -/

namespace Sys2Proof.Machine

/-- The parts of the state; `epoch` is the object 0x2004 within `objs`. -/
inductive Part where
  | pending | sent | clock | fresh | objs | events | nextSeq | mem
  | pens | tiles | tick | drover | rings | rxLanes | txLanes | fibers
  | lasers | oes | test | links | gallery | eth | service | dict
  | boot | tap | nv | sec | units | stagingInForce | refills | macFault | badWords | alert
  | epoch
deriving DecidableEq, Repr

/-- The one-way state has not gone back. -/
def OneWay (s t : State) : Prop :=
  s.nv.svnFuses.val ≤ t.nv.svnFuses.val ∧ s.nv.lifecycle ≤ t.nv.lifecycle ∧ s.nv.bootEpoch ≤ t.nv.bootEpoch ∧ s.nv.leaves ≤ t.nv.leaves

theorem OneWay.refl (s : State) : OneWay s s := ⟨Nat.le_refl _, Nat.le_refl _, Nat.le_refl _, Nat.le_refl _⟩
theorem OneWay.trans {s t u : State} (h : OneWay s t) (k : OneWay t u) : OneWay s u :=
  ⟨Nat.le_trans h.1 k.1, Nat.le_trans h.2.1 k.2.1, Nat.le_trans h.2.2.1 k.2.2.1, Nat.le_trans h.2.2.2 k.2.2.2⟩

/-- Only the parts of l changed. -/
structure Only (l : List Part) (s t : State) : Prop where
  pending : Part.pending ∉ l → t.pending = s.pending
  sent : Part.sent ∉ l → t.sent = s.sent
  clock : Part.clock ∉ l → t.clock = s.clock
  fresh : Part.fresh ∉ l → t.fresh = s.fresh
  objs : Part.objs ∉ l → t.objs = s.objs
  events : Part.events ∉ l → t.events = s.events
  nextSeq : Part.nextSeq ∉ l → t.nextSeq = s.nextSeq
  mem : Part.mem ∉ l → t.mem = s.mem
  pens : Part.pens ∉ l → t.pens = s.pens
  tiles : Part.tiles ∉ l → t.tiles = s.tiles
  tick : Part.tick ∉ l → t.tick = s.tick
  drover : Part.drover ∉ l → t.drover = s.drover
  rings : Part.rings ∉ l → t.rings = s.rings
  rxLanes : Part.rxLanes ∉ l → t.rxLanes = s.rxLanes
  txLanes : Part.txLanes ∉ l → t.txLanes = s.txLanes
  fibers : Part.fibers ∉ l → t.fibers = s.fibers
  lasers : Part.lasers ∉ l → t.lasers = s.lasers
  oes : Part.oes ∉ l → t.oes = s.oes
  test : Part.test ∉ l → t.test = s.test
  links : Part.links ∉ l → t.links = s.links
  gallery : Part.gallery ∉ l → t.gallery = s.gallery
  eth : Part.eth ∉ l → t.eth = s.eth
  service : Part.service ∉ l → t.service = s.service
  dict : Part.dict ∉ l → t.dict = s.dict
  boot : Part.boot ∉ l → t.boot = s.boot
  tap : Part.tap ∉ l → t.tap = s.tap
  nv : Part.nv ∉ l → t.nv = s.nv
  sec : Part.sec ∉ l → t.sec = s.sec
  units : Part.units ∉ l → t.units = s.units
  stagingInForce : Part.stagingInForce ∉ l → t.stagingInForce = s.stagingInForce
  refills : Part.refills ∉ l → t.refills = s.refills
  macFault : Part.macFault ∉ l → t.macFault = s.macFault
  badWords : Part.badWords ∉ l → t.badWords = s.badWords
  alert : Part.alert ∉ l → t.alert = s.alert
  epoch : Part.epoch ∉ l → t.epoch = s.epoch
  wf : Memory.wf s.mem = true → Memory.wf t.mem = true
  oneWay : OneWay s t

theorem Only.refl (l : List Part) (s : State) : Only l s s := by
  constructor <;> first | exact fun _ => rfl | exact fun h => h | exact OneWay.refl s

theorem Only.set_sent {l : List Part} {s t : State} (h : Only l s t) (v_sent : List Out)
    (hp : [.sent] ⊆ l) : Only l s { t with sent := v_sent } :=
  { h with sent := fun n => absurd (hp (by decide)) n, epoch := h.epoch, oneWay := h.oneWay }

theorem Only.set_clock {l : List Part} {s t : State} (h : Only l s t) (v_clock : Nat)
    (hp : [.clock] ⊆ l) : Only l s { t with clock := v_clock } :=
  { h with clock := fun n => absurd (hp (by decide)) n, epoch := h.epoch, oneWay := h.oneWay }

theorem Only.set_fresh {l : List Part} {s t : State} (h : Only l s t) (v_fresh : Nat)
    (hp : [.fresh] ⊆ l) : Only l s { t with fresh := v_fresh } :=
  { h with fresh := fun n => absurd (hp (by decide)) n, epoch := h.epoch, oneWay := h.oneWay }

theorem Only.set_objs {l : List Part} {s t : State} (h : Only l s t) (v_objs : Tab Value)
    (hp : [.objs] ⊆ l) (he : Part.epoch ∈ l) : Only l s { t with objs := v_objs } :=
  { h with objs := fun n => absurd (hp (by decide)) n, epoch := fun n => absurd he n, oneWay := h.oneWay }

theorem Only.set_events {l : List Part} {s t : State} (h : Only l s t) (v_events : List Event)
    (hp : [.events] ⊆ l) : Only l s { t with events := v_events } :=
  { h with events := fun n => absurd (hp (by decide)) n, epoch := h.epoch, oneWay := h.oneWay }

theorem Only.set_nextSeq {l : List Part} {s t : State} (h : Only l s t) (v_nextSeq : Nat)
    (hp : [.nextSeq] ⊆ l) : Only l s { t with nextSeq := v_nextSeq } :=
  { h with nextSeq := fun n => absurd (hp (by decide)) n, epoch := h.epoch, oneWay := h.oneWay }

theorem Only.set_pens {l : List Part} {s t : State} (h : Only l s t) (v_pens : Tab Pen)
    (hp : [.pens] ⊆ l) : Only l s { t with pens := v_pens } :=
  { h with pens := fun n => absurd (hp (by decide)) n, epoch := h.epoch, oneWay := h.oneWay }

theorem Only.set_tiles {l : List Part} {s t : State} (h : Only l s t) (v_tiles : Tab Tile)
    (hp : [.tiles] ⊆ l) : Only l s { t with tiles := v_tiles } :=
  { h with tiles := fun n => absurd (hp (by decide)) n, epoch := h.epoch, oneWay := h.oneWay }

theorem Only.set_tick {l : List Part} {s t : State} (h : Only l s t) (v_tick : TickSt)
    (hp : [.tick] ⊆ l) : Only l s { t with tick := v_tick } :=
  { h with tick := fun n => absurd (hp (by decide)) n, epoch := h.epoch, oneWay := h.oneWay }

theorem Only.set_drover {l : List Part} {s t : State} (h : Only l s t) (v_drover : Drover)
    (hp : [.drover] ⊆ l) : Only l s { t with drover := v_drover } :=
  { h with drover := fun n => absurd (hp (by decide)) n, epoch := h.epoch, oneWay := h.oneWay }

theorem Only.set_rings {l : List Part} {s t : State} (h : Only l s t) (v_rings : Tab RingSt)
    (hp : [.rings] ⊆ l) : Only l s { t with rings := v_rings } :=
  { h with rings := fun n => absurd (hp (by decide)) n, epoch := h.epoch, oneWay := h.oneWay }

theorem Only.set_rxLanes {l : List Part} {s t : State} (h : Only l s t) (v_rxLanes : Tab LaneSt)
    (hp : [.rxLanes] ⊆ l) : Only l s { t with rxLanes := v_rxLanes } :=
  { h with rxLanes := fun n => absurd (hp (by decide)) n, epoch := h.epoch, oneWay := h.oneWay }

theorem Only.set_txLanes {l : List Part} {s t : State} (h : Only l s t) (v_txLanes : Tab LaneSt)
    (hp : [.txLanes] ⊆ l) : Only l s { t with txLanes := v_txLanes } :=
  { h with txLanes := fun n => absurd (hp (by decide)) n, epoch := h.epoch, oneWay := h.oneWay }

theorem Only.set_fibers {l : List Part} {s t : State} (h : Only l s t) (v_fibers : Tab FiberSt)
    (hp : [.fibers] ⊆ l) : Only l s { t with fibers := v_fibers } :=
  { h with fibers := fun n => absurd (hp (by decide)) n, epoch := h.epoch, oneWay := h.oneWay }

theorem Only.set_lasers {l : List Part} {s t : State} (h : Only l s t) (v_lasers : Tab LaserSt)
    (hp : [.lasers] ⊆ l) : Only l s { t with lasers := v_lasers } :=
  { h with lasers := fun n => absurd (hp (by decide)) n, epoch := h.epoch, oneWay := h.oneWay }

theorem Only.set_oes {l : List Part} {s t : State} (h : Only l s t) (v_oes : Tab OeSt)
    (hp : [.oes] ⊆ l) : Only l s { t with oes := v_oes } :=
  { h with oes := fun n => absurd (hp (by decide)) n, epoch := h.epoch, oneWay := h.oneWay }

theorem Only.set_test {l : List Part} {s t : State} (h : Only l s t) (v_test : TestSt)
    (hp : [.test] ⊆ l) : Only l s { t with test := v_test } :=
  { h with test := fun n => absurd (hp (by decide)) n, epoch := h.epoch, oneWay := h.oneWay }

theorem Only.set_links {l : List Part} {s t : State} (h : Only l s t) (v_links : Tab LinkSt)
    (hp : [.links] ⊆ l) : Only l s { t with links := v_links } :=
  { h with links := fun n => absurd (hp (by decide)) n, epoch := h.epoch, oneWay := h.oneWay }

theorem Only.set_gallery {l : List Part} {s t : State} (h : Only l s t) (v_gallery : Gallery)
    (hp : [.gallery] ⊆ l) : Only l s { t with gallery := v_gallery } :=
  { h with gallery := fun n => absurd (hp (by decide)) n, epoch := h.epoch, oneWay := h.oneWay }

theorem Only.set_eth {l : List Part} {s t : State} (h : Only l s t) (v_eth : EthSt)
    (hp : [.eth] ⊆ l) : Only l s { t with eth := v_eth } :=
  { h with eth := fun n => absurd (hp (by decide)) n, epoch := h.epoch, oneWay := h.oneWay }

theorem Only.set_service {l : List Part} {s t : State} (h : Only l s t) (v_service : Service)
    (hp : [.service] ⊆ l) : Only l s { t with service := v_service } :=
  { h with service := fun n => absurd (hp (by decide)) n, epoch := h.epoch, oneWay := h.oneWay }

theorem Only.set_dict {l : List Part} {s t : State} (h : Only l s t) (v_dict : DictSt)
    (hp : [.dict] ⊆ l) : Only l s { t with dict := v_dict } :=
  { h with dict := fun n => absurd (hp (by decide)) n, epoch := h.epoch, oneWay := h.oneWay }

theorem Only.set_boot {l : List Part} {s t : State} (h : Only l s t) (v_boot : BootSt)
    (hp : [.boot] ⊆ l) : Only l s { t with boot := v_boot } :=
  { h with boot := fun n => absurd (hp (by decide)) n, epoch := h.epoch, oneWay := h.oneWay }

theorem Only.set_tap {l : List Part} {s t : State} (h : Only l s t) (v_tap : TapSt)
    (hp : [.tap] ⊆ l) : Only l s { t with tap := v_tap } :=
  { h with tap := fun n => absurd (hp (by decide)) n, epoch := h.epoch, oneWay := h.oneWay }

theorem Only.set_nv {l : List Part} {s t : State} (h : Only l s t) (v_nv : NvSt)
    (hp : [.nv] ⊆ l) (ho : OneWay t { t with nv := v_nv }) : Only l s { t with nv := v_nv } :=
  { h with nv := fun n => absurd (hp (by decide)) n, epoch := h.epoch, oneWay := h.oneWay.trans ho }

theorem Only.set_sec {l : List Part} {s t : State} (h : Only l s t) (v_sec : SecSt)
    (hp : [.sec] ⊆ l) : Only l s { t with sec := v_sec } :=
  { h with sec := fun n => absurd (hp (by decide)) n, epoch := h.epoch, oneWay := h.oneWay }

theorem Only.set_units {l : List Part} {s t : State} (h : Only l s t) (v_units : Tab Tally)
    (hp : [.units] ⊆ l) : Only l s { t with units := v_units } :=
  { h with units := fun n => absurd (hp (by decide)) n, epoch := h.epoch, oneWay := h.oneWay }

theorem Only.set_stagingInForce {l : List Part} {s t : State} (h : Only l s t) (v_stagingInForce : Nat)
    (hp : [.stagingInForce] ⊆ l) : Only l s { t with stagingInForce := v_stagingInForce } :=
  { h with stagingInForce := fun n => absurd (hp (by decide)) n, epoch := h.epoch, oneWay := h.oneWay }

theorem Only.set_refills {l : List Part} {s t : State} (h : Only l s t) (v_refills : List Refill)
    (hp : [.refills] ⊆ l) : Only l s { t with refills := v_refills } :=
  { h with refills := fun n => absurd (hp (by decide)) n, epoch := h.epoch, oneWay := h.oneWay }

theorem Only.set_macFault {l : List Part} {s t : State} (h : Only l s t) (v_macFault : Option (BitVec 32))
    (hp : [.macFault] ⊆ l) : Only l s { t with macFault := v_macFault } :=
  { h with macFault := fun n => absurd (hp (by decide)) n, epoch := h.epoch, oneWay := h.oneWay }

theorem Only.set_badWords {l : List Part} {s t : State} (h : Only l s t) (v_badWords : List Nat)
    (hp : [.badWords] ⊆ l) : Only l s { t with badWords := v_badWords } :=
  { h with badWords := fun n => absurd (hp (by decide)) n, epoch := h.epoch, oneWay := h.oneWay }

theorem Only.set_alert {l : List Part} {s t : State} (h : Only l s t) (v_alert : BitVec 8)
    (hp : [.alert] ⊆ l) : Only l s { t with alert := v_alert } :=
  { h with alert := fun n => absurd (hp (by decide)) n, epoch := h.epoch, oneWay := h.oneWay }

theorem Only.set_nv_sec {l : List Part} {s t : State} (h : Only l s t) (v_nv : NvSt) (v_sec : SecSt)
    (hp : [.nv, .sec] ⊆ l) (ho : OneWay t { t with nv := v_nv }) : Only l s { t with nv := v_nv, sec := v_sec } :=
  { h with nv := fun n => absurd (hp (by decide)) n, sec := fun n => absurd (hp (by decide)) n, epoch := h.epoch, oneWay := h.oneWay.trans ho }

theorem Only.set_events_nextSeq {l : List Part} {s t : State} (h : Only l s t) (v_events : List Event) (v_nextSeq : Nat)
    (hp : [.events, .nextSeq] ⊆ l) : Only l s { t with events := v_events, nextSeq := v_nextSeq } :=
  { h with events := fun n => absurd (hp (by decide)) n, nextSeq := fun n => absurd (hp (by decide)) n, epoch := h.epoch, oneWay := h.oneWay }

theorem Only.set_tick_boot {l : List Part} {s t : State} (h : Only l s t) (v_tick : TickSt) (v_boot : BootSt)
    (hp : [.tick, .boot] ⊆ l) : Only l s { t with tick := v_tick, boot := v_boot } :=
  { h with tick := fun n => absurd (hp (by decide)) n, boot := fun n => absurd (hp (by decide)) n, epoch := h.epoch, oneWay := h.oneWay }

theorem Only.set_tick_drover {l : List Part} {s t : State} (h : Only l s t) (v_tick : TickSt) (v_drover : Drover)
    (hp : [.tick, .drover] ⊆ l) : Only l s { t with tick := v_tick, drover := v_drover } :=
  { h with tick := fun n => absurd (hp (by decide)) n, drover := fun n => absurd (hp (by decide)) n, epoch := h.epoch, oneWay := h.oneWay }

theorem Only.set_objs_drover_oes_dict_boot_tap_sec_alert {l : List Part} {s t : State} (h : Only l s t) (v_objs : Tab Value) (v_drover : Drover) (v_oes : Tab OeSt) (v_dict : DictSt) (v_boot : BootSt) (v_tap : TapSt) (v_sec : SecSt) (v_alert : BitVec 8)
    (hp : [.objs, .drover, .oes, .dict, .boot, .tap, .sec, .alert] ⊆ l) (he : Part.epoch ∈ l) : Only l s { t with objs := v_objs, drover := v_drover, oes := v_oes, dict := v_dict, boot := v_boot, tap := v_tap, sec := v_sec, alert := v_alert } :=
  { h with objs := fun n => absurd (hp (by decide)) n, drover := fun n => absurd (hp (by decide)) n, oes := fun n => absurd (hp (by decide)) n, dict := fun n => absurd (hp (by decide)) n, boot := fun n => absurd (hp (by decide)) n, tap := fun n => absurd (hp (by decide)) n, sec := fun n => absurd (hp (by decide)) n, alert := fun n => absurd (hp (by decide)) n, epoch := fun n => absurd he n, oneWay := h.oneWay }

theorem Only.set_events_nextSeq_boot_tap {l : List Part} {s t : State} (h : Only l s t) (v_events : List Event) (v_nextSeq : Nat) (v_boot : BootSt) (v_tap : TapSt)
    (hp : [.events, .nextSeq, .boot, .tap] ⊆ l) : Only l s { t with events := v_events, nextSeq := v_nextSeq, boot := v_boot, tap := v_tap } :=
  { h with events := fun n => absurd (hp (by decide)) n, nextSeq := fun n => absurd (hp (by decide)) n, boot := fun n => absurd (hp (by decide)) n, tap := fun n => absurd (hp (by decide)) n, epoch := h.epoch, oneWay := h.oneWay }

theorem Only.set_events_nextSeq_drover_boot_tap_sec {l : List Part} {s t : State} (h : Only l s t) (v_events : List Event) (v_nextSeq : Nat) (v_drover : Drover) (v_boot : BootSt) (v_tap : TapSt) (v_sec : SecSt)
    (hp : [.events, .nextSeq, .drover, .boot, .tap, .sec] ⊆ l) : Only l s { t with events := v_events, nextSeq := v_nextSeq, drover := v_drover, boot := v_boot, tap := v_tap, sec := v_sec } :=
  { h with events := fun n => absurd (hp (by decide)) n, nextSeq := fun n => absurd (hp (by decide)) n, drover := fun n => absurd (hp (by decide)) n, boot := fun n => absurd (hp (by decide)) n, tap := fun n => absurd (hp (by decide)) n, sec := fun n => absurd (hp (by decide)) n, epoch := h.epoch, oneWay := h.oneWay }

theorem Only.set_boot_tap {l : List Part} {s t : State} (h : Only l s t) (v_boot : BootSt) (v_tap : TapSt)
    (hp : [.boot, .tap] ⊆ l) : Only l s { t with boot := v_boot, tap := v_tap } :=
  { h with boot := fun n => absurd (hp (by decide)) n, tap := fun n => absurd (hp (by decide)) n, epoch := h.epoch, oneWay := h.oneWay }

theorem Only.set_boot_nv {l : List Part} {s t : State} (h : Only l s t) (v_boot : BootSt) (v_nv : NvSt)
    (hp : [.boot, .nv] ⊆ l) (ho : OneWay t { t with nv := v_nv }) : Only l s { t with boot := v_boot, nv := v_nv } :=
  { h with boot := fun n => absurd (hp (by decide)) n, nv := fun n => absurd (hp (by decide)) n, epoch := h.epoch, oneWay := h.oneWay.trans ho }

theorem Only.set_drover_boot {l : List Part} {s t : State} (h : Only l s t) (v_drover : Drover) (v_boot : BootSt)
    (hp : [.drover, .boot] ⊆ l) : Only l s { t with drover := v_drover, boot := v_boot } :=
  { h with drover := fun n => absurd (hp (by decide)) n, boot := fun n => absurd (hp (by decide)) n, epoch := h.epoch, oneWay := h.oneWay }

theorem Only.ite {l : List Part} {s t u : State} {p : Prop} [Decidable p] (h : Only l s t) (k : Only l s u) :
    Only l s (if p then t else u) := by split <;> assumption

theorem Only.forEach {α : Type} {l : List Part} {s t : State} {f : α → State → State} {x : List α} (h : Only l s t)
    (hf : ∀ a u, Only l s u → Only l s (f a u)) : Only l s (Machine.forEach x t f) := by
  unfold Machine.forEach; induction x generalizing t with
  | nil => exact h
  | cons a x ih => exact ih (hf a t h)

theorem Only.upTo {l : List Part} {s t : State} {n : Nat} {f : Nat → State → State} (h : Only l s t)
    (hf : ∀ a u, Only l s u → Only l s (f a u)) : Only l s (Machine.upTo n t f) := by
  unfold Machine.upTo; generalize List.range n = x; induction x generalizing t with
  | nil => exact h
  | cons a x ih => exact ih (hf a t h)

theorem Only.foldl {α : Type} {l : List Part} {s t : State} {f : State → α → State} {x : List α} (h : Only l s t)
    (hf : ∀ u a, Only l s u → Only l s (f u a)) : Only l s (x.foldl f t) := by
  induction x generalizing t with
  | nil => exact h
  | cons a x ih => exact ih (hf t a h)

/-- A state reached on the way. -/
theorem Only.cut {l : List Part} {s t : State} {p : Prop} (h : Only l s t) (k : Only l s t → p) : p := k h

theorem Only.fst {α : Type} {l : List Part} {s t : State} {p : State × α} {a : α} (e : p = (t, a)) (h : Only l s p.1) : Only l s t := by
  subst e; exact h

theorem Only.snd {α : Type} {l : List Part} {s t : State} {p : α × State} {a : α} (e : p = (a, t)) (h : Only l s p.2) : Only l s t := by
  subst e; exact h

/-! ## The operations that write objects and bytes -/

theorem State.setObj_only {L : List Part} {σ τ : State} (k0 : Only L σ τ) (i j : Nat) (v : Value)
    (hL : [.objs] ⊆ L) (he : objKey i j ≠ objKey 0x2004 0 ∨ Part.epoch ∈ L) : Only L σ (State.setObj τ i j v) := by
  have e : (State.setObj τ i j v).epoch = τ.epoch ∨ Part.epoch ∈ L := he.imp_left fun ne => by
    simp only [State.epoch, State.num, State.obj, State.setObj, tabGet_tabSet, if_neg (Ne.symm ne)]
  exact { k0 with objs := fun n => absurd (hL (by decide)) n, epoch := fun n => (e.resolve_right n).trans (k0.epoch n) }

theorem State.setNum_only {L : List Part} {σ τ : State} (k0 : Only L σ τ) (i j n : Nat)
    (hL : [.objs] ⊆ L) (he : objKey i j ≠ objKey 0x2004 0 ∨ Part.epoch ∈ L) : Only L σ (State.setNum τ i j n) :=
  State.setObj_only k0 i j _ hL he

theorem State.setBlob_only {L : List Part} {σ τ : State} (k0 : Only L σ τ) (i j : Nat) (b : List Byte)
    (hL : [.objs] ⊆ L) (he : objKey i j ≠ objKey 0x2004 0 ∨ Part.epoch ∈ L) : Only L σ (State.setBlob τ i j b) :=
  State.setObj_only k0 i j _ hL he

theorem State.setInt_only {L : List Part} {σ τ : State} (k0 : Only L σ τ) (i j : Nat) (v : Int)
    (hL : [.objs] ⊆ L) (he : objKey i j ≠ objKey 0x2004 0 ∨ Part.epoch ∈ L) : Only L σ (State.setInt τ i j v) := by
  unfold State.setInt; split
  · exact State.setNum_only k0 i j _ hL he
  · exact k0

theorem State.count_only {L : List Part} {σ τ : State} (k0 : Only L σ τ) (i j n : Nat)
    (hL : [.objs] ⊆ L) (he : objKey i j ≠ objKey 0x2004 0 ∨ Part.epoch ∈ L) : Only L σ (State.count τ i j n) := by
  unfold State.count; split
  · exact State.setNum_only k0 i j _ hL he
  · exact k0

theorem State.setByte_only {L : List Part} {σ τ : State} (k0 : Only L σ τ) (a : Nat) (b : Byte)
    (hL : [.mem] ⊆ L) : Only L σ (State.setByte τ a b) :=
  { k0 with mem := fun n => absurd (hL (by decide)) n, wf := fun w => State.wf_setByte a b (k0.wf w), oneWay := k0.oneWay,
            epoch := k0.epoch }

theorem State.write_only {L : List Part} {σ τ : State} (k0 : Only L σ τ) (a : Nat) (b : List Byte)
    (hL : [.mem] ⊆ L) : Only L σ (State.write τ a b) :=
  { k0 with mem := fun n => absurd (hL (by decide)) n, wf := fun w => State.wf_write a b (k0.wf w), oneWay := k0.oneWay,
            epoch := k0.epoch }

/-- A command whose next state, if it answers one, changes only the parts of l. -/
structure OnlyR (l : List Part) (s : State) (r : Res) : Prop where
  only : ∀ t, r = .next t → Only l s t

theorem OnlyR.next {l : List Part} {s t : State} (h : Only l s t) : OnlyR l s (.next t) := ⟨fun _ e => by cases e; exact h⟩

/-- A pen instruction that answers a state or stops. -/
structure OnlyT (l : List Part) (s : State) (r : Try State) : Prop where
  only : ∀ t, r = .ok t → Only l s t

theorem OnlyT.ok {l : List Part} {s t : State} (h : Only l s t) : OnlyT l s (.ok t) := ⟨fun _ e => by cases e; exact h⟩

theorem OnlyT.error {l : List Part} {s : State} (e : Stop) : OnlyT l s (.error e) := ⟨fun _ h => by cases h⟩

theorem OnlyT.bind {α : Type} {l : List Part} {s : State} {x : Try α} {f : α → Try State} (h : ∀ a, OnlyT l s (f a)) :
    OnlyT l s (x >>= f) := ⟨fun u e => by
  cases x with
  | error z => cases e
  | ok a => exact (h a).only u e⟩

theorem OnlyT.bindState {l : List Part} {s : State} {x : Try State} {f : State → Try State} (k : OnlyT l s x)
    (h : ∀ a, Only l s a → OnlyT l s (f a)) : OnlyT l s (x >>= f) := ⟨fun u e => by
  cases x with
  | error z => cases e
  | ok a => exact (h a (k.only a rfl)).only u e⟩

theorem OnlyT.map {α : Type} {l : List Part} {s : State} {x : Try α} {f : α → State} (h : ∀ a, Only l s (f a)) :
    OnlyT l s (x.map f) := ⟨fun u e => by
  cases x with
  | error z => cases e
  | ok a => cases e; exact h a⟩

end Sys2Proof.Machine
end

