-- ==== Sys2Proof/Laws/Mop.lean ====
section
/-! SUPPORT. What operation records do once the checks of R321 pass, said once for every command and write. -/

namespace Sys2Proof.Machine

variable {s : State} {slot index sub : Nat}

theorem Accepts.command (h : Accepts s slot opCommand index sub) (f : State → State × Nat) :
    s.command slot index sub f = (f s).1.answer slot opCommand index sub (f s).2 := by
  obtain ⟨a, h1, h2⟩ := h
  simp [State.command, h1, h2]

theorem command_refused {a ab : Nat} (h1 : s.authority slot = some a) (h2 : s.mopCheck a opCommand index sub = some ab)
    (f : State → State × Nat) : s.command slot index sub f = s.answer slot opCommand index sub ab := by
  simp [State.command, h1, h2]

theorem Accepts.commitCommand {commit : Nat} (h : Accepts s slot opCommand commit 0) (check : State → Nat)
    (apply : State → State) (d : Deferred) :
    s.commitCommand slot commit check apply d =
      if (s.group commit).busy slot then s.answer slot opCommand commit 0 0x1000000B
      else if s.tick.running then s.defer d else s.applyCommit slot commit false check apply := by
  obtain ⟨a, h1, h2⟩ := h
  simp [State.commitCommand, h1, h2]

theorem writeWith_eq {v : Value} (h : Accepts s slot opWrite index sub) (hf : WriteFits s index sub v)
    (own : State → Nat) (put : State → ObjRow → State) :
    ∃ r, objectRow index sub = some r ∧
      s.writeWith slot index sub v own put = if own s ≠ 0 then s.answer slot opWrite index sub (own s) else put s r := by
  obtain ⟨a, h1, h2⟩ := h
  obtain ⟨r, hr, hs, hv⟩ := hf
  refine ⟨r, hr, ?_⟩
  unfold State.writeWith
  cases v with
  | num n =>
    obtain ⟨x, y, z⟩ := hv
    have hs' : ¬ (r.access = Access.rws ∧ s.tick.running = true) := hs
    simp [h1, h2, hr, x, y, z, hs']
  | bytes b =>
    obtain ⟨x, y, z⟩ := hv
    have hs' : ¬ (r.access = Access.rws ∧ s.tick.running = true) := hs
    simp [h1, h2, hr, x, y, z, hs']

end Sys2Proof.Machine
end

