-- ==== Sys2Proof/Laws/Pens.lean ====
section
/-! SUPPORT. What issuing a pen instruction can do. -/

namespace Sys2Proof.Machine

/-- What a body that changes its own pen only sees: the PC past the instruction. -/
abbrev State.bodyView (s : State) (p : Nat) : State := s.setPen p (s.pen p).past

/-- The pen in that view, and the clocks, which a body leaves as they are. -/
@[simp] theorem State.bodyView_pen (s : State) (p : Nat) : (s.bodyView p).pen p = (s.pen p).past := State.pen_setPen_same s p _

@[simp] theorem State.bodyView_tick (s : State) (p : Nat) : (s.bodyView p).tick = s.tick := rfl
@[simp] theorem State.bodyView_clock (s : State) (p : Nat) : (s.bodyView p).clock = s.clock := rfl

theorem onPen_past (p : Nat) (f : State → Pen → Try Pen) (s : State) :
    onPen p f (s.setPen p (s.pen p).past) = (f (s.bodyView p) (s.pen p).past).map ((s.setPen p (s.pen p).past).setPen p) := by
  unfold onPen
  rw [State.pen_setPen_same]

theorem Runs.order_eq {s : State} {p : Nat} {r : Run} (h : Runs s p r) : (s.pen p).order = r.issued := by
  unfold Pen.order; rw [h.1]

theorem Runs.issue_eq {s : State} {p : Nat} {r : Run} (h : Runs s p r) (f : Form) (w : PenWord) (x : Bool)
    (body : State → Try State) :
    issue p f w x body s = s.settle p (do
      checkWord f w
      if x && (s.pen p).xBusy then .error (.stall .unitBusy)
      if s.viewWaits p f w then .error (.stall .pendingWrite)
      body (s.setPen p (s.pen p).past)) := by
  obtain ⟨h1, h2, h3, h4⟩ := h
  unfold issue
  simp [h1, h2, h4, Nat.not_le.mpr h3]

/-- An instruction that issues runs its body with the PC at the next instruction. -/
theorem Issues.issue_eq {s : State} {p : Nat} {r : Run} {f : Form} {w : PenWord} (h : Issues s p r f w) {x : Bool}
    (hx : x = true → (s.pen p).xBusy = false) (body : State → Try State) :
    issue p f w x body s = s.settle p (body (s.setPen p (s.pen p).past)) := by
  rw [h.1.issue_eq]
  have : checkWord f w = .ok () := by simp [checkWord, h.2.1, h.2.2.1]
  rw [this, h.2.2.2]
  cases x
  · rfl
  · simp [hx rfl]; rfl

/-- The state after an instruction that changes its own pen only. -/
theorem Issues.onPen_ok {s : State} {p : Nat} {r : Run} {f : Form} {w : PenWord} (h : Issues s p r f w) {x : Bool}
    (hx : x = true → (s.pen p).xBusy = false) {g : State → Pen → Try Pen} {q : Pen}
    (hg : g (s.bodyView p) (s.pen p).past = .ok q) :
    issue p f w x (onPen p g) s = (s.setPen p (s.pen p).past).setPen p q := by
  rw [h.issue_eq hx, onPen_past, hg]
  rfl

/-- A body that raises an exception. -/
theorem Issues.exc {s : State} {p : Nat} {r : Run} {f : Form} {w : PenWord} (h : Issues s p r f w) {x : Bool}
    (hx : x = true → (s.pen p).xBusy = false) {body : State → Try State} {code detail : Nat}
    (hg : body (s.setPen p (s.pen p).past) = .error (.exc code detail)) :
    issue p f w x body s = s.except p r.issued (s.pen p).pc code detail := by
  rw [h.issue_eq hx, hg, ← h.1.order_eq]; rfl

/-- A body that stalls. -/
theorem Issues.stalls {s : State} {p : Nat} {r : Run} {f : Form} {w : PenWord} (h : Issues s p r f w) {x : Bool}
    (hx : x = true → (s.pen p).xBusy = false) {body : State → Try State} {why : Stall}
    (hg : body (s.setPen p (s.pen p).past) = .error (.stall why)) :
    issue p f w x body s = s.modPen p fun q => { q with stall := some why } := by
  rw [h.issue_eq hx, hg]; rfl

theorem onPen_error {p : Nat} {f : State → Pen → Try Pen} {s : State} {e : Stop}
    (h : f (s.bodyView p) (s.pen p).past = .error e) : onPen p f (s.setPen p (s.pen p).past) = .error e := by
  rw [onPen_past, h]; rfl

/-- An exception of a run that has not ended, none of the counted codes. -/
theorem Runs.except_eq {s : State} {p : Nat} {r : Run} (h : Runs s p r) {code : Nat} (hc : code ≠ 0x10 ∧ code ≠ 0x11)
    (order index detail : Nat) : s.except p order index code detail = s.setPen p { s.pen p with
      run := some { r with
        ended := some (.exc code index (BitVec.ofNat 64 detail)), endedAt := order, acc := none
        record := r.record ++ [.exc code index] } } := by
  unfold State.except
  simp [h.1, h.2.1, hc.1, hc.2, Run.keepsEnd]

theorem Runs.raised {s : State} {p : Nat} {r : Run} (h : Runs s p r) {code : Nat} (hc : code ≠ 0x10 ∧ code ≠ 0x11)
    (detail : Nat) : Raised s (s.except p r.issued (s.pen p).pc code detail) p r code (BitVec.ofNat 64 detail) := by
  rw [h.except_eq hc]; simp [Raised]

theorem OnlyPen.setPen (s : State) (p : Nat) (v : Pen) : OnlyPen p s (s.setPen p v) :=
  ⟨rfl, fun _ h => by simp [State.pen_setPen, h]⟩

theorem OnlyPen.trans {p : Nat} {a b c : State} (h : OnlyPen p a b) (k : OnlyPen p b c) : OnlyPen p a c := by
  obtain ⟨h1, h2⟩ := h
  obtain ⟨k1, k2⟩ := k
  refine ⟨?_, fun i hi => (k2 i hi).trans (h2 i hi)⟩
  rw [← k1] at h1
  exact h1

theorem OnlyPen.setPen_setPen (s : State) (p : Nat) (u v : Pen) : OnlyPen p s ((s.setPen p u).setPen p v) :=
  (OnlyPen.setPen s p u).trans (OnlyPen.setPen _ p v)

theorem OnlyPen.modPen (s : State) (p : Nat) (f : Pen → Pen) : OnlyPen p s (s.modPen p f) := OnlyPen.setPen s p _

theorem Runs.onlyPen_except {s : State} {p : Nat} {r : Run} (h : Runs s p r) {code : Nat} (hc : code ≠ 0x10 ∧ code ≠ 0x11)
    (order index detail : Nat) : OnlyPen p s (s.except p order index code detail) := by
  rw [h.except_eq hc]; exact OnlyPen.setPen s p _

/-- A body that changes its own pen completes. -/
theorem Issues.completes {s : State} {p : Nat} {r : Run} {f : Form} {w : PenWord} {x : Bool} (h : Issues s p r f w)
    {g : State → Pen → Try Pen} {q : Pen} (hg : g (s.bodyView p) (s.pen p).past = .ok q)
    (hx : x = true → (s.pen p).xBusy = false := by simp) :
    ∃ t, Host.Outcome.next (issue p f w x (onPen p g) s) = (Host.Outcome.next t : Res) ∧ t.pen p = q ∧ OnlyPen p s t :=
  ⟨_, rfl, by rw [h.onPen_ok hx hg]; simp, by rw [h.onPen_ok hx hg]; exact OnlyPen.setPen_setPen _ _ _ _⟩

/-- A body that raises an exception ends the run. -/
theorem Issues.raises {s : State} {p : Nat} {r : Run} {f : Form} {w : PenWord} {x : Bool} (h : Issues s p r f w)
    {body : State → Try State} {code : Nat} (hc : code ≠ 0x10 ∧ code ≠ 0x11) {d : Nat}
    (hg : body (s.setPen p (s.pen p).past) = .error (.exc code d))
    (hx : x = true → (s.pen p).xBusy = false := by simp) :
    ∃ t, Host.Outcome.next (issue p f w x body s) = (Host.Outcome.next t : Res)
      ∧ Raised s t p r code (BitVec.ofNat 64 d) ∧ OnlyPen p s t :=
  ⟨_, rfl, by rw [h.exc hx hg]; exact h.1.raised hc d, by rw [h.exc hx hg]; exact h.1.onlyPen_except hc _ _ d⟩

/-- The same of a body that changes its own pen only. -/
theorem Issues.raisesPen {s : State} {p : Nat} {r : Run} {f : Form} {w : PenWord} {x : Bool} (h : Issues s p r f w)
    {g : State → Pen → Try Pen} {code : Nat} (hc : code ≠ 0x10 ∧ code ≠ 0x11) {d : Nat}
    (hg : g (s.bodyView p) (s.pen p).past = .error (.exc code d))
    (hx : x = true → (s.pen p).xBusy = false := by simp) :
    ∃ t, Host.Outcome.next (issue p f w x (onPen p g) s) = (Host.Outcome.next t : Res)
      ∧ Raised s t p r code (BitVec.ofNat 64 d) ∧ OnlyPen p s t :=
  h.raises hc (onPen_error hg) hx

/-- A body that stalls leaves the PC. -/
theorem Issues.waits {s : State} {p : Nat} {r : Run} {f : Form} {w : PenWord} {x : Bool} (h : Issues s p r f w)
    {body : State → Try State} {y : Stall} (hg : body (s.setPen p (s.pen p).past) = .error (.stall y))
    (hx : x = true → (s.pen p).xBusy = false := by simp) :
    ∃ t, Host.Outcome.next (issue p f w x body s) = (Host.Outcome.next t : Res)
      ∧ t.pen p = { s.pen p with stall := some y } ∧ OnlyPen p s t :=
  ⟨_, rfl, by rw [h.stalls hx hg]; simp, by rw [h.stalls hx hg]; exact OnlyPen.modPen _ _ _⟩

/-! ## Registers, branches, immediates -/

@[simp] theorem Pen.past_reg (q : Pen) (n : Nat) : q.past.reg n = q.reg n := rfl
@[simp] theorem Pen.past_view (q : Pen) (n : Nat) : q.past.view n = q.view n := rfl
@[simp] theorem Pen.past_scratch (q : Pen) : q.past.scratch = q.scratch := rfl
@[simp] theorem Pen.past_run (q : Pen) : q.past.run = q.run.map fun r => { r with issued := r.issued + 1 } := rfl
@[simp] theorem Pen.past_xBusy (q : Pen) : q.past.xBusy = q.xBusy := rfl

theorem Pen.setReg_run (q : Pen) (n : Nat) (v : Word64) : (q.setReg n v).run = q.run := by
  unfold Pen.setReg; split <;> rfl
theorem Pen.setReg_pc (q : Pen) (n : Nat) (v : Word64) : (q.setReg n v).pc = q.pc := by unfold Pen.setReg; split <;> rfl

/-- S00 reads as zero and discards writes; any other register reads what was written (R66). -/
theorem Pen.reg_setReg (q : Pen) (n m : Nat) (v : Word64) :
    (q.setReg n v).reg m = if m = 0 then 0 else if m = n then v else q.reg m := by
  by_cases hm : m = 0
  · simp [Pen.reg, hm]
  · by_cases hn : n = 0
    · have : m ≠ n := by omega
      simp [Pen.setReg, hn, hm]
    · simp [Pen.setReg, Pen.reg, hn, hm, tabGet_tabSet]

theorem branch_in {q : Pen} {r : Run} (hr : q.run = some r) {imm : Word64}
    (h : 0 ≤ (q.pc : Int) - 1 + imm.toInt ∧ (q.pc : Int) - 1 + imm.toInt < r.ninstr) :
    branch q imm = .ok { q with pc := ((q.pc : Int) - 1 + imm.toInt).toNat } := by
  unfold branch; simp only [hr]; rw [if_pos h]

theorem branch_out {q : Pen} {r : Run} (hr : q.run = some r) {imm : Word64}
    (h : ¬ (0 ≤ (q.pc : Int) - 1 + imm.toInt ∧ (q.pc : Int) - 1 + imm.toInt < r.ninstr)) : branch q imm = raise 5 := by
  unfold branch; simp only [hr]; rw [if_neg h]

theorem Pen.past_target (q : Pen) (i : Word64) : (q.past.pc : Int) - 1 + i.toInt = q.pc + i.toInt := by
  simp [Pen.past]

/-- An operand of kind 3 is the immediate, any other the register. -/
theorem scalarOrImm_eq (q : Pen) (w : PenWord) (k : BitVec 2) (n : Nat) :
    scalarOrImm q w k.toNat n = if k = 3 then w.imm else q.reg n := by
  have : (k.toNat = 3) = (k = 3) := propext
    ⟨fun h => BitVec.eq_of_toNat_eq (by simpa using h), fun h => by rw [h]; rfl⟩
  simp only [scalarOrImm, this]

end Sys2Proof.Machine
end

