-- ==== Sys2Proof/WellFormed.lean ====
section
/-! DEFINITION. Which commands can be given: every operand within the width of its field, every flit, envelope and
object of its stated length. A pen instruction's word may hold anything else: R65 judges its reserved fields when it runs. -/

namespace Sys2Proof

/-- A value of `n` bits. -/
def widthIn (n v : Nat) : Bool := decide (v < 2 ^ n)

/-- A two's-complement value of `n` bits. -/
def signedIn (n : Nat) (v : Int) : Bool := decide (-(2 ^ (n - 1) : Int) ≤ v) && decide (v < 2 ^ (n - 1))

/-- A key slot, or 0 for an unauthenticated request (R319). -/
def slotOk (slot : Nat) : Bool := decide (slot ≤ 8)

/-- The opcodes of Table 04.7. -/
def tableOpcodes : List Nat :=
  [0x00, 0x01, 0x02, 0x03, 0x04, 0x05, 0x0A, 0x0B, 0x0C, 0x10, 0x11, 0x12, 0x13, 0x14, 0x15, 0x16, 0x17, 0x20, 0x21, 0x22,
   0x23, 0x24, 0x30, 0x31, 0x40, 0x41, 0x42, 0x43, 0x44, 0x48, 0x49, 0x4A, 0x4C, 0x50, 0x51, 0x52, 0x58, 0x5C]

/-- A word holds no opcode beside its constructor's but a reserved one (R72). -/
def PenWord.wf (w : PenWord) : Bool :=
  match w.opc with
  | none => true
  | some o => !tableOpcodes.contains o.toNat

/-- Table 02.2. -/
def Beacon.wf (b : Beacon) : Bool :=
  widthIn 32 b.membd && widthIn 32 b.schd && widthIn 8 b.chgIn && widthIn 8 b.nextLand && widthIn 8 b.land
    && widthIn 32 b.nextPeriod && widthIn 32 b.period && widthIn 64 b.epoch && widthIn 16 b.source && widthIn 2 b.role
    && widthIn 8 b.type

/-- Table 02.5. -/
def Probe.wf (p : Probe) : Bool :=
  widthIn 64 p.tlaunch && widthIn 64 p.tcapt && widthIn 32 p.pid && widthIn 8 p.inf && widthIn 8 p.outf && widthIn 16 p.source
    && widthIn 8 p.type

/-- Table 02.6. -/
def Dispute.wf (d : Dispute) : Bool := widthIn 16 d.src && widthIn 64 d.epoch && signedIn 16 d.diff && widthIn 8 d.kind

/-- Table 08.6. -/
def Notice.wf (n : Notice) : Bool :=
  widthIn 16 n.token && widthIn 24 n.seq && widthIn 8 n.reason && widthIn 8 n.toLine && widthIn 8 n.fromLine && widthIn 8 n.lane
    && widthIn 8 n.fiber && widthIn 8 n.type

/-- Table 09.2: a map has 5 bits for each lane. -/
def CtrlBlock.wf (g : CtrlBlock) : Bool :=
  widthIn 5 g.carrier && widthIn 8 g.ctype && widthIn 4 g.lane && widthIn 16 g.row && widthIn 8 g.info && widthIn 4 g.dlane
    && g.map.all (widthIn 5)

/-- A traded job's descriptor is 64 bytes (Table 04.11). -/
def TradedJob.wf (j : TradedJob) : Bool := j.desc.length == 64 && widthIn 32 j.imgcrc && widthIn 32 j.ninstr

/-- A frame's fields (R264, R265). -/
def EthFrame.wf (f : EthFrame) : Bool :=
  widthIn 48 f.dst && widthIn 128 f.dstIp && f.vlanTags.all (widthIn 12) && widthIn 3 f.pcp && widthIn 16 f.etherType && widthIn 8 f.protocol
    && widthIn 16 f.udpPort

/-- A connection request (R269). -/
def CmReq.wf (r : CmReq) : Bool :=
  widthIn 24 r.srcQp && widthIn 128 r.srcAddr && widthIn 64 r.service && widthIn 8 r.respRes && widthIn 3 r.retry
    && widthIn 3 r.rnrRetry && widthIn 24 r.startPsn

/-- An RC packet (Table 12.2). -/
def RcPacket.wf (p : RcPacket) : Bool :=
  widthIn 24 p.psn && widthIn 32 p.rkey && widthIn 64 p.va && widthIn 32 p.dmaLen && decide (p.payload.length ≤ 4096)

/-- A control-port frame (Table 18.6). -/
def OeFrame.wf (f : OeFrame) : Bool := widthIn 32 f.addr && widthIn 8 f.len && widthIn 8 f.tag && widthIn 8 f.rsv && widthIn 8 f.opc

/-- An OE's identity has a 16-byte serial number at most (R336). -/
def OeChecks.wf (r : OeChecks) : Bool := widthIn 16 r.stepping && decide (r.serial.length ≤ 16)

/-- What a tile site answers: a 16-bit stepping, a 32-bit launch delay (R13, R327). -/
def TileChecks.wf (r : TileChecks) : Bool := widthIn 16 r.stepping && widthIn 32 r.launchDelay

/-- A command that can be given. -/
def Instr.wf : Instr → Bool
  | .tick _ => true
  | .landingOpen _ => true
  | .batchCapGrowth _ => true
  | .startTreads slot => slotOk slot
  | .stopTreads slot => slotOk slot
  | .tickGroupCommit slot => slotOk slot
  | .changeCountdownZero => true
  | .tickLost => true
  | .beaconReceived _ b raw upstream => b.wf && signedIn 32 raw && signedIn 64 upstream
  | .delayProbePeriod => true
  | .delayProbeReceived _ p => p.wf
  | .probeReplyReceived _ p => p.wf
  | .treadConfirm => true
  | .claimInChange _ => true
  | .claimTimeout => true
  | .tickDisputeReceived d => d.wf
  | .reclaim => true
  | .nop _ w => w.wf
  | .endJob _ w => w.wf
  | .br _ w => w.wf
  | .brc _ w => w.wf
  | .loop _ w => w.wf
  | .trap _ w => w.wf
  | .trd _ w => w.wf
  | .fence _ w => w.wf
  | .twait _ w => w.wf
  | .sli _ w => w.wf
  | .salu _ w => w.wf
  | .sld _ w => w.wf
  | .sst _ w => w.wf
  | .sfp _ w => w.wf
  | .vset _ w => w.wf
  | .vadv _ w => w.wf
  | .vld _ w => w.wf
  | .bld _ w => w.wf
  | .baleReadArrival _ _ _ => true
  | .bst _ w => w.wf
  | .emit _ w => w.wf
  | .take _ w => w.wf
  | .tokw _ w => w.wf
  | .mma _ w => w.wf
  | .aclr _ w => w.wf
  | .vop _ w => w.wf
  | .vfma _ w => w.wf
  | .vun _ w => w.wf
  | .vsel _ w => w.wf
  | .cvt _ w => w.wf
  | .red _ w => w.wf
  | .csum _ w => w.wf
  | .find _ w => w.wf
  | .osm _ w => w.wf
  | .topk _ w => w.wf
  | .gath _ w => w.wf
  | .scat _ w => w.wf
  | .rng _ w => w.wf
  | .rchk _ w => w.wf
  | .cycleBoundExpiry _ => true
  | .macFaultInjection slot _ => slotOk slot
  | .planDoorbell _ offset => widthIn 25 offset
  | .jobDispatch _ => true
  | .jobComplete _ => true
  | .inFieldTestComplete _ _ _ _ => true
  | .grantSlotBoundary _ => true
  | .tradeIdleExpiry _ => true
  | .tradeRequestReceived _ _ clkt commits staging records => widthIn 32 clkt && widthIn 16 commits && widthIn 16 staging && widthIn 16 records
  | .tradeGrantReceived _ _ jobs => jobs.all TradedJob.wf
  | .tradeCompletionReport _ jobId cls => widthIn 32 jobId && widthIn 2 cls
  | .memoryRead _ _ _ => true
  | .commitWrite _ slot _ => decide (slot < 1024)
  | .commitWriteComplete _ slot => decide (slot < 1024)
  | .commitWriteTimeout _ slot => decide (slot < 1024)
  | .baleReadTimeout _ _ => true
  | .refreshRatePoll _ report => widthIn 3 report
  | .channelFailed _ _ => true
  | .rehomingCopyComplete _ _ => true
  | .redirectGroupCommit slot => slotOk slot
  | .regionMapWrite slot data => slotOk slot && decide (data.length ≤ 2097152)
  | .senseWindow currents => currents.all fun e => decide (e.1 < 0xE0)
  | .reinHeldLimit => true
  | .inputReading millivolts milliampsA milliampsB vkMilliwatts => widthIn 17 millivolts && widthIn 32 milliampsA && widthIn 32 milliampsB && widthIn 32 vkMilliwatts
  | .tabFault => true
  | .tabFaultClear => true
  | .inputOutOfRange _ => true
  | .inputReturn => true
  | .powerCapWrite slot value => slotOk slot && widthIn 64 value
  | .thermalUpdate => true
  | .diodeRead readings => (readings.length == 8 && readings.all (signedIn 16))
  | .thermalShutdown => true
  | .thermalReenable slot => slotOk slot
  | .ringAcquisition _ => true
  | .ringSweepComplete _ dips => dips.all (widthIn 13)
  | .ringAcquireComplete _ converged => converged.all (widthIn 13)
  | .ringVerifyComplete _ _ => true
  | .ringNarrowComplete _ dips => dips.all (widthIn 13)
  | .ringTrack _ heat => heat.all (widthIn 13)
  | .mpdSample _ _ reading _ => widthIn 32 reading
  | .laserDailyMean _ _ => true
  | .marginWarningExpiry _ _ => true
  | .dupReceived _ n => n.wf
  | .steeringCompareComplete _ token seq => widthIn 16 token && widthIn 24 seq
  | .steeringCompareTimeout _ token => widthIn 16 token
  | .switchedReceived _ n => n.wf
  | .refuseReceived _ n => n.wf
  | .askReceived _ n => n.wf
  | .dropReceived _ n => n.wf
  | .restoreReceived _ n => n.wf
  | .exchangeTimeout _ _ => true
  | .calibrationStepTime _ => true
  | .calibrationWindowStart => true
  | .calibrationStepTimeout _ => true
  | .manualMove slot => slotOk slot
  | .shutterClose _ => true
  | .shutterProbeOpen _ => true
  | .shutterProbeClose _ => true
  | .idleGroupReceived _ g => g.all CtrlBlock.wf
  | .trainGroupReceived _ g => g.all CtrlBlock.wf
  | .modeGroupReceived _ g => g.all CtrlBlock.wf
  | .blockLockAcquired _ _ => true
  | .blockLockLost _ _ _ => true
  | .adaptComplete _ _ skew => signedIn 8 skew
  | .marginMeasurement _ _ margin => widthIn 8 margin
  | .fmarginTimeout _ _ => true
  | .lossOfSignalSet _ => true
  | .lossOfSignalClear _ => true
  | .laneReturnTimeout _ _ => true
  | .laneTrainingStart _ => true
  | .trainingTimeout _ => true
  | .prbsStart slot => slotOk slot
  | .prbsStop slot => slotOk slot
  | .injectionWord slot _ => slotOk slot
  | .injectionFire => true
  | .flitReceived _ flit headers => flit.length == 256 && headers.length == 16
  | .ackonlyReceived _ flit headers => flit.length == 256 && headers.length == 16
  | .nakReceived _ flit headers => flit.length == 256 && headers.length == 16
  | .cmarkReceived _ flit headers => flit.length == 256 && headers.length == 16
  | .initReceived _ flit headers => flit.length == 256 && headers.length == 16
  | .resumeReceived _ flit headers => flit.length == 256 && headers.length == 16
  | .initResendTimer _ => true
  | .nakRepeat _ => true
  | .replayTimeout _ => true
  | .ackCoalesceTimeout _ => true
  | .ackonlyTimer _ => true
  | .cmarkTimer _ => true
  | .rowSend _ => true
  | .spillReadComplete _ _ => true
  | .creditTimeout _ => true
  | .linkRestore slot _ => slotOk slot
  | .spillRegionWrite slot _ _ value => slotOk slot && widthIn 64 value
  | .reservedMinimumWrite slot _ value => slotOk slot && widthIn 64 value
  | .forwardingEnvelope _ tc payload => widthIn 3 tc && payload.length == 240
  | .stagedScheduleWrite slot data => slotOk slot && decide (data.length ≤ 1056832)
  | .membershipListWrite slot data => slotOk slot && decide (data.length ≤ 4096)
  | .buildFlight slot => slotOk slot
  | .flightBuildComplete arrivalOffsets => arrivalOffsets.all fun e => signedIn 32 e.2
  | .memberLost _ => true
  | .membershipUpdateReceived inner => inner.length == 224
  | .membershipUpdateTimeout => true
  | .portModeWrite slot _ mode => slotOk slot && widthIn 64 mode
  | .ethernetLinkUp _ => true
  | .ethernetLinkDown _ => true
  | .ethernetFrameReceived _ f => f.wf
  | .arpRequest _ senderIp senderMac targetIp => widthIn 32 senderIp && widthIn 48 senderMac && widthIn 32 targetIp
  | .neighbourSolicitation _ senderIp senderMac targetIp => widthIn 128 senderIp && widthIn 48 senderMac && widthIn 128 targetIp
  | .icmpEchoRequest _ _ srcIp dstIp data => widthIn 128 srcIp && widthIn 128 dstIp && decide (data.length ≤ 9216)
  | .neighbourEntryExpiry _ ip => widthIn 128 ip
  | .cmReq _ r => r.wf
  | .cmRtu _ => true
  | .cmDreq _ => true
  | .roceSendReceived _ p => p.wf
  | .rdmaWriteReceived _ p => p.wf
  | .rdmaReadRequest _ p _ => p.wf
  | .unsupportedOpcodeReceived _ opcode psn _ => widthIn 8 opcode && widthIn 24 psn
  | .rcAckReceived _ syndrome psn _ => widthIn 8 syndrome && widthIn 24 psn
  | .localAckTimeout _ => true
  | .cnpReceived _ _ => true
  | .dcqcnAlphaTimer _ => true
  | .dcqcnRateTimer _ => true
  | .dcqcnByteCounter _ => true
  | .windowDescriptorWrite slot data => slotOk slot && data.length == 32
  | .pfcFrameReceived _ _ quanta => (quanta.length == 8 && quanta.all (widthIn 16))
  | .pfcRepeat _ _ => true
  | .pauseWatchdogExpiry _ _ => true
  | .pauseWatchdogResume _ _ => true
  | .pfcMaskWrite slot _ value => slotOk slot && widthIn 64 value
  | .openReq _ => true
  | .continueReq _ => true
  | .closeReq _ => true
  | .nopRequest _ => true
  | .batchCut => true
  | .admissionTimeout _ => true
  | .idleTimeout _ => true
  | .loadModel slot => slotOk slot
  | .modelLoadComplete _ _ => true
  | .unloadModel slot => slotOk slot
  | .ringPoolWrite slot _ value => slotOk slot && widthIn 64 value
  | .mopDatagram _ _ srcIp srcPort bytes => widthIn 128 srcIp && widthIn 16 srcPort && decide (bytes.length ≤ 1452)
  | .mopRead slot index sub type offset dlen _ => slotOk slot && widthIn 16 index && widthIn 8 sub && widthIn 8 type && widthIn 32 offset && widthIn 16 dlen
  | .mopWrite slot index sub type offset _ data => slotOk slot && widthIn 16 index && widthIn 8 sub && widthIn 8 type && widthIn 32 offset && decide (data.length ≤ 1024)
  | .describe slot index sub type dlen => slotOk slot && widthIn 16 index && widthIn 8 sub && widthIn 8 type && widthIn 16 dlen
  | .discard slot index sub type dlen => slotOk slot && widthIn 16 index && widthIn 8 sub && widthIn 8 type && widthIn 16 dlen
  | .memread slot addr len => slotOk slot && widthIn 64 addr && widthIn 32 len
  | .memwrite slot addr data => slotOk slot && widthIn 64 addr && decide (data.length ≤ 1016)
  | .stagingTimeout _ => true
  | .assemblyTimeout index sub => widthIn 16 index && widthIn 8 sub
  | .readHoldTimeout slot index sub => slotOk slot && widthIn 16 index && widthIn 8 sub
  | .hubForwardTimeout slot op index sub => slotOk slot && widthIn 8 op && widthIn 16 index && widthIn 8 sub
  | .eventLogSave => true
  | .powerOnReset => true
  | .keeperBoot _ _ => true
  | .firmwareVerification _ => true
  | .hubBringup _ _ _ idle diodes => (idle.all fun e => decide (e.1 < 0xE0)) && (diodes.length == 8 && diodes.all (signedIn 16))
  | .oeQualification _ r => r.wf
  | .tileDieToDieTest tiles => tiles.all fun e => e.2.wf
  | .memoryTraining _ => true
  | .penSelfTest _ => true
  | .capabilityNegotiation => true
  | .ready => true
  | .stageTimeout => true
  | .railTimeout step part => widthIn 4 step && widthIn 8 part
  | .referenceRetry _ => true
  | .ethernetReferenceChange _ => true
  | .moduleReset slot => slotOk slot
  | .modrstAssert => true
  | .modrstRelease => true
  | .firmwareRestart => true
  | .oeRequalification _ r => r.wf
  | .powerLoss => true
  | .bypass opcode => !([0x00, 0x01, 0x02, 0x03, 0x04, 0x20, 0x21] : List (BitVec 8)).contains opcode
  | .idcode => true
  | .samplePreload _ _ => true
  | .extest => true
  | .clamp => true
  | .highz => true
  | .dtest _ => true
  | .dstat => true
  | .dtestComplete _ nfail first => widthIn 8 nfail && widthIn 8 first
  | .sliceRetired die port _ _ => widthIn 8 die && widthIn 8 port
  | .tilePllUnlock _ => true
  | .memoryControllerTimeout _ => true
  | .shepherdWatchdogExpiry _ => true
  | .hubWatchdogExpiry => true
  | .keeperWatchdogExpiry => true
  | .penFence slot => slotOk slot
  | .penRestore slot => slotOk slot
  | .tileRestart slot r => slotOk slot && r.wf
  | .powerOff slot => slotOk slot
  | .allLasersOff slot => slotOk slot
  | .tilePowerDown slot => slotOk slot
  | .smbusStatusRead => true
  | .smbusAlertClear _ _ => true
  | .smbusAlertResponse => true
  | .tallySample _ event _ => widthIn 16 event
  | .tallyWindowClose _ => true
  | .tallyConfigurationWrite slot _ data => slotOk slot && data.length == 16
  | .tallyClear slot _ => slotOk slot
  | .tallyClearAll slot => slotOk slot
  | .firmwareImageWrite slot offset _ data => slotOk slot && widthIn 32 offset && decide (data.length ≤ 1024)
  | .installImage slot => slotOk slot
  | .installComplete _ _ => true
  | .raiseFloor slot => slotOk slot
  | .keyInstall slot _ data => slotOk slot && (data.length == 33 || data.length == 41)
  | .keyClear slot _ => slotOk slot
  | .attest slot => slotOk slot
  | .attestationComplete => true
  | .treeGenerationComplete => true
  | .lifecycleTransition slot => slotOk slot
  | .oeControlFrame _ f => f.wf
  | .oeResponseTimeout _ tag => widthIn 8 tag
  | .registerWrite slot index sub value => slotOk slot && widthIn 16 index && widthIn 8 sub && widthIn 64 value
  | .uncorrectableEccError _ unit address => widthIn 10 unit && widthIn 64 address
  | .spillWriteComplete _ => true
  | .externalWriteComplete _ => true
  | .calibrationMeasurementComplete _ reading => widthIn 32 reading
  | .laserBiasRampEnd _ => true
  | .prbsPatternLock => true
  | .prbsPatternLockLost => true
  | .restoreAnswerTimeout _ => true
  | .plcaBeaconChange _ => true

end Sys2Proof
end

