-- ==== Sys2Proof/Tests/Slice0.lean ====
section
/-! SUPPORT. Small tests, each of one step or one check, and a state for every premise of the statements. -/

namespace Sys2Proof
open Sys2Proof.Machine

def bytes0 (n : Nat) : List Byte := List.replicate n 0
theorem bytes0_length (n : Nat) : (bytes0 n).length = n := List.length_replicate
def beacon0 : Beacon :=
  { membd := 0, schd := 0, chgIn := 0, nextLand := 0, land := 0, nextPeriod := 0, period := 0, epoch := 0, source := 0, role := 1 }
def probe0 : Probe := { tlaunch := 0, tcapt := 0, pid := 0, inf := 0, outf := 0, source := 0, type := 0 }
def dispute0 : Dispute := { src := 0, epoch := 0, diff := 0, kind := 0 }
def notice0 : Notice := { token := 0, reason := 1, toLine := 0, fromLine := 0, lane := 0, fiber := 0, type := 0 }
def block0 : CtrlBlock := { carrier := 0, ctype := 0, lane := 0, row := 0 }
def trade0 : TradedJob := { desc := bytes0 64, imgcrc := 0, ninstr := 0, views := [], bales := [], sessions := [] }
def frame0 : EthFrame := { dst := 0, length := 64, etherType := 0x0800 }
def cmReq0 : CmReq := { srcQp := 0, srcAddr := 0, service := 0, priv := [] }
def packet0 : RcPacket := { psn := 0 }
def oeFrame0 : OeFrame := { addr := 0, len := 0, tag := 0, opc := 0 }

/-! ## Well-formedness: an ill-formed term for each check is refused, the same terms within their fields are not -/

theorem test_wf_refused_1 : ([.startTreads 9, .stopTreads 9, .tickGroupCommit 9, .beaconReceived 0 { beacon0 with role := 4 } 0 0,
    .beaconReceived 0 beacon0 (2 ^ 31) 0, .beaconReceived 0 beacon0 (-2 ^ 31 - 1) 0,
    .beaconReceived 0 beacon0 0 (2 ^ 63), .beaconReceived 0 beacon0 0 (-2 ^ 63 - 1),
    .delayProbeReceived 0 { probe0 with source := 2 ^ 16 }, .probeReplyReceived 0 { probe0 with source := 2 ^ 16 },
    .tickDisputeReceived { dispute0 with diff := 2 ^ 15 }, .macFaultInjection 9 0, .planDoorbell 0 (2 ^ 25),
    .tradeRequestReceived 0 0 (2 ^ 32) 0 0 0, .tradeRequestReceived 0 0 0 (2 ^ 16) 0 0,
    .tradeRequestReceived 0 0 0 0 (2 ^ 16) 0, .tradeRequestReceived 0 0 0 0 0 (2 ^ 16),
    .tradeGrantReceived 0 0 [{ trade0 with desc := [] }], .tradeCompletionReport 0 (2 ^ 32) 0,
    .tradeCompletionReport 0 0 (2 ^ 2)] : List Instr).all (fun i => i.wf == false) = true := by
  set_option maxRecDepth 100000 in decide

theorem test_wf_refused_2 : ([.commitWrite 0 1024 0, .commitWriteComplete 0 1024, .commitWriteTimeout 0 1024, .refreshRatePoll 0 (2 ^ 3),
    .redirectGroupCommit 9, .regionMapWrite 9 [], .senseWindow [(0xE0, 0)], .inputReading (2 ^ 17) 0 0 0,
    .inputReading 0 (2 ^ 32) 0 0, .inputReading 0 0 (2 ^ 32) 0, .inputReading 0 0 0 (2 ^ 32), .powerCapWrite 9 0,
    .powerCapWrite 0 (2 ^ 64), .diodeRead (List.replicate 7 0), .diodeRead (2 ^ 16 :: List.replicate 7 0),
    .thermalReenable 9, .ringSweepComplete ⟨false, 0, 0⟩ [2 ^ 13], .ringAcquireComplete ⟨false, 0, 0⟩ (some (2 ^ 13)),
    .ringNarrowComplete ⟨false, 0, 0⟩ [2 ^ 13], .ringTrack ⟨false, 0, 0⟩ (some (2 ^ 13))] : List Instr).all (fun i => i.wf == false) = true := by
  set_option maxRecDepth 100000 in decide

theorem test_wf_refused_3 : ([.mpdSample 0 0 (2 ^ 32) false, .dupReceived 0 { notice0 with seq := 2 ^ 24 },
    .steeringCompareComplete 0 (2 ^ 16) 0, .steeringCompareComplete 0 0 (2 ^ 24), .steeringCompareTimeout 0 (2 ^ 16),
    .switchedReceived 0 { notice0 with seq := 2 ^ 24 }, .refuseReceived 0 { notice0 with seq := 2 ^ 24 },
    .askReceived 0 { notice0 with seq := 2 ^ 24 }, .dropReceived 0 { notice0 with seq := 2 ^ 24 },
    .restoreReceived 0 { notice0 with seq := 2 ^ 24 }, .manualMove 9,
    .idleGroupReceived 0 [{ block0 with carrier := 32 }], .trainGroupReceived 0 [{ block0 with carrier := 32 }],
    .modeGroupReceived 0 [{ block0 with carrier := 32 }], .adaptComplete 0 0 (2 ^ 7), .adaptComplete 0 0 (-2 ^ 7 - 1),
    .marginMeasurement 0 0 (2 ^ 8), .prbsStart 9, .prbsStop 9, .injectionWord 9 0] : List Instr).all (fun i => i.wf == false) = true := by
  set_option maxRecDepth 100000 in decide

theorem test_wf_refused_4 : ([.flitReceived 0 (bytes0 257) (List.replicate 16 0), .flitReceived 0 (bytes0 256) (List.replicate 15 0),
    .ackonlyReceived 0 (bytes0 257) (List.replicate 16 0), .ackonlyReceived 0 (bytes0 256) (List.replicate 15 0),
    .nakReceived 0 (bytes0 257) (List.replicate 16 0), .nakReceived 0 (bytes0 256) (List.replicate 15 0),
    .cmarkReceived 0 (bytes0 257) (List.replicate 16 0), .cmarkReceived 0 (bytes0 256) (List.replicate 15 0),
    .initReceived 0 (bytes0 257) (List.replicate 16 0), .initReceived 0 (bytes0 256) (List.replicate 15 0),
    .resumeReceived 0 (bytes0 257) (List.replicate 16 0), .resumeReceived 0 (bytes0 256) (List.replicate 15 0),
    .linkRestore 9 0, .spillRegionWrite 9 0 false 0, .spillRegionWrite 0 0 false (2 ^ 64),
    .reservedMinimumWrite 9 0 0, .reservedMinimumWrite 0 0 (2 ^ 64), .forwardingEnvelope 0 (2 ^ 3) (bytes0 240),
    .forwardingEnvelope 0 0 (bytes0 241), .stagedScheduleWrite 9 []] : List Instr).all (fun i => i.wf == false) = true := by
  set_option maxRecDepth 100000 in decide

theorem test_wf_refused_5 : ([.membershipListWrite 9 [], .buildFlight 9, .flightBuildComplete [(0, 2 ^ 31)],
    .membershipUpdateReceived (bytes0 225), .portModeWrite 9 0 0, .portModeWrite 0 0 (2 ^ 64),
    .ethernetFrameReceived 0 { frame0 with pcp := 8 }, .arpRequest none (2 ^ 32) 0 0, .arpRequest none 0 (2 ^ 48) 0,
    .arpRequest none 0 0 (2 ^ 32), .neighbourSolicitation 0 (2 ^ 128) 0 0, .neighbourSolicitation 0 0 (2 ^ 48) 0,
    .neighbourSolicitation 0 0 0 (2 ^ 128), .icmpEchoRequest none false (2 ^ 128) 0 [],
    .icmpEchoRequest none false 0 (2 ^ 128) [], .neighbourEntryExpiry 0 (2 ^ 128),
    .cmReq 0 { cmReq0 with retry := 8 }, .roceSendReceived 0 { packet0 with psn := 2 ^ 24 },
    .rdmaWriteReceived 0 { packet0 with psn := 2 ^ 24 }, .rdmaReadRequest 0 { packet0 with psn := 2 ^ 24 } false] : List Instr).all (fun i => i.wf == false) = true := by
  set_option maxRecDepth 100000 in decide

theorem test_wf_refused_6 : ([.unsupportedOpcodeReceived 0 (2 ^ 8) 0 false, .unsupportedOpcodeReceived 0 0 (2 ^ 24) false,
    .rcAckReceived 0 (2 ^ 8) 0 false, .rcAckReceived 0 0 (2 ^ 24) false, .windowDescriptorWrite 9 (bytes0 32),
    .windowDescriptorWrite 0 (bytes0 33), .pfcFrameReceived 0 0 (List.replicate 7 0),
    .pfcFrameReceived 0 0 (2 ^ 16 :: List.replicate 7 0), .pfcMaskWrite 9 false 0, .pfcMaskWrite 0 false (2 ^ 64),
    .loadModel 9, .unloadModel 9, .ringPoolWrite 9 false 0, .ringPoolWrite 0 false (2 ^ 64),
    .mopDatagram none false (2 ^ 128) 0 [], .mopDatagram none false 0 (2 ^ 16) [], .mopRead 9 0 0 0 0 0 false,
    .mopRead 0 (2 ^ 16) 0 0 0 0 false, .mopRead 0 0 (2 ^ 8) 0 0 0 false, .mopRead 0 0 0 (2 ^ 8) 0 0 false] : List Instr).all (fun i => i.wf == false) = true := by
  set_option maxRecDepth 100000 in decide

theorem test_wf_refused_7 : ([.mopRead 0 0 0 0 (2 ^ 32) 0 false, .mopRead 0 0 0 0 0 (2 ^ 16) false, .mopWrite 9 0 0 0 0 false [],
    .mopWrite 0 (2 ^ 16) 0 0 0 false [], .mopWrite 0 0 (2 ^ 8) 0 0 false [], .mopWrite 0 0 0 (2 ^ 8) 0 false [],
    .mopWrite 0 0 0 0 (2 ^ 32) false [], .describe 9 0 0 0 0, .describe 0 (2 ^ 16) 0 0 0, .describe 0 0 (2 ^ 8) 0 0,
    .describe 0 0 0 (2 ^ 8) 0, .describe 0 0 0 0 (2 ^ 16), .discard 9 0 0 0 0, .discard 0 (2 ^ 16) 0 0 0,
    .discard 0 0 (2 ^ 8) 0 0, .discard 0 0 0 (2 ^ 8) 0, .discard 0 0 0 0 (2 ^ 16), .memread 9 0 0,
    .memread 0 (2 ^ 64) 0, .memread 0 0 (2 ^ 32)] : List Instr).all (fun i => i.wf == false) = true := by
  set_option maxRecDepth 100000 in decide

theorem test_wf_refused_8 : ([.memwrite 9 0 [], .memwrite 0 (2 ^ 64) [], .assemblyTimeout (2 ^ 16) 0, .assemblyTimeout 0 (2 ^ 8),
    .readHoldTimeout 9 0 0, .readHoldTimeout 0 (2 ^ 16) 0, .readHoldTimeout 0 0 (2 ^ 8), .hubForwardTimeout 9 0 0 0,
    .hubForwardTimeout 0 (2 ^ 8) 0 0, .hubForwardTimeout 0 0 (2 ^ 16) 0, .hubForwardTimeout 0 0 0 (2 ^ 8),
    .hubBringup false false false [(0xE0, 0)] (List.replicate 8 0),
    .hubBringup false false false [] (List.replicate 7 0),
    .hubBringup false false false [] (2 ^ 16 :: List.replicate 7 0), .oeQualification 0 { stepping := 2 ^ 16 },
    .tileDieToDieTest [(0, { strap := 0, stepping := 2 ^ 16 })], .railTimeout (2 ^ 4) 0, .railTimeout 0 (2 ^ 8),
    .moduleReset 9, .oeRequalification 0 { stepping := 2 ^ 16 }] : List Instr).all (fun i => i.wf == false) = true := by
  set_option maxRecDepth 100000 in decide

theorem test_wf_refused_9 : ([.bypass 0x00, .bypass 0x21, .dtestComplete 0 (2 ^ 8) 0, .dtestComplete 0 0 (2 ^ 8),
    .sliceRetired (2 ^ 8) 0 false 0, .sliceRetired 0 (2 ^ 8) false 0, .penFence 9, .penRestore 9,
    .tileRestart 9 { strap := 0 }, .tileRestart 0 { strap := 0, launchDelay := 2 ^ 32 }, .powerOff 9, .allLasersOff 9,
    .tilePowerDown 9, .tallySample 0 (2 ^ 16) 0, .tallyConfigurationWrite 9 0 (bytes0 16),
    .tallyConfigurationWrite 0 0 (bytes0 17), .tallyClear 9 0, .tallyClearAll 9, .firmwareImageWrite 9 0 false [],
    .firmwareImageWrite 0 (2 ^ 32) false []] : List Instr).all (fun i => i.wf == false) = true := by
  set_option maxRecDepth 100000 in decide

theorem test_wf_refused_10 : ([.installImage 9, .raiseFloor 9, .keyInstall 9 0 (bytes0 33), .keyInstall 0 0 (bytes0 34), .keyClear 9 0,
    .attest 9, .lifecycleTransition 9, .oeControlFrame 0 { oeFrame0 with addr := 2 ^ 32 },
    .oeResponseTimeout 0 (2 ^ 8), .registerWrite 9 0 0 0, .registerWrite 0 (2 ^ 16) 0 0, .registerWrite 0 0 (2 ^ 8) 0,
    .registerWrite 0 0 0 (2 ^ 64), .uncorrectableEccError 0 (2 ^ 10) 0, .uncorrectableEccError 0 0 (2 ^ 64),
    .calibrationMeasurementComplete 0 (2 ^ 32)] : List Instr).all (fun i => i.wf == false) = true := by
  set_option maxRecDepth 100000 in decide

theorem test_wf_taken_1 : ([.startTreads 0, .stopTreads 0, .tickGroupCommit 0, .beaconReceived 0 beacon0 0 0, .delayProbeReceived 0 probe0,
    .probeReplyReceived 0 probe0, .tickDisputeReceived dispute0, .nop 0 {}, .endJob 0 {}, .br 0 {}, .brc 0 {},
    .loop 0 {}, .trap 0 {}, .trd 0 {}, .fence 0 {}, .twait 0 {}, .sli 0 {}, .salu 0 {}, .sld 0 {}, .sst 0 {}] : List Instr).all (fun i => i.wf == true) = true := by
  set_option maxRecDepth 100000 in decide

theorem test_wf_taken_2 : ([.sfp 0 {}, .vset 0 {}, .vadv 0 {}, .vld 0 {}, .bld 0 {}, .bst 0 {}, .emit 0 {}, .take 0 {}, .tokw 0 {}, .mma 0 {},
    .aclr 0 {}, .vop 0 {}, .vfma 0 {}, .vun 0 {}, .vsel 0 {}, .cvt 0 {}, .red 0 {}, .csum 0 {}, .find 0 {}, .osm 0 {}] : List Instr).all (fun i => i.wf == true) = true := by
  set_option maxRecDepth 100000 in decide

theorem test_wf_taken_3 : ([.topk 0 {}, .gath 0 {}, .scat 0 {}, .rng 0 {}, .rchk 0 {}, .macFaultInjection 0 0, .planDoorbell 0 0,
    .tradeRequestReceived 0 0 0 0 0 0, .tradeGrantReceived 0 0 [], .tradeCompletionReport 0 0 0, .commitWrite 0 0 0,
    .commitWriteComplete 0 0, .commitWriteTimeout 0 0, .refreshRatePoll 0 0, .redirectGroupCommit 0,
    .regionMapWrite 0 [], .senseWindow [], .inputReading 0 0 0 0, .powerCapWrite 0 0, .diodeRead (List.replicate 8 0)] : List Instr).all (fun i => i.wf == true) = true := by
  set_option maxRecDepth 100000 in decide

theorem test_wf_taken_4 : ([.thermalReenable 0, .ringSweepComplete ⟨false, 0, 0⟩ [], .ringAcquireComplete ⟨false, 0, 0⟩ none,
    .ringNarrowComplete ⟨false, 0, 0⟩ [], .ringTrack ⟨false, 0, 0⟩ none, .mpdSample 0 0 0 false,
    .dupReceived 0 notice0, .steeringCompareComplete 0 0 0, .steeringCompareTimeout 0 0, .switchedReceived 0 notice0,
    .refuseReceived 0 notice0, .askReceived 0 notice0, .dropReceived 0 notice0, .restoreReceived 0 notice0,
    .manualMove 0, .idleGroupReceived 0 [], .trainGroupReceived 0 [], .modeGroupReceived 0 [], .adaptComplete 0 0 0,
    .marginMeasurement 0 0 0] : List Instr).all (fun i => i.wf == true) = true := by
  set_option maxRecDepth 100000 in decide

theorem test_wf_taken_5 : ([.prbsStart 0, .prbsStop 0, .injectionWord 0 0, .flitReceived 0 (bytes0 256) (List.replicate 16 0),
    .ackonlyReceived 0 (bytes0 256) (List.replicate 16 0), .nakReceived 0 (bytes0 256) (List.replicate 16 0),
    .cmarkReceived 0 (bytes0 256) (List.replicate 16 0), .initReceived 0 (bytes0 256) (List.replicate 16 0),
    .resumeReceived 0 (bytes0 256) (List.replicate 16 0), .linkRestore 0 0, .spillRegionWrite 0 0 false 0,
    .reservedMinimumWrite 0 0 0, .forwardingEnvelope 0 0 (bytes0 240), .stagedScheduleWrite 0 [],
    .membershipListWrite 0 [], .buildFlight 0, .flightBuildComplete [], .membershipUpdateReceived (bytes0 224),
    .portModeWrite 0 0 0, .ethernetFrameReceived 0 frame0] : List Instr).all (fun i => i.wf == true) = true := by
  set_option maxRecDepth 100000 in decide

theorem test_wf_taken_6 : ([.arpRequest none 0 0 0, .neighbourSolicitation 0 0 0 0, .icmpEchoRequest none false 0 0 [],
    .neighbourEntryExpiry 0 0, .cmReq 0 cmReq0, .roceSendReceived 0 packet0, .rdmaWriteReceived 0 packet0,
    .rdmaReadRequest 0 packet0 false, .unsupportedOpcodeReceived 0 0 0 false, .rcAckReceived 0 0 0 false,
    .windowDescriptorWrite 0 (bytes0 32), .pfcFrameReceived 0 0 (List.replicate 8 0), .pfcMaskWrite 0 false 0,
    .loadModel 0, .unloadModel 0, .ringPoolWrite 0 false 0, .mopDatagram none false 0 0 [],
    .mopRead 0 0 0 0 0 0 false, .mopWrite 0 0 0 0 0 false [], .describe 0 0 0 0 0] : List Instr).all (fun i => i.wf == true) = true := by
  set_option maxRecDepth 100000 in decide

theorem test_wf_taken_7 : ([.discard 0 0 0 0 0, .memread 0 0 0, .memwrite 0 0 [], .assemblyTimeout 0 0, .readHoldTimeout 0 0 0,
    .hubForwardTimeout 0 0 0 0, .hubBringup false false false [] (List.replicate 8 0), .oeQualification 0 {},
    .tileDieToDieTest [], .railTimeout 0 0, .moduleReset 0, .oeRequalification 0 {}, .bypass 0xFF,
    .dtestComplete 0 0 0, .sliceRetired 0 0 false 0, .penFence 0, .penRestore 0, .tileRestart 0 { strap := 0 },
    .powerOff 0, .allLasersOff 0] : List Instr).all (fun i => i.wf == true) = true := by
  set_option maxRecDepth 100000 in decide

theorem test_wf_taken_8 : ([.tilePowerDown 0, .tallySample 0 0 0, .tallyConfigurationWrite 0 0 (bytes0 16), .tallyClear 0 0, .tallyClearAll 0,
    .firmwareImageWrite 0 0 false [], .installImage 0, .raiseFloor 0, .keyInstall 0 0 (bytes0 33), .keyClear 0 0,
    .attest 0, .lifecycleTransition 0, .oeControlFrame 0 oeFrame0, .oeResponseTimeout 0 0, .registerWrite 0 0 0 0,
    .uncorrectableEccError 0 0 0, .calibrationMeasurementComplete 0 0] : List Instr).all (fun i => i.wf == true) = true := by
  set_option maxRecDepth 100000 in decide

theorem test_wf_beacon_fields : ([{ beacon0 with membd := 2 ^ 32 }, { beacon0 with schd := 2 ^ 32 }, { beacon0 with chgIn := 2 ^ 8 },
    { beacon0 with nextLand := 2 ^ 8 }, { beacon0 with land := 2 ^ 8 }, { beacon0 with nextPeriod := 2 ^ 32 },
    { beacon0 with period := 2 ^ 32 }, { beacon0 with epoch := 2 ^ 64 }, { beacon0 with source := 2 ^ 16 },
    { beacon0 with role := 2 ^ 2 }, { beacon0 with type := 2 ^ 8 }] : List Beacon).all (fun x => !x.wf) = true ∧ beacon0.wf = true := by
  set_option maxRecDepth 100000 in decide

theorem test_wf_probe_fields : ([{ probe0 with tlaunch := 2 ^ 64 }, { probe0 with tcapt := 2 ^ 64 }, { probe0 with pid := 2 ^ 32 },
    { probe0 with inf := 2 ^ 8 }, { probe0 with outf := 2 ^ 8 }, { probe0 with source := 2 ^ 16 },
    { probe0 with type := 2 ^ 8 }] : List Probe).all (fun x => !x.wf) = true ∧ probe0.wf = true := by
  set_option maxRecDepth 100000 in decide

theorem test_wf_dispute_fields : ([{ dispute0 with src := 2 ^ 16 }, { dispute0 with epoch := 2 ^ 64 }, { dispute0 with kind := 2 ^ 8 },
    { dispute0 with diff := -2 ^ 15 - 1 }] : List Dispute).all (fun x => !x.wf) = true ∧ dispute0.wf = true := by
  set_option maxRecDepth 100000 in decide

theorem test_wf_notice_fields : ([{ notice0 with token := 2 ^ 16 }, { notice0 with seq := 2 ^ 24 }, { notice0 with reason := 2 ^ 8 },
    { notice0 with toLine := 2 ^ 8 }, { notice0 with fromLine := 2 ^ 8 }, { notice0 with lane := 2 ^ 8 },
    { notice0 with fiber := 2 ^ 8 }, { notice0 with type := 2 ^ 8 }] : List Notice).all (fun x => !x.wf) = true ∧ notice0.wf = true := by
  set_option maxRecDepth 100000 in decide

theorem test_wf_block_fields : ([{ block0 with carrier := 2 ^ 5 }, { block0 with ctype := 2 ^ 8 }, { block0 with lane := 2 ^ 4 },
    { block0 with row := 2 ^ 16 }, { block0 with info := 2 ^ 8 }, { block0 with dlane := 2 ^ 4 },
    { block0 with map := [2 ^ 5] }] : List CtrlBlock).all (fun x => !x.wf) = true ∧ block0.wf = true := by
  set_option maxRecDepth 100000 in decide

theorem test_wf_trade_fields : ([{ trade0 with imgcrc := 2 ^ 32 }, { trade0 with ninstr := 2 ^ 32 }] : List TradedJob).all (fun x => !x.wf) = true ∧ trade0.wf = true := by
  set_option maxRecDepth 100000 in decide

theorem test_wf_frame_fields : ([{ frame0 with dst := 2 ^ 48 }, { frame0 with dstIp := 2 ^ 128 }, { frame0 with pcp := 2 ^ 3 },
    { frame0 with etherType := 2 ^ 16 }, { frame0 with protocol := 2 ^ 8 }, { frame0 with udpPort := 2 ^ 16 },
    { frame0 with vlanTags := [2 ^ 12] }] : List EthFrame).all (fun x => !x.wf) = true ∧ frame0.wf = true := by
  set_option maxRecDepth 100000 in decide

theorem test_wf_cmReq_fields : ([{ cmReq0 with srcQp := 2 ^ 24 }, { cmReq0 with srcAddr := 2 ^ 128 }, { cmReq0 with service := 2 ^ 64 },
    { cmReq0 with respRes := 2 ^ 8 }, { cmReq0 with retry := 2 ^ 3 }, { cmReq0 with rnrRetry := 2 ^ 3 },
    { cmReq0 with startPsn := 2 ^ 24 }] : List CmReq).all (fun x => !x.wf) = true ∧ cmReq0.wf = true := by
  set_option maxRecDepth 100000 in decide

theorem test_wf_packet_fields : ([{ packet0 with psn := 2 ^ 24 }, { packet0 with rkey := 2 ^ 32 }, { packet0 with va := 2 ^ 64 },
    { packet0 with dmaLen := 2 ^ 32 }] : List RcPacket).all (fun x => !x.wf) = true ∧ packet0.wf = true := by
  set_option maxRecDepth 100000 in decide

theorem test_wf_oeFrame_fields : ([{ oeFrame0 with addr := 2 ^ 32 }, { oeFrame0 with len := 2 ^ 8 }, { oeFrame0 with tag := 2 ^ 8 },
    { oeFrame0 with rsv := 2 ^ 8 }, { oeFrame0 with opc := 2 ^ 8 }] : List OeFrame).all (fun x => !x.wf) = true ∧ oeFrame0.wf = true := by
  set_option maxRecDepth 100000 in decide

theorem test_wf_trade_length : TradedJob.wf { trade0 with desc := bytes0 63 } = false := by decide

theorem test_wf_oe_serial : OeChecks.wf { serial := bytes0 17 } = false := by decide

theorem test_wf_packet_length : RcPacket.wf { packet0 with payload := bytes0 4097 } = false := by
  simp [RcPacket.wf, packet0, bytes0_length]

theorem test_wf_regionMapWrite_length : Instr.wf (.regionMapWrite 0 (bytes0 2097153)) = false := by
  simp [Instr.wf, bytes0_length]

theorem test_wf_stagedScheduleWrite_length : Instr.wf (.stagedScheduleWrite 0 (bytes0 1056833)) = false := by
  simp [Instr.wf, bytes0_length]

theorem test_wf_membershipListWrite_length : Instr.wf (.membershipListWrite 0 (bytes0 4097)) = false := by
  simp [Instr.wf, bytes0_length]

theorem test_wf_icmpEchoRequest_length : Instr.wf (.icmpEchoRequest none false 0 0 (bytes0 9217)) = false := by
  simp [Instr.wf, bytes0_length]

theorem test_wf_mopDatagram_length : Instr.wf (.mopDatagram none false 0 0 (bytes0 1453)) = false := by
  simp [Instr.wf, bytes0_length]

theorem test_wf_mopWrite_length : Instr.wf (.mopWrite 0 0 0 0 0 false (bytes0 1025)) = false := by
  simp [Instr.wf, bytes0_length]

theorem test_wf_memwrite_length : Instr.wf (.memwrite 0 0 (bytes0 1017)) = false := by
  simp [Instr.wf, bytes0_length]

theorem test_wf_firmwareImageWrite_length : Instr.wf (.firmwareImageWrite 0 0 false (bytes0 1025)) = false := by
  simp [Instr.wf, bytes0_length]


/-! ## A state for the premises of every statement that has some

`up` is a module in service with no key installed (so that slot 0 has the owner's authority), `ran` one whose treads run, `pens0`
one whose pen 0 runs a job. -/

def up : State :=
  ({ State.reset with boot := { booted := true, hubUp := true, hubAnswering := true, modrdy := true } }).setNum 0x1007 0 9
def ran : State := { up with tick := { running := true, begun := true } }
def pens0 (r : Run) (q : Pen) : State :=
  (up.setPen 0 { q with run := some r }).modTile 0 fun x => { x with tileOn := true, flockOn := true }
def run0 : Run := { job := {}, epoch := 0, ninstr := 4 }
def word0 : PenWord := {}

theorem accepts_of (s : State) (slot op index sub a : Nat) (h : s.authority slot = some a) (k : s.mopCheck a op index sub = none) :
    Accepts s slot op index sub := ⟨a, h, k⟩

/-- The forms that carry one word of pen 0 past R65 and R66. -/
theorem issues_of (q : Pen) (f : Form) (w : PenWord) (h : wordEncoded f w = true) (k : wordKinds f w = true)
    (x : Runs (pens0 run0 q) 0 run0) : Issues (pens0 run0 q) 0 run0 f w := ⟨x, h, k, rfl⟩
set_option maxRecDepth 100000 in
theorem wit_EveryStepKeepsTheMemoryForm : Inv State.reset ∧ ∃ t, step State.reset = .next t :=
  ⟨(by decide : Memory.wf _ = true), _, rfl⟩

theorem wit_OneWayStateNeverGoesBack : ∃ t, step up = .next t
    ∧ (0 ≤ up.nv.svnFuses.val ∧ 0 ≤ up.nv.lifecycle ∧ 0 ≤ up.nv.bootEpoch ∧ 0 ≤ up.nv.leaves) := ⟨_, rfl, by decide⟩

set_option maxRecDepth 100000 in
theorem wit_EveryCommandCompletes :
    (16 ≤ ((up.modTile 3 fun x => { x with goodRun := 16 }).tile 3).goodRun)
    ∧ (∃ s : State, s.tick.running = true ∧ s.tick.inLanding = false ∧ (s.tile 0).flockOn = true
        ∧ (s.tile 0).slotNo + 1 < slotCount s.workNs)
    ∧ (∃ s : State, (s.ring 0).state = 1 ∧ 800 < 800 + (s.ring 0).fsr)
    ∧ (∃ s : State, (s.fiber 5).training = true ∧ (s.fiber 5).attempts < 2)
    ∧ (∃ s : State, (s.qp 7).state = 1) ∧ (∃ s : State, s.tick.running = true ∧ s.isHome = true)
    ∧ (∃ s : State, s.inStage 6 = true) :=
  ⟨by decide,
   ⟨{ ran with tick := { running := true, begun := true } }.modTile 0 fun x => { x with flockOn := true }, by decide⟩,
   ⟨up.modRing 0 fun x => { x with state := 1 }, by decide⟩,
   ⟨up.modFiber 5 fun x => { x with training := true }, by decide⟩,
   ⟨up.modQp 7 fun x => { x with state := 1 }, by decide⟩, ⟨ran, by decide⟩, ⟨up.setNum 0x1007 0 6, by decide⟩⟩

theorem wit_MemoryIsCanonical : Inv (up.write 0 [1]) ∧ (∀ a, (up.write 0 [1]).byte a = (up.write 0 [1]).byte a) :=
  ⟨(by decide : Memory.wf _ = true), fun _ => rfl⟩

set_option maxRecDepth 100000 in
theorem wit_CommandsPassTheirChecks : up.authority 1 = none ∧ up.authority 0 = some 3 ∧ up.drover.latch = false ∧ up.ready = true
    ∧ up.tap.testMode = false ∧ up.boot.hubAnswering = true
    ∧ (∃ s : State, s.authority 1 = some 1 ∧ s.ready = true ∧ s.drover.latch = false)
    ∧ State.reset.ready = false ∧ (∃ s : State, s.authority 0 = some 3 ∧ s.drover.latch = true) :=
  ⟨by decide, by decide, by decide, by decide, by decide, by decide,
   ⟨up.setKeySlot 1 { authority := 1 }, by decide⟩, by decide, ⟨{ up with drover := { latch := true } }, by decide⟩⟩

set_option maxRecDepth 100000 in
theorem wit_IdleAndIllegalInstructions : (up.pen 0).run = none ∧ Runs (pens0 run0 {}) 0 run0
    ∧ (∃ w : PenWord, wordEncoded {} w = false)
    ∧ ∃ (f : Form) (w : PenWord), (Instr.aclr 0 w, f) ∈ penCommands 0 w ∧ wordEncoded f w = true ∧ wordKinds f w = false :=
  ⟨by decide, ⟨rfl, rfl, by decide, by decide⟩, ⟨{ rsv63 := 1 }, by decide⟩,
   ⟨{ d := 2 }, { dk := 0 }, by simp [penCommands], by decide, by decide⟩⟩

set_option maxRecDepth 100000 in
theorem wit_ControlInstructionsComplete : Issues (pens0 run0 {}) 0 run0 {} word0
    ∧ Issues (pens0 run0 {}) 0 run0 { a := 4, b := 4, cnds := 8 } { ak := 2, bk := 2 }
    ∧ scalarCond 0 0 0 = true ∧ scalarCond 1 0 0 = false
    ∧ Issues (pens0 run0 {}) 0 run0 { a := 12 } { ak := 3, imm := 1 } ∧ ((pens0 run0 {}).pen 0).xBusy = false :=
  ⟨⟨⟨rfl, rfl, by decide, by decide⟩, by decide, by decide, rfl⟩, ⟨⟨rfl, rfl, by decide, by decide⟩, by decide, by decide, rfl⟩,
   by decide, by decide, ⟨⟨rfl, rfl, by decide, by decide⟩, by decide, by decide, rfl⟩, by decide⟩

set_option maxRecDepth 100000 in
theorem wit_ScalarInstructionsComplete : Runs (pens0 run0 {}) 0 run0
    ∧ Issues (pens0 run0 {}) 0 run0 { d := 4, a := 4, modOk := fun m => m ≤ 1 } { dk := 2, ak := 2, mod := 1, imm := 0x7FFFC }
    ∧ ((0 : BitVec 64) + 0x7FFFC).toNat % 4 = 0 ∧ ((0 : BitVec 64) + 0x7FFFC).toNat + 4 ≤ 524288
    ∧ ¬ (((0 : BitVec 64) + 0x7FFFD).toNat % 4 = 0) :=
  ⟨⟨rfl, rfl, by decide, by decide⟩, issues_of {} _ _ (by decide) (by decide) ⟨rfl, rfl, by decide, by decide⟩,
   by decide, by decide, by decide⟩

set_option maxRecDepth 100000 in
theorem wit_ViewInstructionsComplete :
    Issues (pens0 run0 {}) 0 run0 { d := 1, a := 4, modOk := fun m => m ≤ 11 } { ak := 2, mod := 3 }
    ∧ (∃ a : BitVec 64, 1 ≤ a.toNat ∧ a.toNat ≤ 65536) ∧ (∃ a : BitVec 64, a.toInt < -(2 ^ 31)) ∧ (∃ a : BitVec 64, 2 ^ 4 ≤ a.toNat)
    ∧ Issues (pens0 run0 {}) 0 run0 { d := 1, a := 4 } { ak := 2, imm := 32 } ∧ ((0 : BitVec 64) + 32).toNat % 32 = 0 :=
  ⟨issues_of {} _ _ (by decide) (by decide) ⟨rfl, rfl, by decide, by decide⟩, ⟨65536, by decide⟩, ⟨-(2 ^ 40), by decide⟩,
   ⟨16, by decide⟩, issues_of {} _ _ (by decide) (by decide) ⟨rfl, rfl, by decide, by decide⟩, by decide⟩

/-- A run whose job takes one bale of module memory and stores one to scratch. -/
def runB : Run := { job := { nin := 1, nout := 1, ncmt := 2, gal := true, sessions := [5], bales := [0, 8] }, epoch := 0, ninstr := 4 }

set_option maxRecDepth 100000 in
theorem wit_BaleLoadsComplete :
    Issues (pens0 runB {}) 0 runB { a := 4, b := 4, modOk := fun m => m ≤ 1 } { ak := 2, bk := 2 }
    ∧ ((pens0 runB {}).pen 0).xBusy = false ∧ (pens0 runB {}).xWaits 0 = false
    ∧ tabGet (fun _ => none) ((pens0 runB {}).pen 0).reads 0 = (none : Option BaleRead)
    ∧ slotOf ((pens0 runB {}).pen 0).past { ak := 2, bk := 2 } < runB.job.nin ∧ (pens0 runB {}).tileReads 0 < 128
    ∧ (∃ b : BaleRead, tabGet (fun _ => none) ((pens0 runB { reads := [(3, some b)] }).pen 0).reads 3 = some b) :=
  ⟨⟨⟨rfl, rfl, by decide, by decide⟩, by decide, by decide, rfl⟩, by decide, by decide, by decide, by decide, by decide,
   ⟨{ cls := 0, payload := 0, header := 4096, copyTo := none }, by decide⟩⟩

set_option maxRecDepth 100000 in
theorem wit_BaleStoresComplete : ((pens0 runB {}).pen 0).xBusy = false
    ∧ Issues (pens0 runB {}) 0 runB { a := 4, b := 4, c := 4 } { ak := 2, bk := 2, ck := 2, a := 1 }
    ∧ 5 ∈ runB.job.sessions ∧ runB.commitsMade < runB.job.ncmt
    ∧ ((((pens0 runB { regs := [(1, 5)] }).pen 0).past.reg 1).toNat % 2 ^ 16 = 5)
    ∧ Issues (pens0 { runB with stored := [0] } {}) 0 { runB with stored := [0] } {} {} ∧ (0 : Nat) ∈ [0] :=
  ⟨by decide, ⟨⟨rfl, rfl, by decide, by decide⟩, by decide, by decide, rfl⟩, by decide, by decide, by decide,
   ⟨⟨rfl, rfl, by decide, by decide⟩, by decide, by decide, rfl⟩, by decide⟩

set_option maxRecDepth 100000 in
theorem wit_MatrixInstructionsComplete : Issues (pens0 run0 {}) 0 run0 { d := 2 } { dk := 1, d := 3 }
    ∧ (∃ w : PenWord, Issues (pens0 run0 {}) 0 run0 { d := 2, a := 1, b := 1, modOk := fun m => m ≤ 1 } w
        ∧ ∃ code, code ≠ 0x10 ∧ code ≠ 0x11 ∧ mmaOp [] 0 none w ((pens0 run0 {}).pen 0).past = .error (.exc code 0)) :=
  ⟨issues_of {} _ _ (by decide) (by decide) ⟨rfl, rfl, by decide, by decide⟩,
   ⟨{ dk := 1 }, issues_of {} _ _ (by decide) (by decide) ⟨rfl, rfl, by decide, by decide⟩, _, (by decide : (0x03 : Nat) ≠ 0x10),
    by decide, rfl⟩⟩

/-- A pen with a 4-element FP32 view V0 of scratch, and an INT32 one V1. -/
def penV : Pen := { views := [(0, 0x3000000000000), (1, 0x3000010000C00)] }

set_option maxRecDepth 100000 in
theorem wit_ElementwiseInstructionsComplete :
    (∃ d a b q', opndD 0 (penV.past) { dk := 0 } = .ok d ∧ opndA 0 penV.past { dk := 0 } = .ok a ∧ opndB 0 penV.past { dk := 0 } = .ok b
      ∧ (a.matches d.shape && b.matches d.shape) = true ∧ touch [] penV.past [a, b] = .ok q' ∧ intMode d [a, b] = none)
    ∧ Issues (pens0 run0 penV) 0 run0 { d := 3, a := 15, b := 15, modOk := fun m => m ≤ 4 } {} :=
  ⟨⟨_, _, _, _, rfl, rfl, rfl, by decide, rfl, by decide⟩,
   issues_of penV _ _ (by decide) (by decide) ⟨rfl, rfl, by decide, by decide⟩⟩

set_option maxRecDepth 100000 in
theorem wit_ReductionsAndChecksComplete :
    (∃ d a q', opndD 0 penV.past {} = .ok d ∧ opndA 0 penV.past {} = .ok a ∧ d.shape = a.shape ∧ touch [] penV.past [a] = .ok q'
      ∧ intMode d [a] = none ∧ d.fmt = some 0)
    ∧ Issues (pens0 run0 penV) 0 run0 { d := 1, a := 3 } {}
    ∧ (0 : Nat) < 64 ∧ (1024 : Nat) ≤ 1024
    ∧ Issues (pens0 run0 penV) 0 run0 { d := 4, a := 1, b := 15, cnds := 6 } { dk := 2, cnd := 5 } :=
  ⟨⟨_, _, _, rfl, rfl, by decide, rfl, by decide, by decide⟩,
   issues_of penV _ _ (by decide) (by decide) ⟨rfl, rfl, by decide, by decide⟩, by decide, by decide,
   issues_of penV _ _ (by decide) (by decide) ⟨rfl, rfl, by decide, by decide⟩⟩

set_option maxRecDepth 100000 in
theorem wit_IndexInstructionsComplete :
    (∃ d a b q', opndD 0 penV.past { b := 1 } = .ok d ∧ opndA 0 penV.past { b := 1 } = .ok a ∧ opndB 0 penV.past { b := 1 } = .ok b
      ∧ b.fmt = some 12 ∧ b.shape = d.shape ∧ b.shape = a.shape ∧ touch [] penV.past [a, b] = .ok q')
    ∧ Issues (pens0 run0 penV) 0 run0 { d := 1, a := 1, b := 1 } { b := 1 }
    ∧ (viewOf (penV.past.view 1)).space = 0 ∧ ∃ x, opndC 0 penV.past { c := 1 } = .ok (.view x) ∧ x.v.fmt = 12 :=
  ⟨⟨_, _, _, _, rfl, rfl, rfl, by decide, by decide, by decide, rfl⟩,
   issues_of penV _ _ (by decide) (by decide) ⟨rfl, rfl, by decide, by decide⟩, by decide, _, rfl, by decide⟩

set_option maxRecDepth 100000 in
theorem wit_PenInstructionsTouchOnlyTheirPen :
    ∃ f, (Instr.sli 0 {}, f) ∈ penCommands 0 {} ∧ Instr.sli 0 {} ≠ .bst 0 {} ∧ ∃ t, exec (.sli 0 {}) (pens0 run0 {}) = .next t :=
  ⟨{ d := 4 }, by simp [penCommands], by decide, _, rfl⟩

set_option maxRecDepth 100000 in
theorem wit_CycleBoundAndMacFault : ((pens0 run0 {}).pen 0).run = some run0 ∧ run0.ended = none ∧ (up.pen 0).run = none
    ∧ Accepts up 0 opWrite 0xF030 0 ∧ field 31 0 6 ≤ 31 ∧ up.fenced 0 = false :=
  ⟨rfl, rfl, by decide, accepts_of up 0 _ _ _ 3 (by decide) (by decide), by decide, by decide⟩

/-- Treads in their landing, and outside it. -/
def inLand : State := { ran with tick := { running := true, begun := true, inLanding := true } }

set_option maxRecDepth 100000 in
theorem wit_TreadsBeginAndEnd : inLand.tick.running = true ∧ inLand.tick.inLanding = true ∧ inLand.tick.stopReq = false
    ∧ ran.tick.begun = true ∧ ran.tick.inLanding = false
    ∧ (∃ s : State, s.tick.running = true ∧ s.tick.inLanding = true ∧ s.tick.stopReq = true)
    ∧ Accepts up 0 opCommand 0x2020 0 ∧ up.tick.running = false ∧ up.boot.cutOff = false
    ∧ Accepts ran 0 opCommand 0x2021 0
    ∧ (∃ s : State, s.tick.running = true ∧ s.tick.lost = false ∧ s.tick.role ≠ 0) :=
  ⟨by decide, by decide, by decide, by decide, by decide,
   ⟨{ up with tick := { running := true, inLanding := true, stopReq := true } }, by decide⟩,
   accepts_of up 0 _ _ _ 3 (by decide) (by decide), by decide, by decide, accepts_of ran 0 _ _ _ 3 (by decide) (by decide),
   ⟨{ up with tick := { running := true, role := 3 } }, by decide⟩⟩

set_option maxRecDepth 100000 in
theorem wit_TickGroupCommits : Accepts up 0 opCommand 0x2003 0 ∧ (up.group 0x2003).busy 0 = false ∧ up.tick.running = false
    ∧ ran.tick.running = true
    ∧ ¬ (2000 * up.stagedNum 0x2003 0x2002 0 > up.stagedNum 0x2003 0x2001 0)
    ∧ ¬ (up.stagedNum 0x2003 0x2001 0 < up.occupancy false) ∧ up.tick.change = none
    ∧ (∃ s : State, s.tick.change = some (250000, 4, 1) ∧ 1 ≤ 1) :=
  ⟨accepts_of up 0 _ _ _ 3 (by decide) (by decide), by decide, by decide, by decide, by decide, by decide, by decide,
   ⟨{ up with tick := { change := some (250000, 4, 1) } }, by decide⟩⟩

/-- A membership list: the primary 0100H, member 0101H whose beacons come on fibers 7 and 8, the standby 0102H. -/
def flightList : List Byte :=
  [0x00, 0x01, 0, 1, 0, 255, 255, 0, 1, 0, 0, 0, 0, 0, 0, 0,  0x01, 0x01, 0, 0, 0, 7, 8, 0, 2, 0, 0, 0, 0, 0, 0, 0,
   0x02, 0x01, 0, 2, 0, 255, 255, 0, 3, 0, 0, 0, 0, 0, 0, 0]
def flightOf (role : Nat) (t : TickSt) : State :=
  { up.setBlob 0x2040 0 flightList with tick := { t with running := true, role := role } }
def beacon1 : Beacon :=
  { membd := 0, schd := 0, chgIn := 0, nextLand := 4, land := 4, nextPeriod := 250000, period := 250000, epoch := 5, source := 0x100
    active := true, role := 1 }

set_option maxRecDepth 100000 in
theorem wit_BeaconsAreFollowed :
    (∃ s : State, (s.link 7).state = 3 ∧ s.tick.running = true ∧ s.tick.role ≠ 0 ∧ s.tick.active = false ∧ s.tick.everBeacon = true
      ∧ s.badBeacon beacon1 = false ∧ s.tick.beaconEpoch < beacon1.epoch ∧ beacon1.active = true)
    ∧ (flightOf 3 {}).badBeacon { beacon1 with source := 0x103 } = true
    ∧ ∃ s : State, s.badBeacon beacon1 = false ∧ s.tick.heard ≠ [] ∧ beacon1.epoch < s.tick.beaconEpoch :=
  ⟨⟨(flightOf 3 { everBeacon := true, faddr := 0x101 }).modLink 7 fun x => { x with state := 3 }, by decide⟩, by decide,
   ⟨flightOf 3 { heard := [⟨1, true, 0⟩], beaconEpoch := 6 }, by decide⟩⟩

set_option maxRecDepth 100000 in
theorem wit_ProbesAndDisputes :
    (∃ s : State, (s.link 7).state = 3 ∧ s.tick.probes.find? (fun e => e.1 == 9) = some (9, 7, 100, 0) ∧ s.epoch < 0 + 1024
      ∧ tabGet (fun _ => none) s.tick.hopDelay 7 = (none : Option Int))
    ∧ (∀ e ∈ up.tick.probes, e.1 ≠ 9 ∨ e.2.2.2 + 1024 ≤ up.epoch)
    ∧ (∃ s : State, s.beaconFiber false = some 7 ∧ (s.link 7).state = 3)
    ∧ ∃ s : State, s.tick.role = 2 ∧ s.tick.active = false ∧ s.members.any (fun m => m.addr == 0x101) = true :=
  ⟨⟨({ up with tick := { probes := [(9, 7, 100, 0)] } }).modLink 7 fun x => { x with state := 3 }, by decide⟩, by decide,
   ⟨(flightOf 3 { faddr := 0x101 }).modLink 7 fun x => { x with state := 3 }, by decide⟩, ⟨flightOf 2 {}, by decide⟩⟩

set_option maxRecDepth 100000 in
theorem wit_InterlockOfTheMasters :
    (∃ s : State, s.tick.active = true ∧ s.tick.running = true ∧ s.tick.inLanding = false)
    ∧ (∃ s : State, s.tick.claimOut = true ∧ s.tick.claiming = true ∧ s.tick.role = 2)
    ∧ (∃ s : State, s.tick.claiming = true ∧ s.tick.claimIn = true ∧ s.tick.reclaiming = true)
    ∧ ∃ s : State, s.tick.role = 1 ∧ s.tick.running = true ∧ s.tick.active = false ∧ s.num 0x200D 0 = 64 :=
  ⟨⟨flightOf 1 { active := true }, by decide⟩, ⟨flightOf 2 { claimOut := true, claiming := true }, by decide⟩,
   ⟨flightOf 1 { claiming := true, claimIn := true, reclaiming := true }, by decide⟩,
   ⟨(flightOf 1 {}).setNum 0x200D 0 64, by decide⟩⟩

/-- A job of 100 ticks at home on pen 0, and treads with it at the head of pen 0's deque. -/
def job0 : Job := { jobId := 7, cycb := 100, sessions := [5], mig := true }
def flock (f : Tile → Tile) : State := ran.modTile 0 fun x => f { x with tileOn := true, flockOn := true }

set_option maxRecDepth 100000 in
theorem wit_PlansAndDispatch :
    ((flock id).tile 0).flockOn = true ∧ (up.tile 3).goodRun < 16 ∧ (∃ s : State, 16 ≤ (s.tile 3).goodRun)
    ∧ up.canDispatch 0 0 = false
    ∧ (∃ s : State, s.canDispatch 0 0 = true ∧ ∃ n j, s.ownEntry 0 0 = some (n, j))
    ∧ ∃ s : State, s.canDispatch 0 2 = true ∧ (s.tile 0).deque 2 = [] ∧ (s.pen 2).suspect = false
        ∧ s.stealEntry 0 2 = some (1, 0, job0) ∧ s.affords 0 job0 = true ∧ s.canDispatch 0 1 = false :=
  ⟨by decide, by decide, ⟨up.modTile 3 fun x => { x with goodRun := 16 }, by decide⟩, by decide,
   ⟨flock fun x => { x with deques := [(0, [job0])] }, by decide, 0, job0, by decide⟩,
   ⟨(flock fun x => { x with deques := [(1, [job0])] }).setPen 1 { run := some run0 }, by decide⟩⟩

set_option maxRecDepth 100000 in
theorem wit_JobsComplete : ((pens0 run0 {}).pen 0).run = some run0 ∧ run0.ended = none
    ∧ (∀ e ∈ [RunEnd.done, .exc 0x05 3 0, .exc 0x0A 0 0, .exc 0x10 2 1, .exc 0x30 0 0],
        ((pens0 { run0 with ended := some e } {}).pen 0).run = some { run0 with ended := some e }) ∧ run0.job.kind = .plan
    ∧ run0.job.scr = false ∧ ((pens0 run0 {}).pen 0).sampled = false
    ∧ (∃ c, excClass c = .p) ∧ (∃ c, excClass c = .x) ∧ (∃ c, excClass c = .w) ∧ ∃ c, excClass c = .c :=
  ⟨rfl, rfl, by decide, rfl, rfl, by decide, ⟨0x05, by decide⟩, ⟨0x20, by decide⟩, ⟨0x0A, by decide⟩, ⟨0x10, by decide⟩⟩

set_option maxRecDepth 100000 in
theorem wit_PensAreFencedRestoredAndTested :
    Accepts ((flock id).setNum 0x705C 0 1023) 0 opCommand 0x705D 0 ∧ ((flock id).setNum 0x705C 0 1023).gov 0x705C 0 < 1024
    ∧ (flock id).fenced 0 = false ∧ ((flock id).tile 0).flockOn = true
    ∧ (∃ s : State, s.gov 0x705C 0 = 0 ∧ Accepts s 0 opCommand 0x705E 0 ∧ s.fenced 0 = true ∧ (s.tile 0).flockOn = true
        ∧ s.works 0 1 = true ∧ s.works 0 0 = false)
    ∧ ∃ s : State, (s.tile 0).excluded.getLsbD 3 = true ∧ s.testOf 3 = none ∧ (s.tile 0).duePen = some 3
        ∧ (s.pen 3).reference = some (0, 77) :=
  ⟨accepts_of _ 0 _ _ _ 3 (by decide) (by decide), by decide, by decide, by decide,
   ⟨(flock id).setNum 0x7050 1 1, by decide, accepts_of _ 0 _ _ _ 3 (by decide) (by decide), by decide, by decide,
    by decide, by decide⟩,
   ⟨(flock fun x => { x with excluded := 8, duePen := some 3 }).setPen 3 { reference := some (0, 77) }, by decide⟩⟩

set_option maxRecDepth 100000 in
theorem wit_TradesMoveJobs :
    (∃ s : State, s.gov 0x7041 0 ≠ 0 ∧ s.tick.running = true ∧ s.tick.inLanding = false ∧ s.serves 0 0 = true ∧ (s.pen 0).run = none ∧ s.ownEntry 0 0 = none ∧ s.stealEntry 0 0 = none
      ∧ 1000 * s.gov 0x7043 0 < s.toLanding ∧ (s.tile 0).tradedIn.length < 16 ∧ neighbour 0 0 = some 8 ∧ (s.tile 8).flockOn = true
      ∧ 8 ∉ (s.tile 0).requested)
    ∧ (∃ (s : State) (g : TradedJob), field (leNat (s.read (sramBase 0 + (tradedJob 1 s.epoch g).prog) 64)) 128 32 = g.imgcrc
        ∧ field (leNat (s.read (sramBase 0 + (tradedJob 1 s.epoch g).prog) 64)) 160 32 = g.ninstr
        ∧ (s.tile 0).tradedIn.length < 16
        ∧ fewest (s.serves 0) (fun n => ((s.tile 0).deque n).length) = some 0)
    ∧ (∃ s : State, (s.tile 0).tradedOut.find? (fun e => e.2.jobId == 7) = some (8, job0))
    ∧ (flock id).tick.running = true ∧ ((flock id).tile 0).slotNo + 1 < slotCount (flock id).workNs :=
  ⟨⟨(flock id).modTile 8 fun x => { x with flockOn := true }, by decide⟩,
   ⟨flock id, { desc := [], imgcrc := 0, ninstr := 0, views := [], bales := [], sessions := [] }, by decide⟩,
   ⟨flock fun x => { x with tradedOut := [(8, job0)] }, by decide⟩, by decide, by decide⟩

/-- A read of a bale at 0, with its header at 4096. -/
def read0 : BaleRead := { cls := 0, payload := 0, header := 0x1000, copyTo := none }
def reading (b : BaleRead) : State := pens0 run0 { reads := [(3, some b)] }

set_option maxRecDepth 100000 in
theorem wit_BaleReadsAreChecked : tabGet (fun _ => none) ((reading read0).pen 0).reads 3 = some read0 ∧ read0.fromLpddr = true
    ∧ read0.served = none ∧ (reading read0).writePending 0 4096 = false ∧ (reading read0).mute 0 = false
    ∧ (reading read0).mute 0x1000 = false
    ∧ (reading read0).readPart 0x1000 = .ok 0x1000 ∧ (reading read0).readPart 0 = .ok 0
    ∧ up.readPart 0 = .error (0x0005, 0)
    ∧ ((reading read0).pen 0).run = some run0 ∧ run0.ended = none ∧ read0.cls = 0 ∧ read0.reissued = false :=
  ⟨by decide, by decide, by decide, by decide, by decide, by decide, by rfl, by rfl, by rfl, rfl, rfl, rfl, rfl⟩

/-- A released write of a bale to LPDDR in slot 2. -/
def staged0 : StagedBale := { jobId := 7, out := 0, header := 0x1000, payload := 0x2000, released := true }
def staging (b : StagedBale) : State := flock fun x => { x with staging := [(2, some b)] }

set_option maxRecDepth 100000 in
theorem wit_CommitWritesArePlaced :
    tabGet (fun _ => none) ((staging staged0).tile 0).staging 2 = some staged0 ∧ staged0.released = true
    ∧ (staging staged0).writeTarget 0x2000 0x1000 = .ok (0x2000, 0x1000) ∧ staged0.written = false ∧ staged0.loser = false
    ∧ ∃ u, up.writeTarget 0x2000 0x1000 = .error u :=
  ⟨by decide, rfl, by rfl, rfl, rfl, _, by rfl⟩

set_option maxRecDepth 100000 in
theorem wit_ChannelsAndMapsFollowTheirRules : up.channelBad 0 5 = false ∧ (∃ s : State, s.channelBad 0 5 = true)
    ∧ (∃ s : State, Inv s ∧ s.refills.find? (fun r => r.src == 64 * 0 + 3 && r.copies && !r.done)
        = some { src := 3, tgt := 68, copies := true, held := true })
    ∧ Accepts up 0 opCommand 0xA032 0 ∧ (up.group 0xA032).busy 0 = false ∧ redirectRule up = 0
    ∧ Accepts up 0 opWrite 0xA030 0 ∧ regionsApart (regionsOf 0 []) = true ∧ ([] : List Byte).length % 32 = 0 :=
  ⟨by decide, ⟨up.setNum 0xA002 1 0x20, by decide⟩,
   ⟨{ up with refills := [{ src := 3, tgt := 68, copies := true, held := true }] }, (by decide : Memory.wf _ = true), by decide⟩,
   accepts_of _ 0 _ _ _ 3 (by decide) (by decide), by decide, by decide, accepts_of _ 0 _ _ _ 3 (by decide) (by decide), by decide, rfl⟩

set_option maxRecDepth 100000 in
theorem wit_PowerIsMeteredAndCapped : up.drover.tabFault = false ∧ Accepts up 0 opWrite 0x3001 0 ∧ (900 : Nat) ≤ 2200
    ∧ up.drover.nonTile = 0 ∧ 64 * up.num 0x3008 0 ≤ 1000 * 2200
    ∧ (∃ s : State, s.drover.rein = true ∧ s.drover.reinHeld = false) ∧ (∃ s : State, s.drover.windowCount = 99) :=
  ⟨by decide, accepts_of _ 0 _ _ _ 3 (by decide) (by decide), by decide, rfl, by decide, ⟨{ up with drover := { rein := true } }, by decide⟩,
   ⟨{ up with drover := { windowCount := 99 } }, by decide⟩⟩

set_option maxRecDepth 100000 in
theorem wit_HeatAndInputShutDown : up.boot.booted = true ∧ up.drover.latch = false ∧ up.drover.shutDue = none ∧ up.boot.hubUp = true
    ∧ (∃ s : State, ∃ r, s.drover.shutDue = some r ∧ r.cause = 1 ∧ r.node = 125) ∧ (∃ s : State, s.drover.diff5 = 2) ∧ (∃ s : State, s.drover.diff15 = 2)
    ∧ (∃ s : State, Accepts s 0 opCommand 0x0F20 0 ∧ s.num 0x0F00 0 ≠ 0 ∧ s.drover.latch = true ∧ ∃ v ∈ s.drover.diodes, (16 * s.gov 0x0F23 0 : Nat) ≤ v)
    ∧ (∃ s : State, Accepts s 0 opCommand 0x0F20 0 ∧ s.num 0x0F00 0 ≠ 0 ∧ s.drover.latch = false
        ∧ ∀ v ∈ s.drover.diodes, v < (16 * s.gov 0x0F23 0 : Nat))
    ∧ ∃ s : State, s.boot.inputOk = false ∧ s.boot.vkUp = true ∧ s.drover.latch = false ∧ s.boot.poweredOff = false :=
  ⟨by decide, by decide, by decide, by decide, ⟨{ up with drover := { shutDue := some ⟨0, 0, 0, 0, 0, 125, 1, 0⟩ } }, _, rfl, by decide⟩,
   ⟨{ up with drover := { diff5 := 2 } }, by decide⟩, ⟨{ up with drover := { diff15 := 2 } }, by decide⟩,
   ⟨({ up with drover := { latch := true, diodes := [2000] } }).setNum 0x0F00 0 4, accepts_of _ 0 _ _ _ 3 (by decide) (by decide),
    by decide, by decide, by decide⟩,
   ⟨up.setNum 0x0F00 0 2, accepts_of _ 0 _ _ _ 3 (by decide) (by decide), by decide, by decide, by decide⟩,
   ⟨{ up with boot := { inputOk := false } }, by decide⟩⟩

/-- The modulator ring of line 17 on fiber 95 in a state; a fiber in a state; a line with a laser. -/
def ring0 : Ring := ⟨false, 95, 17⟩
def ringIn (x : RingSt) : State := up.modRing (ringKey ring0) fun _ => x
def fiber7 (x : FiberSt) : State := up.modFiber 7 fun _ => x

set_option maxRecDepth 100000 in
theorem wit_RingsLasersAndCalibration :
    (∀ k ∈ [0, 1, 2, 3, 4, 5], ((ringIn { state := k, heat := 800 }).ring (ringKey ring0)).state = k)
    ∧ ((ringIn { state := 6 }).ring (ringKey ring0)).state = 6 ∧ State.reset.ready = false
    ∧ 800 ≤ (4749 : Nat) ∧ 4749 < 800 + ((ringIn { state := 3, heat := 4749 }).ring (ringKey ring0)).fsr
    ∧ (∃ s : State, (s.oe 3).cal = some { line := 2, phase := 1 } ∧ (s.oe 3).ramp = false)
    ∧ (∃ s : State, (s.oe 0).admitted = true ∧ (s.oe 0).cal = none ∧ (s.oe 0).displaced = [] ∧ (s.oe 0).flagged = []
        ∧ (s.laser 0 0).state < 2 ∧ s.gov 0x5008 0 ≠ 0)
    ∧ Accepts up 0 opCommand 0x5007 0 ∧ (∃ s : State, 11 < s.gov 0x5006 0 / 256)
    ∧ (∃ s : State, (s.fiber 7).los = true ∧ (s.fiber 7).shutterClosed = false ∧ (s.fiber 7).probing = false)
    ∧ ∃ s : State, (s.fiber 7).shutterClosed = true := by
  refine ⟨by decide, by decide, by decide, by decide, by decide, ⟨up.modOe 3 fun x => { x with cal := some { line := 2, phase := 1 } }, by decide⟩,
   ⟨up.modOe 0 fun x => { x with admitted := true }, by decide⟩, accepts_of _ 0 _ _ _ 3 (by decide) (by decide),
   ⟨up.setNum 0x5006 0 0xC00, by decide⟩, ⟨fiber7 { los := true }, by decide⟩, ⟨fiber7 { shutterClosed := true }, by decide⟩⟩

/-- A notice for lane 3 of a type, and an exchange of lane 3 from line 3 to line 16. -/
def noticeOf (ty : Nat) : Notice := { token := 1, reason := 4, toLine := 16, fromLine := 3, lane := 3, fiber := 7, type := ty }
def exch0 : Exchange := { token := 1, lane := 3, fromLine := 3, toLine := 16, reason := 4, epoch := 0 }
def fullMap : List Nat := [0, 1, 2, 3, 4, 5, 6, 7, 8, 9, 10, 11, 12, 13, 14, 15]

set_option maxRecDepth 100000 in
theorem wit_SteeringExchangesMoveLanes :
    ((noticeOf 0x40).type = 0x40 ∧ 1 ≤ (noticeOf 0x40).reason ∧ (noticeOf 0x40).reason ≤ 7 ∧ (noticeOf 0x40).lane < 16)
    ∧ ((fiber7 { rxMap := fullMap }).fiber 7).rxMap.getD 3 255 ≠ 255
    ∧ (∃ s : State, (s.fiber 7).exchRx = some exch0 ∧ exch0.compare = true ∧ (s.rxLane 7 16).state = 3)
    ∧ (∃ s : State, (s.fiber 7).exchTx = some exch0 ∧ exch0.token = (noticeOf 0x41).token ∧ exch0.lane = (noticeOf 0x41).lane
        ∧ (s.oe (7 / 8)).cal = none ∧ (s.fiber 7).moves = [])
    ∧ (∃ s : State, (s.fiber 7).asks = [(1, 3, 4)])
    ∧ (∃ s : State, (s.fiber 7).restoring = some (1, 3, 16)) ∧ (fiber7 {}).fiber 7 = {} :=
  ⟨by decide, by decide, ⟨(fiber7 { exchRx := some exch0 }).modRxLane 7 16 fun x => { x with state := 3 }, by decide⟩,
   ⟨fiber7 { exchTx := some exch0 }, by decide⟩, ⟨fiber7 { asks := [(1, 3, 4)] }, by decide⟩,
   ⟨fiber7 { restoring := some (1, 3, 16) }, by decide⟩, by decide⟩

set_option maxRecDepth 100000 in
theorem wit_ControlGroupsAndTraining :
    malformed [({ carrier := 3, ctype := 1, lane := 3, row := 0 } : CtrlBlock)] = false
    ∧ (∃ s : State, (s.fiber 7).training = false ∧ lineOf (s.fiber 7).rxMap 3 ≤ 17
        ∧ (s.rxLane 7 (lineOf (s.fiber 7).rxMap 3)).state = 4)
    ∧ malformed [({ carrier := 0, ctype := 2, lane := 0, row := 9, map := fullMap } : CtrlBlock)] = false
    ∧ (∃ s : State, (s.fiber 7).training = true ∧ (s.fiber 7).rxrdySent = true ∧ 64 ≤ (s.fiber 7).rxrdyRows
        ∧ (s.fiber 7).attempts < 2)
    ∧ (up.link 7).state = 0
    ∧ (∃ s : State, (s.fiber 7).training = false ∧ (s.fiber 7).streaming = true ∧ (s.link 7).state = 3) :=
  ⟨by decide, ⟨(fiber7 { rxMap := fullMap }).modRxLane 7 3 fun x => { x with state := 4 }, by decide⟩, by decide,
   ⟨fiber7 { training := true, rxrdySent := true, rxrdyRows := 64 }, by decide⟩, by decide,
   ⟨(fiber7 { streaming := true }).modLink 7 fun x => { x with state := 3 }, by decide⟩⟩

set_option maxRecDepth 100000 in
theorem wit_LanesAndTests :
    (∀ k ∈ [1, 2, 3, 4, 6], ((up.modRxLane 7 17 fun x => { x with state := k }).rxLane 7 17).state = k) ∧ (up.fiber 7).los = false
    ∧ (∃ s : State, (s.fiber 7).los = true) ∧ Accepts up 0 opCommand 0xF052 0 ∧ Accepts up 0 opCommand 0xF053 0
    ∧ (∃ s : State, s.lineBusy s.selected.1 s.selected.2.1 s.selected.2.2 = false)
    ∧ (∃ s : State, s.test.checker = some (7, 17) ∧ s.test.on true 7 17 = true ∧ s.test.lockAt = none)
    ∧ (∃ s : State, s.test.lockAt = some 0 ∧ s.test.running = [(true, 7, 17, 0)])
    ∧ Accepts up 0 opWrite 0xF057 0
    ∧ ∃ s : State, s.test.injection = some 0x40000000 ∧ (s.txLane s.test.injFiber s.test.injLine).state = 6 :=
  ⟨by decide, by decide, ⟨fiber7 { los := true }, by decide⟩, accepts_of _ 0 _ _ _ 3 (by decide) (by decide),
   accepts_of _ 0 _ _ _ 3 (by decide) (by decide), ⟨up.setNum 0xF050 0 17, by decide⟩,
   ⟨{ up with test := { checker := some (7, 17), running := [(true, 7, 17, 0)] } }, by decide⟩,
   ⟨{ up with test := { lockAt := some 0, running := [(true, 7, 17, 0)] } }, by decide⟩,
   accepts_of _ 0 _ _ _ 3 (by decide) (by decide),
   ⟨({ up with test := { injection := some 0x40000000, injFiber := 7, injLine := 3 } }).modTxLane 7 3 fun x => { x with state := 6 },
    by decide⟩⟩

def link7 (x : LinkSt) : State := up.modLink 7 fun _ => x

set_option maxRecDepth 100000 in
theorem wit_ArrivingFlitsFollowTheLinkProtocol : mixed [1, 2] = true ∧ mixed [] = false
    ∧ (∃ s : State, (s.fiber 7).training = false ∧ s.delivers 7 = true ∧ (s.link 7).state = 3)
    ∧ (∃ b, verdict b = .bad) ∧ (∃ (h : FlitHead), h.lc = false ∧ h.reserved = false ∧ seqDist h.seq 5 = 0 ∧ h.tc ≠ 0)
    ∧ (∃ (h : FlitHead), seqDist h.seq 5 = 0xFFFFFF) ∧ ∃ (h : FlitHead), 0x100000 ≤ seqDist h.seq 5 ∧ seqDist h.seq 5 < 0xF00000 := by
  refine ⟨by decide, by decide, ⟨((fiber7 { rxMap := [0, 255, 255, 255, 255, 255, 255, 255, 255, 255, 255, 255, 255, 255, 255, 255] }).modLink 7
    fun x => { x with state := 3 }).modRxLane 7 0 fun x => { x with state := 4 }, by decide⟩, ⟨[], by decide⟩, ?_, ?_, ?_⟩
  · exact ⟨{ (flitHead []) with tc := 3, seq := 5 }, by decide⟩
  · exact ⟨{ (flitHead []) with seq := 4 }, by decide⟩
  · exact ⟨{ (flitHead []) with seq := 0x100005 }, by decide⟩

set_option maxRecDepth 100000 in
theorem wit_LinksSendReplayAndRecover : up.ready = true ∧ ((link7 { state := 2 }).link 7).state = 2
    ∧ ((link7 { state := 3, nakPending := true }).link 7).nakPending = true
    ∧ 0 < ((link7 { state := 3, sinceAck := 1 }).link 7).sinceAck
    ∧ (∃ s : State, (s.link 7).state = 3 ∧ 0 < (s.link 7).outstanding ∧ (s.link 7).spilled = 0 ∧ (s.link 7).unreadable = 0
        ∧ (s.link 7).noProgress < 7)
    ∧ (∃ s : State, (s.link 7).state = 3 ∧ (s.link 7).queue 3 ≠ [] ∧ (s.link 7).credit 3 = false)
    ∧ (∃ s : State, (s.fiber 7).training = true) ∧ (∃ s : State, (s.link 7).replayAt = some 4 ∧ (s.link 7).spillRead = true)
    ∧ Accepts up 0 opCommand 0x5048 8 ∧ (∃ s : State, (s.link 7).state = 5 ∧ (s.fiber 7).txState ≠ 2 ∧ (s.fiber 7).rxState ≠ 2)
    ∧ Accepts up 0 opWrite 0x5040 8 ∧ Accepts up 0 opWrite 0x5034 5 :=
  ⟨by decide, by decide, by decide, by decide, ⟨link7 { state := 3, next := 2 }, by decide⟩,
   ⟨link7 { state := 3, queues := [(3, [⟨3, 0, false, [], false, none⟩])], sent := [0, 0, 0, 5000, 0] }, by decide⟩,
   ⟨fiber7 { training := true }, by decide⟩, ⟨link7 { replayAt := some 4, spillRead := true }, by decide⟩,
   accepts_of _ 0 _ _ _ 3 (by decide) (by decide), ⟨link7 { state := 5 }, by decide⟩,
   accepts_of _ 0 _ _ _ 3 (by decide) (by decide), accepts_of _ 0 _ _ _ 3 (by decide) (by decide)⟩

set_option maxRecDepth 100000 in
theorem wit_MembershipFollowsItsMessages : (up.link 7).state ≠ 3 ∧ (∃ s : State, (s.link 7).state = 3)
    ∧ (∃ inner : List Byte, inner.length = 224 ∧ field (leNat (inner.take 16)) 0 8 = 0x62)
    ∧ up.gallery.updHead = none ∧ (∃ s : State, s.gallery.updHead = some (0, 2))
    ∧ (∃ s : State, s.tick.active = true ∧ 1 < (s.blob 0x2040 0).length / 16 ∧ (1 : Nat) ≠ s.position ∧ s.gallery.newList = none)
    ∧ Accepts up 0 opWrite 0x2040 0 ∧ membershipOk false flightList = true ∧ membershipOk false (flightList.drop 16) = false
    ∧ WriteFits up 0x2040 0 (.bytes flightList) :=
  ⟨by decide, ⟨link7 { state := 3 }, by decide⟩, ⟨0x62 :: List.replicate 223 0, by decide⟩, by decide,
   ⟨{ up with gallery := { updHead := some (0, 2) } }, by decide⟩, ⟨flightOf 1 { active := true, faddr := 0x100 }, by decide⟩,
   accepts_of _ 0 _ _ _ 3 (by decide) (by decide), by decide, by decide, ⟨_, rfl, by decide, by decide⟩⟩

set_option maxRecDepth 100000 in
theorem wit_SchedulesAndBuildsAreChecked : Accepts up 0 opWrite 0x2030 0 ∧ schedEpoch [] ≤ up.epoch
    ∧ WriteFits up 0x2030 0 (.bytes (List.replicate 8256 0)) ∧ Accepts up 0 opCommand 0x2046 0
    ∧ (∃ s : State, (s.fiber 7).inService = true ∧ (s.link 7).state = 0)
    ∧ ∃ s : State, s.gallery.building = true ∧ (([] : List (Fin 96 × Int)).map (·.1)).Nodup :=
  ⟨accepts_of _ 0 _ _ _ 3 (by decide) (by decide), by decide, ⟨_, rfl, by decide, rfl, by simp, by simp⟩,
   accepts_of _ 0 _ _ _ 3 (by decide) (by decide), ⟨fiber7 { inService := true }, by decide⟩,
   ⟨{ up with gallery := { building := true } }, by decide⟩⟩

/-- Logical port 1 of physical port 0 is up. -/
def portUp : State := up.setNum 0x6002 1 2

set_option maxRecDepth 100000 in
theorem wit_EthernetPortsFollowTheirModes : Accepts up 0 opWrite 0x6001 4 ∧ WriteFits up 0x6001 4 (.num 1)
    ∧ headroomTooLarge (up.num 0x6010 0) (up.num 0x6014 0) (up.modes.set 3 1) = false ∧ 1 ≠ up.num 0x6001 4
    ∧ tabWf (fun _ => ({} : QpSt)) up.eth.qps = true ∧ portUp.portState 0 = 2 ∧ up.portState 0 ≠ 2
    ∧ up.portThere 0 = true ∧ up.boot.refEth = true ∧ Accepts up 0 opWrite 0x6010 0 ∧ WriteFits up 0x6010 0 (.num 7) :=
  ⟨accepts_of _ 0 _ _ _ 3 (by decide) (by decide), ⟨_, rfl, by decide, rfl, by decide, by decide⟩, by decide, by decide, by decide,
   by decide, by decide, by decide, by decide, accepts_of _ 0 _ _ _ 3 (by decide) (by decide), ⟨_, rfl, by decide, rfl, by decide, by decide⟩⟩

def arpFrame : EthFrame := { dst := 0, length := 64, etherType := 0x0806 }

set_option maxRecDepth 100000 in
theorem wit_FramesAndPausesAreHandled : portUp.portState 0 = 2 ∧ portUp.ownMac 0 0 = true ∧ portUp.vlanOk 0 [] = true
    ∧ arpFrame.fcsGood = true ∧ knownType arpFrame.etherType = true ∧ 0 + arpFrame.length ≤ portUp.share 0
    ∧ (∃ s : State, s.answers 0 = true ∧ s.ip4Of 0 = 5 ∧ (5 : Nat) ≠ 0)
    ∧ (∃ s : State, (s.pfcOf 0 3).paused = true ∧ (s.pfcOf 0 3).released = false)
    ∧ ∃ s : State, (s.pfcOf 0 3).sent = true ∧ s.pfcLevel 0 < s.held 0 3 :=
  ⟨by decide, by decide, by decide, by decide, by decide, by decide, ⟨portUp.setNum 0x6004 1 5, by decide⟩,
   ⟨{ up with eth := { pfc := [(3, { paused := true })] } }, by decide⟩,
   ⟨{ up with eth := { pfc := [(3, { sent := true })], buffer := [(0, 3, 100000000)] } }, by decide⟩⟩

/-- A connection with a ring of 8 slots, and queue pair 9 of it. -/
def conn0 : Conn := { depth := 8, saddr := 0, srkey := 0, nrec := 16, parea := 0, base := 0 }
def qp9 (x : QpSt) : State := portUp.modQp 9 fun _ => x
def req0 : CmReq := { srcQp := 1, srcAddr := 2, startPsn := 0, service := cmServiceId (up.num 0x6030 0), priv := [] }

set_option maxRecDepth 100000 in
theorem wit_ConnectionsOpenAndClose : portUp.answers 0 = true ∧ portUp.ready = true ∧ req0.service = cmServiceId (portUp.num 0x6030 0)
    ∧ (∀ e ∈ portUp.eth.qps, ¬ (e.2.state = 1 ∧ e.2.srcQp = req0.srcQp ∧ e.2.srcAddr = req0.srcAddr))
    ∧ (portUp.qp 0).state = 0 ∧ req0.priv.length < 56 ∧ ((qp9 { state := 1 }).qp 9).state = 1
    ∧ (∃ s : State, s.ready = false ∧ s.answers 0 = true) :=
  ⟨by decide, by decide, by decide, by decide, by decide, by decide, by decide,
   ⟨({ portUp with boot := { up.boot with modrdy := false } }).setNum 0x1007 0 8, by decide⟩⟩

def sendPacket : RcPacket := { psn := 0, payload := [1, 2, 3, 4] }

set_option maxRecDepth 100000 in
theorem wit_TheResponderAnswersItsPackets : ∃ s : State, (s.qp 9).state = 2 ∧ s.portState (s.qp 9).lport = 2
    ∧ (s.pfcOf (s.qp 9).lport (s.num 0x6011 0)).paused = false ∧ (s.pfcOf (s.qp 9).lport (s.num 0x6011 0)).released = false
    ∧ sendPacket.psn < 2 ^ 24 ∧ sendPacket.ce = false ∧ sendPacket.psn = (s.qp 9).expectPsn ∧ (s.qp 9).conn = some conn0
    ∧ sendPacket.first = true ∧ sendPacket.last = true ∧ conn0.ring.length < conn0.depth ∧ (s.qp 9).replies = [] ∧ s.boot.cutOff = false ∧ (s.qp 9).doomed = false
    ∧ s.accessCheck 9 sendPacket.rkey sendPacket.va sendPacket.dmaLen true ≠ 0 :=
  ⟨qp9 { state := 2, conn := some conn0 }, by decide⟩

set_option maxRecDepth 100000 in
theorem wit_WindowsAndTheRequester : Accepts up 0 opWrite 0x6041 0 ∧ WriteFits up 0x6041 0 (.bytes (List.replicate 32 0))
    ∧ up.gov 0x6040 0 < 4096 ∧ field (2 ^ 76 + 0x1000) 64 64 = 4096 ∧ windowRange 0x1000 4096 = true
    ∧ (∃ s : State, (s.qp 9).state = 2 ∧ s.portState (s.qp 9).lport = 2 ∧ (s.qp 9).unacked ≠ [] ∧ (s.qp 9).retryLeft = 0
        ∧ (s.pfcOf (s.qp 9).lport (s.num 0x6011 0)).paused = false)
    ∧ (up.qp 9).state = 0 :=
  ⟨accepts_of _ 0 _ _ _ 3 (by decide) (by decide), ⟨_, rfl, by decide, rfl, by decide, by decide⟩, by decide, by decide, by decide,
   ⟨qp9 { state := 2, unacked := [(0, .rcAck 9 0)], retryLeft := 0 }, by decide⟩, by decide⟩

set_option maxRecDepth 100000 in
theorem wit_SessionsFollowTheirRequests : ∃ s : State, (s.qp 9).conn = some { conn0 with ring := [[0]] } ∧ conn0.due = 0
    ∧ (s.qp 9).state = 2 ∧ s.boot.hubAnswering = true ∧ s.tick.running = true :=
  ⟨{ qp9 { state := 2, conn := some { conn0 with ring := [[0]] } } with tick := { running := true } }, by decide⟩

def session0 : Session := { qp := 9, model := 0, tag := 0 }
def serving (x : Session) : State := { ran with service := { sessions := [(4, some x)] } }

set_option maxRecDepth 100000 in
theorem wit_BatchesAndTimeoutsFollowTheirRules : up.tick.running = false ∧ ran.tick.running = true ∧ ran.isHome = true
    ∧ tabWf (fun _ => (none : Option Session)) (serving session0).service.sessions = true
    ∧ (serving session0).session 4 = some session0 ∧ session0.state = 0 ∧ session0.orphan = false ∧ (serving session0).gov 0xB021 0 ≠ 0
    ∧ (serving { session0 with state := 3 }).session 4 = some { session0 with state := 3 } :=
  ⟨by decide, by decide, by decide, by decide, by decide, by decide, by decide, by decide, by decide⟩

set_option maxRecDepth 100000 in
theorem wit_ModelsLoadAndLeave : Accepts up 0 opCommand 0xB004 0 ∧ (up.settleImage (up.gov 0xB002 0)).image (up.gov 0xB002 0) = none
    ∧ (∃ s : State, (s.model 3).state = 1 ∧ s.service.loadsDone.contains 3 = false ∧ (s.settleWeights (s.model 3)).badWeight (s.model 3) = none
        ∧ s.tick.running = false ∧ s.service.loadsDone = [])
    ∧ Accepts up 0 opCommand 0xB005 0 ∧ (up.model (up.gov 0xB001 0)).state < 2
    ∧ (∃ s : State, s.gov 0xB001 0 = 3 ∧ 2 ≤ (s.model 3).state ∧ (s.model 3).state ≤ 4 ∧ s.modelBusy 3 = false)
    ∧ Accepts up 0 opWrite 0xB011 0 ∧ WriteFits up 0xB011 0 (.num 1) ∧ up.num 0xB013 0 = 0 ∧ up.poolRule 0 0 = 0 :=
  ⟨accepts_of _ 0 _ _ _ 3 (by decide) (by decide), by decide, ⟨up.modModel 3 fun x => { x with state := 1 }, by decide⟩,
   accepts_of _ 0 _ _ _ 3 (by decide) (by decide), by decide, ⟨(up.modModel 3 fun x => { x with state := 2 }).setNum 0xB001 0 3, by decide⟩,
   accepts_of _ 0 _ _ _ 3 (by decide) (by decide), ⟨_, rfl, by decide, rfl, by decide, by decide⟩, by decide, by decide⟩

set_option maxRecDepth 100000 in
theorem wit_DatagramsAreCheckedOnce : up.boot.booted = true ∧ State.reset.boot.booted = false ∧ up.parse [] = none
    ∧ up.portState 0 ≠ 2 ∧ up.authority 3 = none ∧ up.authority 0 ≠ none ∧ isKeeper 0x2001 = false
    ∧ (∃ s : State, s.drover.latch = true) :=
  ⟨by decide, by decide, by decide, by decide, by decide, by decide, by decide, ⟨{ up with drover := { latch := true } }, rfl⟩⟩

set_option maxRecDepth 100000 in
theorem wit_ObjectOperationsFollowTheirChecks : up.authority 0 = some 3 ∧ isKeeper 0x3005 = false
    ∧ (∃ r, objectRow 0x0F33 0 = some r ∧ r.type.isBytes = false ∧ r.access = .rw) ∧ Accepts up 0 opWrite 0x0F33 0
    ∧ (∃ r, objectRow 0x2001 0 = some r ∧ r.access = .rwg) ∧ Accepts up 0 opWrite 0x2001 0 ∧ (up.group 0x2003).busy 0 = false
    ∧ Accepts up 0 opRead 0x2001 0 ∧ Accepts up 0 opDescribe 0x2001 0 ∧ Accepts up 0 opDiscard 0x2003 0
    ∧ (∃ s : State, (s.group 0x2003).staged ≠ []) ∧ ∃ s : State, s.assembly 0x2030 0 ≠ none :=
  ⟨by decide, by decide, ⟨_, rfl, by decide, by decide⟩, accepts_of _ 0 _ _ _ 3 (by decide) (by decide), ⟨_, rfl, by decide⟩,
   accepts_of _ 0 _ _ _ 3 (by decide) (by decide), by decide, accepts_of _ 0 _ _ _ 3 (by decide) (by decide),
   accepts_of _ 0 _ _ _ 3 (by decide) (by decide), accepts_of _ 0 _ _ _ 3 (by decide) (by decide),
   ⟨{ up with dict := { tickGroup := { staged := [(0x2001, 0, .num 1)] } } }, by decide⟩,
   ⟨{ up with dict := { assemblies := [(objKey 0x2030 0, some { slot := 0, data := [], last := 0 })] } }, by decide⟩⟩

set_option maxRecDepth 100000 in
theorem wit_MemoryOperationsReachTheirRanges : up.authority 0 = some 3 ∧ up.memCheck 3 opMemread = none
    ∧ up.memCheck 3 opMemwrite = none ∧ (flock id).memRule 0 1024 = 0 ∧ inLpddr 0 1024 = true
    ∧ up.memRule 0 4 = 0xA0000013 ∧ inScratch 0x40000000000 4 = false ∧ up.place 0x7FFFFFFFFFF 1 = none :=
  ⟨by decide, by decide, by decide, by rfl, by decide, by rfl, by decide, by decide⟩

/-- Bring-up in a stage. -/
def stageIs (n : Nat) (b : BootSt → BootSt) : State :=
  ({ State.reset with boot := b { booted := true } }).setNum 0x1007 0 n

set_option maxRecDepth 100000 in
theorem wit_EarlyStagesBringUpTheHub : State.reset.boot.vkUp = true ∧ State.reset.boot.booted = false ∧ State.reset.boot.silent = false
    ∧ up.boot.booted = true ∧ (∀ n ∈ [2, 3, 4, 5, 6, 7], (stageIs n id).inStage n = true) ∧ up.inStage 2 = false
    ∧ (stageIs 2 id).verifyImage [] ≠ 0 ∧ (stageIs 3 id).boot.pllLocked = false ∧ (stageIs 3 id).boot.hubUp = false
    ∧ (stageIs 2 id).mayBringUp = true ∧ (stageIs 4 id).boot.nextOe < 12 :=
  ⟨by decide, by decide, by decide, by decide, by decide, by decide, by decide, by decide, by decide, by decide, by decide⟩

def checks0 : TileChecks :=
  { strap := 0, rail := true, badSlices := 0, launchDelay := 0, badChannels := 0, badPens := 0, stepping := 0x5402, capability := 1 }

set_option maxRecDepth 100000 in
theorem wit_LateStagesQualifyTheParts : (stageIs 4 id).inStage 4 = true ∧ (stageIs 4 id).boot.nextOe = 0
    ∧ (stageIs 5 id).inStage 5 = true ∧ (∀ k : Fin 64, ((stageIs 5 id).tile k).tileOn = false)
    ∧ (stageIs 6 id).inStage 6 = true ∧ (stageIs 7 id).inStage 7 = true ∧ (stageIs 7 id).nv.fences = []
    ∧ (∃ s : State, s.inStage 8 = true ∧ s.boot.negotiated = true ∧ s.boot.waitOes = [])
    ∧ Accepts up 0 opCommand 0x7060 0 ∧ up.gov 0x705F 0 < 64
    ∧ (up.oe 3).withdrawn = false ∧ ((up.modOe 3 fun x => { x with withdrawn := true }).oe 3).withdrawn = true :=
  ⟨by decide, by decide, by decide, by decide, by decide, by decide, by decide, ⟨stageIs 8 fun b => { b with negotiated := true }, by decide⟩,
   accepts_of _ 0 _ _ _ 3 (by decide) (by decide), by decide, by decide, by decide⟩

set_option maxRecDepth 100000 in
theorem wit_ResetsKeepWhatTheyMust : Accepts up 0 opCommand 0x0F30 0 ∧ up.sec.installing = false
    ∧ (∃ s : State, Accepts s 0 opCommand 0x0F30 0 ∧ s.keeperState ≠ 0 ∧ s.sec.installing = true)
    ∧ (∃ s : State, s.boot.modrstLow = true) ∧ up.boot.modrstLow = false ∧ up.boot.restartDue = none
    ∧ (∃ s : State, s.boot.restartDue = some 7 ∧ s.boot.booted = true ∧ s.drover.latch = false) ∧ up.boot.hubUp = true
    ∧ Accepts up 0 opCommand 0x0F31 0 ∧ Accepts up 0 opCommand 0x0F32 0 ∧ Accepts up 0 opCommand 0x0F34 0 ∧ up.gov 0x0F33 0 = 0 :=
  ⟨accepts_of _ 0 _ _ _ 3 (by decide) (by decide), by decide,
   ⟨({ up with sec := { installing := true } }).setNum 0x0F00 0 2, accepts_of _ 0 _ _ _ 3 (by decide) (by decide), by decide, by decide⟩,
   ⟨{ up with boot := { modrstLow := true } }, by decide⟩, by decide, by decide,
   ⟨{ up with boot := { booted := true, restartDue := some 7 } }, by decide⟩, by decide,
   accepts_of _ 0 _ _ _ 3 (by decide) (by decide), accepts_of _ 0 _ _ _ 3 (by decide) (by decide),
   accepts_of _ 0 _ _ _ 3 (by decide) (by decide), by decide⟩

set_option maxRecDepth 100000 in
theorem wit_FailuresAreContained : ((flock id).tile 0).tileOn = true ∧ ((flock id).tile 0).flockOn = true ∧ (up.tile 0).flockOn = false
    ∧ up.boot.hubUp = true ∧ State.reset.boot.hubUp = false
    ∧ ((pens0 run0 {}).pen 0).run = some run0 ∧ run0.ended = none ∧ (((pens0 run0 {}).tile (0 / 16)).flockOn = true)
    ∧ (∃ s : State, neighbour 0 0 = some 8 ∧ (s.tile 8).tileOn = true ∧ (s.portSlices 0 0).testBit 3 = false
        ∧ portAlive (s.portSlices 0 0 ||| 2 ^ 3) = true)
    ∧ (∃ s : State, (s.oe 11).admitted = true ∧ s.nv.oeSlices.contains (88, 0) = false) ∧ (up.oe 11).admitted = false :=
  ⟨by decide, by decide, by decide, by decide, by decide, rfl, rfl, by decide, ⟨up.modTile 8 fun x => { x with tileOn := true }, by decide⟩,
   ⟨up.modOe 11 fun x => { x with admitted := true }, by decide⟩, by decide⟩

set_option maxRecDepth 100000 in
theorem wit_TestPortAndAlertsAnswer : up.boot.vkUp = true ∧ (∃ s : State, s.boot.vkUp = false) ∧ up.boot.modrstLow = false
    ∧ (∃ s : State, s.boot.modrstLow = true ∧ s.boot.vkUp = true) ∧ up.debugOpen = true ∧ (∃ s : State, s.debugOpen = false)
    ∧ dtestValid 0 = true ∧ dtestValid 0x80000000 = true ∧ up.tap.dtestRunning = false ∧ (∃ s : State, s.tap.dtestRunning = true)
    ∧ up.alert = 0 ∧ ∃ s : State, s.boot.booted = true ∧ s.alert ≠ 0 :=
  ⟨by decide, ⟨{ up with boot := { vkUp := false } }, by decide⟩, by decide, ⟨{ up with boot := { modrstLow := true } }, by decide⟩,
   by decide, ⟨{ up with nv := { lifecycle := 1 } }, by decide⟩, by decide, by decide, by decide,
   ⟨{ up with tap := { dtestRunning := true } }, by decide⟩, by decide, ⟨{ up with alert := 1 }, by decide⟩⟩

set_option maxRecDepth 100000 in
theorem wit_FirmwareAndKeysAreTheOwners : Accepts up 0 opWrite 0x0F50 0 ∧ up.authority 0 = some 3 ∧ up.assembly 0x0F50 0 = none
    ∧ (∃ s : State, s.assembly 0x0F50 0 = some { slot := 0, data := [1], last := 0 })
    ∧ Accepts up 0 opCommand 0x0F51 0 ∧ up.sec.heldImage = none ∧ (∃ s : State, s.sec.heldImage = some [1] ∧ s.sec.installing = false)
    ∧ (∃ s : State, s.sec.installing = true ∧ s.boot.resetDue = none ∧ s.boot.powerOffDue = false ∧ s.sec.heldImage = none
        ∧ s.assembly 0x0F50 0 = none)
    ∧ Accepts up 0 opCommand 0x9006 0 ∧ (∃ s : State, s.nv.svnFuses < s.sec.runSvn)
    ∧ Accepts up 0 opWrite 0x9003 1 ∧ WriteFits up 0x9003 1 (.bytes (3 :: List.replicate 32 7)) ∧ up.noKeys = true
    ∧ Accepts up 0 opCommand 0x9004 1 :=
  ⟨accepts_of _ 0 _ _ _ 3 (by decide) (by decide), by decide, by decide,
   ⟨{ up with dict := { assemblies := [(objKey 0x0F50 0, some { slot := 0, data := [1], last := 0 })] } }, by decide⟩,
   accepts_of _ 0 _ _ _ 3 (by decide) (by decide), by decide, ⟨{ up with sec := { heldImage := some [1] } }, by decide⟩,
   ⟨{ up with sec := { installing := true } }, by decide⟩, accepts_of _ 0 _ _ _ 3 (by decide) (by decide),
   ⟨{ up with sec := { runSvn := 1 } }, by decide⟩, accepts_of _ 0 _ _ _ 3 (by decide) (by decide),
   ⟨_, rfl, by decide, rfl, by decide, by decide⟩, by decide, accepts_of _ 0 _ _ _ 3 (by decide) (by decide)⟩

set_option maxRecDepth 100000 in
theorem wit_AttestationAndStileFollowTheirRules : Accepts up 0 opCommand 0x9011 0 ∧ up.sec.attState ≠ 1 ∧ up.sec.nonce = none
    ∧ (∃ s : State, s.sec.attState ≠ 1 ∧ s.sec.nonce = some [] ∧ s.nv.lifecycle = 1 ∧ s.nv.deviceKey.isSome = true ∧ 0 < s.signaturesLeft
        ∧ 0 < s.sec.treeLeft)
    ∧ (∃ s : State, s.sec.attState = 1) ∧ (∃ s : State, s.sec.generating = true) ∧ Accepts up 0 opCommand 0x9024 0
    ∧ up.tokenTarget = none ∧ (∃ s : State, 2 ≤ s.nv.lifecycle) ∧ (up.oe 3).admitted = false
    ∧ ∃ s : State, (s.oe 3).admitted = true ∧ (s.oe 3).notifiesNow (s.clock / 2000000000) < 65536 :=
  ⟨accepts_of _ 0 _ _ _ 3 (by decide) (by decide), by decide, by decide,
   ⟨{ up with sec := { nonce := some [] }, nv := { lifecycle := 1, deviceKey := some ([], []) } }, by decide⟩, ⟨{ up with sec := { attState := 1 } }, by decide⟩,
   ⟨{ up with sec := { generating := true } }, by decide⟩, accepts_of _ 0 _ _ _ 3 (by decide) (by decide), by decide,
   ⟨{ up with nv := { lifecycle := 2 } }, by decide⟩, by decide, ⟨up.modOe 3 fun x => { x with admitted := true }, by decide⟩⟩

set_option maxRecDepth 100000 in
theorem wit_TalliesCountTheirSamples : (up.tally 287).closeDue = none ∧ (∃ s : State, (s.tally 287).closeDue = some 4)
    ∧ 0 < (up.tally 0).width ∧ (up.tally 0).mode = 0 ∧ paramSelects 1 1 0 = true
    ∧ Accepts up 0 opWrite (0x8100 + 287) 1 ∧ WriteFits up (0x8100 + 287) 1 (.bytes (List.replicate 16 0))
    ∧ up.tallyRule 287 (List.replicate 16 0) ≠ 0 ∧ Accepts up 0 opCommand (0x8100 + 287) 2 ∧ Accepts up 0 opCommand 0x8002 0 :=
  ⟨by decide, ⟨up.modTally 287 fun x => { x with closeDue := some 4 }, by decide⟩, by decide, by decide, by decide,
   accepts_of _ 0 _ _ _ 3 (by decide) (by decide), ⟨_, rfl, by decide, rfl, by decide, by decide⟩, by decide,
   accepts_of _ 0 _ _ _ 3 (by decide) (by decide), accepts_of _ 0 _ _ _ 3 (by decide) (by decide)⟩

/-! ## Clauses with premises of their own -/

/-- An idle machine in which tile 7, whose strap word is good, is being restarted. -/
def restarting (r : TileChecks) : State := (up.setNum 0x1008 0 1).modTile 7 fun x => { x with restart := some r }
def checks7 : TileChecks := { checks0 with strap := 0xC7 }

set_option maxRecDepth 100000 in
theorem wit_TileRestarts : strapValid 7 0xC7 = true ∧ strapValid 7 0x1C7 = false ∧ strapValid 0 0 = false
    ∧ (∃ s : State, Accepts s 0 opCommand 0x7060 0 ∧ s.gov 0x705F 0 = 7 ∧ strapValid 7 (s.tile 7).strap = true
        ∧ (s.tile 7).restart = none)
    ∧ (∃ s : State, Accepts s 0 opCommand 0x7060 0 ∧ s.gov 0x705F 0 = 7 ∧ (s.tile 7).restart.isSome = true)
    ∧ (∀ r ∈ [checks7, checks0], (restarting r).pending = [] ∧ ((restarting r).tile 7).restart = some r
        ∧ ((restarting r).tile 7).tileOn = false
        ∧ (restarting r).tiles.filterMap (fun e => e.2.restart.map fun r => (e.1, r)) = [(7, r)])
    ∧ checks7.rail = true ∧ checks7.badSlices = 0 ∧ checks7.badChannels = 0 ∧ checks7.badPens = 0 ∧ checks7.flockRail = true
    ∧ checks7.capability.toNat = (restarting checks7).num 0x1008 0 ∧ (restarting checks7).nv.fences = []
    ∧ State.reset.pending = [] ∧ ∀ e ∈ State.reset.tiles, e.2.restart = none :=
  ⟨by decide, by decide, by decide,
   ⟨(up.setNum 0x705F 0 7).modTile 7 fun x => { x with strap := 0xC7 }, accepts_of _ 0 _ _ _ 3 (by decide) (by decide), by decide,
    by decide, by decide⟩,
   ⟨(restarting checks7).setNum 0x705F 0 7, accepts_of _ 0 _ _ _ 3 (by decide) (by decide), by decide, by decide⟩,
   by decide, by decide, by decide, by decide, by decide, by decide, by decide, by decide, by decide, by decide⟩

set_option maxRecDepth 100000 in
theorem wit_PensAndShepherdsWait :
    (∃ s : State, s.xWaits 0 = true)
    ∧ (∃ s : State, s.canDispatch 0 0 = true ∧ (s.tile 0).deque 0 ≠ [] ∧ ∀ j ∈ ((s.tile 0).deque 0).take 4, s.affords 0 j = false)
    ∧ (∃ s : State, (s.tile 0).excluded.getLsbD 3 = true ∧ s.testOf 3 = none ∧ (s.tile 0).duePen = some 3
        ∧ (s.pen 3).reference = some (s.dueEpoch 3, 77))
    ∧ (∃ s : State, s.tick.running = true ∧ s.drover.rein = true ∧ s.serves 0 0 = true)
    ∧ (∃ s : State, s.tick.running = true ∧ s.tick.inLanding = true ∧ (s.tile 0).flockOn = true ∧ (s.tile 0).held.isNone = true)
    ∧ ∃ s : State, s.tick.running = true ∧ s.tick.role = 0 ∧ (s.link 7).state = 3 :=
  ⟨⟨pens0 run0 { reads := [(3, some { cls := 1, payload := 0, header := 4096, copyTo := none })] }, by decide⟩,
   ⟨flock fun x => { x with deques := [(0, [{ job0 with energy := 100 }])], grant := 100 }, by decide⟩,
   ⟨(flock fun x => { x with excluded := 8, duePen := some 3 }).setPen 3 { reference := some ((flock id).dueEpoch 3, 77) }, by decide⟩,
   ⟨{ flock id with drover := { rein := true } }, by decide⟩,
   ⟨{ flock id with tick := { running := true, inLanding := true } }, by decide⟩,
   ⟨ran.modLink 7 fun x => { x with state := 3 }, by decide⟩⟩

set_option maxRecDepth 100000 in
theorem wit_FibersAndLinksWait :
    (∃ s : State, (s.fiber 7).exchTx ≠ none ∧ s.standby 7 permanentOrder ≠ none ∧ (s.fiber 7).txMap.getD 3 255 ≠ 255)
    ∧ (∃ s : State, s.mayDrop 7 { noticeOf 0x43 with reason := 1 } = true ∧ s.standby 7 calibrationOrder = none)
    ∧ (up.standby 7 permanentOrder = none ∧ up.mayDrop 7 (noticeOf 0x43) = false)
    ∧ (∃ s : State, (s.fiber 7).training = false ∧ lineOf (s.fiber 7).rxMap 3 = 255)
    ∧ (∃ s : State, (s.link 7).state = 0 ∧ (s.fiber 7).inService = true) ∧ ((up.link 7).state = 0 ∧ (up.fiber 7).inService = false)
    ∧ (∃ s : State, (s.rxLane 7 17).state = 1 ∧ (s.fiber 7).los = false ∧ s.test.on true 7 17 = true)
    ∧ (∃ s : State, (s.link 7).replayAt = some 4 ∧ (s.link 7).spillRead = true ∧ (s.link 7).direct = false
        ∧ ¬ seqDist 4 (s.link 7).oldest < (s.link 7).unreadable)
    ∧ (∃ s : State, (s.link 7).replayAt = some 4 ∧ (s.link 7).spillRead = true
        ∧ seqDist 4 (s.link 7).oldest < (s.link 7).unreadable)
    ∧ up.badIn (2 ^ 43) (2 ^ 20) = false ∧ ∃ s : State, s.badIn (2 ^ 43) (2 ^ 20) = true :=
  ⟨⟨((up.modRing (ringKey ⟨false, 7, 16⟩) fun x => { x with state := 4 }).modFiber 7 fun x =>
      { x with exchTx := some { exch0 with toLine := 17 }, txMap := fullMap }), by decide⟩,
   ⟨({ ran with tick := { running := true } }).setNum 0x5003 0 1, by decide⟩, by decide, ⟨fiber7 {}, by decide⟩,
   ⟨fiber7 { inService := true }, by decide⟩, by decide,
   ⟨{ up.modRxLane 7 17 fun x => { x with state := 1 } with test := { running := [(true, 7, 17, 0)] } }, by decide⟩,
   ⟨link7 { replayAt := some 4, spillRead := true, direct := false }, by decide⟩,
   ⟨link7 { replayAt := some 4, spillRead := true, unreadable := 5 }, by decide⟩, by decide,
   ⟨{ up with badWords := [2 ^ 43 + 7] }, by decide⟩⟩

set_option maxRecDepth 100000 in
theorem wit_AnswersWait :
    (∃ s : State, (s.qp 9).state = 2 ∧ (s.qp 9).replies = [.ack 3 false])
    ∧ (∃ s : State, (s.qp 9).state = 2 ∧ (s.qp 9).doomed = true ∧ s.boot.cutOff = false) ∧ (∃ s : State, s.boot.cutOff = true)
    ∧ (∃ s : State, (s.qp 9).lastCnp = none ∧ { sendPacket with ce := true }.ce = true)
    ∧ (∃ s : State, s.eth.writes.find? (fun e => e.id == 5) = some ⟨5, 0, [1], some 9, 3⟩
        ∧ (s.qp 9).replies = [.ack 3 false, .nak (.rcNak 9 4 nakInvalid)])
    ∧ (∃ s : State, (s.pfcOf 0 3).paused = true ∧ (s.pfcOf 0 3).released = false ∧ s.clock < (s.pfcOf 0 3).until_)
    ∧ (∃ s : State, s.faddr ≠ 0 ∧ s.position ≠ 0) ∧ (up.faddr = 0)
    ∧ (∃ s : State, s.session 4 = some { session0 with state := 3, orphan := true })
    ∧ (∃ s : State, (s.qp 9).doomed = false ∧ s.tick.running = true)
    ∧ (∃ s : State, (s.gov 0x6033 0).testBit 0 = true ∧ s.portState 0 = 2 ∧ s.boot.hubAnswering = true ∧ s.boot.hubUp = true)
    ∧ ∃ s : State, (s.gov 0x6033 0).testBit 0 = false :=
  ⟨⟨qp9 { state := 2, replies := [.ack 3 false] }, by decide⟩, ⟨qp9 { state := 2, replies := [.ack 1 false, .fatal 2 nakInvalid] }, by decide⟩,
   ⟨{ up with boot := { cutOff := true } }, by decide⟩, ⟨up, by decide⟩,
   ⟨{ up with eth := { writes := [⟨5, 0, [1], some 9, 3⟩]
                       qps := [(9, { state := 2, replies := [.ack 3 false, .nak (.rcNak 9 4 nakInvalid)] })] } }, by decide⟩,
   ⟨{ up with eth := { pfc := [(3, { paused := true, until_ := 5 })] } }, by decide⟩,
   ⟨flightOf 3 { faddr := 0x101 }, by decide⟩, by decide, ⟨serving { session0 with state := 3, orphan := true }, by decide⟩,
   ⟨ran, by decide⟩, ⟨portUp.setNum 0x6033 0 1, by decide⟩, ⟨portUp.setNum 0x6033 0 0, by decide⟩⟩

set_option maxRecDepth 100000 in
theorem wit_TestsAndInstallsTakeTheirCourse :
    tapOp 0xFF = .bypass ∧ tapOp 0x5A = .bypass ∧ tapOp 0x21 ≠ .bypass
    ∧ (∀ v ∈ [0x00000000, 0x00000040, 0x00000080], dtestValid v = true ∧ (field v 6 2, field v 0 6) ∉ up.tap.testDies)
    ∧ (∃ s : State, s.tap.testMode = true ∧ (0, 0) ∈ s.tap.testDies)
    ∧ (∃ s : State, s.sec.installing = true ∧ s.boot.resetDue = some 2 ∧ s.boot.resetAsked = true)
    ∧ (∃ s : State, s.sec.installing = true ∧ s.boot.resetDue = none ∧ s.boot.powerOffDue = false ∧ s.sec.heldImage = some [1]
        ∧ [1] ≠ s.sec.store)
    ∧ (∃ s : State, s.sec.installing = true ∧ (s.assembly 0x0F50 0).isSome = true)
    ∧ (∃ s : State, s.inStage 2 = true)
    ∧ (∃ r, objectRow 0x2003 0 = some r ∧ Accepts up 0 opDiscard 0x2003 0 ∧ (0 : Nat) ≠ r.type.code)
    ∧ ∃ s : State, tabGet (fun _ => none) s.nv.slots 1 = some (3, []) :=
  ⟨by decide, by decide, by decide, by decide, ⟨{ up with tap := { testMode := true, testDies := [(0, 0)] } }, by decide⟩,
   ⟨{ up with sec := { installing := true }, boot := { resetDue := some 2, resetAsked := true } }, by decide⟩,
   ⟨{ up with sec := { installing := true, heldImage := some [1] } }, by decide⟩,
   ⟨{ up with sec := { installing := true }
              dict := { assemblies := [(objKey 0x0F50 0, some { slot := 0, data := [1], last := 0 })] } }, by decide⟩,
   ⟨stageIs 2 id, by decide⟩, ⟨_, rfl, accepts_of _ 0 _ _ _ 3 (by decide) (by decide), by decide⟩,
   ⟨{ up with nv := { slots := [(1, some (3, []))] } }, by decide⟩⟩

end Sys2Proof
end

section
/-! SUPPORT. Bring-up from stage 4 to Ready and tile restart: what each operation leaves alone and what it establishes,
and from that statement O54. -/

namespace Sys2Proof.Machine

/-! ## Folds over lists and ranges -/

/-- A property that every step of a fold keeps. -/
theorem forEach_induct {α : Type} {Q : State → Prop} {l : List α} {s : State} {f : α → State → State} (h : Q s)
    (step : ∀ a ∈ l, ∀ u, Q u → Q (f a u)) : Q (forEach l s f) := by
  induction l generalizing s with
  | nil => exact h
  | cons a l ih =>
    exact ih (step a List.mem_cons_self s h) fun b hb => step b (List.mem_cons_of_mem a hb)

/-- What each step of a fold establishes for its own element and the others keep holds of every element at the end. -/
theorem forEach_each {α : Type} {Q : State → Prop} {P : α → State → Prop} {l : List α} {s : State}
    {f : α → State → State} (h : Q s) (step : ∀ a ∈ l, ∀ u, Q u → Q (f a u) ∧ P a (f a u))
    (keep : ∀ a ∈ l, ∀ b ∈ l, ∀ u, Q u → P b u → P b (f a u)) : ∀ a ∈ l, P a (forEach l s f) := by
  induction l generalizing s with
  | nil => simp
  | cons a l ih =>
    obtain ⟨hq, hp⟩ := step a List.mem_cons_self s h
    have tail {b} (hb : b ∈ l) := List.mem_cons_of_mem a hb
    intro b hb
    obtain rfl | hb := List.mem_cons.mp hb
    · have key := forEach_induct (Q := fun u => Q u ∧ P b u) (l := l) (f := f) (s := f b s) ⟨hq, hp⟩
        fun c hc u hu => ⟨(step c (tail hc) u hu.1).1, keep c (tail hc) b List.mem_cons_self u hu.1 hu.2⟩
      exact key.2
    · exact ih hq (fun c hc => step c (tail hc)) (fun c hc d hd => keep c (tail hc) d (tail hd)) b hb

/-- What every step of a fold leaves as it was. -/
theorem forEach_keeps {α β : Type} (g : State → β) {l : List α} {s : State} {f : α → State → State}
    (h : ∀ a ∈ l, ∀ u, g (f a u) = g u) : g (forEach l s f) = g s :=
  forEach_induct (Q := fun u => g u = g s) rfl fun a ha u hu => (h a ha u).trans hu

/-- The same over the numbers below n. -/
theorem upTo_keeps {β : Type} (g : State → β) {n : Nat} {s : State} {f : Nat → State → State}
    (h : ∀ i < n, ∀ u, g (f i u) = g u) : g (upTo n s f) = g s :=
  forEach_keeps g fun i hi => h i (List.mem_range.mp hi)

/-- A property that every step over the numbers below n keeps. -/
theorem upTo_induct {Q : State → Prop} {n : Nat} {s : State} {f : Nat → State → State} (h : Q s)
    (step : ∀ i < n, ∀ u, Q u → Q (f i u)) : Q (upTo n s f) :=
  forEach_induct h fun i hi => step i (List.mem_range.mp hi)

/-- What each step establishes for its own number, over the numbers below n. -/
theorem upTo_each {Q : State → Prop} {P : Nat → State → Prop} {n : Nat} {s : State} {f : Nat → State → State} (h : Q s)
    (step : ∀ i < n, ∀ u, Q u → Q (f i u) ∧ P i (f i u))
    (keep : ∀ i < n, ∀ j < n, ∀ u, Q u → P j u → P j (f i u))
    (i : Nat) (hi : i < n) : P i (upTo n s f) :=
  forEach_each h (fun j hj => step j (List.mem_range.mp hj))
    (fun j hj k hk => keep j (List.mem_range.mp hj) k (List.mem_range.mp hk)) i (List.mem_range.mpr hi)

/-- A fold none of whose steps changes the state. -/
theorem forEach_id {α : Type} {l : List α} {s : State} {f : α → State → State} (h : ∀ a ∈ l, f a s = s) :
    forEach l s f = s :=
  forEach_induct (Q := (· = s)) rfl fun a ha u hu => by rw [hu]; exact h a ha

theorem upTo_id {n : Nat} {s : State} {f : Nat → State → State} (h : ∀ i < n, f i s = s) : upTo n s f = s :=
  forEach_id fun i hi => h i (List.mem_range.mp hi)

/-! ## What lane, ring and link work leaves alone -/

/-- What every operation of stage 4 leaves alone. -/
structure BringUpBase where
  mem : Tab Byte
  boot : BootSt
  txMaps : Tab (Option (List Nat))
  failedLasers : List Nat
  fadedLasers : List Nat
  stage : Nat
  common : Nat

def State.base (s : State) : BringUpBase :=
  { mem := s.mem, boot := s.boot, txMaps := s.nv.txMaps, failedLasers := s.nv.failedLasers
    fadedLasers := s.nv.fadedLasers, stage := s.stage, common := s.num 0x1008 0 }

/-- The base, what is reported of each OE, and which fibers are in service. -/
def State.wiring (s : State) : BringUpBase × (Fin 12 → Nat) × (Nat → Bool) :=
  (s.base, fun n => s.num 0x100C (n + 1), fun f => (s.fiber f).inService)

/-- The wiring, the lasers, and which OEs are admitted. -/
def State.optics (s : State) : (BringUpBase × (Fin 12 → Nat) × (Nat → Bool)) × Tab LaserSt × (Nat → Bool) :=
  (s.wiring, s.lasers, fun n => (s.oe n).admitted)

variable {s t : State}

theorem wiring_of_optics (h : t.optics = s.optics) : t.wiring = s.wiring := congrArg Prod.fst h
theorem lasers_of_optics (h : t.optics = s.optics) : t.lasers = s.lasers := congrArg (·.2.1) h
theorem base_of_wiring (h : t.wiring = s.wiring) : t.base = s.base := congrArg Prod.fst h
theorem base_of_optics (h : t.optics = s.optics) : t.base = s.base := congrArg (·.1.1) h
theorem mem_of_base (h : t.base = s.base) : t.mem = s.mem := congrArg BringUpBase.mem h
theorem boot_of_base (h : t.base = s.base) : t.boot = s.boot := congrArg BringUpBase.boot h
theorem txMaps_of_base (h : t.base = s.base) : t.nv.txMaps = s.nv.txMaps := congrArg BringUpBase.txMaps h
theorem failedLasers_of_base (h : t.base = s.base) : t.nv.failedLasers = s.nv.failedLasers :=
  congrArg BringUpBase.failedLasers h
theorem fadedLasers_of_base (h : t.base = s.base) : t.nv.fadedLasers = s.nv.fadedLasers :=
  congrArg BringUpBase.fadedLasers h
theorem stage_of_base (h : t.base = s.base) : t.stage = s.stage := congrArg BringUpBase.stage h
theorem common_of_base (h : t.base = s.base) : t.num 0x1008 0 = s.num 0x1008 0 := congrArg BringUpBase.common h
theorem report_of_wiring (h : t.wiring = s.wiring) (n : Fin 12) : t.num 0x100C (n + 1) = s.num 0x100C (n + 1) :=
  congrFun (congrArg (·.2.1) h) n
theorem inService_of_wiring (h : t.wiring = s.wiring) (f : Nat) : (t.fiber f).inService = (s.fiber f).inService :=
  congrFun (congrArg (·.2.2) h) f

/-- The objects of the links and lanes lie above those of bring-up. -/
@[simp] theorem optics_setNum {i j n : Nat} (h : 0x5000 ≤ i) : (s.setNum i j n).optics = s.optics := by
  have ne (k l : Nat) (hk : 256 * k + l < 0x500000) : objKey k l ≠ objKey i j := by unfold objKey; omega
  have report : (fun m : Fin 12 => (s.setNum i j n).num 0x100C (m + 1)) = fun m : Fin 12 => s.num 0x100C (m + 1) :=
    funext fun m => by rw [State.num_setNum, if_neg (ne _ _ (by omega))]
  have stage : (s.setNum i j n).stage = s.stage := by
    unfold State.stage; rw [State.num_setNum, if_neg (ne _ _ (by omega))]
  have common : (s.setNum i j n).num 0x1008 0 = s.num 0x1008 0 := by
    rw [State.num_setNum, if_neg (ne _ _ (by omega))]
  unfold State.optics State.wiring State.base
  rw [report, stage, common]
  rfl

@[simp] theorem optics_count {i j n : Nat} (h : 0x5000 ≤ i) : (s.count i j n).optics = s.optics := by
  unfold State.count
  split
  · exact optics_setNum h
  · rfl

@[simp] theorem optics_log (c a d : Nat) : (s.log c a d).optics = s.optics := rfl
@[simp] theorem optics_modRing (k : Nat) (f : RingSt → RingSt) : (s.modRing k f).optics = s.optics := rfl
@[simp] theorem optics_modRxLane (f l : Nat) (g : LaneSt → LaneSt) : (s.modRxLane f l g).optics = s.optics := rfl
@[simp] theorem optics_modTxLane (f l : Nat) (g : LaneSt → LaneSt) : (s.modTxLane f l g).optics = s.optics := rfl
@[simp] theorem optics_modLink (f : Nat) (g : LinkSt → LinkSt) : (s.modLink f g).optics = s.optics := rfl
@[simp] theorem optics_send (o : Out) : (s.send o).optics = s.optics := rfl
theorem optics_test (x : TestSt) : { s with test := x }.optics = s.optics := rfl
@[simp] theorem optics_recordRing (k : Nat) (b : Bool) : (s.recordRing k b).optics = s.optics := rfl
@[simp] theorem optics_trainReceiver (r : Nat) : (s.trainReceiver r).optics = s.optics := rfl
@[simp] theorem optics_rxTo (f l st : Nat) : (s.rxTo f l st).optics = s.optics := rfl
@[simp] theorem optics_txTo (f l st : Nat) : (s.txTo f l st).optics = s.optics := rfl
@[simp] theorem optics_txRest (f l : Nat) : (s.txRest f l).optics = s.optics := rfl
@[simp] theorem optics_rxRest (f l : Nat) : (s.rxRest f l).optics = s.optics := rfl

@[simp] theorem optics_modFiber {f : Nat} {g : FiberSt → FiberSt} (h : ∀ x, (g x).inService = x.inService) :
    (s.modFiber f g).optics = s.optics := by
  have e : (fun k => ((s.modFiber f g).fiber k).inService) = fun k => (s.fiber k).inService :=
    funext fun k => by rw [State.fiber_modFiber]; split <;> simp_all
  unfold State.optics State.wiring
  rw [e]
  rfl

@[simp] theorem optics_modOe {n : Nat} {g : OeSt → OeSt} (h : ∀ x, (g x).admitted = x.admitted) :
    (s.modOe n g).optics = s.optics := by
  have e : (fun k => ((s.modOe n g).oe k).admitted) = fun k => (s.oe k).admitted :=
    funext fun k => by rw [State.oe_modOe]; split <;> simp_all
  unfold State.optics
  rw [e]
  rfl

@[simp] theorem optics_lose (f n : Nat) : (s.lose f n).optics = s.optics := by
  unfold State.lose; split <;> simp

@[simp] theorem optics_freePool (p : Option Nat) (tc : Nat) : (s.freePool p tc).optics = s.optics := by
  cases p <;> rfl

@[simp] theorem optics_emptyQueues (f : Nat) : (s.emptyQueues f).optics = s.optics := by
  unfold State.emptyQueues
  rw [optics_modLink, optics_lose]
  exact forEach_keeps State.optics fun q _ u => optics_freePool _ _

@[simp] theorem optics_noteLock (f : Nat) : (s.noteLock f).optics = s.optics := by
  unfold State.noteLock
  dsimp only
  split <;> simp

@[simp] theorem optics_restLanes (f : Nat) : (s.restLanes f).optics = s.optics := by
  unfold State.restLanes
  rw [optics_noteLock]
  refine upTo_keeps State.optics fun line _ u => ?_
  dsimp only
  split <;> split <;> simp

@[simp] theorem optics_prbsUnlock (d : Nat) : (s.prbsUnlock d).optics = s.optics := by
  unfold State.prbsUnlock
  split
  · rfl
  · refine (optics_test _).trans ?_
    simp

@[simp] theorem optics_endTest (rx : Bool) (f l : Nat) : (s.endTest rx f l).optics = s.optics := by
  have unlock : (if rx && s.test.checker == some (f, l) then s.prbsUnlock 0 else s).optics = s.optics := by
    split <;> simp
  unfold State.endTest
  split
  · cases rx <;> exact unlock
  · rfl

@[simp] theorem optics_stopTest (rx : Bool) (f l : Nat) : (s.stopTest rx f l).optics = s.optics := by
  unfold State.stopTest; split <;> simp

@[simp] theorem optics_writeOe (n : Nat) : (s.writeOe n).optics = s.optics := by
  unfold State.writeOe
  split
  · simp
  · rfl

@[simp] theorem optics_darken (n l : Nat) : (s.darken n l).optics = s.optics := by
  unfold State.darken
  rw [optics_writeOe]
  exact forEach_keeps State.optics fun f _ u => by simp

@[simp] theorem optics_linkDown (f : Nat) : (s.linkDown f).optics = s.optics := by
  unfold State.linkDown
  dsimp only
  split
  · rfl
  · simp

@[simp] theorem optics_restFiber (f : Nat) : (s.restFiber f).optics = s.optics := by
  simp [State.restFiber]

@[simp] theorem optics_settleRing (n : Nat) (r : OeChecks) (rx : Bool) (f l : Nat) :
    (s.settleRing n r rx f l).optics = s.optics := by
  unfold State.settleRing
  dsimp only
  split
  · split <;> rfl
  · split
    · rfl
    · split <;> rfl

/-! ## OEs that lose power or are not admitted (R337) -/

@[simp] theorem wiring_modOe (n : Nat) (g : OeSt → OeSt) : (s.modOe n g).wiring = s.wiring := rfl
@[simp] theorem wiring_modLaser (n l : Nat) (g : LaserSt → LaserSt) : (s.modLaser n l g).wiring = s.wiring := rfl
@[simp] theorem base_modFiber (f : Nat) (g : FiberSt → FiberSt) : (s.modFiber f g).base = s.base := rfl

@[simp] theorem wiring_loseTally (u : Nat) : (s.loseTally u).wiring = s.wiring := by
  unfold State.loseTally State.noteUnits
  dsimp only
  split
  · rfl
  · exact wiring_of_optics (optics_setNum (by decide))

@[simp] theorem wiring_unpowerOe (n : Nat) : (s.unpowerOe n).wiring = s.wiring := by
  unfold State.unpowerOe
  simp only [wiring_modOe]
  refine (upTo_keeps State.wiring fun k _ u => wiring_loseTally _).trans (upTo_keeps State.wiring fun line _ u => ?_)
  exact (wiring_of_optics ((forEach_keeps State.optics fun f _ v => by simp).trans (optics_darken n line))).trans
    (wiring_modLaser _ _ _)

/-- The report of an OE is none of the objects of the base. -/
@[simp] theorem base_setReport (n : Fin 12) (v : Nat) : (s.setNum 0x100C (n + 1) v).base = s.base := by
  have ne (l : Nat) (hl : l = 0x1007 ∨ l = 0x1008) : objKey l 0 ≠ objKey 0x100C (n + 1) := by
    unfold objKey; omega
  simp only [State.base, State.stage, State.num_setNum, if_neg (ne _ (.inl rfl)), if_neg (ne _ (.inr rfl))]
  rfl

/-- The links of some fibers go down, and the fibers go out of service. -/
def State.dropFibers (s : State) (l : List Nat) : State :=
  forEach l s fun g s => (s.linkDown g).modFiber g fun x => { x with inService := false }

theorem base_dropFibers (l : List Nat) : (s.dropFibers l).base = s.base :=
  forEach_keeps State.base fun g _ _ => (base_modFiber _ _).trans (base_of_optics (optics_linkDown g))

theorem report_dropFibers (l : List Nat) (n : Fin 12) : (s.dropFibers l).num 0x100C (n + 1) = s.num 0x100C (n + 1) :=
  forEach_keeps (fun u : State => u.num 0x100C (n + 1)) fun g _ _ =>
    report_of_wiring (wiring_of_optics (optics_linkDown g)) n

theorem inService_dropFibers (l : List Nat) : ∀ f ∈ l, ((s.dropFibers l).fiber f).inService = false := by
  refine forEach_each (Q := fun _ => True) (P := fun f u => (u.fiber f).inService = false) trivial
    (fun g _ u _ => ⟨trivial, by simp [State.fiber_modFiber]⟩) fun g _ f _ u _ h => ?_
  rw [State.fiber_modFiber]
  split
  · rfl
  · exact (inService_of_wiring (wiring_of_optics (optics_linkDown g)) f).trans h

/-- What a rejection is, step by step. -/
theorem rejectOe_eq (n fail : Nat) : s.rejectOe n fail =
    ((((s.log 0x1012 (srcOe n) fail).setNum 0x100C (n + 1) fail).dropFibers (oeFibers n)).unpowerOe n).modOe n
      fun o => { o with fail := fail, requalPending := false, requalifying := false } := rfl

@[simp] theorem base_rejectOe (n : Fin 12) (fail : Nat) : (s.rejectOe n fail).base = s.base := by
  rw [rejectOe_eq, base_of_wiring (wiring_modOe _ _), base_of_wiring (wiring_unpowerOe _), base_dropFibers,
    base_setReport]
  rfl

theorem report_rejectOe (n : Fin 12) (fail : Nat) : (s.rejectOe n fail).num 0x100C (n + 1) = fail := by
  rw [rejectOe_eq, report_of_wiring (wiring_modOe _ _), report_of_wiring (wiring_unpowerOe _), report_dropFibers,
    State.num_setNum_same]

theorem inService_rejectOe (n fail : Nat) (f : Nat) (hf : f ∈ oeFibers n) :
    ((s.rejectOe n fail).fiber f).inService = false := by
  rw [rejectOe_eq, inService_of_wiring (wiring_modOe _ _), inService_of_wiring (wiring_unpowerOe _),
    inService_dropFibers _ f hf]

theorem admitted_rejectOe (n fail : Nat) : ((s.rejectOe n fail).oe n).admitted = false := by
  rw [rejectOe_eq, State.unpowerOe]
  simp [State.oe_modOe]

/-! ## Fibers that are settled (R336, R337) -/

/-- The rings of a fiber after the optical loopback. -/
def State.settleRings (s : State) (n : Nat) (r : OeChecks) (f : Nat) : State :=
  upTo 18 s fun line s => (s.settleRing n r false f line).settleRing n r true f line

@[simp] theorem optics_settleRings (n : Nat) (r : OeChecks) (f : Nat) : (s.settleRings n r f).optics = s.optics :=
  upTo_keeps State.optics fun line _ u => by simp

/-- All lasers of an OE are lit. -/
def State.sledLit (s : State) (n : Nat) : Prop := ∀ line < 18, (s.laser n line).state < 2

/-- The transmit map of a fiber with the lanes of failed lines moved to standbys. -/
def State.fiberMap (s : State) (n : Nat) (r : OeChecks) (f : Nat) : List Nat :=
  let base := (tabGet (fun _ => none) s.nv.txMaps (8 * n + f)).getD [0, 1, 2, 3, 4, 5, 6, 7, 8, 9, 10, 11, 12, 13, 14, 15]
  remap (s.ringPasses n r false f) ((List.range 16).map fun i => if lineOf base i = 255 then i else lineOf base i)

/-- How many lines of a fiber pass in receive. -/
def State.fiberRx (s : State) (n : Nat) (r : OeChecks) (f : Nat) : Nat :=
  min 16 ((List.range 18).filter fun l => s.ringPasses n r true f l).length

/-- The events of a fiber's retired directions. -/
def State.noteRetired (s : State) (g tx rx : Nat) : State :=
  let s := if tx ≥ 15 then s else s.log 0x5007 srcHub g
  if rx ≥ 15 then s else s.log 0x5007 srcHub (g + 256)

/-- FULL, THIN or OUT by the lanes of a direction. -/
def laneState (k : Nat) : Nat := if k < 15 then 2 else if k = 15 then 1 else 0

/-- Both directions of a fiber have enough lanes. -/
def State.fiberOk (s : State) (n : Nat) (r : OeChecks) (f : Nat) : Bool :=
  (mapped (s.fiberMap n r f)).length ≥ 15 && s.fiberRx n r f ≥ 15

/-- A fiber takes its map and its state. -/
def State.finishFiber (s : State) (n : Nat) (r : OeChecks) (f : Nat) : State :=
  let tx := (mapped (s.fiberMap n r f)).length
  let rx := s.fiberRx n r f
  ((s.noteRetired (8 * n + f) tx rx).modFiber (8 * n + f) fun x =>
    { x with inService := s.fiberOk n r f, txMap := s.fiberMap n r f, txState := laneState tx
             rxState := laneState rx }).restFiber (8 * n + f)

/-- What settling a fiber is, step by step. -/
theorem settleFiber_eq (n : Nat) (r : OeChecks) (f : Nat) : s.settleFiber n r f
    = ((s.settleRings n r f).finishFiber n r f, (s.settleRings n r f).fiberOk n r f) := by
  unfold State.settleFiber
  dsimp only [State.settleRings, State.finishFiber, State.fiberOk, State.fiberMap, State.fiberRx, State.noteRetired, laneState]
  rfl

theorem optics_noteRetired (g tx rx : Nat) : (s.noteRetired g tx rx).optics = s.optics := by
  unfold State.noteRetired
  dsimp only
  split <;> split <;> simp

theorem base_finishFiber (n : Nat) (r : OeChecks) (f : Nat) : (s.finishFiber n r f).base = s.base := by
  unfold State.finishFiber
  rw [base_of_optics (optics_restFiber _), base_modFiber, base_of_optics (optics_noteRetired _ _ _)]

theorem lasers_finishFiber (n : Nat) (r : OeChecks) (f : Nat) : (s.finishFiber n r f).lasers = s.lasers := by
  unfold State.finishFiber
  rw [lasers_of_optics (optics_restFiber _), State.modFiber_lasers, lasers_of_optics (optics_noteRetired _ _ _)]

theorem inService_finishFiber (n : Nat) (r : OeChecks) (f k : Nat) : ((s.finishFiber n r f).fiber k).inService
    = if k = 8 * n + f then s.fiberOk n r f else (s.fiber k).inService := by
  unfold State.finishFiber
  rw [inService_of_wiring (wiring_of_optics (optics_restFiber _)), State.fiber_modFiber]
  by_cases h : k = 8 * n + f
  · rw [if_pos h, if_pos h]
  · rw [if_neg h, if_neg h, inService_of_wiring (wiring_of_optics (optics_noteRetired _ _ _))]

theorem base_settleFiber (n : Nat) (r : OeChecks) (f : Nat) : (s.settleFiber n r f).1.base = s.base := by
  rw [settleFiber_eq, base_finishFiber, base_of_optics (optics_settleRings _ _ _)]

theorem lasers_settleFiber (n : Nat) (r : OeChecks) (f : Nat) : (s.settleFiber n r f).1.lasers = s.lasers := by
  rw [settleFiber_eq, lasers_finishFiber, lasers_of_optics (optics_settleRings _ _ _)]

theorem inService_settleFiber (n : Nat) (r : OeChecks) (f k : Nat) : ((s.settleFiber n r f).1.fiber k).inService
    = if k = 8 * n + f then (s.settleFiber n r f).2 else (s.fiber k).inService := by
  rw [settleFiber_eq, inService_finishFiber, inService_of_wiring (wiring_of_optics (optics_settleRings n r f))]

/-- With every laser lit and no ring listed, every ring passes. -/
theorem ringPasses_of_lit {n : Nat} {r : OeChecks} (h : s.sledLit n) (ht : r.badTx = []) (hr : r.badRx = []) (rx : Bool)
    (f line : Nat) (hl : line < 18) : s.ringPasses n r rx f line = true := by
  cases rx <;> simp [State.ringPasses, ht, hr, h line hl]

/-- A map whose lines all work stays as it is. -/
theorem remap_of_ok {ok : Nat → Bool} {m : List Nat} (h : ∀ lane < 16, ok (lineOf m lane) = true) : remap ok m = m := by
  have key : ∀ l : List Nat, (∀ lane ∈ l, lane < 16) → l.foldl (fun m lane =>
      let line := lineOf m lane
      if line = 255 ∨ ok line then m
      else match [16, 17].find? fun l => ok l && !m.contains l with
        | some l => m.set lane l
        | none => m.set lane 255) m = m := by
    intro l hl
    induction l with
    | nil => rfl
    | cons a l ih =>
      rw [List.foldl_cons]
      have ha := h a (hl a List.mem_cons_self)
      simp only [ha, or_true, if_true]
      exact ih fun b hb => hl b (List.mem_cons_of_mem a hb)
  exact key _ fun lane hl => List.mem_range.mp hl

/-- Every lane has its own line. -/
theorem fiberMap_of_ok {n : Nat} {r : OeChecks} {f : Nat} (hm : s.nv.txMaps = [])
    (h : ∀ line < 18, s.ringPasses n r false f line = true) : s.fiberMap n r f = List.range 16 := by
  unfold State.fiberMap
  have full : ((List.range 16).map fun i =>
      if lineOf [0, 1, 2, 3, 4, 5, 6, 7, 8, 9, 10, 11, 12, 13, 14, 15] i = 255 then i
      else lineOf [0, 1, 2, 3, 4, 5, 6, 7, 8, 9, 10, 11, 12, 13, 14, 15] i) = List.range 16 := by decide
  simp only [hm, tabGet_nil, Option.getD_none, full]
  have line (lane : Nat) (hl : lane < 16) : lineOf (List.range 16) lane = lane := by
    simp [lineOf, List.getD_eq_getElem?_getD, hl]
  exact remap_of_ok fun lane hl => by rw [line lane hl]; exact h lane (by omega)

/-- A fiber of an OE whose parts all work is in service. -/
theorem settleFiber_ok {n : Nat} {r : OeChecks} (f : Nat) (h : s.sledLit n) (hm : s.nv.txMaps = []) (ht : r.badTx = [])
    (hr : r.badRx = []) : (s.settleFiber n r f).2 = true := by
  have e := optics_settleRings (s := s) n r f
  have lit : (s.settleRings n r f).sledLit n := fun line hl => by
    unfold State.laser; rw [lasers_of_optics e]; exact h line hl
  have map : (s.settleRings n r f).nv.txMaps = [] := (txMaps_of_base (base_of_optics e)).trans hm
  have rx : (s.settleRings n r f).fiberRx n r f = 16 := by
    unfold State.fiberRx
    rw [List.filter_eq_self.mpr fun l hl => ringPasses_of_lit lit ht hr true f l (List.mem_range.mp hl)]
    rfl
  rw [settleFiber_eq]
  dsimp only
  rw [State.fiberOk, rx, fiberMap_of_ok map fun line hl => ringPasses_of_lit lit ht hr false f line hl]
  decide

/-! ## The checks of R336 and what follows -/

theorem num_modOe (m : Nat) (g : OeSt → OeSt) (i j : Nat) : (s.modOe m g).num i j = s.num i j := rfl

/-- What the checks before the fibers note of an OE. -/
def State.noteOe (s : State) (n : Nat) (r : OeChecks) : State :=
  s.modOe n fun o => { o with voOn := r.railVo, serial := r.serial, capability := r.capability }

/-- The retired slices of an OE on record, its receivers trained, its lasers lit. -/
def State.lightOe (s : State) (n : Nat) (r : OeChecks) : State :=
  let s := forEach r.badSlices s fun b s => s.log 0x1013 (srcOe n) (4 * b.1.val + b.2.val)
  let slices := s.nv.oeSlices.filter (fun e => e.1 / 8 != n && e.1 != 96 + n)
    ++ r.badSlices.map fun b => (8 * n + b.1.val, b.2.val)
  let s := { s with nv := { s.nv with oeSlices := slices } }
  (upTo 18 s fun i s => s.trainReceiver (264 + 18 * n + i)).lightLasers n

/-- One more fiber is settled; one in service joins the list. -/
def settleNext (n : Nat) (r : OeChecks) (a : State × List Nat) (f : Nat) : State × List Nat :=
  let x := a.1.settleFiber n r f
  (x.1, if x.2 then a.2 ++ [f] else a.2)

theorem settleNext_fst (n : Nat) (r : OeChecks) (a : State × List Nat) (f : Nat) :
    (settleNext n r a f).1 = (a.1.settleFiber n r f).1 := rfl

theorem settleNext_snd (n : Nat) (r : OeChecks) (a : State × List Nat) (f : Nat) :
    (settleNext n r a f).2 = if (a.1.settleFiber n r f).2 then a.2 ++ [f] else a.2 := by
  dsimp only [settleNext]

/-- The mask of some fibers of an OE. -/
def fiberMask (l : List Nat) : Nat := (l.map fun f => 2 ^ f).sum

/-- An OE is admitted with some fibers. -/
def State.admitOe (s : State) (n : Nat) (l : List Nat) : State :=
  let s := upTo 8 s fun f s =>
    if l.contains f then s else (s.modFiber (8 * n + f) fun x => { x with inService := false }).restFiber (8 * n + f)
  ((s.setNum 0x100C (n + 1) (fiberMask l * 2 ^ 8 + 2 ^ 4)).setNum 0x1004 0 0x5003).modOe n fun o =>
    { o with vlOn := true, admitted := true, fibers := BitVec.ofNat 8 (fiberMask l), fail := 0
             requalPending := false, requalifying := false }

/-- An OE whose first checks fail is rejected. -/
theorem qualify_failed {n : Nat} {r : OeChecks} {c : BitVec 64} (h : oeFail r c ≠ 0) :
    s.qualify n r c = (s.noteOe n r).rejectOe n (oeFail r c) := if_pos h

/-- Else it is admitted with the fibers that check out, or rejected where there is none. -/
theorem qualify_passed {n : Nat} {r : OeChecks} {c : BitVec 64} (h : oeFail r c = 0) :
    s.qualify n r c =
      let p := (fibersAfterLoopback r).foldl (settleNext n r) ((s.noteOe n r).lightOe n r, [])
      if fiberMask p.2 = 0 then p.1.rejectOe n 5 else p.1.admitOe n p.2 := if_neg (not_not.mpr h)

@[simp] theorem wiring_noteOe (n : Nat) (r : OeChecks) : (s.noteOe n r).wiring = s.wiring := rfl

@[simp] theorem base_lightLasers (n : Nat) : (s.lightLasers n).base = s.base :=
  upTo_keeps State.base fun _ _ _ => base_of_wiring (wiring_modLaser _ _ _)

@[simp] theorem base_lightOe (n : Nat) (r : OeChecks) : (s.lightOe n r).base = s.base := by
  unfold State.lightOe
  rw [base_lightLasers]
  refine (upTo_keeps State.base fun i _ u => base_of_optics (optics_trainReceiver _)).trans ?_
  exact forEach_keeps State.base (l := r.badSlices) fun b _ u => rfl

theorem base_settleNext (n : Nat) (r : OeChecks) (l : List Nat) (a : State × List Nat) :
    (l.foldl (settleNext n r) a).1.base = a.1.base := by
  induction l generalizing a with
  | nil => rfl
  | cons f l ih => rw [List.foldl_cons, ih, settleNext_fst, base_settleFiber]

@[simp] theorem base_admitOe (n : Fin 12) (l : List Nat) : (s.admitOe n l).base = s.base := by
  unfold State.admitOe
  rw [base_of_wiring (wiring_modOe _ _)]
  have ne (i : Nat) (hi : i = 0x1007 ∨ i = 0x1008) : objKey i 0 ≠ objKey 0x1004 0 := by unfold objKey; omega
  have stepping (u : State) : (u.setNum 0x1004 0 0x5003).base = u.base := by
    simp only [State.base, State.stage, State.num_setNum, if_neg (ne _ (.inl rfl)), if_neg (ne _ (.inr rfl))]
    rfl
  rw [stepping, base_setReport]
  refine upTo_keeps State.base fun f _ u => ?_
  split
  · rfl
  · rw [base_of_optics (optics_restFiber _), base_modFiber]

/-- Qualification changes neither memory nor the stage, whatever the checks find. -/
theorem base_qualify (n : Fin 12) (r : OeChecks) (c : BitVec 64) : (s.qualify n r c).base = s.base := by
  by_cases h : oeFail r c = 0
  · rw [qualify_passed h]
    have settled := base_settleNext n r (fibersAfterLoopback r) ((s.noteOe n r).lightOe n r, [])
    dsimp only at settled ⊢
    rw [base_lightOe, base_of_wiring (wiring_noteOe _ _)] at settled
    split
    · rw [base_rejectOe, settled]
    · rw [base_admitOe, settled]
  · rw [qualify_failed h, base_rejectOe, base_of_wiring (wiring_noteOe _ _)]

/-- Nothing on record keeps a laser dark or a lane off its own line. -/
structure State.Unmarked (s : State) : Prop where
  failed : s.nv.failedLasers = []
  faded : s.nv.fadedLasers = []
  maps : s.nv.txMaps = []
  lit : s.boot.lasersOff = false

theorem State.Unmarked.congr (h : s.Unmarked) (e : t.base = s.base) : t.Unmarked where
  failed := (failedLasers_of_base e).trans h.failed
  faded := (fadedLasers_of_base e).trans h.faded
  maps := (txMaps_of_base e).trans h.maps
  lit := (congrArg BootSt.lasersOff (boot_of_base e)).trans h.lit

/-- All lasers of an OE without marks are lit. -/
theorem sledLit_lightLasers (n : Nat) (h : s.Unmarked) : (s.lightLasers n).sledLit n := by
  unfold State.lightLasers State.sledLit
  refine upTo_each (Q := State.Unmarked) (P := fun line u => (u.laser n line).state < 2) h
    (fun line _ u hu => ⟨hu.congr (base_of_wiring (wiring_modLaser _ _ _)), ?_⟩) fun line _ other _ u hu ho => ?_
  · simp [State.laser_modLaser, hu.failed, hu.faded, hu.lit]
  · rw [State.laser_modLaser]
    split
    · simp [hu.failed, hu.faded, hu.lit]
    · exact ho

/-- Settling fibers on an OE whose parts all work brings every one of them into service. -/
theorem settleNext_ok {n : Nat} {r : OeChecks} (ht : r.badTx = []) (hr : r.badRx = []) (l : List Nat) (a : State × List Nat)
    (hl : a.1.sledLit n) (hm : a.1.nv.txMaps = []) :
    (l.foldl (settleNext n r) a).2 = a.2 ++ l ∧ ∀ f, f ∈ l ∨ (a.1.fiber (8 * n + f)).inService = true →
      ((l.foldl (settleNext n r) a).1.fiber (8 * n + f)).inService = true := by
  induction l generalizing a with
  | nil => simp
  | cons g l ih =>
    have ok := settleFiber_ok g hl hm ht hr
    have lit : (settleNext n r a g).1.sledLit n := fun line h => by
      unfold State.laser; rw [settleNext_fst, lasers_settleFiber]; exact hl line h
    have map : (settleNext n r a g).1.nv.txMaps = [] := by
      rw [settleNext_fst, txMaps_of_base (base_settleFiber n r g), hm]
    obtain ⟨list, served⟩ := ih (settleNext n r a g) lit map
    have joined : (settleNext n r a g).2 = a.2 ++ [g] := by rw [settleNext_snd, if_pos ok]
    rw [List.foldl_cons]
    refine ⟨by rw [list, joined]; simp, fun f hf => served f ?_⟩
    have now : ((settleNext n r a g).1.fiber (8 * n + f)).inService
        = if 8 * n + f = 8 * n + g then true else (a.1.fiber (8 * n + f)).inService := by
      rw [settleNext_fst, inService_settleFiber, ok]
    rw [now]
    by_cases e : f = g
    · simp [e]
    · simpa [e] using hf

/-- An OE admitted with its eight fibers leaves them as they are. -/
theorem admitOe_all (n : Fin 12) : ((s.admitOe n (List.range 8)).oe n).admitted = true
    ∧ (s.admitOe n (List.range 8)).num 0x100C (n + 1) = 0xFF10 ∧ (s.admitOe n (List.range 8)).fibers = s.fibers := by
  have noneOut (u : State) : (upTo 8 u fun f s => if (List.range 8).contains f then s
      else (s.modFiber (8 * n + f) fun x => { x with inService := false }).restFiber (8 * n + f)) = u :=
    upTo_id fun f hf => by simp [hf]
  have mask : fiberMask (List.range 8) = 255 := by decide
  have ne : objKey 0x100C (n + 1) ≠ objKey 0x1004 0 := by unfold objKey; omega
  rw [State.admitOe, noneOut, mask]
  refine ⟨by simp [State.oe_modOe], ?_, rfl⟩
  rw [num_modOe, State.num_setNum, if_neg ne, State.num_setNum_same]
  norm_num

/-- An OE whose checks all pass is admitted with its eight fibers. -/
theorem qualify_admits {n : Fin 12} {r : OeChecks} {c : BitVec 64} (h : oeFail r c = 0) (hs : r.badSlices = [])
    (ht : r.badTx = []) (hr : r.badRx = []) (hu : s.Unmarked) :
    ((s.qualify n r c).oe n).admitted = true ∧ (s.qualify n r c).num 0x100C (n + 1) = 0xFF10
      ∧ ∀ f, f < 8 → ((s.qualify n r c).fiber (8 * n + f)).inService = true := by
  have unmarked : ((s.noteOe n r).lightOe n r).Unmarked := hu.congr (base_lightOe _ _)
  have lit : ((s.noteOe n r).lightOe n r).sledLit n :=
    sledLit_lightLasers n (hu.congr ((base_lightLasers _).symm.trans (base_lightOe _ _)))
  have all : fibersAfterLoopback r = List.range 8 := by simp [fibersAfterLoopback, hs]
  obtain ⟨list, served⟩ := settleNext_ok ht hr (List.range 8) ((s.noteOe n r).lightOe n r, []) lit unmarked.maps
  rw [List.nil_append] at list
  rw [qualify_passed h, all]
  generalize (List.range 8).foldl (settleNext n r) ((s.noteOe n r).lightOe n r, []) = p at list served
  dsimp only
  rw [list, if_neg (by decide)]
  obtain ⟨admitted, report, fibers⟩ := admitOe_all (s := p.1) n
  refine ⟨admitted, report, fun f hf => ?_⟩
  unfold State.fiber
  rw [fibers]
  exact served f (.inl (List.mem_range.mpr hf))

/-! ## Stages and halts -/

/-- An object other than the one written. -/
theorem num_setObj_ne {i j k l : Nat} {v : Value} (h : objKey k l ≠ objKey i j) : (s.setObj i j v).num k l = s.num k l := by
  unfold State.num; rw [State.obj_setObj, if_neg h]

theorem num_setNum_ne {i j k l n : Nat} (h : objKey k l ≠ objKey i j) : (s.setNum i j n).num k l = s.num k l :=
  num_setObj_ne h

/-- The identity record is no other object. -/
theorem num_noteIdentity {k l : Nat} (h : objKey k l ≠ objKey 0x0F40 0) : s.noteIdentity.num k l = s.num k l :=
  num_setObj_ne h

theorem num_boot (b : BootSt) (i j : Nat) : { s with boot := b }.num i j = s.num i j := rfl
theorem num_raiseAlert (m i j : Nat) : (s.raiseAlert m).num i j = s.num i j := rfl
theorem num_log (c a d i j : Nat) : (s.log c a d).num i j = s.num i j := rfl

@[simp] theorem stage_toStage (n : Nat) : (s.toStage n).stage = n := by
  unfold State.toStage State.stage
  rw [num_noteIdentity (by decide), State.num_setNum_same]

theorem num_toStage {k l n : Nat} (h : objKey k l ≠ objKey 0x1007 0) (h' : objKey k l ≠ objKey 0x0F40 0) :
    (s.toStage n).num k l = s.num k l := by
  unfold State.toStage
  rw [num_noteIdentity h', num_setNum_ne h]

@[simp] theorem toStage_mem (n : Nat) : (s.toStage n).mem = s.mem := rfl
@[simp] theorem toStage_boot (n : Nat) : (s.toStage n).boot = s.boot := rfl
@[simp] theorem toStage_tile (n k : Nat) : (s.toStage n).tile k = s.tile k := rfl

theorem channelBad_toStage (n k c : Nat) : (s.toStage n).channelBad k c = s.channelBad k c := by
  unfold State.channelBad
  rw [num_toStage (by unfold objKey; omega) (by unfold objKey; omega)]

theorem stage_of_inStage {n : Nat} (h : s.inStage n = true) : s.stage = n := by
  simp only [State.inStage, Bool.and_eq_true, beq_iff_eq] at h
  exact h.1.2

/-- A halt keeps the stage and reports its cause and detail. -/
theorem halt_spec (cause detail : Nat) : (s.halt cause detail).boot.halted = true ∧ (s.halt cause detail).stage = s.stage
    ∧ (s.halt cause detail).num 0x1009 0 = s.stage * 2 ^ 24 + cause * 2 ^ 16 + detail % 2 ^ 16 := by
  unfold State.halt State.setResult
  refine ⟨rfl, ?_, ?_⟩
  · unfold State.stage
    rw [num_noteIdentity (by decide), num_boot, num_raiseAlert, num_setNum_ne (by decide), num_log]
  · rw [num_noteIdentity (by decide), num_boot, num_raiseAlert, State.num_setNum_same]

/-! ## Stage 4, one OE after another -/

/-- Stage 4 goes on to the next OE, and after the last to stage 5. -/
def State.oeDone (s : State) (n : Nat) : State :=
  let s := { s with boot := { s.boot with nextOe := n + 1 } }
  if n = 11 then s.toStage 5 else s

theorem oeDone_boot (n : Nat) : (s.oeDone n).boot = { s.boot with nextOe := n + 1 } := by
  unfold State.oeDone; dsimp only; split <;> rfl

theorem oeDone_mem (n : Nat) : (s.oeDone n).mem = s.mem := by
  unfold State.oeDone; dsimp only; split <;> rfl

theorem oeDone_oe (n m : Nat) : (s.oeDone n).oe m = s.oe m := by
  unfold State.oeDone; dsimp only; split <;> rfl

theorem oeDone_fiber (n f : Nat) : (s.oeDone n).fiber f = s.fiber f := by
  unfold State.oeDone; dsimp only; split <;> rfl

theorem oeDone_stage (n : Nat) : (s.oeDone n).stage = if n = 11 then 5 else s.stage := by
  unfold State.oeDone
  dsimp only
  split
  · exact stage_toStage 5
  · rfl

theorem oeDone_report (n : Nat) (m : Fin 12) : (s.oeDone n).num 0x100C (m + 1) = s.num 0x100C (m + 1) := by
  unfold State.oeDone
  dsimp only
  split
  · exact num_toStage (by unfold objKey; omega) (by unfold objKey; omega)
  · rfl

/-- What stage 4 makes of its next OE. -/
theorem exec_nextOe {n : Fin 12} {r : OeChecks} (h : s.inStage 4 = true) (hn : s.boot.nextOe = n.val) :
    exec (.oeQualification n r) s
      = .next ((if (s.oe n).withdrawn then s.rejectOe n 0 else s.qualify n r 1).oeDone n) := by
  rw [exec_oeQualification]
  unfold execOeQualification State.oeDone
  simp only [h, hn, bne_self_eq_false, Bool.not_true, Bool.or_self, Bool.false_eq_true, if_false]

/-- The next OE is admitted or refused by its checks, and memory and stage stay. -/
theorem oeQualification_qualifies {n : Fin 12} {r : OeChecks} (h : s.inStage 4 = true) (hn : s.boot.nextOe = n.val) :
    Done (.oeQualification n r) s fun t =>
      t.boot.nextOe = n + 1 ∧ t.stage = (if n.val = 11 then 5 else 4) ∧ t.mem = s.mem
      ∧ ((s.oe n).withdrawn = false → oeFail r 1 ≠ 0 → t.num 0x100C (n + 1) = oeFail r 1 ∧ (t.oe n).admitted = false)
      ∧ ((s.oe n).withdrawn = false → oeFail r 1 = 0 → r.badSlices = [] → r.badTx = [] → r.badRx = [] →
        s.nv.failedLasers = [] → s.nv.fadedLasers = [] → s.nv.txMaps = [] → s.boot.lasersOff = false →
        (t.oe n).admitted = true ∧ t.num 0x100C (n + 1) = 0xFF10
          ∧ ∀ f, f < 8 → (t.fiber (8 * n + f)).inService = true) := by
  refine ⟨_, exec_nextOe h hn, ?_⟩
  have base : (if (s.oe n).withdrawn then s.rejectOe n 0 else s.qualify n r 1).base = s.base := by
    split
    · exact base_rejectOe n 0
    · exact base_qualify n r 1
  refine ⟨by rw [oeDone_boot], ?_, by rw [oeDone_mem, mem_of_base base], fun hw hf => ?_,
    fun hw hf hs ht hr failed faded maps lit => ?_⟩
  · rw [oeDone_stage, stage_of_base base, stage_of_inStage h]
  · rw [oeDone_report, oeDone_oe, hw, if_neg Bool.false_ne_true, qualify_failed hf]
    exact ⟨report_rejectOe n _, admitted_rejectOe _ _⟩
  · simp only [oeDone_report, oeDone_oe, oeDone_fiber, hw, if_neg Bool.false_ne_true]
    exact qualify_admits hf hs ht hr ⟨failed, faded, maps, lit⟩

/-! ## Re-qualification (R339) -/

/-- An OE before it is qualified again: its links down, its rails off. -/
def State.restOe (s : State) (n : Nat) : State := (forEach (oeFibers n) s fun f s => s.linkDown f).unpowerOe n

@[simp] theorem wiring_restOe (n : Nat) : (s.restOe n).wiring = s.wiring :=
  (wiring_unpowerOe n).trans (wiring_of_optics (forEach_keeps State.optics fun f _ _ => optics_linkDown f))

/-- A re-qualification asks for the common capabilities. -/
theorem requalify_eq (n : Nat) (r : OeChecks) :
    s.requalify n r = (s.restOe n).qualify n r (BitVec.ofNat 64 (s.num 0x1008 0)) := by
  have common := common_of_base (base_of_optics (forEach_keeps (s := s) (l := oeFibers n) State.optics
    fun f _ _ => optics_linkDown f))
  unfold State.requalify State.restOe
  dsimp only
  rw [common]

theorem exec_requalify_ready {n : Fin 12} {r : OeChecks} (hw : (s.oe n).withdrawn = false) (h : s.ready = true) :
    exec (.oeRequalification n r) s
      = .next ((s.restOe n).qualify n r (BitVec.ofNat 64 (s.num 0x1008 0))) := by
  rw [exec_oeRequalification, ← requalify_eq]
  simp [execOeRequalification, hw, h]

/-- A withdrawn OE is not qualified again. -/
theorem exec_requalify_withdrawn {n : Fin 12} {r : OeChecks} (hw : (s.oe n).withdrawn = true) :
    exec (.oeRequalification n r) s = .next s := by
  simp [execOeRequalification, hw]

/-- Before Ready a re-qualification waits. -/
theorem exec_requalify_waits {n : Fin 12} {r : OeChecks} (hw : (s.oe n).withdrawn = false) (h : s.ready = false)
    (hn : ∀ e ∈ s.boot.waitOes, e.1 ≠ n.val) : exec (.oeRequalification n r) s
      = .next { s with boot := { s.boot with waitOes := s.boot.waitOes ++ [(n.val, r)] } } := by
  have none : (s.boot.waitOes.any fun e => e.1 == n.val) = false := by simpa using fun a b hb => hn (a, b) hb
  simp [execOeRequalification, hw, h, none]

/-- An OE whose first checks fail again is refused with its fibers. -/
theorem requalify_refuses {n : Fin 12} {r : OeChecks} (hw : (s.oe n).withdrawn = false) (h : s.ready = true)
    (hf : oeFail r (BitVec.ofNat 64 (s.num 0x1008 0)) ≠ 0) : Done (.oeRequalification n r) s fun t =>
      t.num 0x100C (n + 1) = oeFail r (BitVec.ofNat 64 (s.num 0x1008 0)) ∧ (t.oe n).admitted = false
        ∧ ∀ f ∈ oeFibers n, (t.fiber f).inService = false := by
  refine ⟨_, exec_requalify_ready hw h, ?_⟩
  rw [qualify_failed hf]
  exact ⟨report_rejectOe n _, admitted_rejectOe _ _, inService_rejectOe _ _⟩

/-- One whose checks all pass is admitted. -/
theorem requalify_admits {n : Fin 12} {r : OeChecks} (hw : (s.oe n).withdrawn = false) (h : s.ready = true)
    (hf : oeFail r (BitVec.ofNat 64 (s.num 0x1008 0)) = 0) (hs : r.badSlices = []) (ht : r.badTx = []) (hr : r.badRx = [])
    (hu : s.Unmarked) : Done (.oeRequalification n r) s fun t => (t.oe n).admitted = true
      ∧ t.num 0x100C (n + 1) = 0xFF10 ∧ ∀ f, f < 8 → (t.fiber (8 * n + f)).inService = true :=
  ⟨_, exec_requalify_ready hw h, qualify_admits hf hs ht hr (hu.congr (base_of_wiring (wiring_restOe _)))⟩

/-! ## What work on other tiles leaves of a tile -/

/-- The domains of a tile, its restart and its launch delay. -/
def Tile.power (x : Tile) : Bool × Bool × Option TileChecks × Nat := (x.tileOn, x.flockOn, x.restart, x.launchDelay)

/-- Memory, the fences on record, whether VM is on, and the power of some tiles. -/
def State.domains (s : State) (ks : List (Fin 64)) :
    Tab Byte × List (Nat × Nat) × Bool × List (Bool × Bool × Option TileChecks × Nat) :=
  (s.mem, s.nv.fences, s.boot.vmOn, ks.map fun k : Fin 64 => (s.tile k).power)

/-- The keys of the objects of bring-up and of some tiles: straps, fenced pens, failed channels. -/
def watched (ks : List (Fin 64)) : List Nat :=
  [objKey 0x1007 0, objKey 0x1008 0]
    ++ ks.flatMap fun k : Fin 64 => [objKey 0x7002 (k + 1), objKey 0x7050 (k + 1), objKey 0xA002 (k + 1)]

/-- The domains and the objects watched. -/
def State.facts (s : State) (ks : List (Fin 64)) :
    (Tab Byte × List (Nat × Nat) × Bool × List (Bool × Bool × Option TileChecks × Nat)) × List Value :=
  (s.domains ks, (watched ks).map (tabGet objDefault s.objs))

variable {ks : List (Fin 64)}

theorem domains_of_facts (h : t.facts ks = s.facts ks) : t.domains ks = s.domains ks := congrArg Prod.fst h
theorem mem_of_domains (h : t.domains ks = s.domains ks) : t.mem = s.mem := congrArg (·.1) h
theorem fences_of_domains (h : t.domains ks = s.domains ks) : t.nv.fences = s.nv.fences := congrArg (·.2.1) h
theorem vmOn_of_domains (h : t.domains ks = s.domains ks) : t.boot.vmOn = s.boot.vmOn := congrArg (·.2.2.1) h

theorem power_of_domains (h : t.domains ks = s.domains ks) {k : Fin 64} (hk : k ∈ ks) :
    (t.tile k).power = (s.tile k).power := List.map_inj_left.mp (congrArg (·.2.2.2) h) k hk

theorem power_eq_iff {x : Tile} {on flock : Bool} {restart : Option TileChecks} {delay : Nat} :
    x.power = (on, flock, restart, delay)
      ↔ x.tileOn = on ∧ x.flockOn = flock ∧ x.restart = restart ∧ x.launchDelay = delay := by
  simp [Tile.power]

theorem tileOn_of_domains (h : t.domains ks = s.domains ks) {k : Fin 64} (hk : k ∈ ks) :
    (t.tile k).tileOn = (s.tile k).tileOn := (power_eq_iff.mp (power_of_domains h hk)).1

theorem flockOn_of_domains (h : t.domains ks = s.domains ks) {k : Fin 64} (hk : k ∈ ks) :
    (t.tile k).flockOn = (s.tile k).flockOn := (power_eq_iff.mp (power_of_domains h hk)).2.1

theorem restart_of_domains (h : t.domains ks = s.domains ks) {k : Fin 64} (hk : k ∈ ks) :
    (t.tile k).restart = (s.tile k).restart := (power_eq_iff.mp (power_of_domains h hk)).2.2.1

theorem num_of_watched (h : t.facts ks = s.facts ks) {i j : Nat} (hk : objKey i j ∈ watched ks) : t.num i j = s.num i j := by
  have e : t.obj i j = s.obj i j := List.map_inj_left.mp (congrArg Prod.snd h) (objKey i j) hk
  unfold State.num; rw [e]

theorem common_of_facts (h : t.facts ks = s.facts ks) : t.num 0x1008 0 = s.num 0x1008 0 :=
  num_of_watched h (by simp [watched])

theorem strap_of_facts (h : t.facts ks = s.facts ks) {k : Fin 64} (hk : k ∈ ks) :
    t.num 0x7002 (k + 1) = s.num 0x7002 (k + 1) :=
  num_of_watched h (List.mem_append_right _ (List.mem_flatMap.mpr ⟨k, hk, by simp⟩))

theorem fenced_of_facts (h : t.facts ks = s.facts ks) {k : Fin 64} (hk : k ∈ ks) :
    t.num 0x7050 (k + 1) = s.num 0x7050 (k + 1) :=
  num_of_watched h (List.mem_append_right _ (List.mem_flatMap.mpr ⟨k, hk, by simp⟩))

theorem channelBad_of_facts (h : t.facts ks = s.facts ks) {k : Fin 64} (hk : k ∈ ks) (c : Nat) :
    t.channelBad k c = s.channelBad k c :=
  congrArg (·.testBit c) (num_of_watched h (List.mem_append_right _ (List.mem_flatMap.mpr ⟨k, hk, by simp⟩)))

/-! ## Writes -/

@[simp] theorem domains_setNum (i j n : Nat) : (s.setNum i j n).domains ks = s.domains ks := rfl

theorem facts_setObj_of_not_watched {i j : Nat} {v : Value} (h : objKey i j ∉ watched ks) :
    (s.setObj i j v).facts ks = s.facts ks := by
  have e : (watched ks).map (tabGet objDefault (s.setObj i j v).objs) = (watched ks).map (tabGet objDefault s.objs) :=
    List.map_congr_left fun a ha => tabGet_tabSet_ne _ _ _ fun e => h (e ▸ ha)
  unfold State.facts; rw [e]; rfl

/-- The objects that are not watched for any tile. -/
theorem facts_setObj {i j : Nat} {v : Value} (hj : j < 256) (hi : i ∉ [0x1007, 0x1008, 0x7002, 0x7050, 0xA002]) :
    (s.setObj i j v).facts ks = s.facts ks := by
  refine facts_setObj_of_not_watched fun h => ?_
  simp only [List.mem_cons, List.not_mem_nil, or_false, not_or] at hi
  simp only [watched, List.mem_append, List.mem_cons, List.not_mem_nil, or_false, List.mem_flatMap, objKey] at h
  obtain h | ⟨k, -, h⟩ := h <;> omega

theorem facts_setNum {i j n : Nat} (hj : j < 256) (hi : i ∉ [0x1007, 0x1008, 0x7002, 0x7050, 0xA002]) :
    (s.setNum i j n).facts ks = s.facts ks := facts_setObj hj hi

/-- An object of another tile. -/
theorem facts_setNum_other {i u n : Nat} (hu : u < 64) (hk : ∀ k ∈ ks, k.val ≠ u) :
    (s.setNum i (u + 1) n).facts ks = s.facts ks := by
  refine facts_setObj_of_not_watched fun h => ?_
  simp only [watched, List.mem_append, List.mem_cons, List.not_mem_nil, or_false, List.mem_flatMap, objKey] at h
  obtain h | ⟨k, hm, h⟩ := h
  · omega
  · have := hk k hm
    omega

@[simp] theorem facts_log (c a d : Nat) : (s.log c a d).facts ks = s.facts ks := rfl
@[simp] theorem facts_modPen (p : Nat) (f : Pen → Pen) : (s.modPen p f).facts ks = s.facts ks := rfl

/-- The power of a tile whose power no change touches. -/
theorem power_modTile {u : Nat} {f : Tile → Tile} (h : ∀ x, (f x).power = x.power) (k : Nat) :
    ((s.modTile u f).tile k).power = (s.tile k).power := by
  rw [State.tile_modTile]
  split
  · next e => rw [h, e]
  · rfl

@[simp] theorem facts_modTile {u : Nat} {f : Tile → Tile} (h : ∀ x, (f x).power = x.power) :
    (s.modTile u f).facts ks = s.facts ks := by
  unfold State.facts State.domains
  simp only [power_modTile h]
  rfl

/-- A change of another tile. -/
theorem facts_modTile_other {u : Nat} (hk : ∀ k ∈ ks, k.val ≠ u) (f : Tile → Tile) :
    (s.modTile u f).facts ks = s.facts ks := by
  have e : (ks.map fun k : Fin 64 => ((s.modTile u f).tile k).power) = ks.map fun k : Fin 64 => (s.tile k).power :=
    List.map_congr_left fun k h => by rw [State.tile_modTile, if_neg (hk k h)]
  unfold State.facts State.domains
  rw [e]
  rfl

/-! ## Jobs, spill regions, tallies and channels -/

@[simp] theorem facts_withhold (u : Nat) (l : List Nat) : (s.withhold u l).facts ks = s.facts ks :=
  facts_modTile fun _ => rfl

theorem power_append (x : Tile) (i : Nat) (j : Job) : (x.append i j).power = x.power := by
  unfold Tile.append; dsimp only; split <;> rfl

@[simp] theorem facts_placeElsewhere (u : Nat) (j : Job) : (s.placeElsewhere u j).facts ks = s.facts ks := by
  unfold State.placeElsewhere
  split
  · exact facts_withhold _ _
  · split
    · exact facts_modTile fun x => power_append x _ _
    · split
      · rfl
      · exact facts_withhold _ _

@[simp] theorem facts_placeReady (u : Nat) (j : Job) : (s.placeReady u j).facts ks = s.facts ks := by
  unfold State.placeReady
  split
  · exact facts_modTile fun x => power_append x _ _
  · exact facts_placeElsewhere _ _

/-- Entering direct mode changes no tile and no object. -/
@[simp] theorem facts_enterDirect (f : Nat) : (s.enterDirect f).facts ks = s.facts ks := by
  unfold State.enterDirect; split <;> rfl

theorem tiles_enterDirect (f : Nat) : (s.enterDirect f).tiles = s.tiles := by
  unfold State.enterDirect; split <;> rfl

theorem objs_enterDirect (f : Nat) : (s.enterDirect f).objs = s.objs := by
  unfold State.enterDirect; split <;> rfl

/-- What direct mode leaves alone, the loss of spill regions leaves alone. -/
theorem loseSpill_keeps {β : Type} (g : State → β) (h : ∀ f u, g (State.enterDirect u f) = g u) (l : Nat → Bool) :
    g (s.loseSpill l) = g s := by
  unfold State.loseSpill
  refine upTo_keeps g fun f _ u => ?_
  split
  · exact h f u
  · rfl

@[simp] theorem facts_loseSpill (l : Nat → Bool) : (s.loseSpill l).facts ks = s.facts ks :=
  loseSpill_keeps (fun u => u.facts ks) (fun f _ => facts_enterDirect f) l

@[simp] theorem tiles_loseSpill (l : Nat → Bool) : (s.loseSpill l).tiles = s.tiles :=
  loseSpill_keeps State.tiles (fun f _ => tiles_enterDirect f) l

@[simp] theorem objs_loseSpill (l : Nat → Bool) : (s.loseSpill l).objs = s.objs :=
  loseSpill_keeps State.objs (fun f _ => objs_enterDirect f) l

@[simp] theorem facts_loseTally (u : Nat) : (s.loseTally u).facts ks = s.facts ks := by
  unfold State.loseTally State.noteUnits
  dsimp only
  split
  · rfl
  · exact facts_setNum (by decide) (by decide)

/-- A failed channel changes no domain. -/
@[simp] theorem domains_failChannel (u c : Nat) : (s.failChannel u c).domains ks = s.domains ks := by
  unfold State.failChannel
  split
  · rfl
  · dsimp only
    rw [domains_of_facts (facts_loseSpill _), domains_of_facts (facts_modTile (by intro; rfl)), domains_setNum,
      domains_setNum, domains_of_facts (facts_log ..)]

/-- A failed channel of another tile changes nothing watched. -/
theorem facts_failChannel {u : Nat} (hu : u < 64) (hk : ∀ k ∈ ks, k.val ≠ u) (c : Nat) :
    (s.failChannel u c).facts ks = s.facts ks := by
  unfold State.failChannel
  dsimp only
  split
  · rfl
  · rw [facts_loseSpill, facts_modTile fun _ => by rfl, facts_setNum (by omega) (by decide),
      facts_setNum_other hu hk, facts_log]

/-! ## Domains that go off (R353, R360) -/

/-- A flock that goes off leaves the other tiles alone. -/
theorem facts_flockOff {u : Nat} (hu : u < 64) (hk : ∀ k ∈ ks, k.val ≠ u) : (s.flockOff u).facts ks = s.facts ks := by
  unfold State.flockOff
  dsimp only
  split
  · rfl
  refine (upTo_keeps (fun v : State => v.facts ks) fun d _ v => ?_).trans ?_
  · refine (forEach_keeps (fun v : State => v.facts ks) fun e _ w => facts_placeReady d e.2).trans ?_
    exact facts_modTile fun _ => rfl
  · unfold State.setBlob
    rw [facts_setNum (by omega) (by decide), facts_setNum (by omega) (by decide), facts_setObj (by omega) (by decide),
      facts_modTile_other hk]
    refine (upTo_keeps (fun v : State => v.facts ks) fun i _ v => facts_modPen _ _).trans ?_
    rw [facts_withhold, facts_log]

theorem domains_failChannels (u : Nat) (n : Nat) : (upTo n s fun c s => s.failChannel u c).domains ks = s.domains ks :=
  upTo_keeps (fun v : State => v.domains ks) fun c _ _ => domains_failChannel u c

/-- A tile that goes off leaves the other tiles alone. -/
theorem facts_tileOffOnly {u : Nat} (hu : u < 64) (hk : ∀ k ∈ ks, k.val ≠ u) :
    (s.tileOffOnly u).facts ks = s.facts ks := by
  unfold State.tileOffOnly
  dsimp only
  split
  · rfl
  rw [facts_loseTally, facts_loseTally]
  refine (upTo_keeps (fun v : State => v.facts ks) fun c _ v => facts_failChannel hu hk c).trans ?_
  rw [facts_modTile_other hk, facts_log, facts_flockOff hu hk]

/-- Afterwards the tile itself is off. -/
theorem tileOn_tileOffOnly (k : Fin 64) : ((s.tileOffOnly k).tile k).tileOn = false := by
  unfold State.tileOffOnly
  dsimp only
  split
  · next h => simpa using h
  · have off (v : State) : ((v.modTile k fun x => { x with tileOn := false, selfRefresh := true, staging := [] }).tile
        k).tileOn = false := by rw [State.tile_modTile_same]
    have mem : k ∈ [k] := List.mem_singleton_self k
    rw [tileOn_of_domains (domains_of_facts (facts_loseTally _)) mem,
      tileOn_of_domains (domains_of_facts (facts_loseTally _)) mem, tileOn_of_domains (domains_failChannels _ _) mem, off]

/-- New routes leave alone the tiles that are off or can be reached. -/
theorem facts_reroute (h : ∀ k ∈ ks, (s.tile k).tileOn = false ∨ (s.reachable 63).contains k.val = true) :
    s.reroute.facts ks = s.facts ks := by
  have switched : (upTo 64 s fun t u => if (u.tile t).tileOn && !(s.reachable 63).contains t then u.tileOffOnly t else u).facts ks
      = s.facts ks := by
    refine upTo_induct (Q := fun u => u.facts ks = s.facts ks) rfl fun i hi u hu => ?_
    split
    · next cut =>
      refine (facts_tileOffOnly hi fun k hk e => ?_).trans hu
      obtain off | ok := h k hk
      · rw [← tileOn_of_domains (domains_of_facts hu) hk, e] at off
        simp [off] at cut
      · rw [← e, ok] at cut
        simp at cut
    · exact hu
  have cutOff (u : State) : u.cutOff.facts ks = u.facts ks := by
    unfold State.cutOff; split <;> rfl
  unfold State.reroute
  dsimp only
  split
  · rw [facts_loseSpill, switched]
  · rw [cutOff, facts_loseSpill, switched]

/-- A tile that is switched off: it alone changes. -/
theorem tileOff_spec (k : Fin 64) : ((s.tileOff k).tile k).tileOn = false ∧ (s.tileOff k).mem = s.mem := by
  unfold State.tileOff
  split
  · have off := tileOn_tileOffOnly (s := s) k
    have kept := domains_of_facts (facts_reroute (s := s.tileOffOnly k) (ks := [k]) fun j hj => by
      rw [List.mem_singleton.mp hj]; exact .inl off)
    have others := mem_of_domains (domains_of_facts (facts_tileOffOnly (s := s) (ks := []) k.isLt (by simp)))
    exact ⟨(tileOn_of_domains kept (List.mem_singleton_self k)).trans off, (mem_of_domains kept).trans others⟩
  · next h => exact ⟨by simpa using h, rfl⟩

/-! ## Gateways (R353) -/

/-- Whether a gateway is in service depends on its slices and its tile. -/
theorem gatewayUp_iff (y : Nat) : s.gatewayUp y = true ↔ portAlive (s.gatewaySlices y) = true
    ∧ (s.tile (8 * y + 7)).tileOn = true := by
  have port : isGateway (8 * y + 7) 1 = true := by simp [isGateway]
  have row : (8 * y + 7) / 8 = y := by omega
  unfold State.gatewayUp State.portCond
  rw [if_pos port, row, Bool.and_eq_true]
  cases portAlive (s.gatewaySlices y) <;> simp

theorem gatewayUp_congr (ho : t.num 0x7052 0 = s.num 0x7052 0) (ht : ∀ k, (t.tile k).tileOn = (s.tile k).tileOn)
    (y : Nat) : t.gatewayUp y = s.gatewayUp y := by
  rw [Bool.eq_iff_iff, gatewayUp_iff, gatewayUp_iff]
  unfold State.gatewaySlices
  rw [ho, ht]

/-- A gateway's tile is reached from the start. -/
theorem reachable_of_gatewayUp {k : Fin 64} (hk : k.val % 8 = 7) (h : s.gatewayUp (k / 8) = true) (n : Nat) :
    (s.reachable n).contains k.val = true := by
  induction n with
  | zero =>
    simp only [State.reachable, List.contains_iff_mem, List.mem_map, List.mem_filter, List.mem_range]
    exact ⟨k / 8, ⟨by omega, h⟩, by omega⟩
  | succ n ih =>
    simp only [State.reachable, List.contains_iff_mem, List.mem_append] at ih ⊢
    exact .inl ih

/-- New routes leave a tile on a gateway in service alone. -/
theorem facts_reroute_gateway {k : Fin 64} (hk : k.val % 8 = 7) (h : s.gatewayUp (k / 8) = true) :
    s.reroute.facts [k] = s.facts [k] :=
  facts_reroute fun j hj => by rw [List.mem_singleton.mp hj]; exact .inr (reachable_of_gatewayUp hk h 63)

/-! ## Tests of a tile's ports (R350, R342) -/

theorem neighbour_lt {u k v : Nat} (hu : u < 64) (h : neighbour u k = some v) : v < 72 := by
  unfold neighbour at h
  split at h <;> split at h <;> cases h <;> omega

/-- One port of a tile tests its slices again. -/
def State.clearPort (s : State) (u i : Nat) : State :=
  if !s.portTested u i then s
  else if isGateway u i then s.setNum 0x7052 0 (putByte (s.num 0x7052 0) (u / 8) 0)
  else
    let s := s.setNum 0x7051 (u + 1) (putByte (s.num 0x7051 (u + 1)) i 0)
    match neighbour u i with
    | some w => s.setNum 0x7051 (w + 1) (putByte (s.num 0x7051 (w + 1)) ((i + 2) % 4) 0)
    | none => s

theorem clearSlices_eq (u : Nat) : s.clearSlices u = upTo 4 s fun i s => s.clearPort u i := rfl

theorem tiles_clearPort (u i : Nat) : (s.clearPort u i).tiles = s.tiles := by
  unfold State.clearPort
  dsimp only
  split
  · rfl
  · split
    · rfl
    · split <;> rfl

theorem facts_clearPort {u : Nat} (hu : u < 64) (i : Nat) : (s.clearPort u i).facts ks = s.facts ks := by
  unfold State.clearPort
  dsimp only
  split
  · rfl
  · split
    · exact facts_setNum (by decide) (by decide)
    · split
      · next w h =>
        have := neighbour_lt hu h
        rw [facts_setNum (by omega) (by decide), facts_setNum (by omega) (by decide)]
      · exact facts_setNum (by omega) (by decide)

/-- The tests of a tile's slices change no domain and no object watched. -/
theorem facts_clearSlices {u : Nat} (hu : u < 64) : (s.clearSlices u).facts ks = s.facts ks :=
  upTo_keeps (fun v : State => v.facts ks) fun i _ _ => facts_clearPort hu i

theorem tiles_clearSlices (u : Nat) : (s.clearSlices u).tiles = s.tiles :=
  upTo_keeps State.tiles fun i _ _ => tiles_clearPort u i

/-- A byte that was cleared. -/
theorem putByte_zero (w k : Nat) : putByte w k 0 / 2 ^ (8 * k) % 256 = 0 := by
  unfold putByte
  have pos : 0 < 2 ^ (8 * k) := Nat.two_pow_pos _
  generalize 2 ^ (8 * k) = m at pos ⊢
  have split : w - w / m % 256 * m = w % m + m * (w / m - w / m % 256) := by
    have := Nat.mod_add_div w m
    have le : w / m % 256 ≤ w / m := Nat.mod_le _ _
    rw [Nat.mul_sub, Nat.mul_comm m (w / m % 256), ← Nat.add_sub_assoc, this]
    rw [Nat.mul_comm]
    exact Nat.mul_le_mul_left _ le
  rw [Nat.zero_mul, Nat.add_zero, split, Nat.add_mul_div_left _ _ pos, Nat.div_eq_of_lt (Nat.mod_lt _ pos)]
  omega

/-- A port that is no gateway leaves the gateways' slices alone. -/
theorem gatewaySlices_clearPort {u i : Nat} (hu : u < 64) (h : isGateway u i = false) (y : Nat) :
    (s.clearPort u i).gatewaySlices y = s.gatewaySlices y := by
  have ne {w : Nat} (hw : w < 72) : objKey 0x7052 0 ≠ objKey 0x7051 (w + 1) := by unfold objKey; omega
  unfold State.clearPort State.gatewaySlices
  dsimp only
  rw [h, if_neg Bool.false_ne_true]
  split
  · rfl
  · split
    · next w hw => rw [num_setNum_ne (ne (neighbour_lt hu hw)), num_setNum_ne (ne (by omega))]
    · rw [num_setNum_ne (ne (by omega))]

/-- A gateway that was tested has no retired slice. -/
theorem gatewaySlices_clearPort_gateway {u i : Nat} (h : isGateway u i = true) (on : (s.tile u).tileOn = true) :
    (s.clearPort u i).gatewaySlices (u / 8) = 0 := by
  unfold State.clearPort State.gatewaySlices State.portTested
  rw [h, on]
  simp [putByte_zero]

theorem gatewaySlices_clearSlices {k : Fin 64} (hk : k.val % 8 = 7) (h : (s.tile k).tileOn = true) :
    (s.clearSlices k).gatewaySlices (k / 8) = 0 := by
  have gateway (i : Nat) : isGateway k i = true ↔ i = 1 := by simp [isGateway, hk]
  rw [clearSlices_eq]
  refine upTo_each (Q := fun v => v.tiles = s.tiles) (P := fun i v => i = 1 → v.gatewaySlices (k / 8) = 0) rfl
    (fun i _ v hv => ⟨(tiles_clearPort _ _).trans hv, fun e => ?_⟩) (fun i _ j _ v hv hj e => ?_) 1 (by decide) rfl
  · refine gatewaySlices_clearPort_gateway ((gateway i).mpr e) ?_
    unfold State.tile
    rw [hv]
    exact h
  · by_cases hi : isGateway k i = true
    · refine gatewaySlices_clearPort_gateway hi ?_
      unfold State.tile
      rw [hv]
      exact h
    · rw [gatewaySlices_clearPort k.isLt (by simpa using hi), hj e]

/-- A tile without bad slices keeps the slices it has. -/
theorem testSlices_good {u : Nat} {r : TileChecks} (h : r.badSlices = 0) : s.testSlices u r = s := by
  refine upTo_id fun i _ => ?_
  have none (b : Nat) : Nat.testBit (r.badSlices.toNat / 2 ^ (8 * i) % 256) b = false := by simp [h]
  dsimp only
  split
  · rfl
  · simp only [none]
    rw [upTo_id fun b _ => by simp]
    simp [State.addSlices, h]

/-- What the training of a receiver leaves alone, that of a tile leaves alone. -/
theorem trainTile_keeps {β : Type} (g : State → β) (h : ∀ r u, g (State.trainReceiver u r) = g u) (u : Nat) (both : Bool) :
    g (s.trainTile u both) = g s := by
  unfold State.trainTile
  refine upTo_keeps g fun i _ v => ?_
  split
  · rfl
  · split
    · rw [h, h]
    · split
      · dsimp only
        split
        · rw [h, h]
        · rw [h]
      · rfl

/-! ## Straps and domains (R13, R338) -/

/-- A tile whose strap or rail is bad stays as it was. -/
theorem startTileDomain_bad {k : Nat} {r : TileChecks} (h : strapValid k r.strap = false ∨ r.rail = false) :
    (s.startTileDomain k r).mem = s.mem ∧ ((s.startTileDomain k r).tile k).power = (s.tile k).power := by
  have bad : (!strapValid k r.strap || !r.rail) = true := by obtain h | h := h <;> simp [h]
  unfold State.startTileDomain
  dsimp only
  rw [if_pos bad]
  exact ⟨rfl, by rw [State.tile_modTile_same]; rfl⟩

/-- A valid tile comes on with what was found. -/
theorem startTileDomain_good {k : Nat} {r : TileChecks} (h : strapValid k r.strap = true) (hr : r.rail = true) :
    (s.startTileDomain k r).num 0x7002 (k + 1) = r.strap.toNat
      ∧ ((s.startTileDomain k r).tile k).power = (true, (s.tile k).flockOn, (s.tile k).restart, r.launchDelay) := by
  have good : ¬ (!strapValid k r.strap || !r.rail) = true := by simp [h, hr]
  unfold State.startTileDomain
  dsimp only
  rw [if_neg good]
  exact ⟨State.num_setNum_same .., by rw [State.tile_modTile_same]; rfl⟩

theorem startTileDomain_frame (k : Nat) (r : TileChecks) : (s.startTileDomain k r).mem = s.mem
    ∧ (s.startTileDomain k r).nv = s.nv
    ∧ ∀ i j, objKey i j ≠ objKey 0x7002 (k + 1) → (s.startTileDomain k r).num i j = s.num i j := by
  unfold State.startTileDomain
  dsimp only
  split <;> exact ⟨rfl, rfl, fun i j h => num_setNum_ne h⟩

/-- After the test of its ports a tile that is on holds its gateway in service. -/
theorem gatewayUp_clearSlices {k : Fin 64} (hk : k.val % 8 = 7) (on : (s.tile k).tileOn = true) :
    (s.clearSlices k).gatewayUp (k / 8) = true := by
  refine (gatewayUp_iff _).mpr ⟨by rw [gatewaySlices_clearSlices hk on]; decide, ?_⟩
  have own : 8 * (k.val / 8) + 7 = k := by omega
  rw [own]
  unfold State.tile
  rw [tiles_clearSlices]
  exact on

theorem facts_trainTile (u : Nat) (both : Bool) : (s.trainTile u both).facts ks = s.facts ks :=
  trainTile_keeps (fun v => v.facts ks) (fun _ _ => rfl) u both

theorem gatewayUp_trainTile (u : Nat) (both : Bool) (y : Nat) : (s.trainTile u both).gatewayUp y = s.gatewayUp y :=
  trainTile_keeps (fun v => v.gatewayUp y) (fun _ _ => rfl) u both

theorem facts_recordSlices : s.recordSlices.facts ks = s.facts ks := rfl
theorem gatewayUp_recordSlices (y : Nat) : s.recordSlices.gatewayUp y = s.gatewayUp y := rfl

/-! ## Stage 5 -/

/-- With no tile on, no gateway is in service and bring-up halts. -/
theorem exec_noTiles (h : s.inStage 5 = true) (off : ∀ k, k < 64 → (s.tile k).tileOn = false) :
    exec (.tileDieToDieTest []) s = .next (s.recordSlices.halt 7 0) := by
  have none : (List.range 8).any s.recordSlices.gatewayUp = false := by
    rw [List.any_eq_false]
    intro y hy
    rw [gatewayUp_recordSlices, gatewayUp_iff, off _ (by have := List.mem_range.mp hy; omega)]
    simp
  rw [exec_tileDieToDieTest]
  unfold execTileDieToDieTest
  dsimp only [forEach, List.foldl]
  rw [h, none]
  rfl

/-- The tests of the only tile there is. -/
def State.testOnly (s : State) (k : Fin 64) (r : TileChecks) : State :=
  ((((s.startTileDomain k r).clearSlices k).testSlices k r).trainTile k false).recordSlices

theorem exec_oneTile {k : Fin 64} {r : TileChecks} (h : s.inStage 5 = true) : exec (.tileDieToDieTest [(k, r)]) s
    = if (List.range 8).any (s.testOnly k r).gatewayUp then .next ((s.testOnly k r).reroute.toStage 6)
      else .next ((s.testOnly k r).halt 7 0) := by
  rw [exec_tileDieToDieTest]
  unfold execTileDieToDieTest State.testOnly
  dsimp only [forEach, List.foldl]
  rw [h, if_neg (by decide)]

theorem testOnly_spec {k : Fin 64} {r : TileChecks} (hk : k.val % 8 = 7) (hs : strapValid k r.strap = true)
    (hr : r.rail = true) (hb : r.badSlices = 0) : (s.testOnly k r).gatewayUp (k / 8) = true
      ∧ (s.testOnly k r).facts [k] = (s.startTileDomain k r).facts [k] := by
  have on : ((s.startTileDomain k r).tile k).tileOn = true :=
    (power_eq_iff.mp (startTileDomain_good hs hr).2).1
  unfold State.testOnly
  rw [testSlices_good hb, gatewayUp_recordSlices, gatewayUp_trainTile, facts_recordSlices, facts_trainTile]
  exact ⟨gatewayUp_clearSlices hk on, facts_clearSlices k.isLt⟩

/-- A valid tile on a gateway comes on. -/
theorem tileDieToDieTest_one {k : Fin 64} {r : TileChecks} (h : s.inStage 5 = true) (hk : k.val % 8 = 7)
    (hs : strapValid k r.strap = true) (hr : r.rail = true) (hb : r.badSlices = 0) :
    Done (.tileDieToDieTest [(k, r)]) s fun t => t.stage = 6 ∧ (t.tile k).tileOn = true
      ∧ (t.tile k).launchDelay = r.launchDelay ∧ t.num 0x7002 (k + 1) = r.strap.toNat := by
  obtain ⟨up, kept⟩ := testOnly_spec (s := s) hk hs hr hb
  obtain ⟨strap, power⟩ := startTileDomain_good (s := s) hs hr
  have mem := List.mem_singleton_self k
  have routed := (facts_reroute_gateway hk up).trans kept
  obtain ⟨on, -, -, delay⟩ := power_eq_iff.mp ((power_of_domains (domains_of_facts routed) mem).trans power)
  have some : (List.range 8).any (s.testOnly k r).gatewayUp = true :=
    List.any_eq_true.mpr ⟨k / 8, List.mem_range.mpr (by omega), up⟩
  refine ⟨(s.testOnly k r).reroute.toStage 6, ?_, stage_toStage 6, ?_, ?_, ?_⟩
  · rw [exec_oneTile h, if_pos some]
  · rw [toStage_tile, on]
  · rw [toStage_tile, delay]
  · rw [num_toStage (by unfold objKey; omega) (by unfold objKey; omega), strap_of_facts routed mem, strap]

/-! ## Channels (R122–R124) -/

theorem num_modTile (u : Nat) (f : Tile → Tile) (i j : Nat) : (s.modTile u f).num i j = s.num i j := rfl

/-- A channel fails: it, and no other. -/
theorem channelBad_failChannel {u k : Nat} (hu : u < 64) (hk : k < 64) (c d : Nat) :
    (s.failChannel u c).channelBad k d = (s.channelBad k d || decide (k = u ∧ d = c)) := by
  unfold State.failChannel
  dsimp only
  split
  · next bad =>
    by_cases e : k = u ∧ d = c
    · rw [e.1, e.2, bad]; rfl
    · simp [e]
  · rw [State.channelBad_congr (objs_loseSpill _)]
    unfold State.channelBad
    have value : objKey 0xA002 (k + 1) ≠ objKey 0xA001 (u + 1) := by unfold objKey; omega
    rw [num_modTile, num_setNum_ne value, State.num_setNum]
    by_cases e : k = u
    · rw [e, if_pos rfl, Nat.testBit_lor, Nat.testBit_two_pow, num_log]
      simp [eq_comm]
    · rw [if_neg (by unfold objKey; omega), num_log]
      simp [e]

/-- A set bit that is taken away. -/
theorem testBit_sub_two_pow {n c : Nat} (h : n.testBit c = true) (d : Nat) :
    (n - 2 ^ c).testBit d = (n.testBit d && decide (d ≠ c)) := by
  induction c generalizing n d with
  | zero =>
    have odd : n % 2 = 1 := Nat.mod_two_eq_one_iff_testBit_zero.mpr h
    cases d with
    | zero => simp [Nat.testBit_zero]; omega
    | succ d =>
      have half : (n - 1) / 2 = n / 2 := by omega
      simp [Nat.testBit_succ, half]
  | succ c ih =>
    have le := Nat.ge_two_pow_of_testBit h
    have double : 2 ^ (c + 1) = 2 * 2 ^ c := by ring
    cases d with
    | zero =>
      have even : (n - 2 ^ (c + 1)) % 2 = n % 2 := by omega
      simp [Nat.testBit_zero, even]
    | succ d =>
      have half : (n - 2 ^ (c + 1)) / 2 = n / 2 - 2 ^ c := by omega
      rw [Nat.testBit_succ] at h
      rw [Nat.testBit_succ, half, ih h d, Nat.testBit_succ]
      simp

/-- A channel comes back: it, and no other. -/
theorem channelBad_reviveChannel (u c d : Nat) :
    (s.reviveChannel u c).channelBad u d = (s.channelBad u d && decide (d ≠ c)) := by
  unfold State.reviveChannel
  dsimp only
  split
  · next good =>
    by_cases e : d = c
    · rw [e]; simpa using good
    · simp [e]
  · next bad =>
    have value : objKey 0xA002 (u + 1) ≠ objKey 0xA001 (u + 1) := by unfold objKey; omega
    have set : (s.num 0xA002 (u + 1)).testBit c = true := by simpa [State.channelBad] using bad
    unfold State.channelBad
    rw [num_modTile, num_setNum_ne value, State.num_setNum_same, testBit_sub_two_pow set]

/-! ## Stage 6 -/

/-- A tile that is on refreshes its memory; the channels of one that is off fail. -/
def State.startMemory (s : State) (u : Nat) : State :=
  if (s.tile u).tileOn then (s.modTile u fun x => { x with selfRefresh := false }).refresh u
  else upTo 6 s fun c s => s.failChannel u c

theorem facts_refresh {u : Nat} (hu : u < 64) : (s.refresh u).facts ks = s.facts ks :=
  facts_setNum (by omega) (by decide)

theorem domains_startMemory (u : Nat) : (s.startMemory u).domains ks = s.domains ks := by
  unfold State.startMemory
  split
  · unfold State.refresh
    rw [domains_setNum, domains_of_facts (facts_modTile (by intro; rfl))]
  · exact domains_failChannels u 6

theorem facts_startMemory {u : Nat} (hu : u < 64) (hk : ∀ k ∈ ks, (s.tile k).tileOn = true) :
    (s.startMemory u).facts ks = s.facts ks := by
  unfold State.startMemory
  split
  · rw [facts_refresh hu, facts_modTile (by intro; rfl)]
  · next off =>
    have other : ∀ k ∈ ks, k.val ≠ u := fun k h e => off (e ▸ hk k h)
    exact upTo_keeps (fun v : State => v.facts ks) fun c _ v => facts_failChannel hu other c

/-- VM comes on. -/
def State.powerMemory (s : State) : State := { s with boot := { s.boot with vmOn := true } }

/-- Stage 6 before its failed channels: VM on, the memories started. -/
def State.startMemories (s : State) : State := upTo 64 s.powerMemory fun u s => s.startMemory u

/-- Stage 6: the channels listed fail. -/
def State.trainMemory (s : State) (bad : List (Fin 64 × Fin 6)) : State :=
  forEach bad s.startMemories fun e s => s.failChannel e.1.val e.2.val

theorem exec_memoryTraining_stage (h : s.inStage 6 = true) (bad : List (Fin 64 × Fin 6)) :
    exec (.memoryTraining bad) s = .next ((s.trainMemory bad).toStage 7) := by
  rw [exec_memoryTraining]
  unfold execMemoryTraining
  rw [h, if_neg (by decide)]
  rfl

theorem domains_trainMemory (bad : List (Fin 64 × Fin 6)) : (s.trainMemory bad).domains ks = s.powerMemory.domains ks :=
  (forEach_keeps (fun v : State => v.domains ks) fun _ _ _ => domains_failChannel _ _).trans
    (upTo_keeps (fun v : State => v.domains ks) fun u _ _ => domains_startMemory u)

/-- The channels listed are out of use. -/
theorem channelBad_trainMemory (bad : List (Fin 64 × Fin 6)) :
    ∀ e ∈ bad, (s.trainMemory bad).channelBad e.1 e.2 = true := by
  unfold State.trainMemory
  refine forEach_each (Q := fun _ => True) (P := fun (e : Fin 64 × Fin 6) v => v.channelBad e.1 e.2 = true) trivial
    (fun e _ v _ => ⟨trivial, ?_⟩) fun e _ d _ v _ h => ?_
  · rw [channelBad_failChannel e.1.isLt e.1.isLt]; simp
  · rw [channelBad_failChannel e.1.isLt d.1.isLt, h]; rfl

/-- Starting the memories changes no channel of a tile that is on. -/
theorem facts_startMemories {k : Fin 64} (on : (s.tile k).tileOn = true) :
    s.startMemories.facts [k] = s.powerMemory.facts [k] := by
  refine upTo_induct (Q := fun v => v.facts [k] = s.powerMemory.facts [k]) rfl
    fun u hu v hv => (facts_startMemory hu fun j hj => ?_).trans hv
  rw [List.mem_singleton.mp hj, tileOn_of_domains (domains_of_facts hv) (List.mem_singleton_self k)]
  exact on

/-- The other channels of a tile that is on keep their state. -/
theorem channelBad_trainMemory_other {k : Fin 64} {c : Fin 6} {bad : List (Fin 64 × Fin 6)} (on : (s.tile k).tileOn = true)
    (hc : ∀ e ∈ bad, e ≠ (k, c)) : (s.trainMemory bad).channelBad k c = s.channelBad k c := by
  have failed : (s.trainMemory bad).channelBad k c = s.startMemories.channelBad k c := by
    refine forEach_keeps (fun v : State => v.channelBad k c) fun e he v => ?_
    have ne : ¬ (k.val = e.1.val ∧ c.val = e.2.val) := fun h =>
      hc e he (Prod.ext (Fin.ext h.1.symm) (Fin.ext h.2.symm))
    rw [channelBad_failChannel e.1.isLt k.isLt]
    simp [ne]
  rw [failed, channelBad_of_facts (facts_startMemories on) (List.mem_singleton_self k)]
  rfl

/-- Stage 6 fails the channels listed, and on the tiles that are on no other. -/
theorem memoryTraining_starts (h : s.inStage 6 = true) (bad : List (Fin 64 × Fin 6)) :
    Done (.memoryTraining bad) s fun t => t.stage = 7 ∧ t.boot.vmOn = true ∧ t.mem = s.mem
      ∧ (∀ e ∈ bad, t.channelBad e.1 e.2 = true)
      ∧ ∀ (k : Fin 64) (c : Fin 6), (s.tile k).tileOn = true → (∀ e ∈ bad, e ≠ (k, c)) →
          t.channelBad k c = s.channelBad k c := by
  have kept := domains_trainMemory (s := s) (ks := []) bad
  refine ⟨_, exec_memoryTraining_stage h bad, stage_toStage 7, ?_, ?_, fun e he => ?_, fun k c on hc => ?_⟩
  · rw [toStage_boot, vmOn_of_domains kept]
    rfl
  · rw [toStage_mem, mem_of_domains kept]
    rfl
  · rw [channelBad_toStage]
    exact channelBad_trainMemory bad e he
  · rw [channelBad_toStage]
    exact channelBad_trainMemory_other on hc

/-! ## Stage 7 -/

/-- The flock of a tile that is on starts. -/
def State.startOn (s : State) (u : Nat) : State := if (s.tile u).tileOn then s.startFlock u else s

/-- The pens on record as fenced, of a tile. -/
def State.fenceMask (s : State) (u : Nat) : Nat :=
  ((s.nv.fences.filter fun f => tileOf f.1 == u).map fun f => 2 ^ (f.1 % 16)).foldl (· ||| ·) 0

theorem startFlock_num (u j : Nat) :
    (s.startFlock u).num 0x7050 (j + 1) = if j = u then s.fenceMask u else s.num 0x7050 (j + 1) := by
  unfold State.startFlock
  dsimp only
  rw [num_modTile, State.num_setNum]
  by_cases e : j = u
  · rw [e, if_pos rfl, if_pos rfl]; rfl
  · rw [if_neg e, if_neg (by unfold objKey; omega)]

theorem startFlock_tile (u j : Nat) : ((s.startFlock u).tile j).tileOn = (s.tile j).tileOn
    ∧ ((s.startFlock u).tile j).flockOn = if j = u then true else (s.tile j).flockOn := by
  unfold State.startFlock
  dsimp only
  rw [State.tile_modTile]
  by_cases e : j = u
  · rw [if_pos e, if_pos e, e]; exact ⟨rfl, rfl⟩
  · rw [if_neg e, if_neg e]; exact ⟨rfl, rfl⟩

theorem fenceMask_none (h : s.nv.fences = []) (u : Nat) : s.fenceMask u = 0 := by simp [State.fenceMask, h]

/-- The flocks of all tiles that are on start. -/
def State.startFlocks (s : State) : State := upTo 64 s fun u s => s.startOn u

theorem tileOn_startOn (u j : Nat) : ((s.startOn u).tile j).tileOn = (s.tile j).tileOn := by
  unfold State.startOn
  split
  · exact (startFlock_tile u j).1
  · rfl

theorem fences_startOn (u : Nat) : (s.startOn u).nv.fences = s.nv.fences := by
  unfold State.startOn
  split <;> rfl

theorem fences_startFlocks : s.startFlocks.nv.fences = s.nv.fences := by
  unfold State.startFlocks
  exact upTo_keeps (fun v : State => v.nv.fences) fun u _ _ => fences_startOn u

/-- With no pen on record as fenced, the flock of a tile that is on comes on with all its pens. -/
theorem startFlocks_spec (hf : s.nv.fences = []) (k : Fin 64) (on : (s.tile k).tileOn = true) :
    (s.startFlocks.tile k).flockOn = true ∧ s.startFlocks.num 0x7050 (k + 1) = 0 := by
  refine upTo_each (Q := fun v => v.nv.fences = [] ∧ ∀ j, (v.tile j).tileOn = (s.tile j).tileOn)
    (P := fun u v => (s.tile u).tileOn = true → (v.tile u).flockOn = true ∧ v.num 0x7050 (u + 1) = 0)
    ⟨hf, fun _ => rfl⟩ (fun u _ v hv => ⟨⟨(fences_startOn u).trans hv.1, fun j => (tileOn_startOn u j).trans (hv.2 j)⟩,
      fun hu => ?_⟩) (fun u _ j _ v hv hj hu => ?_) k k.isLt on
  · unfold State.startOn
    rw [hv.2, hu, if_pos rfl, (startFlock_tile u u).2, startFlock_num, if_pos rfl, if_pos rfl]
    exact ⟨rfl, fenceMask_none hv.1 u⟩
  · unfold State.startOn
    split
    · rw [(startFlock_tile u j).2, startFlock_num]
      split
      · exact ⟨rfl, fenceMask_none hv.1 u⟩
      · exact hj hu
    · exact hj hu

/-- With no pen on record as fenced, the pens tested are those of the flocks that are on. -/
theorem mem_testedPens (hf : s.nv.fences = []) (p : Nat) :
    p ∈ s.testedPens ↔ p < 1024 ∧ (s.tile (tileOf p)).flockOn = true := by
  unfold State.testedPens
  rw [List.mem_filter, List.mem_range, hf]
  simp

/-- A digest that all pens gave is the majority's. -/
theorem majority_of_all {d : BitVec 32} {pens : List Nat} (h : pens ≠ []) (f : Nat → Option (BitVec 32))
    (hd : ∀ p ∈ pens, f p = some d) : majority (pens.filterMap f) pens.length = some d := by
  have same : pens.filterMap f = List.replicate pens.length d := by
    clear h
    induction pens with
    | nil => rfl
    | cons p l ih =>
      rw [List.filterMap_cons_some (hd p List.mem_cons_self), ih fun q hq => hd q (List.mem_cons_of_mem p hq),
        List.length_cons, List.replicate_succ]
  obtain ⟨n, hn⟩ := Nat.exists_eq_succ_of_ne_zero (List.length_pos_iff.mpr h).ne'
  unfold majority
  rw [same, hn, List.replicate_succ, List.find?_cons_of_pos]
  rw [decide_eq_true_eq, ← List.replicate_succ, List.count_replicate_self]
  omega

/-- Pens that gave the reference are not fenced. -/
theorem fenceOutliers_none {d : BitVec 32} {pens : List Nat} {f : Nat → Option (BitVec 32)}
    (hd : ∀ p ∈ pens, f p = some d) : s.fenceOutliers pens f d = s :=
  forEach_id fun p hp => if_pos (hd p hp)

/-- Flocks with all their pens fenced go off. -/
def State.dropFlocks (s : State) : State := upTo 64 s fun u s => if s.num 0x7050 (u + 1) = 0xFFFF then s.flockOff u else s

theorem facts_dropFlocks {k : Fin 64} (h : s.num 0x7050 (k + 1) = 0) : s.dropFlocks.facts [k] = s.facts [k] := by
  refine upTo_induct (Q := fun v => v.facts [k] = s.facts [k]) rfl fun u hu v hv => ?_
  split
  · next full =>
    refine (facts_flockOff hu fun j hj e => ?_).trans hv
    rw [← e, List.mem_singleton.mp hj, fenced_of_facts hv (List.mem_singleton_self k), h] at full
    exact absurd full (by decide)
  · exact hv

/-- Where every pen gives one digest, no pen is fenced. -/
theorem exec_penSelfTest_agreed {d : BitVec 32} {l : List (Fin 1024 × BitVec 32)} (h : s.inStage 7 = true)
    (hf : s.nv.fences = []) (on : ∃ k : Fin 64, (s.tile k).tileOn = true)
    (hl : ∀ p : Fin 1024, l.find? (fun e => e.1.val == p.val) = some (p, d)) :
    exec (.penSelfTest l) s = .next (s.startFlocks.dropFlocks.toStage 8) := by
  have tested (p : Nat) := mem_testedPens (s := s.startFlocks) (fences_startFlocks.trans hf) p
  have digest : ∀ p ∈ s.startFlocks.testedPens, (l.find? fun e => e.1.val == p).map (·.2) = some d := fun p hp => by
    rw [hl ⟨p, ((tested p).mp hp).1⟩]; rfl
  have some : s.startFlocks.testedPens ≠ [] := by
    obtain ⟨k, hk⟩ := on
    have tile : tileOf (16 * k) = k := by unfold tileOf; omega
    refine List.ne_nil_of_mem ((tested (16 * k)).mpr ⟨by omega, ?_⟩)
    rw [tile, (startFlocks_spec hf k hk).1]
  rw [exec_penSelfTest]
  unfold execPenSelfTest
  rw [h, if_neg (by decide)]
  dsimp only
  have started : (upTo 64 s fun t s => if (s.tile t).tileOn then s.startFlock t else s) = s.startFlocks := rfl
  rw [started, majority_of_all some _ digest]
  dsimp only
  rw [fenceOutliers_none digest]
  rfl

/-- The tiles that are on then run with all their pens. -/
theorem penSelfTest_passes {d : BitVec 32} {l : List (Fin 1024 × BitVec 32)} (h : s.inStage 7 = true)
    (hf : s.nv.fences = []) (on : ∃ k : Fin 64, (s.tile k).tileOn = true)
    (hl : ∀ p : Fin 1024, l.find? (fun e => e.1.val == p.val) = some (p, d)) : Done (.penSelfTest l) s fun t => t.stage = 8
      ∧ ∀ k : Fin 64, (s.tile k).tileOn = true → (t.tile k).flockOn = true ∧ t.num 0x7050 (k + 1) = 0 := by
  refine ⟨_, exec_penSelfTest_agreed h hf on hl, stage_toStage 8, fun k hk => ?_⟩
  obtain ⟨flock, fenced⟩ := startFlocks_spec hf k hk
  have kept := facts_dropFlocks fenced
  rw [toStage_tile, num_toStage (by unfold objKey; omega) (by unfold objKey; omega),
    fenced_of_facts kept (List.mem_singleton_self k)]
  exact ⟨(flockOn_of_domains (domains_of_facts kept) (List.mem_singleton_self k)).trans flock, fenced⟩

/-! ## Stages 8 and 9 -/

/-- What stage 8 compares: the steppings of the tiles that are on, and the capabilities they share with the OEs. -/
def State.steppings (s : State) : List Nat := s.tilesOn.map fun t => (s.tile t).stepping
def State.shared (s : State) : BitVec 64 :=
  ((s.tilesOn.map fun t => (s.tile t).capability) ++
    ((List.range 12).filter fun n => (s.oe n).admitted).map fun n => (s.oe n).capability).foldl (· &&& ·) 1

/-- The state after a negotiation that succeeds. -/
def State.negotiate (s : State) (v : Nat) : State :=
  { (s.setNum 0x1003 0 v).setNum 0x1008 0 s.shared.toNat with boot := { s.boot with negotiated := true } }

/-- Stage 8 in order: one stepping, a known one, and the common capability. -/
theorem exec_negotiation {v : Nat} (h : s.inStage 8 = true) (hn : s.boot.negotiated = false)
    (hv : s.steppings.head? = some v) : exec .capabilityNegotiation s = .next (
      if s.steppings.any (· ≠ v) then s.halt 9 v
      else if v ≠ 0x5402 ∧ v ≠ 0x5403 then s.halt 8 v
      else if s.shared.getLsbD 0 = false then s.halt 10 0
      else s.negotiate v) := by
  have head : (s.tilesOn.map fun t => (s.tile t).stepping).headD 0 = v := by
    rw [List.headD_eq_head?_getD]
    exact congrArg (Option.getD · 0) hv
  rw [exec_capabilityNegotiation]
  unfold execCapabilityNegotiation State.negotiate State.shared State.steppings
  dsimp only
  rw [h, hn, head, if_neg (by decide)]
  split
  · rfl
  · split
    · rfl
    · split <;> simp_all

/-- A stepping that differs halts bring-up with cause 9. -/
theorem negotiation_differs {v : Nat} (h : s.inStage 8 = true) (hn : s.boot.negotiated = false)
    (hv : s.steppings.head? = some v) (hw : ∃ w ∈ s.steppings, w ≠ v) :
    exec .capabilityNegotiation s = .next (s.halt 9 v) := by
  rw [exec_negotiation h hn hv, if_pos (by simpa using hw)]

/-- With one stepping, its value and the common capability decide. -/
theorem negotiation_agrees {v : Nat} (h : s.inStage 8 = true) (hn : s.boot.negotiated = false)
    (hv : s.steppings.head? = some v) (hw : ∀ w ∈ s.steppings, w = v) : exec .capabilityNegotiation s = .next (
      if v ≠ 0x5402 ∧ v ≠ 0x5403 then s.halt 8 v
      else if s.shared.getLsbD 0 = false then s.halt 10 0
      else s.negotiate v) := by
  rw [exec_negotiation h hn hv, if_neg (by simpa using hw)]

theorem negotiate_spec (v : Nat) : (s.negotiate v).boot = { s.boot with negotiated := true } ∧ (s.negotiate v).num 0x1003 0 = v
    ∧ (s.negotiate v).num 0x1008 0 = s.shared.toNat ∧ { s.negotiate v with boot := s.boot, objs := s.objs } = s := by
  unfold State.negotiate
  refine ⟨rfl, ?_, ?_, rfl⟩
  · rw [num_boot, num_setNum_ne (by decide), State.num_setNum_same]
  · rw [num_boot, State.num_setNum_same]

/-! ## Ready -/

/-- The time since stage 1 began, in ms. -/
def State.bringUpMs (s : State) : Nat := (s.clock - s.boot.stageStart) / 2000000

/-- The objects of Ready: the stage, the result, the time. -/
def State.recordReady (s : State) : State :=
  ((s.toStage 9).setResult 9 0 0).setNum 0x100B 0 s.bringUpMs

/-- The drover and the bring-up record take new values. -/
def State.withDroverBoot (s : State) (d : Drover) (b : BootSt) : State := { s with drover := d, boot := b }

/-- Ready: the report and its event, the clock target in force, MODRDY. -/
def State.becomeReady (s : State) : State :=
  let u := s.recordReady.log 0x1010 srcHub s.bringUpMs
  u.withDroverBoot { (u.setClock u.clockTarget).drover with clockNext := u.clockTarget }
    { s.boot with modrdy := true, waitOes := [] }

theorem exec_ready_stage (h : s.inStage 8 = true) (hn : s.boot.negotiated = true) (hw : s.boot.waitOes = []) :
    exec .ready s = .next s.becomeReady := by
  have none : forEach s.boot.waitOes s.becomeReady (fun e u => u.requalify e.1 e.2) = s.becomeReady := by rw [hw]; rfl
  rw [exec_ready]
  unfold execReady
  rw [h, hn, if_neg (by decide)]
  exact congrArg Host.Outcome.next none

theorem num_withDroverBoot (d : Drover) (b : BootSt) (i j : Nat) : (s.withDroverBoot d b).num i j = s.num i j := rfl

theorem num_recordReady {i j : Nat} (h : ∀ k ∈ [0x1007, 0x0F40, 0x1009, 0x100B], objKey i j ≠ objKey k 0) :
    s.recordReady.num i j = s.num i j := by
  unfold State.recordReady State.setResult
  rw [num_setNum_ne (h _ (by simp)), num_setNum_ne (h _ (by simp)), num_toStage (h _ (by simp)) (h _ (by simp))]

/-- The records of Ready do not show in the event. -/
theorem events_recordReady (c a d : Nat) : (s.recordReady.log c a d).events = (s.log c a d).events := by
  have epoch : s.recordReady.epoch = s.epoch := num_recordReady (by decide)
  unfold State.log
  dsimp only
  rw [epoch]
  rfl

theorem becomeReady_spec : s.becomeReady.stage = 9 ∧ s.becomeReady.boot.modrdy = true
    ∧ s.becomeReady.num 0x1009 0 = 9 * 2 ^ 24 ∧ s.becomeReady.num 0x100B 0 = s.bringUpMs
    ∧ s.becomeReady.events = (s.log 0x1010 srcHub s.bringUpMs).events ∧ s.becomeReady.mem = s.mem := by
  unfold State.becomeReady
  refine ⟨?_, rfl, ?_, ?_, events_recordReady _ _ _, rfl⟩
  · unfold State.stage State.recordReady State.setResult
    rw [num_withDroverBoot, num_log, num_setNum_ne (by decide), num_setNum_ne (by decide)]
    exact stage_toStage 9
  · unfold State.recordReady State.setResult
    rw [num_withDroverBoot, num_log, num_setNum_ne (by decide), State.num_setNum_same]
    norm_num
  · unfold State.recordReady
    rw [num_withDroverBoot, num_log, State.num_setNum_same]

theorem exec_ready_other (h : s.inStage 8 = false ∨ s.boot.negotiated = false) : exec .ready s = .next s := by
  rw [exec_ready]
  unfold execReady
  obtain h | h := h <;> simp [h]

/-! ## Tile restart (R338, R361) -/

/-- A restart in progress, or a bad strap, refuses another. -/
theorem tileRestart_refused {slot : Nat} {r : TileChecks} (h : Accepts s slot opCommand 0x7060 0)
    (hb : strapValid (s.gov 0x705F 0) (s.tile (s.gov 0x705F 0)).strap = false
      ∨ (s.tile (s.gov 0x705F 0)).restart.isSome = true) :
    Answers (.tileRestart slot r) s slot opCommand 0x7060 0 0x70000010 fun u => u = s := by
  refine ⟨s, ?_, rfl⟩
  rw [exec_tileRestart]
  unfold execTileRestart
  rw [h.command]
  obtain hb | hb := hb <;> simp [hb]

/-- Else the tile goes off and its restart is in progress. -/
theorem tileRestart_accepted {slot : Nat} {r : TileChecks} (h : Accepts s slot opCommand 0x7060 0)
    (hk : s.gov 0x705F 0 < 64) (hs : strapValid (s.gov 0x705F 0) (s.tile (s.gov 0x705F 0)).strap = true)
    (hn : (s.tile (s.gov 0x705F 0)).restart = none) :
    Answers (.tileRestart slot r) s slot opCommand 0x7060 0 0 fun u =>
      (u.tile (s.gov 0x705F 0)).tileOn = false ∧ (u.tile (s.gov 0x705F 0)).restart = some r ∧ u.mem = s.mem := by
  obtain ⟨off, mem⟩ := tileOff_spec (s := s) ⟨s.gov 0x705F 0, hk⟩
  refine ⟨(s.tileOff (s.gov 0x705F 0)).modTile (s.gov 0x705F 0) fun x => { x with restart := some r }, ?_, ?_⟩
  · rw [exec_tileRestart]
    unfold execTileRestart
    rw [h.command]
    simp [hs, hn]
  · dsimp only
    rw [State.tile_modTile_same]
    exact ⟨off, rfl, mem⟩

/-- A tile's restart is no longer in progress. -/
def State.endRestart (s : State) (k : Nat) : State := s.modTile k fun x => { x with restart := none }

/-- The clock shows another time. -/
def State.atClock (s : State) (n : Nat) : State := { s with clock := n }

theorem atClock_tile (n k : Nat) : (s.atClock n).tile k = s.tile k := rfl
theorem atClock_mem (n : Nat) : (s.atClock n).mem = s.mem := rfl
theorem atClock_num (n i j : Nat) : (s.atClock n).num i j = s.num i j := rfl
theorem atClock_channelBad (n k c : Nat) : (s.atClock n).channelBad k c = s.channelBad k c := rfl

/-- With one restart in progress an idle step runs it. -/
theorem step_restart {k : Nat} {r : TileChecks} (hp : s.pending = [])
    (hl : s.tiles.filterMap (fun e => e.2.restart.map fun r => (e.1, r)) = [(k, r)]) :
    step s = .next (((s.endRestart k).restartTile k r).atClock (s.clock + 1)) := by
  unfold step State.idle State.endRestarts State.endRestart
  rw [hp, hl]
  rfl

/-- A tile whose strap or rail is bad stays off. -/
theorem restartTile_bad {k : Nat} {r : TileChecks} (h : strapValid k r.strap = false ∨ r.rail = false)
    (off : (s.tile k).tileOn = false) : s.restartTile k r = s.startTileDomain k r := by
  have still : ((s.startTileDomain k r).tile k).tileOn = false :=
    (power_eq_iff.mp (startTileDomain_bad h).2).1.trans off
  unfold State.restartTile
  dsimp only
  rw [still]
  rfl

/-- What a restart has reached once the tile is on and its gateway in service. -/
structure State.Restarted (s : State) (k : Fin 64) (common : Nat) : Prop where
  gateway : s.gatewayUp (k / 8) = true
  fences : s.nv.fences = []
  common : s.num 0x1008 0 = common
  on : (s.tile k).tileOn = true
  ended : (s.tile k).restart = none

variable {k : Fin 64} {c : Nat}

theorem State.Restarted.setNum (h : s.Restarted k c) {i j n : Nat} (hi : i ∉ [0x1008, 0x7052]) (hj : j < 256) :
    (s.setNum i j n).Restarted k c := by
  have ne {a : Nat} (ha : a ∈ [0x1008, 0x7052]) : objKey a 0 ≠ objKey i j := by
    have : a ≠ i := fun e => hi (e ▸ ha)
    unfold objKey; omega
  exact { h with
    gateway := (gatewayUp_congr (num_setNum_ne (ne (by simp))) (fun _ => rfl) _).trans h.gateway
    common := (num_setNum_ne (ne (by simp))).trans h.common }

theorem State.Restarted.modTile (h : s.Restarted k c) {u : Nat} {f : Tile → Tile}
    (hf : ∀ x, (f x).tileOn = x.tileOn ∧ (f x).restart = x.restart) : (s.modTile u f).Restarted k c := by
  have on (j : Nat) : ((s.modTile u f).tile j).tileOn = (s.tile j).tileOn
      ∧ ((s.modTile u f).tile j).restart = (s.tile j).restart := by
    rw [State.tile_modTile]
    split
    · next e => rw [e]; exact hf _
    · exact ⟨rfl, rfl⟩
  exact { h with
    gateway := (gatewayUp_congr (num_modTile ..) (fun j => (on j).1) _).trans h.gateway
    on := (on k).1.trans h.on, ended := (on k).2.trans h.ended }

theorem State.Restarted.reviveChannel (h : s.Restarted k c) {u : Nat} (hu : u < 64) (d : Nat) :
    (s.reviveChannel u d).Restarted k c := by
  unfold State.reviveChannel
  dsimp only
  split
  · exact h
  · exact ((h.setNum (by decide) (by omega)).setNum (by decide) (by omega)).modTile fun _ => ⟨rfl, rfl⟩

theorem State.Restarted.refresh (h : s.Restarted k c) {u : Nat} (hu : u < 64) : (s.refresh u).Restarted k c :=
  h.setNum (by decide) (by omega)

theorem State.Restarted.startFlock (h : s.Restarted k c) {u : Nat} (hu : u < 64) : (s.startFlock u).Restarted k c := by
  unfold State.startFlock
  exact (h.setNum (by decide) (by omega)).modTile fun _ => ⟨rfl, rfl⟩

/-- The channels of a tile come back. -/
def State.reviveChannels (s : State) (u : Nat) : State := upTo 6 s fun c s => s.reviveChannel u c

theorem State.Restarted.reviveChannels (h : s.Restarted k c) {u : Nat} (hu : u < 64) : (s.reviveChannels u).Restarted k c :=
  upTo_induct (Q := fun v => v.Restarted k c) h fun d _ _ hv => hv.reviveChannel hu d

theorem channelBad_reviveChannels (u d : Nat) (hd : d < 6) : (s.reviveChannels u).channelBad u d = false := by
  refine upTo_each (Q := fun _ => True) (P := fun d v => v.channelBad u d = false) trivial (fun d _ v _ => ⟨trivial, ?_⟩)
    (fun e _ d _ v _ h => ?_) d hd
  · rw [channelBad_reviveChannel]; simp
  · rw [channelBad_reviveChannel, h]; rfl

/-- A flock with its rail up and no bad pen starts with all its pens. -/
theorem restartFlock_good {u : Nat} {r : TileChecks} (hr : r.flockRail = true) (hf : s.nv.fences = [])
    (hb : r.badPens = 0) : s.restartFlock u r = s.startFlock u := by
  have noFence : upTo 16 (s.startFlock u) (fun i s => if r.badPens.getLsbD i then s.fence (gpen u i) 7 false else s)
      = s.startFlock u := upTo_id fun i _ => by simp [hb]
  have some : (!r.flockRail || (List.range 16).all fun i => s.nv.fences.any fun f => f.1 == gpen u i) = false := by
    rw [hr, hf]; rfl
  unfold State.restartFlock
  dsimp only
  rw [some, if_neg Bool.false_ne_true, noFence, startFlock_num, if_pos rfl, fenceMask_none hf, if_neg (by decide)]

/-- A tile that came on, after the tests of its ports. -/
def State.restartPorts (s : State) (k : Nat) (r : TileChecks) : State :=
  ((((s.startTileDomain k r).clearSlices k).testSlices k r).recordSlices).trainTile k true

/-- The tile then gets its channels and its flock back. -/
def State.restartParts (s : State) (k : Nat) : State :=
  (((s.reviveChannels k).modTile k fun x => { x with selfRefresh := false }).refresh k).startFlock k

theorem State.Restarted.memory (h : s.Restarted k c) :
    (((s.reviveChannels k).modTile k fun x => { x with selfRefresh := false }).refresh k).Restarted k c := by
  refine State.Restarted.refresh (State.Restarted.modTile (h.reviveChannels k.isLt) ?_) k.isLt
  exact fun _ => ⟨rfl, rfl⟩

theorem State.Restarted.parts (h : s.Restarted k c) : (s.restartParts k).Restarted k c :=
  h.memory.startFlock k.isLt

/-- The ports of a tile that came on are tested and its gateway is in service. -/
theorem restartPorts_restarted {r : TileChecks} (hk : k.val % 8 = 7) (hs : strapValid k r.strap = true)
    (hr : r.rail = true) (hb : r.badSlices = 0) (hf : s.nv.fences = []) (he : (s.tile k).restart = none) :
    (s.restartPorts k r).Restarted k (s.num 0x1008 0) := by
  obtain ⟨-, power⟩ := startTileDomain_good (s := s) hs hr
  obtain ⟨on, -, restart, -⟩ := power_eq_iff.mp power
  obtain ⟨-, nv, num⟩ := startTileDomain_frame (s := s) k r
  have kept : (s.restartPorts k r).facts [k] = (s.startTileDomain k r).facts [k] := by
    unfold State.restartPorts
    rw [testSlices_good hb, facts_trainTile, facts_recordSlices, facts_clearSlices k.isLt]
  have mem := List.mem_singleton_self k
  refine ⟨?_, ?_, ?_, ?_, ?_⟩
  · unfold State.restartPorts
    rw [testSlices_good hb, gatewayUp_trainTile, gatewayUp_recordSlices]
    exact gatewayUp_clearSlices hk on
  · rw [fences_of_domains (domains_of_facts kept), nv, hf]
  · rw [common_of_facts kept, num _ _ (by unfold objKey; omega)]
  · rw [tileOn_of_domains (domains_of_facts kept) mem, on]
  · rw [restart_of_domains (domains_of_facts kept) mem, restart, he]

/-- What a restart is where channels and pens are good. -/
theorem restartTile_good {r : TileChecks} (on : ((s.startTileDomain k r).tile k).tileOn = true)
    (h : (s.restartPorts k r).Restarted k c) (hc : r.badChannels = 0) (hr : r.flockRail = true) (hb : r.badPens = 0)
    (hw : r.capability.toNat = c) : s.restartTile k r = ((s.restartPorts k r).restartParts k).reroute := by
  have revive (v : State) : (upTo 6 v fun c s => if r.badChannels.getLsbD c then s else s.reviveChannel k c)
      = v.reviveChannels k := by simp [hc, State.reviveChannels]
  have noFail (v : State) : (upTo 6 v fun c s => if r.badChannels.getLsbD c then s.failChannel k c else s) = v :=
    upTo_id fun c _ => by simp [hc]
  have common : r.capability.toNat = ((s.restartPorts k r).restartParts k).num 0x1008 0 := hw.trans h.parts.common.symm
  have fences := h.memory.fences
  unfold State.restartParts State.restartPorts at *
  unfold State.restartTile
  dsimp only
  rw [on, if_neg (by decide), revive, noFail, restartFlock_good hr fences hb, if_pos common]

/-- Parts that are good serve again. -/
theorem restartParts_spec (h : s.Restarted k c) : ((s.restartParts k).tile k).flockOn = true
    ∧ (s.restartParts k).num 0x7050 (k + 1) = 0 ∧ ∀ d, d < 6 → (s.restartParts k).channelBad k d = false := by
  unfold State.restartParts
  refine ⟨by rw [(startFlock_tile _ _).2, if_pos rfl], by rw [startFlock_num, if_pos rfl, fenceMask_none h.memory.fences],
    fun d hd => ?_⟩
  have flock : objKey 0xA002 (k + 1) ≠ objKey 0x7050 (k + 1) := by unfold objKey; omega
  have rate : objKey 0xA002 (k + 1) ≠ objKey 0xA003 (k + 1) := by unfold objKey; omega
  unfold State.channelBad State.startFlock State.refresh
  dsimp only
  rw [num_modTile, num_setNum_ne flock, num_setNum_ne rate, num_modTile]
  exact channelBad_reviveChannels k d hd

/-- The end of a restart whose checks all pass. -/
theorem restartTile_serves {r : TileChecks} (hk : k.val % 8 = 7) (hs : strapValid k r.strap = true) (hr : r.rail = true)
    (hb : r.badSlices = 0) (hc : r.badChannels = 0) (hp : r.badPens = 0) (hl : r.flockRail = true) (hf : s.nv.fences = [])
    (hw : r.capability.toNat = s.num 0x1008 0) (he : (s.tile k).restart = none) :
    ((s.restartTile k r).tile k).tileOn = true ∧ ((s.restartTile k r).tile k).restart = none
      ∧ ((s.restartTile k r).tile k).flockOn = true ∧ (s.restartTile k r).num 0x7050 (k + 1) = 0
      ∧ ∀ d, d < 6 → (s.restartTile k r).channelBad k d = false := by
  have ports := restartPorts_restarted hk hs hr hb hf he
  have parts := ports.parts
  have on := (power_eq_iff.mp (startTileDomain_good (s := s) hs hr).2).1
  obtain ⟨flock, fenced, channels⟩ := restartParts_spec ports
  have kept := facts_reroute_gateway hk parts.gateway
  have domains := domains_of_facts kept
  have mem := List.mem_singleton_self k
  rw [restartTile_good on ports hc hl hp hw, tileOn_of_domains domains mem, restart_of_domains domains mem,
    flockOn_of_domains domains mem, fenced_of_facts kept mem]
  refine ⟨parts.on, parts.ended, flock, fenced, fun d hd => ?_⟩
  rw [channelBad_of_facts kept mem]
  exact channels d hd

theorem endRestart_tile : ((s.endRestart k).tile k).restart = none
    ∧ ((s.endRestart k).tile k).tileOn = (s.tile k).tileOn := by
  unfold State.endRestart
  rw [State.tile_modTile_same]
  exact ⟨rfl, rfl⟩

/-- A restart whose strap or rail is bad ends with the tile off. -/
theorem step_restart_bad {r : TileChecks} (hp : s.pending = []) (off : (s.tile k).tileOn = false)
    (hl : s.tiles.filterMap (fun e => e.2.restart.map fun r => (e.1, r)) = [(k.val, r)])
    (h : strapValid k r.strap = false ∨ r.rail = false) : ∃ t, step s = .next t
      ∧ (t.tile k).tileOn = false ∧ (t.tile k).restart = none ∧ t.mem = s.mem := by
  obtain ⟨ended, same⟩ := endRestart_tile (s := s) (k := k)
  obtain ⟨mem, power⟩ := startTileDomain_bad (s := s.endRestart k) h
  obtain ⟨on, -, restart, -⟩ := power_eq_iff.mp power
  refine ⟨_, step_restart hp hl, ?_⟩
  rw [atClock_tile, atClock_mem, restartTile_bad h (same.trans off)]
  exact ⟨on.trans (same.trans off), restart.trans ended, mem⟩

/-- A restart whose checks all pass ends with the tile and its flock on. -/
theorem step_restart_good {r : TileChecks} (hq : s.pending = [])
    (hi : s.tiles.filterMap (fun e => e.2.restart.map fun r => (e.1, r)) = [(k.val, r)]) (hk : k.val % 8 = 7)
    (hs : strapValid k r.strap = true) (hr : r.rail = true) (hb : r.badSlices = 0) (hc : r.badChannels = 0)
    (hp : r.badPens = 0) (hl : r.flockRail = true) (hf : s.nv.fences = []) (hw : r.capability.toNat = s.num 0x1008 0) :
    ∃ t, step s = .next t ∧ (t.tile k).tileOn = true ∧ (t.tile k).restart = none ∧ (t.tile k).flockOn = true
      ∧ t.num 0x7050 (k + 1) = 0 ∧ ∀ c, c < 6 → t.channelBad k c = false := by
  refine ⟨_, step_restart hq hi, ?_⟩
  simp only [atClock_tile, atClock_num, atClock_channelBad]
  exact restartTile_serves hk hs hr hb hc hp hl hf hw endRestart_tile.1

/-- A command that halts bring-up reports the stage, its cause and its detail. -/
theorem halted_of_exec {i : Instr} {u : State} {cause detail : Nat} (h : exec i s = .next (u.halt cause detail))
    (hu : u.stage = s.stage) : Done i s fun t => t.boot.halted = true ∧ t.stage = s.stage
      ∧ t.num 0x1009 0 = s.stage * 2 ^ 24 + cause * 2 ^ 16 + detail % 2 ^ 16 :=
  ⟨_, h, hu ▸ halt_spec cause detail⟩

/-- The east column, of tile ids as they are counted. -/
theorem val_mod_of_east {k : Fin 64} (h : k % 8 = 7) : k.val % 8 = 7 := congrArg Fin.val h

/-- Settles O54: stage by stage, by what each stage's command leaves alone and what it establishes. -/
theorem lateStagesQualifyTheParts : Obligations.LateStagesQualifyTheParts := by
  intro s result halted
  refine ⟨fun n r => ⟨oeQualification_qualifies, exec_requalify_withdrawn, fun hw hr hn => ?_, fun hw hr => ?_⟩,
    fun h off => ⟨?_, fun k r hk hs hr hb _ _ => tileDieToDieTest_one h (val_mod_of_east hk) hs hr hb⟩,
    memoryTraining_starts, fun h hf d l on _ hl => penSelfTest_passes h hf on hl, ?negotiation, ?ready,
    exec_ready_other, fun slot r h => ?restart, fun k r hp hr off hl => ?ended⟩
  · exact ⟨_, exec_requalify_waits hw hr hn, rfl⟩
  · exact ⟨requalify_refuses hw hr, fun hf hs ht hx failed faded maps lit =>
      requalify_admits hw hr hf hs ht hx ⟨failed, faded, maps, lit⟩⟩
  · exact halted_of_exec (exec_noTiles h off) rfl
  case negotiation =>
    intro h hn steps common v hv
    refine ⟨fun hw => halted_of_exec (negotiation_differs h hn hv hw) rfl, fun hw h2 h3 => ?_, fun hw hv' hc => ?_,
      fun hw hv' hc => ?_⟩
    · exact halted_of_exec ((negotiation_agrees h hn hv hw).trans (by rw [if_pos ⟨h2, h3⟩])) rfl
    · have known : ¬ (v ≠ 0x5402 ∧ v ≠ 0x5403) := by omega
      have lacking : s.shared.getLsbD 0 = false := hc
      exact halted_of_exec ((negotiation_agrees h hn hv hw).trans (by rw [if_neg known, if_pos lacking])) rfl
    · have known : ¬ (v ≠ 0x5402 ∧ v ≠ 0x5403) := by omega
      have got : ¬ s.shared.getLsbD 0 = false := by rw [Bool.not_eq_false]; exact hc
      exact ⟨s.negotiate v, (negotiation_agrees h hn hv hw).trans (by rw [if_neg known, if_neg got]), negotiate_spec v⟩
  case ready =>
    intro h hn hw
    exact ⟨_, exec_ready_stage h hn hw, becomeReady_spec⟩
  case restart =>
    intro k hk
    exact ⟨tileRestart_refused h, tileRestart_accepted h hk⟩
  case ended =>
    refine ⟨step_restart_bad hp off hl, fun hs hr' hb hc hpens hflock hf hw hk => ?_⟩
    exact step_restart_good hp hl (val_mod_of_east hk) hs hr' hb hc hpens hflock hf hw

end Sys2Proof.Machine
end

section
/-! SUPPORT. The tick generator: reset, the tick group, beacons, the interlock of the two masters, and from them statements
O2, O21, O22 and O24. -/

namespace Sys2Proof.Machine

variable {s : State}

/-- Another object's number is untouched by a write. -/
theorem num_setNum_of_ne {i j k l n : Nat} (h : objKey k l ≠ objKey i j) : (s.setNum i j n).num k l = s.num k l := by
  rw [State.num_setNum, if_neg h]

/-- Settles O2: each field and object of the reset state at its default. -/
theorem resetHoldsTheStatedValues : Obligations.ResetHoldsTheStatedValues := by
  unfold Obligations.ResetHoldsTheStatedValues
  refine ⟨rfl, rfl, rfl, rfl, rfl, rfl, rfl, rfl, rfl, rfl, rfl, rfl, rfl, rfl, rfl, fun p => ⟨rfl, fun n => ?_⟩,
    fun k => ⟨rfl, rfl⟩, fun f => rfl, fun n => rfl⟩
  unfold Pen.reg
  split
  · rfl
  · rfl

/-! ## The tick group (R30, R31) -/

/-- The cases of R30 with their abort codes, in the order in which they are tested. -/
def State.tickBars (s : State) : List (Nat × Prop) :=
  let period := s.stagedNum 0x2003 0x2001 0
  let land := s.stagedNum 0x2003 0x2002 0
  [(0x20000010, 2000 * land > period), (0x20000011, period < s.occupancy false),
    (0x20000012, s.tick.role = 3 ∨ (s.tick.role ≠ 0 ∧ s.tick.active = false)), (0x20000013, s.tick.change ≠ none)]

theorem tickRule_eq : tickRule s =
    if 2000 * s.stagedNum 0x2003 0x2002 0 > s.stagedNum 0x2003 0x2001 0 then 0x20000010
    else if s.stagedNum 0x2003 0x2001 0 < s.occupancy false then 0x20000011
    else if s.tick.role = 3 ∨ (s.tick.role ≠ 0 ∧ s.tick.active = false) then 0x20000012
    else if s.tick.change ≠ none then 0x20000013 else 0 := by
  simp [tickRule, Option.isSome_iff_ne_none]

/-- The agreement check answers with the first case that holds. -/
theorem tickRule_first {k : Nat} (h : k < s.tickBars.length) (hk : s.tickBars[k].2)
    (first : ∀ j (hj : j < s.tickBars.length), j < k → ¬ s.tickBars[j].2) : tickRule s = s.tickBars[k].1 := by
  have h0 (hk : 0 < k) : ¬ 2000 * s.stagedNum 0x2003 0x2002 0 > s.stagedNum 0x2003 0x2001 0 := first 0 (by simp [State.tickBars]) hk
  have h1 (hk : 1 < k) : ¬ s.stagedNum 0x2003 0x2001 0 < s.occupancy false := first 1 (by simp [State.tickBars]) hk
  have h2 (hk : 2 < k) : ¬ (s.tick.role = 3 ∨ (s.tick.role ≠ 0 ∧ s.tick.active = false)) := first 2 (by simp [State.tickBars]) hk
  have four : k < 4 := h
  rw [tickRule_eq]
  obtain rfl | rfl | rfl | rfl : k = 0 ∨ k = 1 ∨ k = 2 ∨ k = 3 := by omega
  · exact if_pos hk
  · rw [if_neg (h0 (by decide))]
    exact if_pos hk
  · rw [if_neg (h0 (by decide)), if_neg (h1 (by decide))]
    exact if_pos hk
  · rw [if_neg (h0 (by decide)), if_neg (h1 (by decide)), if_neg (h2 (by decide))]
    exact if_pos hk

theorem tickRule_zero (h : ∀ e ∈ s.tickBars, ¬ e.2) : tickRule s = 0 := by
  simp only [State.tickBars, List.forall_mem_cons, List.not_mem_nil, false_imp_iff, implies_true, and_true] at h
  obtain ⟨h0, h1, h2, h3⟩ := h
  rw [tickRule_eq, if_neg h0, if_neg h1, if_neg h2, if_neg h3]

/-- Only a change's own case makes the check answer otherwise than 0. -/
theorem tickBar_code_ne_zero {k : Nat} (h : k < s.tickBars.length) : s.tickBars[k].1 ≠ 0 := by
  have four : k < 4 := h
  obtain rfl | rfl | rfl | rfl : k = 0 ∨ k = 1 ∨ k = 2 ∨ k = 3 := by omega
  all_goals exact Nat.succ_ne_zero _

/-- New values govern from the next tick; while treads are stopped they govern at once. -/
theorem putTread_spec (p l : Nat) : (s.putTread p l).num 0x2001 0 = p ∧ (s.putTread p l).num 0x2002 0 = l
    ∧ { s.putTread p l with objs := s.objs, tick := s.tick } = s
    ∧ (s.putTread p l).tick = { s.tick with
        nextPeriod := p, nextLand := l
        period := if s.tick.running then s.tick.period else p, land := if s.tick.running then s.tick.land else l } := by
  have period : ((s.setNum 0x2001 0 p).setNum 0x2002 0 l).num 0x2001 0 = p := by
    rw [num_setNum_of_ne (by decide)]; exact s.num_setNum_same 0x2001 0 p
  have land : ((s.setNum 0x2001 0 p).setNum 0x2002 0 l).num 0x2002 0 = l := State.num_setNum_same _ 0x2002 0 l
  cases h : s.tick.running with
  | false =>
    have stopped : s.putTread p l = ((s.setNum 0x2001 0 p).setNum 0x2002 0 l).modTick fun t =>
        { t with nextPeriod := p, nextLand := l, period := p, land := l } := by
      simp [State.putTread, State.modTick, h]
    rw [stopped]
    exact ⟨period, land, rfl, rfl⟩
  | true =>
    have runs : s.putTread p l = ((s.setNum 0x2001 0 p).setNum 0x2002 0 l).modTick fun t =>
        { t with nextPeriod := p, nextLand := l } := by
      simp [State.putTread, State.modTick, h]
    rw [runs]
    exact ⟨period, land, rfl, rfl⟩

/-- A refused commit answers with its abort code and changes nothing. -/
theorem applyCommit_refused {slot commit ab : Nat} {check : State → Nat} {apply : State → State} (h : check s = ab)
    (h0 : ab ≠ 0) : s.applyCommit slot commit false check apply = s.answer slot opCommand commit 0 ab := by
  simp [State.applyCommit, h, h0]

theorem applyCommit_accepted {slot commit : Nat} {check : State → Nat} {apply : State → State} (h : check s = 0) :
    s.applyCommit slot commit false check apply = ((apply s).setGroup commit {}).answer slot opCommand commit 0 0 := by
  simp [State.applyCommit, h]

/-- What an accepted tick group leaves, its staging area emptied. -/
theorem tickApply_spec (h : s.tick.running = false) :
    let u := (tickApply s).setGroup 0x2003 {}
    let period := s.stagedNum 0x2003 0x2001 0
    let land := s.stagedNum 0x2003 0x2002 0
    u.dict = { s.dict with tickGroup := {} } ∧ { u with dict := s.dict, objs := s.objs, tick := s.tick } = s
    ∧ (s.tick.role = 0 → u.num 0x2001 0 = period ∧ u.num 0x2002 0 = land ∧ u.tick = { s.tick with
        period := period, land := land, nextPeriod := period, nextLand := land })
    ∧ (s.tick.role ≠ 0 → u.objs = s.objs
        ∧ u.tick = { s.tick with change := some (period, land, s.num 0x2008 0 + 1) }) := by
  intro u period land
  by_cases hr : s.tick.role = 0
  · have hu : u = (s.putTread period land).setGroup 0x2003 {} := by simp only [u, tickApply, if_pos hr]; rfl
    obtain ⟨hp, hl, frame, tick⟩ := putTread_spec (s := s) period land
    have kept := congrArg State.dict frame
    have dict : (s.putTread period land).dict = s.dict := kept
    have same := congrArg (fun v : State => { v with dict := s.dict }) frame
    rw [hu]
    refine ⟨?_, same, fun _ => ⟨hp, hl, ?_⟩, fun h' => absurd hr h'⟩
    · show { (s.putTread period land).dict with tickGroup := {} } = _
      rw [dict]
    · show (s.putTread period land).tick = _
      rw [tick, h]; rfl
  · have hu : u = (s.modTick fun t => { t with change := some (period, land, s.num 0x2008 0 + 1) }).setGroup 0x2003 {} := by
      simp only [u, tickApply, if_neg hr]; rfl
    rw [hu]
    exact ⟨rfl, rfl, fun h' => absurd h' hr, fun _ => ⟨rfl, rfl⟩⟩

/-- A pending change whose count reaches zero governs. -/
theorem changeCountdownZero_governs {p l c : Nat} (h : s.tick.change = some (p, l, c)) (hc : c ≤ 1) :
    Done .changeCountdownZero s fun t => t.num 0x2001 0 = p ∧ t.num 0x2002 0 = l
      ∧ { t with objs := s.objs, tick := s.tick } = s
      ∧ t.tick = { s.tick with
          change := none, nextPeriod := p, nextLand := l
          period := if s.tick.running then s.tick.period else p, land := if s.tick.running then s.tick.land else l } := by
  have run : execChangeCountdownZero s = .next ((s.putTread p l).modTick fun t => { t with change := none }) := by
    simp [execChangeCountdownZero, State.applyChange, h, hc]
  obtain ⟨hp, hl, frame, tick⟩ := putTread_spec (s := s) p l
  refine ⟨_, run, hp, hl, frame, ?_⟩
  show { (s.putTread p l).tick with change := none } = _
  rw [tick]

/-- Settles O21: the check's first case that holds, what an accepted group leaves, and the change that counts down. -/
theorem tickGroupCommits : Obligations.TickGroupCommits := by
  intro slot s accepts free
  have run : execTickGroupCommit slot s = .next (if s.tick.running then s.defer (.tickCommit slot none)
      else s.applyCommit slot 0x2003 false tickRule tickApply) := by
    rw [execTickGroupCommit, accepts.commitCommand, free]; rfl
  refine ⟨fun h => ?_, fun h => ⟨fun k hk holds first => ?_, fun none => ?_⟩, fun p l c => changeCountdownZero_governs⟩
  · rw [exec_tickGroupCommit, run, if_pos h]
  · refine ⟨s, ?_, rfl⟩
    have code := tickRule_first hk holds first
    rw [exec_tickGroupCommit, run, if_neg (by simp [h]), applyCommit_refused code (tickBar_code_ne_zero hk)]
    rfl
  · refine ⟨_, ?_, tickApply_spec h⟩
    rw [exec_tickGroupCommit, run, if_neg (by simp [h]), applyCommit_accepted (tickRule_zero none)]

/-! ## Beacons (R32, R36, R37, R41) -/

/-- The objects that a followed beacon sets: the tick offset and the flywheel count (R36, R41). -/
def State.beaconObjs (s : State) (offset : Int) : State := (s.setNum 0x200B 0 (intBits 4 offset)).setNum 0x200C 0 0

theorem epoch_beaconObjs (offset : Int) : (s.beaconObjs offset).epoch = s.epoch := by
  rw [State.beaconObjs, State.epoch, num_setNum_of_ne (by decide), num_setNum_of_ne (by decide)]; rfl

theorem offset_beaconObjs (offset : Int) : (s.beaconObjs offset).num 0x200B 0 = intBits 4 offset := by
  rw [State.beaconObjs, num_setNum_of_ne (by decide), State.num_setNum_same]

theorem flywheel_beaconObjs (offset : Int) : (s.beaconObjs offset).num 0x200C 0 = 0 := State.num_setNum_same _ _ _ _

/-- The first beacon of a run of treads sets the epoch and the lengths that govern (log entry 121). -/
def State.firstBeacon (s : State) (b : Beacon) : State :=
  if !s.tick.everBeacon && !s.tick.begun then
    (s.setNum 0x2004 0 (b.epoch - 1)).modTick fun t =>
      { t with period := b.period, land := b.land, nextPeriod := b.period, nextLand := b.land }
  else s

/-- A change whose count reaches zero at the tick that the beacon marks. -/
def TickSt.dueChange (t : TickSt) (b : Beacon) : Option (Nat × Nat × Nat) :=
  match t.change with
  | some (p, _, c) => if c ≤ 1 then some (p, b.land, c) else none
  | none => none

/-- The landing length of a beacon, whose tick is still to come or has been. -/
def TickSt.takeLand (t : TickSt) (b : Beacon) (ahead : Bool) : TickSt :=
  if ahead then { t with nextLand := b.land }
  else { t with land := b.land, nextLand := if t.nextLand = t.land then b.land else t.nextLand }

/-- What a beacon mirrors besides: digests, active role, an announced change (log entry 68). -/
def TickSt.mirror (t : TickSt) (b : Beacon) (ahead : Bool) (due : Option (Nat × Nat × Nat)) : TickSt :=
  { t with
    schd := some b.schd, membd := b.membd, activeRole := if b.active then b.role else t.activeRole, everBeacon := true
    flywheel := false
    change := if b.chgIn = 0 then (if ahead then due else none)
      else some (b.nextPeriod, b.nextLand, b.chgIn + if ahead then 1 else 0) }

/-- A module whose schedule does not bear the beacon's SCHD falls quiet (R258). -/
def State.quietFor (s : State) (b : Beacon) (ahead : Bool) : State :=
  if !ahead && s.tick.begun && !s.gallery.quiet && schedSetcrc (s.blob 0x2031 0) != b.schd then s.goQuiet else s

/-- The state that a beacon leaves before its period is judged. -/
def State.mirrorBeacon (s : State) (b : Beacon) : State :=
  let ahead := decide (b.epoch > s.epoch)
  (((s.modTick (·.takeLand b ahead)).modTick (·.mirror b ahead (s.tick.dueChange b))).quietFor b ahead)

/-- The period that a beacon must bear. -/
def State.expectedPeriod (s : State) (b : Beacon) : Nat :=
  if decide (b.epoch > s.epoch) then ((s.tick.dueChange b).map (·.1)).getD s.tick.nextPeriod else s.tick.period

/-- A beacon of this tread or the next with another period than is due loses the tick (R41). -/
def State.judgePeriod (s : State) (b : Beacon) (expected : Nat) : State :=
  if b.epoch ≤ s.epoch + 1 ∧ b.period ≠ expected then s.loseTick else s

theorem followBeacon_eq (b : Beacon) (offset : Int) : s.followBeacon b offset =
    let u := (s.beaconObjs offset).firstBeacon b
    (u.mirrorBeacon b).judgePeriod b (u.expectedPeriod b) := rfl

theorem firstBeacon_of_ever (b : Beacon) (h : s.tick.everBeacon = true) : s.firstBeacon b = s := by
  simp [State.firstBeacon, h]

theorem quietFor_frame (b : Beacon) (ahead : Bool) : (s.quietFor b ahead).tick = s.tick ∧ (s.quietFor b ahead).objs = s.objs
    ∧ (s.quietFor b ahead).mem = s.mem ∧ (s.quietFor b ahead).pens = s.pens := by
  unfold State.quietFor
  split
  · exact ⟨rfl, rfl, rfl, rfl⟩
  · exact ⟨rfl, rfl, rfl, rfl⟩

theorem judgePeriod_frame (b : Beacon) (p : Nat) : (s.judgePeriod b p).objs = s.objs ∧ (s.judgePeriod b p).mem = s.mem
    ∧ (s.judgePeriod b p).pens = s.pens := by
  unfold State.judgePeriod State.loseTick
  split
  · split
    · exact ⟨rfl, rfl, rfl⟩
    · exact ⟨rfl, rfl, rfl⟩
  · exact ⟨rfl, rfl, rfl⟩

/-- A lost tick asks for the stop, and nothing else of the tick generator changes. -/
theorem tick_loseTick (hr : s.tick.running = true) (h0 : s.tick.role ≠ 0) :
    s.loseTick.tick = { s.tick with lost := true, stopReq := s.tick.stopReq || !s.tick.lost } := by
  cases h : s.tick.lost with
  | false => simp [State.loseTick, hr, h0, h, State.modTick]
  | true =>
    have same : s.loseTick = s := by simp [State.loseTick, h]
    rw [same]
    generalize s.tick = t at h
    cases t
    simp_all

theorem tick_judgePeriod (b : Beacon) (p : Nat) (hr : s.tick.running = true) (h0 : s.tick.role ≠ 0) :
    ∃ stop, (s.judgePeriod b p).tick = { s.tick with
      lost := s.tick.lost || decide (b.epoch ≤ s.epoch + 1 ∧ b.period ≠ p), stopReq := stop } := by
  unfold State.judgePeriod
  split
  · next h => exact ⟨_, by rw [tick_loseTick hr h0, decide_eq_true h, Bool.or_true]⟩
  · next h => exact ⟨s.tick.stopReq, by rw [decide_eq_false h, Bool.or_false]⟩

/-- The tick generator that a beacon leaves, its period judged or not. -/
def State.mirrored (s : State) (b : Beacon) : TickSt :=
  (s.tick.takeLand b (decide (b.epoch > s.epoch))).mirror b (decide (b.epoch > s.epoch)) (s.tick.dueChange b)

theorem mirrorBeacon_frame (b : Beacon) : (s.mirrorBeacon b).tick = s.mirrored b ∧ (s.mirrorBeacon b).objs = s.objs
    ∧ (s.mirrorBeacon b).mem = s.mem ∧ (s.mirrorBeacon b).pens = s.pens := quietFor_frame b _

theorem takeLand_frame (t : TickSt) (b : Beacon) (ahead : Bool) : (t.takeLand b ahead).running = t.running
    ∧ (t.takeLand b ahead).role = t.role ∧ (t.takeLand b ahead).lost = t.lost ∧ (t.takeLand b ahead).heard = t.heard
    ∧ (t.takeLand b ahead).beaconEpoch = t.beaconEpoch ∧ (t.takeLand b ahead).activeRole = t.activeRole
    ∧ (if ahead then (t.takeLand b ahead).nextLand = b.land else (t.takeLand b ahead).land = b.land) := by
  cases ahead
  · exact ⟨rfl, rfl, rfl, rfl, rfl, rfl, rfl⟩
  · exact ⟨rfl, rfl, rfl, rfl, rfl, rfl, rfl⟩

/-- What a module that follows a beacon takes from it (R36, R41). -/
theorem followBeacon_spec {b : Beacon} {offset : Int} (he : s.tick.everBeacon = true) (hr : s.tick.running = true)
    (h0 : s.tick.role ≠ 0) :
    let t := s.followBeacon b offset
    t.tick.heard = s.tick.heard ∧ t.tick.beaconEpoch = s.tick.beaconEpoch ∧ t.num 0x200B 0 = intBits 4 offset
    ∧ t.num 0x200C 0 = 0 ∧ t.tick.flywheel = false ∧ t.tick.schd = some b.schd ∧ t.tick.membd = b.membd
    ∧ t.tick.activeRole = (if b.active then b.role else s.tick.activeRole) ∧ t.epoch = s.epoch ∧ t.mem = s.mem ∧ t.pens = s.pens
    ∧ (b.chgIn ≠ 0 → t.tick.change = some (b.nextPeriod, b.nextLand, b.chgIn + if s.epoch < b.epoch then 1 else 0))
    ∧ (if b.epoch ≤ s.epoch then t.tick.land = b.land else t.tick.nextLand = b.land)
    ∧ (b.epoch ≤ s.epoch → t.tick.lost = (s.tick.lost || b.period != s.tick.period)) := by
  intro t
  let u := s.beaconObjs offset
  have epoch : u.epoch = s.epoch := epoch_beaconObjs offset
  have ht : t = (u.mirrorBeacon b).judgePeriod b (u.expectedPeriod b) := by
    simp only [t, followBeacon_eq, firstBeacon_of_ever (s := s.beaconObjs offset) b he, u]
  obtain ⟨mtick, mobjs, mmem, mpens⟩ := mirrorBeacon_frame (s := u) b
  obtain ⟨jobjs, jmem, jpens⟩ := judgePeriod_frame (s := u.mirrorBeacon b) b (u.expectedPeriod b)
  obtain ⟨trun, trole, tlost, theard, tepoch, tactive, tland⟩ := takeLand_frame s.tick b (decide (b.epoch > u.epoch))
  obtain ⟨stop, jtick⟩ := tick_judgePeriod (s := u.mirrorBeacon b) b (u.expectedPeriod b)
    (by rw [mtick]; exact trun.trans hr) (by rw [mtick]; exact fun h => h0 (trole.symm.trans h))
  have objs : t.objs = u.objs := by rw [ht, jobjs, mobjs]
  have num (i : Nat) : t.num i 0 = u.num i 0 := by simp only [State.num, State.obj, objs]
  have mepoch : (u.mirrorBeacon b).epoch = s.epoch := by
    rw [← epoch]; simp only [State.epoch, State.num, State.obj, mobjs]
  rw [mtick, mepoch] at jtick
  rw [← ht] at jtick
  rw [jtick]
  refine ⟨theard, tepoch, (num _).trans (offset_beaconObjs offset), (num _).trans (flywheel_beaconObjs offset), rfl, rfl,
    rfl, ?_, (num _).trans epoch, ?_, ?_, fun hc => ?_, ?_, fun hb => ?_⟩
  · show (if b.active then b.role else (s.tick.takeLand b _).activeRole) = _
    rw [tactive]
  · rw [ht, jmem, mmem]; rfl
  · rw [ht, jpens, mpens]; rfl
  · show (if b.chgIn = 0 then _ else some (b.nextPeriod, b.nextLand, b.chgIn + if decide (b.epoch > u.epoch) then 1 else 0)) = _
    rw [if_neg hc, epoch]
    simp only [decide_eq_true_eq, gt_iff_lt]
  · by_cases hb : b.epoch ≤ s.epoch
    · have behind : decide (b.epoch > u.epoch) = false := by rw [epoch]; exact decide_eq_false (by omega)
      rw [behind] at tland
      rw [if_pos hb]
      show (s.tick.takeLand b (decide (b.epoch > u.epoch))).land = b.land
      rw [behind]; exact tland
    · have ahead : decide (b.epoch > u.epoch) = true := by rw [epoch]; exact decide_eq_true (by omega)
      rw [ahead] at tland
      rw [if_neg hb]
      show (s.tick.takeLand b (decide (b.epoch > u.epoch))).nextLand = b.land
      rw [ahead]; exact tland
  · have behind : decide (b.epoch > u.epoch) = false := by rw [epoch]; exact decide_eq_false (by omega)
    have period : u.expectedPeriod b = s.tick.period := by rw [State.expectedPeriod, behind]; rfl
    show ((s.tick.takeLand b _).lost || decide (b.epoch ≤ s.epoch + 1 ∧ b.period ≠ u.expectedPeriod b)) = _
    have near : b.epoch ≤ s.epoch + 1 := by omega
    rw [tlost, period]
    simp [near, bne, beq_eq_decide]

/-- The tick generator that has heard a beacon (R37). -/
def State.hear (s : State) (b : Beacon) (offset : Int) (heard : List Heard) : State :=
  s.modTick fun t => { t with heard := heard ++ [⟨b.role, b.active, offset⟩], beaconEpoch := b.epoch }

/-- The first beacon of an epoch, of a kind that this module uses, is followed (R37). -/
theorem onBeacon_follows {b : Beacon} {offset : Int} (hr : s.tick.running = true) (h0 : s.tick.role ≠ 0)
    (good : s.badBeacon b = false) (new : s.tick.beaconEpoch < b.epoch) (ha : s.tick.active = false)
    (uses : b.active = true ∨ (s.tick.role = 3 ∧ s.num 0x2007 0 = 1)) :
    s.onBeacon b offset = (s.hear b offset []).followBeacon b offset := by
  have role : ¬ s.roleNow = 0 := by rw [State.roleNow, hr]; exact h0
  have young : ¬ (!s.tick.heard.isEmpty && decide (b.epoch < s.tick.beaconEpoch)) = true := by simp; omega
  have fresh : (s.tick.heard.isEmpty || decide (b.epoch > s.tick.beaconEpoch)) = true := by simp [new]
  have used : (if s.tick.role == 3 && s.num 0x2007 0 == 1 then true else b.active) = true := by
    rcases uses with h | ⟨h1, h2⟩
    · simp [h]
    · simp [h1, h2]
  simp only [State.onBeacon, role, good, hr, young, fresh, ha, if_true, if_false, Bool.false_eq_true, Bool.not_true,
    List.any_nil, Bool.and_false, Bool.false_and]
  exact if_pos used

theorem execBeaconReceived_up {f : Fin 96} {b : Beacon} {raw upstream : Int} (h : (s.link f).state = 3) :
    execBeaconReceived f b raw upstream s = .next (s.onBeacon b (s.corrected f raw upstream)) := if_pos h

/-- Settles O22: what discards a beacon, and what a module that follows one takes from it. -/
theorem beaconsAreFollowed : Obligations.BeaconsAreFollowed := by
  intro f b raw upstream s up hr
  simp only [exec_beaconReceived, execBeaconReceived_up up]
  have role : s.roleNow = s.tick.role := if_pos hr
  refine ⟨fun h0 => ?_, fun h0 => ⟨fun bad => ?_, fun good heard old => ?_, fun good ever new ha uses => ?_⟩⟩
  · rw [State.onBeacon, role, if_pos h0]
  · rw [State.onBeacon, role, if_neg h0, if_pos bad]
  · have stale : (!s.tick.heard.isEmpty && decide (b.epoch < s.tick.beaconEpoch)) = true := by simp [heard, old]
    simp [State.onBeacon, role, h0, good, hr, stale]
  · refine ⟨_, by rw [exec_beaconReceived, execBeaconReceived_up up, onBeacon_follows hr h0 good new ha uses], ?_⟩
    exact followBeacon_spec (s := s.hear b (s.corrected f raw upstream) []) ever hr h0

/-! ## The interlock (R35, R38, R40) -/

/-- A release drops the claim, and an active primary's clean count begins again (R39). -/
theorem releaseClaim_eq : s.releaseClaim =
    (if s.tick.active = true ∧ s.tick.role = 1 then s.setNum 0x200D 0 0 else s).modTick fun t =>
      { t with claimOut := false, claiming := false, active := false } := rfl

@[simp] theorem tick_releaseClaim :
    s.releaseClaim.tick = { s.tick with claimOut := false, claiming := false, active := false } := by
  rw [releaseClaim_eq]; split <;> rfl

@[simp] theorem events_releaseClaim : s.releaseClaim.events = s.events := by
  rw [releaseClaim_eq]; split <;> rfl

theorem releaseClaim_frame : { s.releaseClaim with tick := s.tick, objs := s.objs } = s := by
  rw [releaseClaim_eq]; split <;> rfl

theorem objs_releaseClaim (h : s.tick.active = false ∨ s.tick.role ≠ 1) : s.releaseClaim.objs = s.objs := by
  rw [releaseClaim_eq, if_neg (by rcases h with h | h <;> simp [h])]; rfl

theorem clean_releaseClaim (ha : s.tick.active = true) (hr : s.tick.role = 1) : s.releaseClaim.num 0x200D 0 = 0 := by
  rw [releaseClaim_eq, if_pos ⟨ha, hr⟩]
  exact s.num_setNum_same 0x200D 0 0

/-- A count that is reset stays so through a release. -/
theorem clean_releaseClaim_of_zero (h : s.num 0x200D 0 = 0) : s.releaseClaim.num 0x200D 0 = 0 := by
  rw [releaseClaim_eq]
  split
  · exact s.num_setNum_same 0x200D 0 0
  · exact h

/-- What differs between two states is the tick generator, the objects and the event log. -/
def State.sameModule (s t : State) : Prop :=
  { t with tick := s.tick, objs := s.objs, events := s.events, nextSeq := s.nextSeq } = s

theorem State.sameModule.release {u : State} (h : s.sameModule u) (f : TickSt → TickSt) :
    s.sameModule (u.releaseClaim.modTick f) := by
  have key : { u.releaseClaim with tick := s.tick, objs := s.objs, events := s.events, nextSeq := s.nextSeq }
      = { u with tick := s.tick, objs := s.objs, events := s.events, nextSeq := s.nextSeq } :=
    congrArg (fun v : State => { v with tick := s.tick, objs := s.objs, events := s.events, nextSeq := s.nextSeq })
      (releaseClaim_frame (s := u))
  exact key.trans h

/-- The log of an event reads the tick generator for whether treads run, and no more. -/
theorem events_log_modTick {f : TickSt → TickSt} (h : (f s.tick).running = s.tick.running) (c a d : Nat) :
    ((s.modTick f).log c a d).events = (s.log c a d).events := by
  simp only [State.log, State.modTick, State.epoch, State.num, State.obj, h]

/-- An active master that sees a claim: a fault unless it expected it; then it releases its own (log entry 69). -/
def State.claimFault (s : State) : State :=
  if s.tick.reclaimSeen then s.modTick fun t => { t with claimIn := true }
  else ((s.modTick fun t => { t with claimIn := true }).log 0x2008 srcKeeper s.epoch).ownFaulted

theorem execClaimInChange_active (h : s.tick.active = true) :
    execClaimInChange true s = .next (s.claimFault.releaseClaim.modTick fun t => { t with reclaimSeen := false }) := by
  simp only [execClaimInChange, State.claimFault, State.modTick, h]; rfl

theorem claimFault_spec : s.claimFault.tick.claimIn = true ∧ s.claimFault.tick.active = s.tick.active
    ∧ s.claimFault.tick.role = s.tick.role ∧ s.claimFault.objs = s.objs
    ∧ s.claimFault.events = (if s.tick.reclaimSeen then s.events else (s.log 0x2008 srcKeeper s.epoch).events)
    ∧ s.sameModule s.claimFault := by
  unfold State.claimFault
  split
  · exact ⟨rfl, rfl, rfl, rfl, rfl, rfl⟩
  · exact ⟨rfl, rfl, rfl, rfl, events_log_modTick rfl 0x2008 srcKeeper s.epoch, rfl⟩

theorem claimInChange_released (h : s.tick.active = true) : Done (.claimInChange true) s fun t =>
    t.tick.claimIn = true ∧ t.tick.claimOut = false ∧ t.tick.active = false ∧ t.tick.claiming = false
    ∧ t.events = (if s.tick.reclaimSeen then s.events else (s.log 0x2008 srcKeeper s.epoch).events)
    ∧ (s.tick.role = 1 → t.num 0x200D 0 = 0) ∧ (s.tick.role ≠ 1 → t.objs = s.objs) ∧ s.sameModule t := by
  obtain ⟨hin, hactive, hrole, hobjs, hevents, hsame⟩ := claimFault_spec (s := s)
  refine ⟨_, execClaimInChange_active h, ?_⟩
  refine ⟨?_, ?_, ?_, ?_, events_releaseClaim.trans hevents, fun hr => ?_, fun hr => ?_, hsame.release _⟩
  · simp [State.modTick, hin]
  · simp [State.modTick]
  · simp [State.modTick]
  · simp [State.modTick]
  · exact clean_releaseClaim (hactive.trans h) (hrole.trans hr)
  · exact (objs_releaseClaim (.inr (hrole ▸ hr))).trans hobjs

/-- The event of a claimant that becomes active: of a reclaiming primary, or of a standby (R38, R40). -/
def State.noteClaim (s : State) : State :=
  if s.tick.reclaiming then s.log 0x2005 srcKeeper s.epoch
  else if s.tick.role = 2 then s.log 0x2002 srcKeeper s.epoch else s

theorem noteClaim_frame : { s.noteClaim with events := s.events, nextSeq := s.nextSeq } = s := by
  unfold State.noteClaim; split
  · rfl
  · split <;> rfl

theorem tick_noteClaim : s.noteClaim.tick = s.tick := by
  unfold State.noteClaim; split
  · rfl
  · split <;> rfl

/-- A claimant whose rival's claim is gone takes over. -/
theorem takeClaim_eq (ho : s.tick.claimOut = true) (hc : s.tick.claiming = true) (hi : s.tick.claimIn = false)
    (hr : s.tick.role = 1 ∨ s.tick.role = 2) : s.takeClaim = s.noteClaim.modTick fun t =>
      { t with reclaiming := false, reclaimSent := false, claimDue := false, cmpFails := 0, active := true, claiming := false } := by
  have master : (s.tick.role == 1 || s.tick.role == 2) = true := by simpa using hr
  have tick := tick_noteClaim (s := s)
  unfold State.noteClaim at tick
  simp [State.takeClaim, State.noteActive, State.noteClaim, State.modTick, tick, ho, hc, hi, master]

/-- The claimant's line is alone: CLAIM_IN falls. -/
def State.claimGone (s : State) : State := s.modTick fun t => { t with claimIn := false }

theorem claimGone_noteClaim : s.claimGone.noteClaim.events
      = (if s.tick.reclaiming then (s.log 0x2005 srcKeeper s.epoch).events
          else if s.tick.role = 2 then (s.log 0x2002 srcKeeper s.epoch).events else s.events)
    ∧ { s.claimGone.noteClaim with tick := s.tick, events := s.events, nextSeq := s.nextSeq } = s := by
  change (if s.tick.reclaiming then s.claimGone.log 0x2005 srcKeeper s.epoch
    else if s.tick.role = 2 then s.claimGone.log 0x2002 srcKeeper s.epoch else s.claimGone).events = _ ∧ _
  have logged (c : Nat) : (s.claimGone.log c srcKeeper s.epoch).events = (s.log c srcKeeper s.epoch).events :=
    events_log_modTick rfl c srcKeeper s.epoch
  constructor
  · split
    · exact logged 0x2005
    · split
      · exact logged 0x2002
      · rfl
  · unfold State.noteClaim
    split
    · rfl
    · split <;> rfl

theorem claimInChange_taken (ho : s.tick.claimOut = true) (hc : s.tick.claiming = true)
    (hr : s.tick.role = 1 ∨ s.tick.role = 2) : Done (.claimInChange false) s fun t =>
      t.tick.claimIn = false ∧ t.tick.active = true ∧ t.tick.claimOut = true ∧ t.tick.reclaiming = false
      ∧ t.events = (if s.tick.reclaiming then (s.log 0x2005 srcKeeper s.epoch).events
          else if s.tick.role = 2 then (s.log 0x2002 srcKeeper s.epoch).events else s.events)
      ∧ { t with tick := s.tick, events := s.events, nextSeq := s.nextSeq } = s := by
  have tick : s.claimGone.noteClaim.tick = s.claimGone.tick := tick_noteClaim
  obtain ⟨events, same⟩ := claimGone_noteClaim (s := s)
  refine ⟨_, congrArg Host.Outcome.next (takeClaim_eq (s := s.claimGone) ho hc rfl hr), ?_, rfl, ?_, rfl, events, same⟩
  · exact congrArg TickSt.claimIn tick
  · exact (congrArg TickSt.claimOut tick).trans ho

/-- A claimant that times out: the fault, and a reclaiming primary's count begins again (R38, R40). -/
def State.claimFailed (s : State) : State :=
  ((if s.tick.reclaiming then s.setNum 0x200D 0 0 else s).log 0x2008 srcKeeper s.epoch).ownFaulted

theorem execClaimTimeout_claiming (hc : s.tick.claiming = true) (hi : s.tick.claimIn = true) :
    execClaimTimeout s = .next (s.claimFailed.releaseClaim.modTick fun t =>
      { t with reclaiming := false, reclaimSent := false, claimDue := false }) := by
  have hepoch : (s.setNum 0x200D 0 0).epoch = s.epoch := num_setNum_of_ne (by decide)
  unfold execClaimTimeout State.claimFailed
  rw [hc, hi]
  by_cases h : s.tick.reclaiming = true
  · simp [h, hepoch]
  · simp [h]

theorem claimFailed_spec : s.claimFailed.tick = { s.tick with ownFault := true }
    ∧ s.claimFailed.events = (s.log 0x2008 srcKeeper s.epoch).events
    ∧ (s.tick.reclaiming = true → s.claimFailed.num 0x200D 0 = 0)
    ∧ (s.tick.reclaiming = false → s.claimFailed.objs = s.objs) ∧ s.sameModule s.claimFailed := by
  have hepoch : (s.setNum 0x200D 0 0).epoch = s.epoch := num_setNum_of_ne (by decide)
  by_cases h : s.tick.reclaiming = true
  · have hs : s.claimFailed = ((s.setNum 0x200D 0 0).log 0x2008 srcKeeper s.epoch).ownFaulted := by
      rw [State.claimFailed, if_pos h]
    rw [hs]
    refine ⟨rfl, ?_, fun _ => s.num_setNum_same 0x200D 0 0, fun h' => ?_, rfl⟩
    · show ((s.setNum 0x200D 0 0).log 0x2008 srcKeeper s.epoch).events = _
      simp [State.log, hepoch]
    · simp [h] at h'
  · have hs : s.claimFailed = (s.log 0x2008 srcKeeper s.epoch).ownFaulted := by rw [State.claimFailed, if_neg h]
    rw [hs]
    exact ⟨rfl, rfl, fun h' => absurd h' h, fun _ => rfl, rfl⟩

theorem claimTimeout_released (hc : s.tick.claiming = true) (hi : s.tick.claimIn = true) : Done .claimTimeout s fun t =>
    t.tick.claimOut = false ∧ t.tick.active = false ∧ t.events = (s.log 0x2008 srcKeeper s.epoch).events
    ∧ (s.tick.reclaiming = true → t.num 0x200D 0 = 0) ∧ (s.tick.active = true → s.tick.role = 1 → t.num 0x200D 0 = 0)
    ∧ (s.tick.reclaiming = false → s.tick.active = false ∨ s.tick.role ≠ 1 → t.objs = s.objs) ∧ s.sameModule t := by
  obtain ⟨htick, hevents, hcount, hobjs, hsame⟩ := claimFailed_spec (s := s)
  refine ⟨_, execClaimTimeout_claiming hc hi, ?_, ?_, events_releaseClaim.trans hevents, fun h => ?_, fun ha hr => ?_,
    fun h hr => ?_, hsame.release _⟩
  · simp [State.modTick]
  · simp [State.modTick]
  · exact clean_releaseClaim_of_zero (hcount h)
  · exact clean_releaseClaim (by rw [htick]; exact ha) (by rw [htick]; exact hr)
  · exact (objs_releaseClaim (by rw [htick]; exact hr)).trans (hobjs h)

/-- Settles O24: each line's change through the release of a claim, the claimant's takeover and its time-out. -/
theorem interlockOfTheMasters : Obligations.InterlockOfTheMasters := by
  intro s
  refine ⟨fun ha hr hl => ?_, claimInChange_released, claimInChange_taken, claimTimeout_released, fun hr hrun ha hn => ?_⟩
  · simp [execTreadConfirm, ha, hr, hl, State.modTick]
  · simp [execReclaim, hr, hrun, ha, State.cleanCount, hn, State.modTick]

end Sys2Proof.Machine
end

section
/-! SUPPORT. Delay probes of the beacon route, their replies, and dispute notices: what each leaves, and from that statement
O23. -/

namespace Sys2Proof.Machine

variable {s : State}

/-! ## Lists without repeats -/

/-- One step of `distinct`: an element that is not there yet joins at the end. -/
def addNew (a : List Nat) (i : Nat) : List Nat := if a.contains i then a else a ++ [i]

theorem mem_addNew {a : List Nat} {i j : Nat} : j ∈ addNew a i ↔ j ∈ a ∨ j = i := by
  unfold addNew
  split
  · next h =>
    refine ⟨Or.inl, fun h' => h'.elim id ?_⟩
    rintro rfl
    simpa using h
  · simp

theorem nodup_addNew {a : List Nat} {i : Nat} (h : a.Nodup) : (addNew a i).Nodup := by
  unfold addNew
  split
  · exact h
  · next hi => exact List.nodup_append.mpr ⟨h, List.nodup_singleton i, by
      intro x hx y hy
      obtain rfl := List.mem_singleton.mp hy
      rintro rfl
      exact hi (by simpa using hx)⟩

theorem mem_foldl_addNew {l a : List Nat} {j : Nat} : j ∈ l.foldl addNew a ↔ j ∈ a ∨ j ∈ l := by
  induction l generalizing a with
  | nil => simp
  | cons i l ih => rw [List.foldl_cons, ih, mem_addNew, List.mem_cons, or_assoc]

theorem nodup_foldl_addNew {l a : List Nat} (h : a.Nodup) : (l.foldl addNew a).Nodup := by
  induction l generalizing a with
  | nil => exact h
  | cons i l ih => exact ih (nodup_addNew h)

@[simp] theorem mem_distinct {l : List Nat} {j : Nat} : j ∈ distinct l ↔ j ∈ l :=
  mem_foldl_addNew.trans (by simp)

theorem nodup_distinct (l : List Nat) : (distinct l).Nodup := nodup_foldl_addNew List.nodup_nil

@[simp] theorem link_modTick (f : TickSt → TickSt) (k : Nat) : (s.modTick f).link k = s.link k := rfl

/-! ## Delay probes (R33, R34) -/

/-- A captured probe is answered on its fiber pair. -/
theorem delayProbeReceived_answers {f : Fin 96} {p : Probe} (up : (s.link f).state = 3) (h : p.type = 3) :
    Done (.delayProbeReceived f p) s fun t =>
      { t with links := s.links } = s ∧ t.link f = { s.link f with
        peerAddr := some p.source
        tickOut := (s.link f).tickOut ++ [(none, pad240 (leBytes 32 (4 + atBit s.probeSource 16 16 + atBit f 8 80 + atBit f 8 88
          + atBit p.pid 32 96 + atBit s.hubCycles 64 128)))] }
      ∧ ∀ g, g ≠ f.val → t.link g = s.link g := by
  refine ⟨s.onProbe f p, if_pos up, ?_⟩
  rw [State.onProbe, if_neg (not_not.mpr h)]
  exact ⟨rfl, by rw [State.link_modLink, if_pos rfl], fun g hg => by rw [State.link_modLink, if_neg hg]⟩

/-- The probe that a reply names, of the last 1,024 treads. -/
def State.probeOf (s : State) (p : Probe) : Option (Nat × Nat × Nat × Nat) :=
  s.tick.probes.find? fun e => e.1 == p.pid && decide (s.epoch < e.2.2.2 + 1024)

theorem probeOf_none {p : Probe} (h : ∀ e ∈ s.tick.probes, e.1 ≠ p.pid ∨ e.2.2.2 + 1024 ≤ s.epoch) : s.probeOf p = none := by
  rw [State.probeOf, List.find?_eq_none]
  intro e he
  rcases h e he with h | h
  · simp [h]
  · simp; omega

/-- The first probe of an identifier is the one that a reply names, if it is not too old. -/
theorem find?_and_of_find? {α : Type} {a b : α → Bool} {l : List α} {x : α} (h : l.find? a = some x) (hb : b x = true) :
    l.find? (fun e => a e && b e) = some x := by
  obtain ⟨hx, l1, l2, rfl, before⟩ := List.find?_eq_some_iff_append.mp h
  exact List.find?_eq_some_iff_append.mpr ⟨by simp [hx, hb], l1, l2, rfl, fun y hy => by simp [by simpa using before y hy]⟩

theorem probeOf_some {p : Probe} {f t0 e0 : Nat} (h : s.tick.probes.find? (fun e => e.1 == p.pid) = some (p.pid, f, t0, e0))
    (young : s.epoch < e0 + 1024) : s.probeOf p = some (p.pid, f, t0, e0) :=
  find?_and_of_find? h (decide_eq_true young)

/-- The hop delay that a reply to the probe launched at t0 gives, ps (R33, log entry 48). -/
def State.hopOf (s : State) (f : Nat) (p : Probe) (t0 : Nat) : Int :=
  ((s.clock : Int) - t0 - (p.tlaunch - p.tcapt)) * 250 + 2 * s.int 0x2011 (f + 1)

/-- A reply takes its probe from the list, and tells who is at the other end and how far. -/
def State.takeReply (s : State) (f : Nat) (p : Probe) (t0 : Nat) : State :=
  (s.modTick fun t => { t with probes := t.probes.filter fun e => e.1 != p.pid }).modLink f fun l =>
    { l with peerAddr := some p.source, measured := some ((((s.clock : Int) - t0) - ((p.tlaunch : Int) - p.tcapt)) / 2).toNat }

/-- What becomes of a hop delay, given the one in use (R34). -/
def State.useDelay (s : State) (f : Nat) (hop : Int) (old : Option Int) : State :=
  match old with
  | none => s.modTick fun t => { t with hopDelay := tabSet (fun _ => none) t.hopDelay f (some hop) }
  | some old =>
    if (hop - old).natAbs > 500 then
      (s.log 0x2007 srcHub f).modTick fun t => { t with remeasure := t.remeasure.filter (· ≠ f) ++ [f] }
    else if s.tick.running then
      s.modTick fun t => { t with newDelay := t.newDelay.filter (fun e => e.1 != f) ++ [(f, hop)] }
    else s.modTick fun t => { t with hopDelay := tabSet (fun _ => none) t.hopDelay f (some hop) }

theorem onReply_eq {f : Nat} {p : Probe} {t0 e0 : Nat} (h : s.probeOf p = some (p.pid, f, t0, e0)) (ht : p.type = 4) :
    s.onReply f p = (s.takeReply f p t0).useDelay f (s.hopOf f p t0) (tabGet (fun _ => none) s.tick.hopDelay f) := by
  unfold State.probeOf at h
  simp only [State.onReply, h, ht, ne_eq, not_true_eq_false, false_or, if_false]
  rfl

theorem useDelay_frame {f : Nat} {hop : Int} {old : Option Int} : (s.useDelay f hop old).tick.probes = s.tick.probes
    ∧ (s.useDelay f hop old).links = s.links ∧ (s.useDelay f hop old).objs = s.objs ∧ (s.useDelay f hop old).pens = s.pens
    ∧ (s.useDelay f hop old).mem = s.mem := by
  cases old with
  | none => exact ⟨rfl, rfl, rfl, rfl, rfl⟩
  | some d =>
    simp only [State.useDelay]
    split
    · exact ⟨rfl, rfl, rfl, rfl, rfl⟩
    · split
      · exact ⟨rfl, rfl, rfl, rfl, rfl⟩
      · exact ⟨rfl, rfl, rfl, rfl, rfl⟩

theorem useDelay_near {f : Nat} {hop d : Int} (h : (hop - d).natAbs ≤ 500) (hr : s.tick.running = true) :
    s.useDelay f hop (some d) = s.modTick fun t => { t with newDelay := t.newDelay.filter (fun e => e.1 != f) ++ [(f, hop)] } := by
  simp only [State.useDelay, hr, if_true]; exact if_neg (by omega)

theorem useDelay_far {f : Nat} {hop d : Int} (h : 500 < (hop - d).natAbs) : s.useDelay f hop (some d)
    = (s.log 0x2007 srcHub f).modTick fun t => { t with remeasure := t.remeasure.filter (· ≠ f) ++ [f] } := if_pos h

/-- A reply to a probe that it names (R33, R34). -/
theorem probeReplyReceived_measures {f : Fin 96} {p : Probe} {t0 e0 : Nat} (up : (s.link f).state = 3)
    (h : s.tick.probes.find? (fun e => e.1 == p.pid) = some (p.pid, f.val, t0, e0)) (young : s.epoch < e0 + 1024)
    (ht : p.type = 4) :
    let hop := s.hopOf f p t0
    let old : Option Int := tabGet (fun _ => none) s.tick.hopDelay f
    Done (.probeReplyReceived f p) s fun t =>
      (∀ e ∈ t.tick.probes, e.1 ≠ p.pid) ∧ (t.link f).peerAddr = some p.source ∧ t.objs = s.objs ∧ t.pens = s.pens
      ∧ t.mem = s.mem
      ∧ (old = none → tabGet (fun _ => none) t.tick.hopDelay f = some hop ∧ t.events = s.events)
      ∧ (∀ d, old = some d → (hop - d).natAbs ≤ 500 → s.tick.running = true →
          (f.val, hop) ∈ t.tick.newDelay ∧ t.tick.hopDelay = s.tick.hopDelay ∧ t.events = s.events)
      ∧ ∀ d, old = some d → 500 < (hop - d).natAbs →
          f.val ∈ t.tick.remeasure ∧ t.tick.hopDelay = s.tick.hopDelay ∧ t.tick.newDelay = s.tick.newDelay
          ∧ t.events = (s.log 0x2007 srcHub f).events := by
  intro hop old
  let u := s.takeReply f p t0
  obtain ⟨probes, links, objs, pens, mem⟩ := useDelay_frame (s := u) (f := f) (hop := hop) (old := old)
  refine ⟨u.useDelay f hop old, (if_pos up).trans (by rw [onReply_eq (probeOf_some h young) ht]), ?_, ?_, objs, pens, mem,
    fun first => ?_, fun d held near hr => ?_, fun d held far => ?_⟩
  · intro e he
    rw [probes] at he
    simpa using (List.mem_filter.mp he).2
  · show (tabGet _ (u.useDelay f hop old).links f).peerAddr = _
    rw [links]
    show (u.link f).peerAddr = _
    simp only [u, State.takeReply, State.link_modLink, if_true]
  · rw [first]
    exact ⟨tabGet_tabSet_same (fun _ => none) u.tick.hopDelay f (some hop), rfl⟩
  · rw [held, useDelay_near (s := u) near hr]
    exact ⟨List.mem_append_right _ (List.mem_singleton_self _), rfl, rfl⟩
  · rw [held, useDelay_far far]
    exact ⟨List.mem_append_right _ (List.mem_singleton_self _), rfl, rfl, rfl⟩

/-! ## Probes of the beacon route (R33) -/

/-- A probe is remembered with its launch, and nothing but the link and the tick generator changes. -/
theorem sendProbe_up {f : Nat} (up : (s.link f).state = 3) : ∃ pid pl, s.sendProbe f =
    (s.modLink f fun l => { l with tickOut := l.tickOut ++ [(none, pl)] }).modTick fun t =>
      { t with nextPid := (pid + 1) % 2 ^ 32
               probes := (pid, f, s.clock, s.epoch) :: t.probes.filter fun e => decide (s.epoch < e.2.2.2 + 1024) } :=
  ⟨_, _, if_neg (not_not.mpr up)⟩

theorem sendProbe_down {f : Nat} (down : (s.link f).state ≠ 3) : s.sendProbe f = s := if_pos down

theorem sendProbe_frame (f : Nat) : { s.sendProbe f with links := s.links, tick := s.tick } = s := by
  unfold State.sendProbe; split
  · rfl
  · rfl

/-- A probe sent on another fiber leaves this one's link. -/
theorem sendProbe_other {f g : Nat} (h : f ≠ g) : (s.sendProbe g).link f = s.link f := by
  unfold State.sendProbe
  split
  · rfl
  · rw [link_modTick, State.link_modLink, if_neg h]

/-- A probe of this tread is remembered when another is sent. -/
theorem sendProbe_remembers {pid f g c : Nat} (h : (pid, f, c, s.epoch) ∈ s.tick.probes) :
    (pid, f, c, s.epoch) ∈ (s.sendProbe g).tick.probes := by
  unfold State.sendProbe
  split
  · exact h
  · exact List.mem_cons_of_mem _ (List.mem_filter.mpr ⟨h, by simp⟩)

/-- What a probe sent on f leaves: it is queued and remembered. -/
def State.Probed (s : State) (f : Nat) (t : State) : Prop :=
  ∃ pid pl, (t.link f).tickOut = (s.link f).tickOut ++ [(none, pl)] ∧ (pid, f, s.clock, s.epoch) ∈ t.tick.probes

theorem sendProbe_probed {f : Nat} (up : (s.link f).state = 3) : s.Probed f (s.sendProbe f) := by
  obtain ⟨pid, pl, h⟩ := sendProbe_up up
  refine ⟨pid, pl, ?_, ?_⟩
  · rw [h, link_modTick, State.link_modLink, if_pos rfl]
  · rw [h]; exact List.mem_cons_self

/-- Sending another probe keeps what one left. -/
theorem State.Probed.sendProbe {t : State} {f g : Nat} (h : s.Probed f t) (ne : f ≠ g) (epoch : t.epoch = s.epoch) :
    s.Probed f (t.sendProbe g) := by
  obtain ⟨pid, pl, queued, listed⟩ := h
  rw [← epoch] at listed
  refine ⟨pid, pl, by rw [sendProbe_other ne, queued], ?_⟩
  rw [← epoch]
  exact sendProbe_remembers listed

/-- Probes on fibers that differ. -/
def State.sendProbes (s : State) (l : List Nat) : State := forEach l s fun f s => s.sendProbe f

theorem sendProbes_frame (l : List Nat) : { s.sendProbes l with links := s.links, tick := s.tick } = s :=
  forEach_induct (Q := fun u => { u with links := s.links, tick := s.tick } = s) rfl fun f _ u hu => by
    have key := congrArg (fun v : State => { v with links := s.links, tick := s.tick }) (sendProbe_frame (s := u) f)
    exact key.trans hu

theorem State.Probed.sendProbes {l : List Nat} {t : State} {f : Nat} (h : s.Probed f t) (hf : f ∉ l)
    (epoch : t.epoch = s.epoch) : s.Probed f (t.sendProbes l) := by
  induction l generalizing t with
  | nil => exact h
  | cons g l ih =>
    obtain ⟨ne, hf⟩ := not_or.mp (mt List.mem_cons.mpr hf)
    have key := congrArg State.epoch (sendProbe_frame (s := t) g)
    exact ih (h.sendProbe ne epoch) hf (Eq.trans key epoch)

/-- Every fiber of a list without repeats whose link is up gets its probe. -/
theorem sendProbes_probed {l : List Nat} (nodup : l.Nodup) {f : Nat} (hf : f ∈ l) (up : (s.link f).state = 3) :
    s.Probed f (s.sendProbes l) := by
  induction l generalizing s with
  | nil => simp at hf
  | cons g l ih =>
    obtain ⟨hg, nodup⟩ := List.nodup_cons.mp nodup
    have frame := sendProbe_frame (s := s) g
    have epoch := congrArg State.epoch frame
    have clock := congrArg State.clock frame
    obtain rfl | hf := List.mem_cons.mp hf
    · exact (sendProbe_probed up).sendProbes hg epoch
    · have ne : f ≠ g := fun h => hg (h ▸ hf)
      have link := sendProbe_other (s := s) ne
      obtain ⟨pid, pl, queued, listed⟩ := ih (s := s.sendProbe g) nodup hf (by rw [link]; exact up)
      rw [link] at queued
      exact ⟨pid, pl, queued, clock ▸ epoch ▸ listed⟩

/-- The fibers of the beacon route, each once. -/
def State.beaconRoute (s : State) : List Nat := distinct ((s.beaconFiber false).toList ++ (s.beaconFiber true).toList)

theorem delayProbePeriod_probes : Done .delayProbePeriod s fun t => { t with links := s.links, tick := s.tick } = s
    ∧ ∀ f : Nat, (s.beaconFiber false = some f ∨ s.beaconFiber true = some f) → (s.link f).state = 3 → s.Probed f t := by
  refine ⟨s.sendProbes s.beaconRoute, rfl, sendProbes_frame _, fun f hf up => ?_⟩
  refine sendProbes_probed (nodup_distinct _) ?_ up
  simpa [Option.mem_toList] using hf

/-! ## Dispute notices (R38, R39) -/

/-- The notices counted after one of an epoch and a source. -/
def TickSt.noteDispute (t : TickSt) (d : Dispute) : List (Nat × Nat) :=
  if t.disputes.contains (d.epoch, d.src) then t.disputes else (d.epoch, d.src) :: t.disputes

theorem count_noteDispute_other {t : TickSt} {d : Dispute} {e : Nat × Nat} (h : e ≠ (d.epoch, d.src)) :
    (t.noteDispute d).count e = t.disputes.count e := by
  unfold TickSt.noteDispute
  split
  · rfl
  · exact List.count_cons_of_ne (Ne.symm h)

theorem count_noteDispute_same {t : TickSt} {d : Dispute} :
    (t.noteDispute d).count (d.epoch, d.src) = max 1 (t.disputes.count (d.epoch, d.src)) := by
  unfold TickSt.noteDispute
  split
  · next h =>
    have pos : 0 < t.disputes.count (d.epoch, d.src) := List.count_pos_iff.mpr (by simpa using h)
    omega
  · next h =>
    have zero : t.disputes.count (d.epoch, d.src) = 0 := List.count_eq_zero.mpr (by simpa using h)
    rw [List.count_cons_self, zero]; rfl

theorem mem_noteDispute {t : TickSt} {d : Dispute} : (d.epoch, d.src) ∈ t.noteDispute d :=
  List.count_pos_iff.mp (by rw [count_noteDispute_same]; omega)

/-- A member's notice is counted; a claim falls due when more than half of the members sent one of its epoch. -/
theorem onDispute_counts {d : Dispute} (h0 : d.rsv = 0) (h1 : 1 ≤ d.kind) (h3 : d.kind ≤ 3) (hr : s.tick.role = 2)
    (ha : s.tick.active = false) (hm : s.members.any (fun m => m.addr == d.src) = true) :
    s.onDispute d = s.modTick fun t => { t with
      disputes := t.noteDispute d
      claimDue := t.claimDue || decide (s.members.length < 2 * ((t.noteDispute d).filter fun e => e.1 == d.epoch).length) } := by
  have valid : ¬ (d.rsv ≠ 0 ∨ d.kind < 1 ∨ 3 < d.kind) := by omega
  have counts : ¬ (s.tick.role ≠ 2 ∨ s.tick.active = true ∨ (!s.members.any fun m => m.addr == d.src) = true) := by
    simp [hr, ha, hm]
  let u := s.modTick fun t => { t with disputes := t.noteDispute d }
  have stored : s.onDispute d = if 2 * (u.tick.disputes.filter fun e => e.1 == d.epoch).length > u.members.length then
      u.modTick fun t => { t with claimDue := true } else u := by
    rw [State.onDispute, if_neg valid, if_neg counts]; rfl
  rw [stored]
  split
  · next h =>
    have due : decide (s.members.length < 2 * ((s.tick.noteDispute d).filter fun e => e.1 == d.epoch).length) = true :=
      decide_eq_true h
    simp only [State.modTick, due, Bool.or_true]; rfl
  · next h =>
    have few : decide (s.members.length < 2 * ((s.tick.noteDispute d).filter fun e => e.1 == d.epoch).length) = false :=
      decide_eq_false h
    simp only [State.modTick, few, Bool.or_false]; rfl

/-- Settles O23: probes by what each leaves on its link and in the list, notices by their counts. -/
theorem probesAndDisputes : Obligations.ProbesAndDisputes := by
  refine ⟨fun f p s up => ⟨delayProbeReceived_answers up, fun old => ?_, fun t0 e0 => probeReplyReceived_measures up⟩,
    fun s => ⟨delayProbePeriod_probes, fun d => ⟨fun bad => ?_, fun h0 h1 h3 hr ha hm => ?_⟩⟩⟩
  · have lost : s.probeOf p = none := probeOf_none old
    unfold State.probeOf at lost
    rw [exec_probeReplyReceived, execProbeReplyReceived, if_pos up, State.onReply, lost]
  · have invalid : d.rsv ≠ 0 ∨ d.kind < 1 ∨ 3 < d.kind := by omega
    rw [exec_tickDisputeReceived, execTickDisputeReceived, State.onDispute, if_pos invalid]
  · refine ⟨_, congrArg Host.Outcome.next (onDispute_counts h0 h1 h3 hr ha hm), rfl, rfl, mem_noteDispute, fun e he => ?_, ?_, rfl⟩
    · exact count_noteDispute_other he
    · exact count_noteDispute_same

end Sys2Proof.Machine
end

section
/-! SUPPORT. Plans at the doorbell, the batch cap and the dispatch of jobs: what each accepts, refuses and starts, and from
that statement O25. -/

namespace Sys2Proof.Machine

variable {s : State}

/-! ## Plans (R26, R93, R94, R131) -/

/-- The doorbell comes 2 µs or less before the landing, or in it. -/
def State.bellLate (s : State) : Bool := s.tick.running && (s.tick.inLanding || decide (s.workNs < s.sinceTick / 2 + 2000))

/-- The tread that a doorbell's plan is for. -/
def State.bellTarget (s : State) : Nat := if s.bellLate then s.epoch + 2 else s.epoch + 1

/-- The state in which a doorbell's plan is read: a late one is logged. -/
def State.bellLogged (s : State) (k off : Nat) : State := if s.bellLate then s.log 0x7016 k off else s

/-- The plan at a doorbell's offset. -/
def State.bellPlan (s : State) (k off : Nat) : Parsed := (s.bellLogged k off).parsePlan k off s.bellTarget

/-- The plan is accepted (R131). -/
def State.bellFits (s : State) (k off : Nat) : Prop :=
  (s.bellPlan k off).good = true ∧ ((s.bellPlan k off).epoch = 0 ∨ (s.bellPlan k off).epoch = s.bellTarget)
    ∧ (s.bellLate = false → (sessionsOf (s.bellPlan k off).jobs).length ≤ (s.tile k).budgetBatch)
    ∧ (if s.bellLate then (s.tile k).held.isNone else (s.tile k).plan.isNone) = true

/-- The tile with an accepted plan. -/
def Tile.takePlan (x : Tile) (late : Bool) (q : Plan) : Tile := if late then { x with held := some q } else { x with plan := some q }

/-- The words of the plan's bytes that were found bad are spent. -/
def State.bellRead (s : State) (k off : Nat) : State :=
  (s.bellLogged k off).dropBad (sramBase k + off) (s.bellPlan k off).len

/-- The cases in which a plan is refused. -/
def State.bellBars (s : State) (k off : Nat) : Prop :=
  (!(s.bellPlan k off).good) = true ∨ ((s.bellPlan k off).epoch ≠ 0 ∧ (s.bellPlan k off).epoch ≠ s.bellTarget)
    ∨ ((!s.bellLate) = true ∧ (sessionsOf (s.bellPlan k off).jobs).length > (s.tile k).budgetBatch)
    ∨ (if s.bellLate then (s.tile k).held.isSome else (s.tile k).plan.isSome) = true

theorem bellBars_iff {k off : Nat} : s.bellBars k off ↔ ¬ s.bellFits k off := by
  unfold State.bellBars State.bellFits
  rw [not_and_or, not_and_or, not_and_or]
  refine or_congr (by simp) (or_congr not_or.symm (or_congr ?_ ?_))
  · rw [Classical.not_imp, Nat.not_le, Bool.not_eq_true']
  · cases s.bellLate
    · cases (s.tile k).plan <;> simp
    · cases (s.tile k).held <;> simp

theorem execPlanDoorbell_fits {k : Fin 64} {off : Nat} (on : (s.tile k).flockOn = true) (h : s.bellFits k off) :
    execPlanDoorbell k off s = .next ((s.bellRead k off).modTile k fun x =>
      x.takePlan s.bellLate { epoch := s.bellTarget, jobs := (s.bellPlan k off).jobs }) := by
  rw [execPlanDoorbell, if_neg (by simp [on])]
  exact if_neg (fun bars : s.bellBars k off => bellBars_iff.mp bars h)

theorem execPlanDoorbell_refused {k : Fin 64} {off : Nat} (on : (s.tile k).flockOn = true) (h : ¬ s.bellFits k off) :
    execPlanDoorbell k off s = .next ((s.bellRead k off).refusePlan k
      (s.bellLate && (s.bellPlan k off).epoch != (s.bellRead k off).epoch + 1) (s.bellPlan k off).named) := by
  rw [execPlanDoorbell, if_neg (by simp [on])]
  exact if_pos (bellBars_iff.mpr h)

theorem bellLogged_frame {k off : Nat} : { s.bellLogged k off with events := s.events, nextSeq := s.nextSeq } = s := by
  unfold State.bellLogged; split
  · rfl
  · rfl

theorem tiles_bellLogged {k off : Nat} : (s.bellLogged k off).tiles = s.tiles := by
  have key := congrArg State.tiles (bellLogged_frame (s := s) (k := k) (off := off))
  exact key

/-- A plan in which no word is bad leaves the list of bad words as it is. -/
theorem dropBad_of_good {a n : Nat} (h : s.badIn a n = false) : s.dropBad a n = s := by
  have all : s.badWords.filter (fun w => !(decide (a ≤ w) && decide (w < a + n))) = s.badWords := by
    rw [List.filter_eq_self]
    intro w hw
    rw [Bool.not_eq_true']
    exact Bool.eq_false_iff.mpr (List.any_eq_false.mp h w hw)
  rw [State.dropBad, all]

/-- What a good plan's jobs keep (R26, R94), and no word of it was bad. -/
theorem parsePlan_good {k off target : Nat} (h : (s.parsePlan k off target).good = true) :
    s.badIn (sramBase k + off) (s.parsePlan k off target).len = false
    ∧ uniqueIds (s.parsePlan k off target).jobs = true
    ∧ fits s.tick.nextLand s.stagingSlots (s.parsePlan k off target).jobs = true := by
  simp only [State.parsePlan, Bool.and_eq_true, Bool.not_eq_true'] at h
  obtain ⟨⟨⟨rest, unique⟩, _⟩, within⟩ := h
  obtain ⟨⟨⟨⟨⟨⟨⟨⟨_, sound⟩, _⟩, _⟩, _⟩, _⟩, _⟩, _⟩, _⟩ := rest
  exact ⟨sound, unique, within⟩

theorem nodup_of_uniqueIds {l : List Job} (h : uniqueIds l = true) : (l.map (·.jobId)).Nodup := by
  induction l with
  | nil => exact List.nodup_nil
  | cons j l ih =>
    simp only [uniqueIds, Bool.and_eq_true, List.all_eq_true, bne_iff_ne] at h
    obtain ⟨others, unique⟩ := h
    refine List.nodup_cons.mpr ⟨fun hj => ?_, ih unique⟩
    obtain ⟨k, hk, same⟩ := List.mem_map.mp hj
    exact others k hk same

/-- The three limits of R26. -/
theorem limits_of_fits {land slots : Nat} {l : List Job} (h : fits land slots l = true) :
    (l.map (·.ncmt)).sum ≤ 1024 * land ∧ (l.map (·.commitSlots)).sum ≤ slots
    ∧ (l.map fun j => j.ncmt - j.commitSlots).sum ≤ 4096 := by
  simp only [fits, usage, Bool.and_eq_true] at h
  obtain ⟨⟨commits, staging⟩, records⟩ := h
  exact ⟨of_decide_eq_true commits, of_decide_eq_true staging, of_decide_eq_true records⟩

/-- Logging a late doorbell leaves everything but the event log. -/
theorem bellLogged_reads {k off : Nat} : (∀ j, (s.bellLogged k off).tile j = s.tile j)
    ∧ (s.bellLogged k off).tick = s.tick ∧ (s.bellLogged k off).stagingSlots = s.stagingSlots
    ∧ (s.bellLogged k off).epoch = s.epoch := by
  unfold State.bellLogged; split
  · exact ⟨fun _ => rfl, rfl, rfl, rfl⟩
  · exact ⟨fun _ => rfl, rfl, rfl, rfl⟩

/-- A plan that is accepted whole (R131). -/
theorem planDoorbell_accepted {k : Fin 64} {off : Nat} (on : (s.tile k).flockOn = true) (h : s.bellFits k off) :
    let jobs := (s.bellPlan k off).jobs
    Done (.planDoorbell k off) s fun t => { t with tiles := s.tiles } = s.bellLogged k off
      ∧ (∀ j, j ≠ k.val → t.tile j = s.tile j)
      ∧ t.tile k = (s.tile k).takePlan s.bellLate { epoch := s.bellTarget, jobs := jobs }
      ∧ (jobs.map (·.ncmt)).sum ≤ 1024 * s.tick.nextLand ∧ (jobs.map (·.commitSlots)).sum ≤ s.stagingSlots
      ∧ (jobs.map fun j => j.ncmt - j.commitSlots).sum ≤ 4096 ∧ (jobs.map (·.jobId)).Nodup := by
  intro jobs
  obtain ⟨good, -⟩ := id h
  obtain ⟨sound, unique, within⟩ := parsePlan_good good
  obtain ⟨tile, tick, slots, -⟩ := bellLogged_reads (s := s) (k := k) (off := off)
  rw [tick, slots] at within
  obtain ⟨commits, staging, records⟩ := limits_of_fits within
  have read : s.bellRead k off = s.bellLogged k off := dropBad_of_good sound
  refine ⟨_, execPlanDoorbell_fits on h, ?_, fun j hj => ?_, ?_, commits, staging, records, nodup_of_uniqueIds unique⟩
  · rw [read]
    unfold State.bellLogged
    split
    · rfl
    · rfl
  · rw [read, State.tile_modTile, if_neg hj, tile]
  · rw [read, State.tile_modTile_same, tile]

/-- The tile with the sessions of a refused plan withheld. -/
def Tile.withholdPlan (x : Tile) (after : Bool) (l : List Nat) : Tile :=
  if after then { x with withheldLater := distinct (x.withheldLater ++ l) }
  else { x with withheldNext := distinct (x.withheldNext ++ l) }

theorem refusePlan_eq (k : Nat) (after : Bool) (l : List Nat) :
    s.refusePlan k after l = (s.log 0x7010 k k).modTile k fun x => x.withholdPlan after l := rfl

/-- Withheld are the sessions of before and those named, in the tread that the plan was for. -/
theorem withholdPlan_spec (x : Tile) (after : Bool) (l : List Nat) : let y := x.withholdPlan after l
    y = { x with withheldNext := y.withheldNext, withheldLater := y.withheldLater }
    ∧ (∀ i, i ∈ y.withheldNext ↔ i ∈ x.withheldNext ∨ (after = false ∧ i ∈ l))
    ∧ ∀ i, i ∈ y.withheldLater ↔ i ∈ x.withheldLater ∨ (after = true ∧ i ∈ l) := by
  cases after with
  | true => exact ⟨rfl, fun i => by simp [Tile.withholdPlan], fun i => by simp [Tile.withholdPlan]⟩
  | false => exact ⟨rfl, fun i => by simp [Tile.withholdPlan], fun i => by simp [Tile.withholdPlan]⟩

/-- A plan that is refused whole withholds the sessions that it names in the tread it was for (R93, R131). -/
theorem planDoorbell_refused {k : Fin 64} {off : Nat} (on : (s.tile k).flockOn = true) (h : ¬ s.bellFits k off) :
    let after := s.bellLate && (s.bellPlan k off).epoch != s.epoch + 1
    let named := (s.bellPlan k off).named
    Done (.planDoorbell k off) s fun t => t.events = ((s.bellLogged k off).log 0x7010 k k).events
      ∧ (∀ j, j ≠ k.val → t.tile j = s.tile j)
      ∧ t.tile k = { s.tile k with withheldNext := (t.tile k).withheldNext, withheldLater := (t.tile k).withheldLater }
      ∧ (∀ i, i ∈ (t.tile k).withheldNext ↔ i ∈ (s.tile k).withheldNext ∨ (after = false ∧ i ∈ named))
      ∧ ∀ i, i ∈ (t.tile k).withheldLater ↔ i ∈ (s.tile k).withheldLater ∨ (after = true ∧ i ∈ named) := by
  intro after named
  obtain ⟨tile, -, -, epoch⟩ := bellLogged_reads (s := s) (k := k) (off := off)
  have read (j : Nat) : (s.bellRead k off).tile j = s.tile j := tile j
  refine ⟨(s.bellRead k off).refusePlan k after named, ?_, rfl, fun j hj => ?_, ?_⟩
  · rw [exec_planDoorbell, execPlanDoorbell_refused on h]
    show Host.Outcome.next ((s.bellRead k off).refusePlan k (s.bellLate && _ != (s.bellLogged k off).epoch + 1) _) = _
    rw [epoch]
  · rw [refusePlan_eq, State.tile_modTile, if_neg hj]; exact read j
  · rw [refusePlan_eq, State.tile_modTile_same]
    have x : ((s.bellRead k off).log 0x7010 k k).tile k = s.tile k := read k
    rw [x]
    exact withholdPlan_spec (s.tile k) after named

/-! ## The batch cap (R147) -/

theorem batchCapGrowth_grows {k : Fin 64} (h : 16 ≤ (s.tile k).goodRun) : Done (.batchCapGrowth k) s fun t =>
    let cap := s.num 0x7045 (k + 1)
    t.num 0x7045 (k + 1) = min (s.gov 0x7044 0) (cap + max 1 (cap / 8)) ∧ t.tile k = { s.tile k with goodRun := 0 }
    ∧ (∀ j, j ≠ k.val → t.tile j = s.tile j) ∧ { t with objs := s.objs, tiles := s.tiles } = s := by
  refine ⟨_, if_neg (Nat.not_lt.mpr h), State.num_setNum_same _ _ _ _, ?_, fun j hj => ?_, rfl⟩
  · rw [State.tile_modTile_same]; rfl
  · rw [State.tile_modTile, if_neg hj]; rfl

/-! ## Dispatch (R97, R136–R139) -/

theorem gpen_tileOf (p : Nat) : gpen (tileOf p) (p % 16) = p := Nat.div_add_mod p 16

theorem balance_append (x : Tile) (i : Nat) (j : Job) : (x.append i j).balance = x.balance := by
  unfold Tile.append
  split
  · rfl
  · rfl

/-- Ready jobs that move up leave the balance. -/
theorem balance_refill (x : Tile) : x.refill.balance = x.balance := by
  have key (l : List Job) (y : Tile) : (l.foldl (fun x j => x.append j.home j) y).balance = y.balance := by
    induction l generalizing y with
    | nil => rfl
    | cons j l ih => exact (ih _).trans (balance_append y _ j)
  exact key x.readyList _

/-- A view descriptor that is set leaves all but the views. -/
theorem setViews_eq (l : List (BitVec 256 × Nat)) (q : Pen) :
    l.foldl (fun q v => q.setView v.2 v.1) q = { q with views := (l.foldl (fun q v => q.setView v.2 v.1) q).views } := by
  induction l generalizing q with
  | nil => rfl
  | cons v l ih => exact (ih (q.setView v.2 v.1)).trans rfl

/-- The pen of R97 before its registers and views are set. -/
def Pen.cleared (q : Pen) (j : Job) (epoch clock rein n : Nat) (ok : Bool) : Pen :=
  { q with
    regs := [], views := [], acc := [], side := [], satc := 0, nanc := 0, infc := 0, rng := seedRng j.seed
    resident := [], reads := [], pc := j.entry, stall := none
    run := some { job := j, epoch := epoch, ninstr := n, startClock := clock, reinStart := rein
                  ended := if ok then none else some (.exc 0x08 j.entry 0)
                  record := if ok then [] else [.exc 0x08 j.entry] } }

/-- The registers of R97: S01 to S04. -/
def Pen.setArguments (q : Pen) (j : Job) (epoch p : Nat) : Pen :=
  (((q.setReg 1 j.arg0).setReg 2 (BitVec.ofNat 64 j.jobId)).setReg 3 (BitVec.ofNat 64 epoch)).setReg 4 (BitVec.ofNat 64 p)

theorem startPen_eq (q : Pen) (j : Job) (epoch p clock rein n : Nat) (ok : Bool) : ∃ v,
    startPen q j epoch p clock rein n ok = { (q.cleared j epoch clock rein n ok).setArguments j epoch p with views := v } :=
  ⟨_, setViews_eq j.views.zipIdx _⟩

theorem reg_setArguments (q : Pen) (j : Job) (epoch p m : Nat) : (q.setArguments j epoch p).reg m =
    if m = 0 then 0 else if m = 4 then BitVec.ofNat 64 p else if m = 3 then BitVec.ofNat 64 epoch
      else if m = 2 then BitVec.ofNat 64 j.jobId else if m = 1 then j.arg0 else q.reg m := by
  by_cases h : m = 0 <;> simp [Pen.setArguments, Pen.reg_setReg, h]

/-- The start state of R97. -/
theorem startPen_spec (q : Pen) (j : Job) (epoch p clock rein n : Nat) (ok : Bool) :
    let r := startPen q j epoch p clock rein n ok
    (r.run.map fun r => (r.job, r.epoch, r.startClock, r.commits)) = some (j, epoch, clock, [])
    ∧ r.reg 1 = j.arg0 ∧ r.reg 2 = BitVec.ofNat 64 j.jobId ∧ r.reg 3 = BitVec.ofNat 64 epoch
    ∧ r.reg 4 = BitVec.ofNat 64 p ∧ (∀ n, n < 16 → n = 0 ∨ 5 ≤ n → r.reg n = 0)
    ∧ r.pc = j.entry ∧ r.acc = [] ∧ r.resident = [] ∧ r.rng = seedRng j.seed
    ∧ (r.satc, r.nanc, r.infc) = (0, 0, 0) ∧ r.scratch = q.scratch := by
  intro r
  obtain ⟨v, hr⟩ := startPen_eq q j epoch p clock rein n ok
  have start : r = { (q.cleared j epoch clock rein n ok).setArguments j epoch p with views := v } := hr
  have reg (m : Nat) : r.reg m = ((q.cleared j epoch clock rein n ok).setArguments j epoch p).reg m := by rw [start]; rfl
  have arg (m : Nat) := (reg m).trans (reg_setArguments _ j epoch p m)
  refine ⟨by rw [start]; rfl, arg 1, arg 2, arg 3, arg 4, fun m _ hm => ?_, ?_⟩
  · rw [arg]
    rcases hm with rfl | hm
    · rfl
    · rw [if_neg (by omega), if_neg (by omega), if_neg (by omega), if_neg (by omega), if_neg (by omega)]
      simp [Pen.reg, Pen.cleared, tabGet]
  · rw [start]
    exact ⟨rfl, rfl, rfl, rfl, rfl, rfl⟩

/-- Job j runs on pen p, started in the state of R97; elsewhere nothing changed but its tile's deques and balance. -/
def State.Started (s : State) (p : Fin 1024) (j : Job) (t : State) : Prop :=
  let k := tileOf p
  ((t.pen p).run.map fun r => (r.job, r.epoch, r.startClock, r.commits)) = some (j, s.epoch, s.clock, [])
  ∧ (t.pen p).reg 1 = j.arg0 ∧ (t.pen p).reg 2 = BitVec.ofNat 64 j.jobId ∧ (t.pen p).reg 3 = BitVec.ofNat 64 s.epoch
  ∧ (t.pen p).reg 4 = BitVec.ofNat 64 p ∧ (∀ n, n < 16 → n = 0 ∨ 5 ≤ n → (t.pen p).reg n = 0)
  ∧ (t.pen p).pc = j.entry ∧ (t.pen p).acc = [] ∧ (t.pen p).resident = [] ∧ (t.pen p).rng = seedRng j.seed
  ∧ ((t.pen p).satc, (t.pen p).nanc, (t.pen p).infc) = (0, 0, 0) ∧ (t.pen p).scratch = (s.pen p).scratch
  ∧ (t.tile k).balance = (s.tile k).balance - j.energy
  ∧ (∀ q, q ≠ p.val → t.pen q = s.pen q) ∧ (∀ n, n ≠ k → t.tile n = s.tile n) ∧ t.mem = s.mem

/-- The tile that starts a job: ENERGY is debited, ready jobs move up. -/
def Tile.debit (x : Tile) (energy : Nat) : Tile := ({ x with balance := x.balance - energy }).refill

/-- The bad words of the image that the job's start has read are spent. -/
def State.withBad (s : State) (words : List Nat) : State := { s with badWords := words }

theorem startJob_eq (k i : Nat) (j : Job) : ∃ words rein n ok, s.startJob k i j =
    ((s.withBad words).modTile k fun x => x.debit j.energy).setPen (gpen k i)
      (startPen (s.pen (gpen k i)) j s.epoch (gpen k i) s.clock rein n ok) :=
  ⟨_, _, _, _, rfl⟩

/-- A job that its pen takes, where the entry has left a deque of its tile. -/
theorem startJob_started {p : Fin 1024} {u : State} (j : Job) (epoch : u.epoch = s.epoch) (clock : u.clock = s.clock)
    (pens : u.pens = s.pens) (mem : u.mem = s.mem) (balance : (u.tile (tileOf p)).balance = (s.tile (tileOf p)).balance)
    (others : ∀ n, n ≠ tileOf p → u.tile n = s.tile n) : s.Started p j (u.startJob (tileOf p) (p % 16) j) := by
  obtain ⟨words, rein, n, ok, start⟩ := startJob_eq (s := u) (tileOf p) (p % 16) j
  have pen (q : Nat) : u.pen q = s.pen q := by rw [State.pen, pens]; rfl
  rw [gpen_tileOf, epoch, clock, pen] at start
  have at_p : (u.startJob (tileOf p) (p % 16) j).pen p = startPen (s.pen p) j s.epoch p s.clock rein n ok := by
    rw [start, State.pen_setPen_same]
  have tile (m : Nat) : (u.startJob (tileOf p) (p % 16) j).tile m
      = if m = tileOf p then (u.tile (tileOf p)).debit j.energy else u.tile m := by
    rw [start]; exact State.tile_modTile (u.withBad words) (tileOf p) m fun x => x.debit j.energy
  obtain ⟨run, r1, r2, r3, r4, zero, pc, acc, resident, rng, counts, scratch⟩ := startPen_spec (s.pen p) j s.epoch p s.clock rein n ok
  unfold State.Started
  rw [at_p]
  refine ⟨run, r1, r2, r3, r4, zero, pc, acc, resident, rng, counts, scratch, ?_, fun q hq => ?_, fun m hm => ?_, ?_⟩
  · rw [tile, if_pos rfl, ← balance]; exact balance_refill _
  · rw [start, State.pen_setPen, if_neg hq]; exact pen q
  · rw [tile, if_neg hm, others m hm]
  · rw [start]; exact mem

theorem objs_startJob (k i : Nat) (j : Job) : (s.startJob k i j).objs = s.objs := by
  obtain ⟨words, rein, n, ok, start⟩ := startJob_eq (s := s) k i j
  rw [start]; rfl

/-- An entry of a deque of a tile leaves it. -/
def State.takeEntry (s : State) (k v n : Nat) : State := s.modTile k fun x => x.setDeque v (without (x.deque v) n)

theorem takeEntry_reads (k v n : Nat) : ((s.takeEntry k v n).tile k).balance = (s.tile k).balance
    ∧ ∀ m, m ≠ k → (s.takeEntry k v n).tile m = s.tile m := by
  refine ⟨?_, fun m hm => ?_⟩
  · rw [State.takeEntry, State.tile_modTile_same]; rfl
  · rw [State.takeEntry, State.tile_modTile, if_neg hm]

/-- A pen takes an entry of its own deque (R136, R137). -/
theorem jobDispatch_own {p : Fin 1024} {n : Nat} {j : Job} (can : s.canDispatch (tileOf p) (p % 16) = true)
    (own : s.ownEntry (tileOf p) (p % 16) = some (n, j)) : Done (.jobDispatch p) s fun t => s.Started p j t ∧ t.objs = s.objs := by
  obtain ⟨balance, others⟩ := takeEntry_reads (s := s) (tileOf p) (p % 16) n
  refine ⟨(s.takeEntry (tileOf p) (p % 16) n).startJob (tileOf p) (p % 16) j, ?_,
    startJob_started j rfl rfl rfl rfl balance others, objs_startJob _ _ _⟩
  rw [exec_jobDispatch, execJobDispatch, if_neg (by simp [can]), own]; rfl

/-- Entries that R136 does not allow are not taken. -/
theorem ownEntry_none {k i : Nat} (h : ∀ j ∈ ((s.tile k).deque i).take 4, s.affords k j = false) : s.ownEntry k i = none := by
  rw [State.ownEntry, Option.map_eq_none_iff, List.find?_eq_none]
  intro e he
  have listed : e.1 ∈ ((s.tile k).deque i).take 4 := by
    obtain ⟨x, n⟩ := e
    exact List.fst_mem_of_mem_zipIdx he
  simp [h e.1 listed]

/-- A pen that waits for the slot boundary is given no work. -/
theorem canDispatch_waitSlot {k i : Nat} (hi : i < 16) : (s.waitSlot k i).canDispatch k i = false := by
  have waits : ((s.waitSlot k i).tile k).slotWait.getLsbD i = true := by
    rw [State.waitSlot, State.tile_modTile_same]
    simp only [BitVec.getLsbD_or, BitVec.getLsbD_ofNat, Nat.testBit_two_pow_self, hi, decide_true, Bool.and_self, Bool.or_true]
  rw [State.canDispatch, waits, Bool.not_true, Bool.and_false]

/-- A pen none of whose first four entries R136 allows waits (R136). -/
theorem jobDispatch_waits {p : Fin 1024} (can : s.canDispatch (tileOf p) (p % 16) = true)
    (some : (s.tile (tileOf p)).deque (p % 16) ≠ [])
    (poor : ∀ j ∈ ((s.tile (tileOf p)).deque (p % 16)).take 4, s.affords (tileOf p) j = false) :
    Done (.jobDispatch p) s fun t => t.canDispatch (tileOf p) (p % 16) = false ∧ { t with tiles := s.tiles } = s
      ∧ { t.tile (tileOf p) with slotWait := (s.tile (tileOf p)).slotWait } = s.tile (tileOf p)
      ∧ ∀ n, n ≠ tileOf p → t.tile n = s.tile n := by
  have listed : (!((s.tile (tileOf p)).deque (p % 16)).isEmpty) = true := by simp [some]
  have none : ¬ (((s.tile (tileOf p)).deque (p % 16)).take 4).any (s.affords (tileOf p)) = true := by
    rw [List.any_eq_true]
    rintro ⟨j, hj, rich⟩
    rw [poor j hj] at rich
    exact Bool.false_ne_true rich
  refine ⟨s.waitSlot (tileOf p) (p % 16), ?_, canDispatch_waitSlot (Nat.mod_lt _ (by decide)), rfl, ?_, fun n hn => ?_⟩
  · rw [exec_jobDispatch, execJobDispatch, if_neg (by simp [can]), ownEntry_none poor]
    show (if _ then Host.Outcome.next (if _ then s else s.waitSlot _ _) else _) = _
    rw [if_pos listed, if_neg none]
  · rw [State.waitSlot, State.tile_modTile_same]
  · rw [State.waitSlot, State.tile_modTile, if_neg hn]

theorem objectRow_steals {k : Nat} (hk : k < 64) : ∃ r, objectRow 0x7049 (k + 1) = some r ∧ r.type.size = 4 := by
  have all : ∀ k : Fin 64, ((objectRow 0x7049 (k + 1)).map fun r => r.type.size) = some 4 := by decide
  exact Option.map_eq_some_iff.mp (all ⟨k, hk⟩)

/-- A pen steals an entry of its flock (R139). -/
theorem jobDispatch_steals {p : Fin 1024} {v n : Nat} {j : Job} (can : s.canDispatch (tileOf p) (p % 16) = true)
    (empty : (s.tile (tileOf p)).deque (p % 16) = []) (clean : (s.pen p).suspect = false)
    (entry : s.stealEntry (tileOf p) (p % 16) = some (v, n, j)) (rich : s.affords (tileOf p) j = true)
    (left : ¬ (s.canDispatch (tileOf p) v = true ∧ (s.ownEntry (tileOf p) v).map (·.1) = some n)) :
    Done (.jobDispatch p) s fun t => s.Started p j t
      ∧ t.num 0x7049 (tileOf p + 1) = (s.num 0x7049 (tileOf p + 1) + 1) % 2 ^ 32 := by
  have own : s.ownEntry (tileOf p) (p % 16) = none := ownEntry_none (by simp [empty])
  have htile : tileOf p < 64 := Nat.div_lt_of_lt_mul p.isLt
  obtain ⟨r, row, size⟩ := objectRow_steals htile
  let u := (s.takeEntry (tileOf p) v n).count 0x7049 (tileOf p + 1) 1
  obtain ⟨balance, others⟩ := takeEntry_reads (s := s) (tileOf p) v n
  have counted : u = (s.takeEntry (tileOf p) v n).setNum 0x7049 (tileOf p + 1) ((s.num 0x7049 (tileOf p + 1) + 1) % 2 ^ 32) := by
    simp only [u, State.count, row, size]; rfl
  refine ⟨u.startJob (tileOf p) (p % 16) j, ?_, ?_, ?_⟩
  · have alone : ¬ (!((s.tile (tileOf p)).deque (p % 16)).isEmpty) = true := by simp [empty]
    rw [exec_jobDispatch, execJobDispatch, if_neg (by simp [can]), own]
    show (if _ then Host.Outcome.next (if _ then s else s.waitSlot _ _) else if _ then Host.Outcome.next s
      else match s.stealEntry (tileOf p) (p % 16) with | none => _ | some (v, k, j) => _) = _
    rw [if_neg alone, if_neg (by simp [clean]), entry]
    show (if _ then Host.Outcome.next _ else if _ then _ else _) = _
    rw [if_neg (by simp [rich]), if_neg left]
    rfl
  · have key : objKey 0x2004 0 ≠ objKey 0x7049 (tileOf p + 1) := by unfold objKey; omega
    refine startJob_started j ?_ ?_ ?_ ?_ ?_ ?_
    · rw [counted]; exact num_setNum_of_ne key
    · rw [counted]; rfl
    · rw [counted]; rfl
    · rw [counted]; rfl
    · rw [counted]; exact balance
    · rw [counted]; exact others
  · have num : (u.startJob (tileOf p) (p % 16) j).num 0x7049 (tileOf p + 1) = u.num 0x7049 (tileOf p + 1) := by
      simp only [State.num, State.obj, objs_startJob]
    rw [num, counted, State.num_setNum_same]

/-- Settles O25: plans accepted and refused whole, the batch cap's growth, and a job's dispatch from either deque. -/
theorem plansAndDispatch : Obligations.PlansAndDispatch := by
  refine ⟨fun k off s on => ⟨planDoorbell_accepted on, planDoorbell_refused on⟩,
    fun k s => ⟨fun few => ?_, batchCapGrowth_grows⟩, fun p s => ⟨fun idle => ?_, fun can n j => jobDispatch_own can,
      jobDispatch_waits, fun can empty clean v n j => jobDispatch_steals can empty clean⟩⟩
  · rw [exec_batchCapGrowth, execBatchCapGrowth, if_pos few]
  · have stuck : (!s.canDispatch (tileOf p) (p % 16)) = true := by rw [Bool.not_eq_true']; exact idle
    rw [exec_jobDispatch, execJobDispatch, if_pos stuck]

end Sys2Proof.Machine
end

section
/-! SUPPORT. The ticks, the landings and the start and stop of the treads: what begins, opens and ends a tread, what the
rest of a tick and of a landing leaves alone, and from that statement O20. -/

namespace Sys2Proof.Machine

variable {s : State}

/-! ## Messages to the home, and what sends them leaves alone -/

section
variable {β : Type} {g : State → β}

/-- What a message to the home leaves alone: whatever a link's state, its count of flits lost and the event log do not show. -/
structure Unsent (g : State → β) : Prop where
  link : ∀ (u : State) (f : Nat) (h : LinkSt → LinkSt), g (u.modLink f h) = g u
  lost : ∀ (u : State) (f n : Nat), g (u.count 0x5049 (f + 1) n) = g u
  log : ∀ (u : State) (c a d : Nat), g (u.log c a d) = g u

theorem Unsent.freePool (k : Unsent g) (p : Option Nat) (tc : Nat) : g (s.freePool p tc) = g s := by
  unfold State.freePool; split
  · rfl
  · exact k.link _ _ _

theorem Unsent.lose (k : Unsent g) (f n : Nat) : g (s.lose f n) = g s := by
  unfold State.lose; split
  · rfl
  · exact k.lost s f n

theorem Unsent.enqueue (k : Unsent g) (f : Nat) (q : QFlit) : g (s.enqueue f q) = g s := by
  unfold State.enqueue; split
  · exact k.link s f _
  · rw [k.freePool, k.lose]

theorem Unsent.sendEnvelope (k : Unsent g) (tc dst : Nat) (b : List Byte) : g (s.sendEnvelope tc dst b) = g s := by
  unfold State.sendEnvelope State.forward; split
  · exact k.enqueue _ _
  · exact k.log _ _ _ _

theorem Unsent.tellHome (k : Unsent g) (b : List Byte) : g (s.tellHome b) = g s := by
  unfold State.tellHome; split
  · rfl
  · exact k.sendEnvelope _ _ _

theorem Unsent.reportModel (k : Unsent g) (i : Nat) : g (s.reportModel i) = g s := k.tellHome _
end

/-! ## START_TREADS (R22, R35, R37, R367) -/

/-- What Start treads fixes in the objects: the beacon mode, and the flywheel and clean counts cleared. -/
def State.startObjs (s : State) : State :=
  ((s.setNum 0x2007 0 (if s.num 0x2005 0 = 0 then 0 else if s.members.length ≤ 16 then 1 else 2)).setNum 0x200C 0 0).setNum
    0x200D 0 0

/-- The tick generator at Start treads, with the objects that it reads. -/
def TickSt.start (t : TickSt) (at_ role period land faddr : Nat) : TickSt :=
  { t with
    running := true, stopReq := false, begun := false, inLanding := false, lost := false, flywheel := false
    tickAt := at_, role := role, period := period, land := land, nextPeriod := period, nextLand := land, change := none
    claimOut := role == 1 && !t.claimIn, claiming := role == 1 && !t.claimIn, reclaiming := false, reclaimSent := false
    confirmed := true, active := false, heard := [], everBeacon := false, activeRole := 1, reclaimSeen := false
    ownFault := false, schd := none, cmpFails := 0, disputes := [], claimDue := false, prevTick := none, faddr := faddr }

/-- The objects and the tick generator of Start treads. -/
def State.startTick (s : State) : State :=
  let u : State := { s.startObjs with stagingInForce := s.startObjs.num 0xA010 0 }
  u.modTick fun t => t.start u.clock (s.num 0x2005 0) (u.num 0x2001 0) (u.num 0x2002 0) (u.num 0x2041 0)

/-- The references of in-field tests begin again (R367). -/
def State.dropReferences (s : State) : State :=
  forEach (s.pens.map (·.1)) s fun p s => s.modPen p fun q => { q with reference := none }

/-- The clock target of the first tread. -/
def State.startClock (s : State) : State :=
  let f := s.clockTarget
  let u := (if f ≠ s.drover.clockNext then s.log 0x3007 srcHub f.floor.toNat else s).setClock f
  { u with drover := { u.drover with clockNext := f } }

/-- Models that wait for a flight serve again. -/
def State.resumeModels (s : State) : State :=
  if s.num 0x2042 0 = 4 then
    upTo 16 s fun i s =>
      if (s.model i).state = 4 then (s.modModel i fun m => { m with state := 2 }).reportModel i else s
  else s

/-- The state before the claim of a primary is judged. -/
def State.startedIdle (s : State) : State := s.startTick.dropReferences.startClock.resumeModels

theorem execStartTreads_eq {slot : Nat} (h : Accepts s slot opCommand 0x2020 0) (stopped : s.tick.running = false)
    (on : s.boot.cutOff = false) : execStartTreads slot s =
      .next (s.startedIdle.noteActive.answer slot opCommand 0x2020 0 0) := by
  have go : ¬ (s.tick.running || s.boot.cutOff) = true := by simp [stopped, on]
  rw [execStartTreads, h.command]
  simp only [if_neg go]
  rfl

theorem tabGet_of_not_mem {α : Type} (d : Nat → α) {t : Tab α} {k : Nat} (h : k ∉ t.map (·.1)) : tabGet d t k = d k := by
  induction t with
  | nil => rfl
  | cons e t ih =>
    rw [List.map_cons, List.mem_cons, not_or] at h
    rw [tabGet, if_neg h.1, ih h.2]

/-- The pens of a list lose their references, whatever their order. -/
theorem pen_dropEach (l : List Nat) (p : Nat) : (forEach l s fun p s => s.modPen p fun q => { q with reference := none }).pen p
    = if p ∈ l then { s.pen p with reference := none } else s.pen p := by
  induction l generalizing s with
  | nil => rfl
  | cons q l ih =>
    refine (ih (s := s.modPen q fun r => { r with reference := none })).trans ?_
    rw [State.pen_modPen]
    by_cases h : p = q
    · subst h; simp
    · simp [h]

/-- Every pen loses its reference and keeps the rest. -/
theorem pen_dropReferences (p : Nat) : s.dropReferences.pen p = { s.pen p with reference := none } := by
  rw [State.dropReferences, pen_dropEach]
  split
  · rfl
  · next hp =>
    have fresh : s.pen p = {} := tabGet_of_not_mem (fun _ => ({} : Pen)) hp
    rw [fresh]

/-- What Start treads fixes, and what the rest of the command leaves alone. -/
def State.fixed (s : State) : TickSt × Tab Byte × Nat × Nat × Nat × Nat :=
  (s.tick, s.mem, s.epoch, s.num 0x2007 0, s.num 0x200C 0, s.num 0x200D 0)

theorem fixed_setNum {i j n : Nat} (h : 0x200E ≤ i) : (s.setNum i j n).fixed = s.fixed := by
  have key (k : Nat) (hk : k < 0x200E) : (s.setNum i j n).num k 0 = s.num k 0 :=
    num_setNum_of_ne (by unfold objKey; omega)
  simp only [State.fixed, State.epoch, key 0x2004 (by decide), key 0x2007 (by decide), key 0x200C (by decide),
    key 0x200D (by decide)]
  rfl

theorem fixed_count {i j n : Nat} (h : 0x200E ≤ i) : (s.count i j n).fixed = s.fixed := by
  unfold State.count; split
  · exact fixed_setNum h
  · rfl

theorem unsent_fixed : Unsent State.fixed := ⟨fun _ _ _ => rfl, fun _ _ _ => fixed_count (by decide), fun _ _ _ _ => rfl⟩

theorem unsent_pens : Unsent State.pens := ⟨fun _ _ _ => rfl, fun u _ _ => u.count_pens _ _ _, fun _ _ _ _ => rfl⟩

theorem resumeModels_keeps {β : Type} {g : State → β} (sent : Unsent g) (put : ∀ u i f, g (State.modModel u i f) = g u) :
    g s.resumeModels = g s := by
  unfold State.resumeModels; split
  · refine upTo_keeps g fun i _ u => ?_
    split
    · exact (sent.reportModel i).trans (put u i _)
    · rfl
  · rfl

theorem startClock_frame : s.startClock.fixed = s.fixed ∧ s.startClock.pens = s.pens := by
  unfold State.startClock; dsimp only; split
  · exact ⟨rfl, rfl⟩
  · exact ⟨rfl, rfl⟩

theorem fixed_dropReferences : s.dropReferences.fixed = s.fixed := forEach_keeps State.fixed fun _ _ _ => rfl

theorem num_startObjs {i : Nat} (h : i ∉ [0x2007, 0x200C, 0x200D]) : s.startObjs.num i 0 = s.num i 0 := by
  simp only [List.mem_cons, List.not_mem_nil, or_false, not_or] at h
  obtain ⟨h1, h2, h3⟩ := h
  rw [State.startObjs, num_setNum_of_ne (by unfold objKey; omega), num_setNum_of_ne (by unfold objKey; omega),
    num_setNum_of_ne (by unfold objKey; omega)]

theorem startObjs_spec : s.startObjs.num 0x2007 0 = (if s.num 0x2005 0 = 0 then 0 else if s.members.length ≤ 16 then 1 else 2)
    ∧ s.startObjs.num 0x200C 0 = 0 ∧ s.startObjs.num 0x200D 0 = 0 := by
  refine ⟨?_, ?_, ?_⟩
  · rw [State.startObjs, num_setNum_of_ne (by decide), num_setNum_of_ne (by decide), State.num_setNum_same]
  · rw [State.startObjs, num_setNum_of_ne (by decide), State.num_setNum_same]
  · rw [State.startObjs, State.num_setNum_same]

theorem fixed_startTick : s.startTick.fixed =
    (s.tick.start s.clock (s.num 0x2005 0) (s.num 0x2001 0) (s.num 0x2002 0) (s.num 0x2041 0), s.mem, s.epoch,
      if s.num 0x2005 0 = 0 then 0 else if s.members.length ≤ 16 then 1 else 2, 0, 0) := by
  obtain ⟨mode, flywheel, clean⟩ := startObjs_spec (s := s)
  have tick : s.startTick.tick = s.tick.start s.clock (s.num 0x2005 0) (s.startObjs.num 0x2001 0) (s.startObjs.num 0x2002 0)
      (s.startObjs.num 0x2041 0) := rfl
  rw [num_startObjs (by decide), num_startObjs (by decide), num_startObjs (by decide)] at tick
  have num (i : Nat) : s.startTick.num i 0 = s.startObjs.num i 0 := rfl
  have mem : s.startTick.mem = s.mem := rfl
  have epoch : s.startTick.num 0x2004 0 = s.num 0x2004 0 := (num 0x2004).trans (num_startObjs (by decide))
  rw [State.fixed, tick, mem, State.epoch, epoch, num, num, num, mode, flywheel, clean]
  rfl

/-- A primary that claimed is active at once; no other module is. -/
theorem tick_noteActive_start {t : TickSt} {c r p l a : Nat} (h : s.tick = t.start c r p l a) :
    s.noteActive.tick = { t.start c r p l a with active := r == 1 && !t.claimIn, claiming := false } := by
  have out : s.tick.claimOut = (r == 1 && !t.claimIn) := congrArg TickSt.claimOut h
  have seen : s.tick.claimIn = t.claimIn := by rw [h]; rfl
  have role : s.tick.role = r := congrArg TickSt.role h
  have test : (s.tick.claimOut && !s.tick.claimIn && (s.tick.role == 1 || s.tick.role == 2)) = (r == 1 && !t.claimIn) := by
    rw [out, seen, role]
    cases t.claimIn <;> cases (r == 1) <;> rfl
  rw [State.noteActive]
  dsimp only
  rw [test]
  cases claim : (r == 1 && !t.claimIn) with
  | true =>
    rw [if_pos rfl]
    simp only [State.modTick, h]
  | false =>
    rw [if_neg Bool.false_ne_true, h, TickSt.start, claim]

theorem noteActive_frame : s.noteActive.objs = s.objs ∧ s.noteActive.mem = s.mem ∧ s.noteActive.pens = s.pens := by
  unfold State.noteActive; dsimp only; split
  · exact ⟨rfl, rfl, rfl⟩
  · exact ⟨rfl, rfl, rfl⟩

theorem startedIdle_spec : s.startedIdle.fixed = s.startTick.fixed ∧ s.startedIdle.pens = s.startTick.dropReferences.pens := by
  obtain ⟨cfixed, cpens⟩ := startClock_frame (s := s.startTick.dropReferences)
  constructor
  · rw [State.startedIdle, resumeModels_keeps unsent_fixed fun _ _ _ => rfl, cfixed, fixed_dropReferences]
  · rw [State.startedIdle, resumeModels_keeps unsent_pens fun _ _ _ => rfl, cpens]

theorem pen_startTick (p : Nat) : s.startTick.pen p = s.pen p := rfl

/-- Start treads fixes the role, the lengths and the beacon mode (R22, R35, R37). -/
theorem startTreads_starts {slot : Nat} (h : Accepts s slot opCommand 0x2020 0) (stopped : s.tick.running = false)
    (on : s.boot.cutOff = false) : Answers (.startTreads slot) s slot opCommand 0x2020 0 0 fun u =>
      let role := s.num 0x2005 0
      u.tick.running = true ∧ u.tick.begun = false ∧ u.tick.stopReq = false ∧ u.tick.role = role
      ∧ u.tick.period = s.num 0x2001 0 ∧ u.tick.land = s.num 0x2002 0
      ∧ u.num 0x2007 0 = (if role = 0 then 0 else if s.members.length ≤ 16 then 1 else 2)
      ∧ u.num 0x200C 0 = 0 ∧ u.num 0x200D 0 = 0 ∧ u.tick.claimOut = (role == 1 && !s.tick.claimIn)
      ∧ u.tick.active = (role == 1 && !s.tick.claimIn) ∧ u.epoch = s.epoch ∧ u.mem = s.mem
      ∧ ∀ p, u.pen p = { s.pen p with reference := none } := by
  refine ⟨_, execStartTreads_eq h stopped on, ?_⟩
  obtain ⟨vfixed, vpens⟩ := startedIdle_spec (s := s)
  rw [fixed_startTick] at vfixed
  generalize s.startedIdle = v at vfixed vpens
  simp only [State.fixed, Prod.mk.injEq] at vfixed
  obtain ⟨tick, mem, epoch, mode, flywheel, clean⟩ := vfixed
  obtain ⟨objs, mem', pens⟩ := noteActive_frame (s := v)
  have num (i : Nat) : v.noteActive.num i 0 = v.num i 0 := by simp only [State.num, State.obj, objs]
  have pen (p : Nat) : v.noteActive.pen p = s.startTick.dropReferences.pen p := by rw [State.pen, pens, vpens]; rfl
  dsimp only
  rw [tick_noteActive_start tick]
  exact ⟨rfl, rfl, rfl, rfl, rfl, rfl, (num _).trans mode, (num _).trans flywheel, (num _).trans clean, rfl, rfl,
    (num 0x2004).trans epoch, mem'.trans mem, fun p => by rw [pen, pen_dropReferences, pen_startTick]⟩

/-! ## What most of a tick leaves alone: the tick generator, the clock and the epoch -/

/-- The tick generator, the clock and the epoch. -/
def State.beat (s : State) : TickSt × Nat × Nat := (s.tick, s.clock, s.epoch)

theorem beat_congr {u v : State} (tick : u.tick = v.tick) (clock : u.clock = v.clock) (objs : u.objs = v.objs) :
    u.beat = v.beat := by
  simp only [State.beat, State.epoch, State.num, State.obj, tick, clock, objs]

theorem tick_of_beat {u v : State} (h : u.beat = v.beat) : u.tick = v.tick := congrArg Prod.fst h

theorem beat_setObj {i j : Nat} (v : Value) (h : 0x2005 ≤ i) : (s.setObj i j v).beat = s.beat := by
  have other : objKey 0x2004 0 ≠ objKey i j := by unfold objKey; omega
  have epoch : (s.setObj i j v).epoch = s.epoch := by rw [State.epoch, State.num, State.obj_setObj, if_neg other]; rfl
  rw [State.beat, epoch]; rfl

@[simp] theorem beat_setNum {i j n : Nat} (h : 0x2005 ≤ i) : (s.setNum i j n).beat = s.beat := beat_setObj _ h
@[simp] theorem beat_setBlob {i j : Nat} {b : List Byte} (h : 0x2005 ≤ i) : (s.setBlob i j b).beat = s.beat := beat_setObj _ h
@[simp] theorem beat_setF32 {i j : Nat} {q : Rat} (h : 0x2005 ≤ i) : (s.setF32 i j q).beat = s.beat := beat_setNum h
@[simp] theorem beat_log (c a d : Nat) : (s.log c a d).beat = s.beat := rfl
@[simp] theorem beat_modTile (t : Nat) (f : Tile → Tile) : (s.modTile t f).beat = s.beat := rfl
@[simp] theorem beat_modLink (n : Nat) (f : LinkSt → LinkSt) : (s.modLink n f).beat = s.beat := rfl
@[simp] theorem beat_modOe (n : Nat) (f : OeSt → OeSt) : (s.modOe n f).beat = s.beat := rfl
@[simp] theorem beat_modModel (i : Nat) (f : Model → Model) : (s.modModel i f).beat = s.beat := rfl
@[simp] theorem beat_modConn (q : Nat) (f : Conn → Conn) : (s.modConn q f).beat = s.beat := rfl

@[simp] theorem beat_count {i j n : Nat} (h : 0x2005 ≤ i) : (s.count i j n).beat = s.beat := by
  unfold State.count; split
  · exact beat_setNum h
  · rfl

theorem unsent_beat : Unsent State.beat := ⟨fun _ _ _ => rfl, fun _ _ _ => beat_count (by decide), fun _ _ _ _ => rfl⟩

@[simp] theorem beat_reportModel (i : Nat) : (s.reportModel i).beat = s.beat := unsent_beat.reportModel i
@[simp] theorem beat_lose (f n : Nat) : (s.lose f n).beat = s.beat := unsent_beat.lose f n

/-! ### The end of the tread before -/

@[simp] theorem beat_goQuiet : s.goQuiet.beat = s.beat := rfl

@[simp] theorem beat_loadSchedule : s.loadSchedule.beat = s.beat := by
  unfold State.loadSchedule; dsimp only
  split
  · rfl
  · split
    · rfl
    · rfl

@[simp] theorem beat_putSchedule : s.putSchedule.beat = s.beat := by
  unfold State.putSchedule; split
  · rfl
  · next b _ => exact (rfl : _ = (s.setBlob 0x2031 0 b).beat).trans (beat_setBlob (by decide))

@[simp] theorem beat_finishUnloads : s.finishUnloads.beat = s.beat := upTo_keeps State.beat fun i _ u => by
  split
  · simp
  · rfl

@[simp] theorem beat_releaseEnded : s.releaseEnded.beat = s.beat := by
  unfold State.releaseEnded
  refine beat_finishUnloads.trans (forEach_keeps State.beat fun e _ u => ?_)
  split
  · split
    · split
      · rfl
      · rfl
    · rfl
  · rfl

@[simp] theorem beat_linksAtTick : s.linksAtTick.beat = s.beat := by
  unfold State.linksAtTick
  refine upTo_keeps State.beat fun f _ u => ?_
  have logged (n : Nat) (v : State) (c d : Nat) : (if n = 0 then v else v.log c srcHub d).beat = v.beat := by
    split
    · rfl
    · exact beat_log c srcHub d
  dsimp only; split
  · rfl
  · rw [beat_modLink, logged, logged]

/-- The reins of the tread are logged. -/
def State.logReins (s : State) : State :=
  if s.tick.reinsInTread > 0 then s.log 0x3001 srcHub s.tick.reinsInTread else s

/-- The tick generator forgets the reins of the tread, the drover its windows. -/
def State.closeReins (s : State) (n : Nat) : State :=
  { s with
    tick := { s.tick with reinsInTread := 0 }
    drover := { s.drover with
      tau := 1, gminOnly := false, grants := s.drover.nextGrants, nextGrants := [], nonTileSum := 0, nonTileCount := 0
      reinLast := decide (n > 0) || s.drover.reinCarried || s.drover.rein, reinCarried := s.drover.rein } }

/-- The floor power of a tile's windows is averaged. -/
def State.closeFloor (s : State) (t : Nat) : State :=
  let x := s.tile t
  if x.floorWindows = 0 then s
  else (s.setF32 0x3013 (t + 1) (x.floorSum / x.floorWindows / 1000)).modTile t fun x =>
    { x with floorMw := x.floorSum / x.floorWindows, floorSum := 0, floorWindows := 0 }

theorem droverTick_eq : s.droverTick = upTo 64 (s.logReins.closeReins s.tick.reinsInTread) fun t u => u.closeFloor t := rfl

theorem beat_closeFloor (t : Nat) : (s.closeFloor t).beat = s.beat := by
  unfold State.closeFloor; dsimp only; split
  · rfl
  · rw [beat_modTile, beat_setF32 (by decide)]

theorem beat_closeReins (n : Nat) : (s.closeReins n).beat = ({ s.tick with reinsInTread := 0 }, s.clock, s.epoch) := rfl

theorem beat_logReins : s.logReins.beat = s.beat := by
  unfold State.logReins; split
  · rfl
  · rfl

/-- At the tick the tick generator forgets only the reins of the tread. -/
theorem beat_droverTick : s.droverTick.beat = ({ s.tick with reinsInTread := 0 }, s.clock, s.epoch) := by
  obtain ⟨tick, clock, epoch⟩ : s.logReins.tick = s.tick ∧ s.logReins.clock = s.clock ∧ s.logReins.epoch = s.epoch := by
    simpa only [State.beat, Prod.mk.injEq] using beat_logReins (s := s)
  rw [droverTick_eq, upTo_keeps State.beat fun t _ u => beat_closeFloor t, beat_closeReins, tick, clock, epoch]

/-! ### Flocks and the placement of jobs -/

@[simp] theorem beat_placeElsewhere (t : Nat) (j : Job) : (s.placeElsewhere t j).beat = s.beat := by
  unfold State.placeElsewhere; split
  · rfl
  · split
    · rfl
    · split
      · rfl
      · rfl

@[simp] theorem beat_placeReady (t : Nat) (j : Job) : (s.placeReady t j).beat = s.beat := by
  unfold State.placeReady; split
  · rfl
  · exact beat_placeElsewhere t j

@[simp] theorem beat_flockOff (t : Nat) : (s.flockOff t).beat = s.beat := by
  unfold State.flockOff; split
  · rfl
  · dsimp only
    refine (upTo_keeps State.beat fun d _ u => ?_).trans ?_
    · exact forEach_keeps State.beat fun e _ v => beat_placeReady d e.2
    rw [beat_setNum (by decide), beat_setNum (by decide), beat_setBlob (by decide), beat_modTile]
    exact upTo_keeps State.beat fun _ _ _ => rfl

@[simp] theorem beat_pathFaults (f : BitVec 64) : (s.pathFaults f).beat = s.beat := by
  unfold State.pathFaults; split
  · rfl
  · refine upTo_keeps State.beat fun t _ u => ?_
    split
    · simp
    · rfl

/-! ### Members and the gallery -/

@[simp] theorem beat_endModelSessions (m : Nat) : (s.endModelSessions m).beat = s.beat := forEach_keeps State.beat fun e _ u => by
  split
  · split
    · rfl
    · split
      · rfl
      · rfl
  · rfl

@[simp] theorem beat_suspendModels : s.suspendModels.beat = s.beat := upTo_keeps State.beat fun i _ u => by
  split
  · simp
  · rfl

@[simp] theorem beat_putMembers (b : List Byte) : (s.putMembers b).beat = s.beat := by
  unfold State.putMembers; dsimp only; split
  · simp
  · simp

@[simp] theorem beat_takeNewList : s.takeNewList.beat = s.beat := by
  unfold State.takeNewList; split
  · rfl
  · exact beat_putMembers _

@[simp] theorem beat_turnGallery : s.turnGallery.beat = s.beat := rfl

/-- What a beacon's SCHD says of the schedule in force. -/
def State.judgeQuiet (s : State) : State :=
  match s.schdUsed with
  | none => s
  | some c =>
    if schedSetcrc (s.blob 0x2031 0) ≠ c then (if s.gallery.quiet then s else s.goQuiet)
    else if s.gallery.quiet && s.schedFits then { s with gallery := { s.gallery with quiet := false } }
    else s

theorem checkQuiet_eq : s.checkQuiet = if s.judgeQuiet.tick.role = 0 then s.judgeQuiet
    else s.judgeQuiet.setNum 0x2042 0 (if s.judgeQuiet.members.any (fun m => m.role == 3) then 3 else 1) := rfl

@[simp] theorem beat_judgeQuiet : s.judgeQuiet.beat = s.beat := by
  unfold State.judgeQuiet; split
  · rfl
  · split
    · split
      · rfl
      · exact beat_goQuiet
    · split
      · exact beat_congr rfl rfl rfl
      · rfl

@[simp] theorem beat_checkQuiet : s.checkQuiet.beat = s.beat := by
  rw [checkQuiet_eq]; split
  · exact beat_judgeQuiet
  · simp

/-! ### Tallies, bands and the clock -/

theorem beat_talliesAtTick : s.talliesAtTick.beat = s.beat := by
  unfold State.talliesAtTick State.noteUnits
  rw [beat_setNum (by decide)]
  exact forEach_keeps State.beat fun u _ v => beat_congr rfl rfl rfl

theorem beat_writeOe (n : Nat) : (s.writeOe n).beat = s.beat := by
  unfold State.writeOe; split
  · rfl
  · rfl

theorem beat_sledBand (n b : Nat) : (s.sledBand n b).beat = s.beat := by
  unfold State.sledBand; dsimp only
  rw [beat_writeOe, beat_modOe]
  exact upTo_keeps State.beat fun _ _ _ => rfl

theorem beat_refresh (t : Nat) : (s.refresh t).beat = s.beat := beat_setNum (by decide)


theorem beat_withDrover (d : Drover) : ({ s with drover := d } : State).beat = s.beat := rfl

theorem beat_setSampling : s.setSampling.beat = s.beat := by
  unfold State.setSampling; exact beat_withDrover _

/-- The drover without the bands that wait. -/
def State.clearBands (s : State) : State := { s with drover := { s.drover with newBands := [] } }

theorem beat_clearBands : s.clearBands.beat = s.beat := rfl

/-- One band comes into force. -/
def State.putBand (s : State) (e : Nat × Option Nat) : State :=
  match e.2 with
  | none => s
  | some b =>
    let s := (s.log 0x4001 srcHub (e.1 + b * 2 ^ 16)).setNum 0x4004 (e.1 + 1) b
    if 80 ≤ e.1 ∧ e.1 < 92 then s.sledBand (e.1 - 80) b
    else if 92 ≤ e.1 ∧ e.1 < 124 then (s.refresh (2 * (e.1 - 92))).refresh (2 * (e.1 - 92) + 1)
    else s

theorem bandsAtTick_eq : s.bandsAtTick =
    if s.drover.newBands.any fun e => e.2.isSome then (forEach s.drover.newBands s.clearBands fun e u => u.putBand e).setSampling
    else forEach s.drover.newBands s.clearBands fun e u => u.putBand e := rfl

theorem beat_putBand (e : Nat × Option Nat) : (s.putBand e).beat = s.beat := by
  have put (c b : Nat) : ((s.log 0x4001 srcHub c).setNum 0x4004 (e.1 + 1) b).beat = s.beat := by
    rw [beat_setNum (by decide), beat_log]
  unfold State.putBand; split
  · rfl
  · dsimp only; split
    · rw [beat_sledBand, put]
    · split
      · rw [beat_refresh, beat_refresh, put]
      · rw [put]

theorem beat_bandsAtTick : s.bandsAtTick.beat = s.beat := by
  have each : (forEach s.drover.newBands s.clearBands fun e u => u.putBand e).beat = s.beat :=
    (forEach_keeps State.beat fun e _ u => beat_putBand e).trans beat_clearBands
  rw [bandsAtTick_eq]; split
  · rw [beat_setSampling, each]
  · exact each

theorem beat_logIf (c : Bool) (i n : Nat) : (if c then s.log i srcHub n else s).beat = s.beat := by
  split
  · rfl
  · rfl

theorem beat_limitAtTick : s.limitAtTick.beat = s.beat := by
  unfold State.limitAtTick; extract_lets thr lim hot cool n new below u
  have logged : u.beat = s.beat := by
    dsimp only [u]; split
    · rfl
    · exact beat_logIf _ _ _
  rw [beat_withDrover, beat_setNum (by decide), logged]

theorem beat_setClock (f : Rat) : (s.setClock f).beat = s.beat := beat_withDrover _

theorem beat_clockAtTick : s.clockAtTick.beat = s.beat := by
  unfold State.clockAtTick; extract_lets now next u v
  have logged : u.beat = s.beat := by
    dsimp only [u]; split
    · rfl
    · rfl
  rw [beat_withDrover, beat_setClock, logged]

/-! ### Records of the sessions -/

theorem beat_sendIf (c : Prop) [Decidable c] (o : Out) : (if c then s.send o else s).beat = s.beat := by
  split
  · rfl
  · rfl

theorem beat_rdmaOut (q : Nat) (o : Out) : (s.rdmaOut q o).beat = s.beat := by
  unfold State.rdmaOut State.sendOn; dsimp only; split
  · rfl
  · split
    · rfl
    · split
      · exact (forEach_keeps State.beat fun e _ u => beat_sendIf _ _).trans rfl
      · rfl

theorem beat_postDue (q n : Nat) : (s.postDue q n).beat = s.beat := by
  have written (u : State) (r a : Nat) (d : List Byte) : (u.postWrite q r a d).beat = u.beat := by
    unfold State.postWrite; dsimp only; split
    · rfl
    · exact (forEach_keeps State.beat fun e _ v => beat_rdmaOut q e.2).trans rfl
  induction n generalizing s with
  | zero => rfl
  | succ n ih =>
    unfold State.postDue; split
    · rfl
    · split
      · rfl
      · dsimp only; split
        · rw [ih, written, beat_modConn]
        · rfl

theorem beat_postRecords : s.postRecords.beat = s.beat := forEach_keeps State.beat fun e _ u => by
  have posted (v : State) (q : Nat) : (v.post q).beat = v.beat := by
    have due : (if v.tick.running then v else v.modConn q fun c => { c with due := c.queued.length }).beat = v.beat := by
      split
      · rfl
      · rfl
    unfold State.post; dsimp only; split
    · rw [beat_postDue, due]
    · exact due
  rw [posted, beat_modConn]

theorem beat_checkPrediction : s.checkPrediction.beat = s.beat := by
  unfold State.checkPrediction; extract_lets n a u
  have logged : u.beat = s.beat := beat_logIf _ _ _
  exact (beat_congr rfl rfl rfl).trans logged

/-! ### A flock's new tread -/

theorem beat_judgeDue (t : Nat) (jobs : List Job) : (s.judgeDue t jobs).beat = s.beat := by
  unfold State.judgeDue; dsimp only; split
  · rfl
  · split
    · rfl
    · split
      · rfl
      · split
        · rfl
        · rfl

theorem beat_samplePens (t : Nat) : (s.samplePens t).beat = s.beat := upTo_keeps State.beat fun _ _ _ => rfl

theorem beat_putGrant (t k : Nat) : (s.putGrant t k).beat = s.beat := by
  unfold State.putGrant; dsimp only
  rw [beat_modTile, beat_setNum (by decide)]

theorem beat_noteTest (t : Nat) : (s.noteTest t).beat = s.beat := beat_setNum (by decide)

theorem beat_checkHeld (t : Nat) : (s.checkHeld t).beat = s.beat := by
  unfold State.checkHeld; split
  · rfl
  · split
    · unfold State.refusePlan; rw [beat_modTile, beat_log, beat_modTile]
    · rfl

theorem beat_turnWithheld (t : Nat) : (s.turnWithheld t).beat = s.beat := by
  unfold State.turnWithheld; split
  · rfl
  · rfl

theorem beat_armTests (t : Nat) : (s.armTests t).beat = s.beat := rfl

/-- The jobs of a tile's new tread: the re-run set and the plan. -/
def State.tileJobs (s : State) (t : Nat) : List Job :=
  recount (s.tile t).rerun ++ match (s.tile t).plan with | some p => p.jobs | none => []

/-- A tile at the start of its tread, before any job is placed. -/
def Tile.turn (x : Tile) (epoch : Nat) (jobs : List Job) : Tile :=
  { x with
    epochSeen := epoch, plan := x.held, held := none, jobs := jobs, dropped := x.dropNext, dropNext := [], rerun := [], deques := [], readyList := []
    waiting := jobs.filter fun j => j.npred != 0
    treadOut := [], done := [], tradedIn := [], tradedOut := [], requested := [] }

/-- The due pen, the tests and the samples of a tile's new tread. -/
def State.turnTile (s : State) (t : Nat) (jobs : List Job) : State :=
  (((s.judgeDue t jobs).modTile t fun x => x.turn (s.judgeDue t jobs).epoch jobs).armTests t).samplePens t

/-- A job on a pen that the budget forces is logged. -/
def State.logForced (s : State) (t : Nat) (jobs : List Job) : State :=
  if jobs.any fun j => j.scr && (s.tile t).force.getLsbD j.home then s.log 0x7015 t t else s

theorem startTile_eq (t : Nat) : s.startTile t =
    forEach ((s.tileJobs t).filter fun j => j.npred == 0) ((s.turnTile t (s.tileJobs t)).logForced t (s.tileJobs t))
      fun j u => u.placeReady t j := rfl

theorem beat_turnTile (t : Nat) (jobs : List Job) : (s.turnTile t jobs).beat = s.beat := by
  rw [State.turnTile, beat_samplePens, beat_armTests, beat_modTile, beat_judgeDue]

theorem beat_logForced (t : Nat) (jobs : List Job) : (s.logForced t jobs).beat = s.beat := by
  unfold State.logForced; split
  · rfl
  · rfl

theorem beat_startTile (t : Nat) : (s.startTile t).beat = s.beat := by
  rw [startTile_eq, forEach_keeps State.beat fun j _ u => beat_placeReady t j, beat_logForced, beat_turnTile]

theorem beat_publish (t : Nat) : (s.publish t).beat = s.beat := by
  unfold State.publish; extract_lets cap u v x waits mask force pens due w
  have kept : v.beat = s.beat := by
    dsimp only [v, u]; split
    · rw [beat_modTile, beat_setNum (by decide)]
    · rw [beat_setNum (by decide)]
  rw [beat_noteTest, beat_setBlob (by decide)]
  exact kept

/-- A flock's new tread, the budget of the one after it, and its first grant. -/
def State.turnFlock (s : State) (t : Nat) : State :=
  ((((s.startTile t).publish t).checkHeld t).putGrant t 0).modTile t fun x => { x with balance := x.grant, tradeDelta := 0 }

theorem startTiles_eq : s.startTiles = upTo 64 s fun t u =>
    if !((u.turnWithheld t).tile t).flockOn then (u.turnWithheld t).putGrant t 0 else (u.turnWithheld t).turnFlock t := rfl

theorem beat_turnFlock (t : Nat) : (s.turnFlock t).beat = s.beat := by
  rw [State.turnFlock, beat_modTile, beat_putGrant, beat_checkHeld, beat_publish, beat_startTile]

theorem beat_startTiles : s.startTiles.beat = s.beat := by
  rw [startTiles_eq]
  refine upTo_keeps State.beat fun t _ u => ?_
  split
  · rw [beat_putGrant, beat_turnWithheld]
  · rw [beat_turnFlock, beat_turnWithheld]

/-! ## TICK: the tread that begins (R21, R31) -/

/-- What TICK fixes of the tread that begins. -/
def State.tread (s : State) : Nat × Bool × Bool × Nat × Bool × Nat × Nat :=
  (s.epoch, s.tick.running, s.tick.inLanding, s.tick.tickAt, s.tick.confirmed, s.tick.period, s.tick.land)

theorem tread_of_beat {u v : State} (h : u.beat = v.beat) : u.tread = v.tread := by
  simp only [State.beat, Prod.mk.injEq] at h
  obtain ⟨tick, -, epoch⟩ := h
  simp only [State.tread, tick, epoch]

theorem tread_sendDispute (d k : Nat) : (s.sendDispute d k).tread = s.tread :=
  tread_of_beat (forEach_keeps State.beat fun a _ _ => unsent_beat.sendEnvelope 1 a _)

theorem tread_loseTick : s.loseTick.tread = s.tread := by
  unfold State.loseTick; split
  · rfl
  · rfl

theorem tread_setNum {i j n : Nat} (h : 0x2005 ≤ i) : (s.setNum i j n).tread = s.tread := tread_of_beat (beat_setNum h)

theorem tread_alignTick : s.alignTick.tread = s.tread := by
  unfold State.alignTick; extract_lets t heard fails failed u off clean v n w
  split
  · rfl
  · have compared : u.tread = s.tread := by
      dsimp only [u]; split
      · rfl
      · split
        · exact tread_sendDispute _ _
        · rfl
    have counted : v.tread = s.tread := by
      dsimp only [v]; split
      · exact Eq.trans (tread_setNum (s := u) (by decide)) compared
      · exact compared
    have flown (n : Nat) (b : Bool) : ((v.setNum 0x200C 0 n).modTick fun t => { t with flywheel := b }).tread = s.tread :=
      Eq.trans (tread_setNum (s := v) (by decide)) counted
    split
    · exact flown 0 false
    · split
      · exact tread_loseTick.trans (flown n true)
      · exact flown n true

theorem tread_foresee : s.foresee.tread = s.tread := by
  unfold State.foresee; split
  · split
    · rfl
    · rfl
  · rfl

theorem tread_launchBeacons : s.launchBeacons.tread = s.tread := by
  unfold State.launchBeacons; extract_lets t sends p u
  split
  · rfl
  · have sent : u.beat = s.beat := forEach_keeps State.beat fun e _ v => by
      split
      · rfl
      · exact beat_lose _ _
    exact Eq.trans (b := u.tread) rfl (tread_of_beat sent)

theorem tread_sendProbe (f : Nat) : (s.sendProbe f).tread = s.tread := by
  unfold State.sendProbe; split
  · rfl
  · rfl

theorem tread_remeasureNow : s.remeasureNow.tread = s.tread := by
  unfold State.remeasureNow; extract_lets l
  exact forEach_keeps State.tread fun f _ _ => tread_sendProbe f

/-- The tread lengths that the next tick puts in force (R31). -/
def TickSt.coming (t : TickSt) : Nat × Nat :=
  match t.change with
  | some (p, l, c) => if c ≤ 1 then (p, l) else (t.nextPeriod, t.nextLand)
  | none => (t.nextPeriod, t.nextLand)

theorem epoch_putTread (p l : Nat) : (s.putTread p l).epoch = s.epoch := by
  have objs : (s.putTread p l).objs = ((s.setNum 0x2001 0 p).setNum 0x2002 0 l).objs := by
    unfold State.putTread; dsimp only; split
    · rfl
    · rfl
  have epoch : ((s.setNum 0x2001 0 p).setNum 0x2002 0 l).epoch = s.epoch := by
    rw [State.epoch, num_setNum_of_ne (by decide), num_setNum_of_ne (by decide)]; rfl
  rw [← epoch, State.epoch, State.epoch, State.num, State.num, State.obj, State.obj, objs]

/-- What the next epoch takes of the state that the countdown left. -/
def State.taken (s : State) : Nat × Bool × Bool × Nat × Bool × Nat × Nat :=
  (s.epoch, s.tick.running, false, s.clock, false, s.tick.nextPeriod, s.tick.nextLand)

theorem countDown_spec : s.countDown.epoch = s.epoch ∧ s.countDown.clock = s.clock
    ∧ s.countDown.tick.running = s.tick.running
    ∧ (s.countDown.tick.nextPeriod, s.countDown.tick.nextLand) = s.tick.coming := by
  unfold State.countDown TickSt.coming
  split
  · next h => rw [h]; exact ⟨rfl, rfl, rfl, rfl⟩
  · next p l c h =>
    rw [h]; dsimp only
    split
    · have applied : s.applyChange = (s.putTread p l).modTick fun t => { t with change := none } := by
        rw [State.applyChange, h]
      obtain ⟨-, -, frame, tick⟩ := putTread_spec (s := s) p l
      have clock := congrArg State.clock frame
      rw [applied]
      refine ⟨epoch_putTread p l, clock, ?_, ?_⟩
      · rw [State.modTick, tick]
      · rw [State.modTick, tick]
    · exact ⟨rfl, rfl, rfl, rfl⟩

theorem tread_nextEpoch : s.nextEpoch.tread = (s.epoch + 1, s.tick.running, false, s.clock, false, s.tick.coming) := by
  obtain ⟨epoch, clock, running, lengths⟩ := countDown_spec (s := s.setNum 0x2004 0 (s.epoch + 1))
  have next : (s.setNum 0x2004 0 (s.epoch + 1)).num 0x2004 0 = s.epoch + 1 := s.num_setNum_same 0x2004 0 (s.epoch + 1)
  have taken : s.nextEpoch.tread = (s.setNum 0x2004 0 (s.epoch + 1)).countDown.taken := rfl
  rw [taken, State.taken, lengths, clock, running, epoch, State.epoch, next]
  rfl

/-- The schedule of the first tread is loaded at its tick. -/
def State.loadFirst (s : State) : State := if s.tick.begun then s else s.loadSchedule

/-- What closes a tread at its tick: records, drover and links. -/
def State.closeTread (s : State) : State := s.releaseEnded.droverTick.linksAtTick

/-- An active master takes a new list of members. -/
def State.takeListActive (s : State) : State := if s.tick.active then s.takeNewList else s

/-- What follows the new epoch in the same tick. -/
def State.turnTread (s : State) (f : BitVec 64) : State :=
  ((((((s.putSchedule.pathFaults f).alignTick.takeListActive.checkQuiet.turnGallery).talliesAtTick.bandsAtTick).limitAtTick
    ).clockAtTick.foresee).startTiles.launchBeacons.remeasureNow).postRecords.checkPrediction

theorem beginTread_eq (f : BitVec 64) :
    s.beginTread f = (s.loadFirst.closeTread.nextEpoch.turnTread f).modTick fun t => { t with begun := true } := rfl

theorem beat_loadFirst : s.loadFirst.beat = s.beat := by
  unfold State.loadFirst; split
  · rfl
  · exact beat_loadSchedule

theorem beat_closeTread : s.closeTread.beat = ({ s.tick with reinsInTread := 0 }, s.clock, s.epoch) := by
  have ended := beat_releaseEnded (s := s)
  simp only [State.beat, Prod.mk.injEq] at ended
  obtain ⟨tick, clock, epoch⟩ := ended
  rw [State.closeTread, beat_linksAtTick, beat_droverTick, tick, clock, epoch]

theorem beat_takeListActive : s.takeListActive.beat = s.beat := by
  unfold State.takeListActive; split
  · exact beat_takeNewList
  · rfl

theorem tread_turnTread (f : BitVec 64) : (s.turnTread f).tread = s.tread := by
  rw [State.turnTread, tread_of_beat beat_checkPrediction, tread_of_beat beat_postRecords, tread_remeasureNow,
    tread_launchBeacons, tread_of_beat beat_startTiles, tread_foresee, tread_of_beat beat_clockAtTick,
    tread_of_beat beat_limitAtTick, tread_of_beat beat_bandsAtTick, tread_of_beat beat_talliesAtTick,
    tread_of_beat beat_turnGallery, tread_of_beat beat_checkQuiet, tread_of_beat beat_takeListActive, tread_alignTick,
    tread_of_beat (beat_pathFaults f), tread_of_beat beat_putSchedule]

/-- A tread begins: the epoch, the lengths and the marks of its tick, which the rest of the tick keeps. -/
theorem tread_beginTread (f : BitVec 64) :
    (s.beginTread f).tread = (s.epoch + 1, s.tick.running, false, s.clock, false, s.tick.coming) := by
  have before : s.loadFirst.closeTread.beat = ({ s.tick with reinsInTread := 0 }, s.clock, s.epoch) := by
    have first := beat_loadFirst (s := s)
    simp only [State.beat, Prod.mk.injEq] at first
    obtain ⟨tick, clock, epoch⟩ := first
    rw [beat_closeTread, tick, clock, epoch]
  have begun (u : State) : (u.modTick fun t => { t with begun := true }).tread = u.tread := rfl
  rw [beginTread_eq, begun, tread_turnTread, tread_nextEpoch]
  simp only [State.beat, Prod.mk.injEq] at before
  obtain ⟨tick, clock, epoch⟩ := before
  rw [tick, clock, epoch]
  rfl

/-- TICK in its place, with no stop asked for. -/
theorem tick_begins (f : BitVec 64) (running : s.tick.running = true) (place : s.tick.begun = false ∨ s.tick.inLanding = true)
    (on : s.tick.stopReq = false) : Done (.tick f) s fun t => t.epoch = s.epoch + 1 ∧ t.tick.begun = true
      ∧ t.tick.inLanding = false ∧ t.tick.tickAt = s.clock ∧ t.tick.confirmed = false ∧ t.tick.running = true
      ∧ (t.tick.period, t.tick.land) = match s.tick.change with
        | some (p, l, c) => if c ≤ 1 then (p, l) else (s.tick.nextPeriod, s.tick.nextLand)
        | none => (s.tick.nextPeriod, s.tick.nextLand) := by
  have due : ¬ (!s.tick.running || (s.tick.begun && !s.tick.inLanding)) = true := by
    rcases place with h | h <;> simp [running, h]
  have runs : exec (.tick f) s = .next (s.beginTread f) := by
    rw [exec_tick, execTick, if_neg due, if_neg (by simp [on])]
  refine ⟨s.beginTread f, runs, ?_⟩
  have tread := tread_beginTread (s := s) f
  have begun : (s.beginTread f).tick.begun = true := rfl
  generalize s.beginTread f = u at tread begun
  simp only [State.tread, Prod.mk.injEq] at tread
  obtain ⟨epoch, run, landing, tickAt, confirmed, lengths⟩ := tread
  exact ⟨epoch, begun, landing, tickAt, confirmed, run.trans running, lengths⟩

/-! ## What most of a landing leaves alone: the tick generator -/

/-! ### Jobs that end -/

@[simp] theorem tick_reportTrade (t : Nat) (j : Job) (c : Nat) : (s.reportTrade t j c).tick = s.tick := by
  unfold State.reportTrade; split
  · rfl
  · rfl

@[simp] theorem tick_withhold (t : Nat) (l : List Nat) : (s.withhold t l).tick = s.tick := State.modTile_tick _ _ _

@[simp] theorem tick_withholdSuccessors (t : Nat) (j : Job) : (s.withholdSuccessors t j).tick = s.tick := by
  unfold State.withholdSuccessors; rw [tick_withhold, State.modTile_tick]

@[simp] theorem tick_except (p order index code detail : Nat) : (s.except p order index code detail).tick = s.tick := by
  unfold State.except; dsimp only; split
  · rfl
  · have counted : (if code = 0x10 ∨ code = 0x11 then s.count 0x7031 (tileOf p + 1) 1 else s).tick = s.tick := by
      split
      · exact State.count_tick _ _ _ _
      · rfl
    split
    · exact counted
    · rw [State.setPen_tick, counted]

@[simp] theorem tick_stopStalled (j : Job) (code : Nat) : (s.stopStalled j code).tick = s.tick :=
  forEach_keeps State.tick fun e _ u => by
    split
    · exact tick_except _ _ _ _ _
    · rfl
    · rfl

@[simp] theorem tick_jobWithheld (t : Nat) (j : Job) (code : Nat) : (s.jobWithheld t j code).tick = s.tick := by
  rw [State.jobWithheld, tick_reportTrade, tick_stopStalled, tick_withholdSuccessors, tick_withhold]

@[simp] theorem tick_placeReplay (t : Nat) (j : Job) (code : Nat) : (s.placeReplay t j code).1.tick = s.tick := by
  unfold State.placeReplay; split
  · rfl
  · exact tick_jobWithheld t j code

@[simp] theorem tick_moveEntries (t i : Nat) : (s.moveEntries t i).tick = s.tick := by
  unfold State.moveEntries; extract_lets x l u
  refine (forEach_keeps State.tick fun j _ v => ?_).trans (rfl : u.tick = s.tick)
  split
  · exact tick_placeReplay t j 0x30
  · split
    · rfl
    · exact tick_of_beat (beat_placeElsewhere t j)

@[simp] theorem tick_stopRun (p : Nat) : (s.stopRun p).tick = s.tick := by
  unfold State.stopRun; split
  · rfl
  · rfl

theorem tick_withIf (c : Bool) {u v : State} (h : u.tick = v.tick) : (if c then u else v).tick = v.tick := by
  split
  · exact h
  · rfl

@[simp] theorem tick_fenceOnly (p cause : Nat) (taint : Bool) : (s.fenceOnly p cause taint).tick = s.tick := by
  unfold State.fenceOnly; extract_lets t u v w job x y z
  have stopped : x.tick = s.tick := (tick_stopRun p).trans (tick_withIf taint rfl)
  have replayed : y.tick = x.tick := by
    dsimp only [y]
    generalize job = k
    cases k with
    | none => rfl
    | some j =>
      dsimp only; split
      · rfl
      · split
        · exact tick_withhold _ _
        · exact tick_placeReplay t j 0x30
  exact (tick_moveEntries t _).trans (replayed.trans stopped)

@[simp] theorem tick_fence (p cause : Nat) (taint : Bool) : (s.fence p cause taint).tick = s.tick := by
  unfold State.fence; split
  · rfl
  · dsimp only; split
    · rw [tick_of_beat (beat_flockOff _), tick_fenceOnly]
    · exact tick_fenceOnly p cause taint

@[simp] theorem tick_release (t : Nat) (j : Job) : (s.release t j).tick = s.tick := by
  unfold State.release; extract_lets lowered u
  exact (forEach_keeps State.tick fun k _ _ => tick_of_beat (beat_placeReady t k)).trans rfl

@[simp] theorem tick_finish (p : Nat) (j : Job) (cs : List Commit) (c : Nat) : (s.finish p j cs c).tick = s.tick := by
  unfold State.finish; dsimp only; split
  · exact tick_reportTrade _ _ _
  · exact tick_release _ _

@[simp] theorem tick_store (a : Nat) (d : List Byte) : (s.store a d).tick = s.tick := by
  unfold State.store; split
  · rfl
  · unfold State.countDiscard; split
    · rfl
    · rfl

@[simp] theorem tick_notePoison (c u : Nat) : (s.notePoison c u).tick = s.tick := by
  rw [State.notePoison, State.setNum_tick, State.count_tick]

@[simp] theorem tick_poisonOutputs (p : Nat) (r : Run) (o : Nat) : (s.poisonOutputs p r o).tick = s.tick :=
  upTo_keeps State.tick fun k _ u => by
    dsimp only; split
    · rfl
    · split
      · rw [tick_notePoison, tick_store]
      · split
        · rw [tick_notePoison, State.modPen_tick]
        · rfl

@[simp] theorem tick_endSessions (t : Nat) (l : List Nat) (c : Nat) : (s.endSessions t l c).tick = s.tick := by
  unfold State.endSessions
  rw [forEach_keeps State.tick fun i _ u => (rfl : (u.endAtLanding i c 0).tick = u.tick), tick_withhold]

@[simp] theorem tick_endProgram (p : Nat) (r : Run) : (s.endProgram p r).tick = s.tick := by
  unfold State.endProgram; rw [State.log_tick, tick_endSessions, tick_poisonOutputs]

@[simp] theorem tick_endPoison (p : Nat) (r : Run) (d : Nat) : (s.endPoison p r d).tick = s.tick := by
  unfold State.endPoison; rw [tick_endSessions, tick_poisonOutputs, State.setNum_tick]

/-! ### Faults that settle -/

@[simp] theorem tick_countTransient (p : Nat) : (s.countTransient p).tick = s.tick := by
  unfold State.countTransient; dsimp only; split
  · rw [tick_fence, State.modPen_tick, State.count_tick]
  · rw [State.modPen_tick, State.count_tick]

@[simp] theorem tick_settleTransient (p : Nat) : (s.settleTransient p).tick = s.tick := by
  rw [State.settleTransient, tick_countTransient]; rfl

@[simp] theorem tick_forceTest (p : Nat) (c : TestCase) : (s.forceTest p c).tick = s.tick := rfl
@[simp] theorem tick_placeRepetition (p : Nat) (j : Job) (k : RunKind) : (s.placeRepetition p j k).tick = s.tick := rfl
@[simp] theorem tick_setCases (t : Nat) (l : List FaultCase) : (s.setCases t l).tick = s.tick := rfl

@[simp] theorem tick_settleCase (t : Nat) (c : FaultCase) : (s.settleCase t c).tick = s.tick := by
  unfold State.settleCase; split
  · dsimp only; split
    · exact tick_settleTransient _
    · exact tick_fence _ _ _
  · rfl

@[simp] theorem tick_settleCases (t : Nat) (j : Job) : (s.settleCases t j).tick = s.tick :=
  forEach_keeps State.tick fun c _ _ => tick_settleCase t c

@[simp] theorem tick_replayIn (t : Nat) (j : Job) (l : List RecItem) (e : RunEnd) : (s.replayIn t j l e).tick = s.tick :=
  tick_settleCases t j

@[simp] theorem tick_repetitionIn (p : Nat) (j : Job) (l : List RecItem) (e : RunEnd) :
    (s.repetitionIn p j l e).tick = s.tick := tick_settleCases (tileOf p) j

@[simp] theorem tick_openCase (p : Nat) (r : Run) (code index : Nat) (b : Bool) :
    (s.openCase p r code index b).tick = s.tick := by
  unfold State.openCase; rw [tick_setCases, tick_placeRepetition, tick_placeReplay, State.modPen_tick]

@[simp] theorem tick_openScrCase (p : Nat) (r : Run) (code index : Nat) : (s.openScrCase p r code index).tick = s.tick := by
  unfold State.openScrCase; rw [tick_setCases, tick_placeRepetition, State.modPen_tick]

@[simp] theorem tick_cancelRepetition (p : Nat) (j : Job) : (s.cancelRepetition p j).tick = s.tick := by
  unfold State.cancelRepetition; dsimp only; split
  · split
    · rfl
    · rfl
  · rfl

@[simp] theorem tick_inputBorne (p : Nat) (r : Run) : (s.inputBorne p r).tick = s.tick := by
  unfold State.inputBorne; extract_lets t l u v
  have cancelled : v.tick = s.tick := (forEach_keeps State.tick fun c _ _ => tick_cancelRepetition c.pen r.job).trans rfl
  rw [tick_finish, State.log_tick, tick_endProgram, cancelled]

@[simp] theorem tick_replayFailed (p : Nat) (r : Run) (code index : Nat) : (s.replayFailed p r code index).tick = s.tick := by
  unfold State.replayFailed; dsimp only; split
  · exact tick_openCase _ _ _ _ _
  · split
    · exact tick_inputBorne p r
    · split
      · exact tick_jobWithheld _ _ _
      · exact tick_openCase _ _ _ _ _

@[simp] theorem tick_makeShadow (p : Nat) (r : Run) : (s.makeShadow p r).tick = s.tick := by
  unfold State.makeShadow; extract_lets t u
  split
  · rfl
  · have counted : u.tick = s.tick := State.modPen_tick _ _ _
    split
    · rw [State.modTile_tick, counted]
    · exact counted

@[simp] theorem tick_shadowIn (p : Nat) (r : Run) (e : RunEnd) : (s.shadowIn p r e).tick = s.tick := by
  unfold State.shadowIn; extract_lets t o u v w x
  have ended : u.tick = s.tick := State.modPen_tick _ _ _
  have marked : x.tick = s.tick := by
    dsimp only [x, w, v]; rw [State.modTile_tick, State.modPen_tick, tick_withhold, State.log_tick, ended]
  split
  · exact ended
  · split
    · rw [State.modTile_tick, marked]
    · exact marked

@[simp] theorem tick_thirdIn (p : Nat) (r : Run) : (s.thirdIn p r).tick = s.tick := by
  unfold State.thirdIn; dsimp only; split
  · rfl
  · split
    · rw [tick_fence, State.modTile_tick]
    · split
      · rw [tick_fence, State.modTile_tick]
      · rw [tick_forceTest, tick_forceTest, State.modTile_tick]

@[simp] theorem tick_settleKind (p : Nat) (r : Run) (e : RunEnd) : (s.settleKind p r e).tick = s.tick := by
  unfold State.settleKind; split
  · exact tick_replayIn _ _ _ _
  · exact tick_settleTransient p
  · rfl

@[simp] theorem tick_checkFailed (p : Nat) (r : Run) (code index : Nat) : (s.checkFailed p r code index).tick = s.tick := by
  unfold State.checkFailed; dsimp only; split
  · exact tick_replayFailed _ _ _ _
  · rw [tick_fence, tick_setCases, tick_jobWithheld]
  · split
    · exact tick_openScrCase _ _ _ _
    · exact tick_openCase _ _ _ _ _

@[simp] theorem tick_completeRun (p : Nat) (r : Run) (e : RunEnd) : (s.completeRun p r e).tick = s.tick := by
  have begun : ((s.addBusy p r).modPen p Pen.idle).tick = s.tick := rfl
  unfold State.completeRun; extract_lets u
  change u.tick = s.tick at begun
  split
  · rw [tick_repetitionIn, begun]
  · rw [tick_shadowIn, begun]
  · rw [tick_thirdIn, begun]
  · split
    · rw [tick_makeShadow, tick_settleKind, tick_finish, begun]
    · split
      · rw [tick_makeShadow, tick_settleKind, tick_finish, tick_endProgram, begun]
      · rw [tick_makeShadow, tick_settleKind, tick_finish, tick_endPoison, begun]
      · rw [tick_jobWithheld, begun]
      · rw [tick_checkFailed, begun]

theorem tick_completePen (p : Nat) : (s.completePen p).tick = s.tick := by
  unfold State.completePen; split
  · rfl
  · split
    · rfl
    · exact tick_completeRun _ _ _

theorem tick_completeAll (n : Nat) : (s.completeAll n).tick = s.tick := by
  induction n generalizing s with
  | zero => rfl
  | succ n ih =>
    unfold State.completeAll; split
    · rfl
    · rw [ih]; exact forEach_keeps State.tick fun p _ _ => tick_completePen p

/-! ### What each flock has left -/

theorem tick_overrun (p : Nat) : (s.overrun p).tick = s.tick := by
  unfold State.overrun; split
  · rfl
  · extract_lets t u v w x
    have closed : v.tick = s.tick := State.modPen_tick _ _ _
    have told : w.tick = s.tick := by
      dsimp only [w]; rw [tick_reportTrade, tick_withhold, State.log_tick, closed]
    split
    · exact closed
    · rw [State.modTile_tick]; dsimp only [x]; split
      · exact told
      · rw [State.setNum_tick, State.count_tick, told]

theorem tick_dropUnrun (t : Nat) : (s.dropUnrun t).1.tick = s.tick := by
  unfold State.dropUnrun; extract_lets x queued n u v
  have logged : u.tick = s.tick := by
    dsimp only [u]; split
    · rfl
    · rfl
  rw [State.modTile_tick, tick_withhold, logged]

theorem tick_forceUnsettled (t : Nat) : (s.forceUnsettled t).tick = s.tick := by
  unfold State.forceUnsettled; extract_lets x u v
  have forced : v.tick = u.tick := forEach_keeps State.tick fun c _ w => tick_forceTest _ _
  rw [forEach_keeps State.tick fun m _ w => by rw [tick_forceTest, tick_forceTest], forced, State.modTile_tick]

theorem tick_retryTests (t : Nat) : (s.retryTests t).tick = s.tick := State.modTile_tick _ _ _

theorem tick_judgeTread (t d : Nat) : (s.judgeTread t d).tick = s.tick := by
  unfold State.judgeTread; extract_lets x occ short cap u v
  rw [State.modTile_tick]; dsimp only [v]; split
  · rw [State.setNum_tick, State.log_tick, State.setNum_tick]
  · exact State.setNum_tick _ _ _ _

theorem tick_closeFlocks : s.closeFlocks.tick = s.tick := by
  unfold State.closeFlocks; extract_lets u v
  have ran : v.tick = s.tick := (forEach_keeps State.tick fun p _ _ => tick_overrun p).trans (tick_completeAll 1024)
  refine (upTo_keeps State.tick fun t _ w => ?_).trans ran
  split
  · rfl
  · rw [tick_judgeTread, tick_retryTests, tick_forceUnsettled, tick_dropUnrun]

/-! ### The seal of the tread -/

theorem tick_withholdAll : s.withholdAll.tick = s.tick := upTo_keeps State.tick fun t _ _ => tick_withhold t _

theorem unsent_tick : Unsent State.tick := ⟨fun _ _ _ => rfl, fun u f n => u.count_tick 0x5049 (f + 1) n, fun _ _ _ _ => rfl⟩

theorem tick_logIf (c : Prop) [Decidable c] (i o d : Nat) : (if c then s.log i o d else s).tick = s.tick := by
  split
  · rfl
  · rfl

theorem tick_endAtLanding (i c t : Nat) : (s.endAtLanding i c t).tick = s.tick := rfl

theorem tick_applyTaint (p : Nat) : (s.applyTaint p).tick = s.tick := by
  unfold State.applyTaint; extract_lets t q served u listed v w x
  have logged : v.tick = s.tick := (tick_logIf _ _ _ _).trans (tick_withhold _ _)
  have ended : w.tick = v.tick := forEach_keeps State.tick fun e _ y => by rw [tick_endAtLanding, tick_withhold]
  have told : x.tick = w.tick := (unsent_tick.tellHome _).trans (by rw [State.count_tick, State.log_tick])
  rw [State.modPen_tick, told, ended, logged]

theorem tick_applyTaints : s.applyTaints.tick = s.tick := upTo_keeps State.tick fun t _ u => by
  dsimp only; split
  · rfl
  · rw [State.modTile_tick]; exact forEach_keeps State.tick fun p _ _ => tick_applyTaint p

theorem tick_sealStreams : s.sealStreams.tick = s.tick := by
  unfold State.sealStreams; extract_lets l bad
  split
  · rfl
  · rw [State.log_tick]; exact forEach_keeps State.tick fun e _ _ => tick_withhold _ _

theorem tick_noteTaint (p i : Nat) : (s.noteTaint p i).tick = s.tick := by
  unfold State.noteTaint; dsimp only; split
  · exact State.modPen_tick _ _ _
  · split
    · rfl
    · exact State.modPen_tick _ _ _

theorem tick_noteClean (t : Nat) (l : List Nat) : (s.noteClean t l).tick = s.tick := by
  unfold State.noteClean; extract_lets u
  have cleaned : u.tick = s.tick := upTo_keeps State.tick fun i _ v => by
    dsimp only; split
    · rfl
    · split
      · rw [State.modPen_tick]; exact State.modPen_tick _ _ _
      · exact State.modPen_tick _ _ _
  refine (forEach_keeps State.tick fun d _ v => ?_).trans cleaned
  split
  · rfl
  · exact forEach_keeps State.tick fun i _ _ => tick_noteTaint d.1 i

/-! ### Sessions that end -/

theorem tick_queueRec (q : Nat) (r : StreamRec) : (s.queueRec q r).tick = s.tick := State.modQp_tick _ _ _

theorem tick_countEnd : s.countEnd.tick = s.tick := rfl

theorem tick_leave (i : Nat) : (s.leave i).tick = s.tick := by
  unfold State.leave; split
  · rfl
  · rfl

theorem tick_endSession (i c r t : Nat) : (s.endSession i c r t).tick = s.tick := by
  unfold State.endSession; split
  · rfl
  · extract_lets idle u v
    have counted : v.tick = s.tick := by
      dsimp only [v]; split
      · exact tick_queueRec _ _
      · rw [tick_countEnd]; exact tick_queueRec _ _
    split
    · rfl
    · split
      · rw [State.modSession_tick, counted]
      · rw [tick_leave, counted]

theorem tick_endAll : s.endAll.tick = s.tick := by
  unfold State.endAll; extract_lets l service u v w
  have due : v.tick = s.tick := (forEach_keeps State.tick fun e _ _ => tick_endSession _ _ _ _).trans rfl
  have closed : w.tick = v.tick := forEach_keeps State.tick fun e _ x => by
    split
    · split
      · exact tick_endSession _ _ _ _
      · rfl
    · rfl
  refine (forEach_keeps State.tick fun e _ x => ?_).trans (closed.trans due)
  split
  · split
    · rw [tick_leave, tick_countEnd]
    · rfl
  · rfl

theorem tick_logEnds : s.logEnds.tick = s.tick := by
  unfold State.logEnds; dsimp only; split
  · rfl
  · rfl

theorem tick_countWithheld (l : List Nat) : (s.countWithheld l).tick = s.tick := forEach_keeps State.tick fun e _ u => by
  dsimp only; split
  · rfl
  · split
    · split
      · rfl
      · rfl
    · split
      · rfl
      · rfl

/-! ### Commits that are released -/

theorem tick_releaseWrite (l : List Commit) (c : Commit) : (s.releaseWrite l c).tick = s.tick := by
  unfold State.releaseWrite; split
  · exact State.modTile_tick _ _ _
  · rfl

theorem tick_fillLaunch (l : List Emitted) : (s.fillLaunch l).tick = s.tick :=
  forEach_keeps State.tick fun k _ u => forEach_keeps State.tick fun e _ v => by
    extract_lets hoff w
    have marked : w.tick = v.tick := by
      dsimp only [w]; split
      · rw [State.log_tick, tick_notePoison]
      · rfl
    exact marked

theorem tick_tokenCommitted (i t f : Nat) : (s.tokenCommitted i t f).tick = s.tick := by
  unfold State.tokenCommitted; split
  · rfl
  · extract_lets deaf m bytes hold text pos u v reason
    have queued : v.tick = s.tick := by
      dsimp only [v]; rw [State.modSession_tick]
      exact forEach_keeps State.tick fun r _ _ => tick_queueRec _ _
    split
    · rfl
    · split
      · exact tick_endSession _ _ _ _
      · split
        · exact queued
        · rw [tick_endSession, queued]

theorem tick_releaseCommits (l : List Nat) : (s.releaseCommits l).tick = s.tick := by
  unfold State.releaseCommits; extract_lets all keeps go bales u v w
  have released : u.tick = s.tick := forEach_keeps State.tick fun c _ _ => tick_releaseWrite bales c
  have filled : v.tick = u.tick := tick_fillLaunch _
  have committed : w.tick = v.tick := forEach_keeps State.tick fun c _ x => by
    split
    · exact tick_tokenCommitted _ _ _
    · rfl
  refine (upTo_keeps State.tick fun t _ x => ?_).trans (committed.trans (filled.trans released))
  split
  · rfl
  · exact State.modTile_tick _ _ _

theorem tick_placeNext (t : Nat) (l : List Nat) : (s.placeNext t l).tick = s.tick := State.modTile_tick _ _ _

theorem tick_sealTread : s.sealTread.tick = s.tick := by
  unfold State.sealTread; extract_lets u withheld v w
  have sealed : u.tick = s.tick := tick_sealStreams.trans tick_applyTaints
  have cleaned : v.tick = u.tick := upTo_keeps State.tick fun t _ x => by
    split
    · exact tick_noteClean t withheld
    · rfl
  have released : w.tick = v.tick := by
    dsimp only [w]; rw [tick_logEnds, tick_endAll, tick_countWithheld, tick_releaseCommits]
  refine (upTo_keeps State.tick fun t _ x => ?_).trans (released.trans (cleaned.trans sealed))
  split
  · exact tick_placeNext t withheld
  · rfl

/-! ### Re-homing, loads and links -/

theorem tick_reportDiscards : s.reportDiscards.tick = s.tick := upTo_keeps State.tick fun t _ u => by
  dsimp only; split
  · rfl
  · rw [State.modTile_tick]; exact forEach_keeps State.tick fun _ _ _ => rfl

theorem tick_clearFill (g : Nat) : (s.clearFill g).tick = s.tick := by
  unfold State.clearFill; dsimp only; split
  · rfl
  · rfl

theorem tick_setRedirect (g v : Nat) : (s.setRedirect g v).tick = s.tick := State.setBlob_tick _ _ _ _

theorem tick_rehome (t g : Nat) : (s.rehome t g).tick = s.tick := by
  unfold State.rehome; split
  · rfl
  · rfl

theorem tick_reportModel (i : Nat) : (s.reportModel i).tick = s.tick := unsent_tick.reportModel i

theorem tick_loseRange (l : List Nat) : (s.loseRange l).tick = s.tick := upTo_keeps State.tick fun i _ u => by
  extract_lets m hit v
  have lost : v.tick = u.tick := by
    dsimp only [v]; split
    · rw [tick_of_beat (beat_endModelSessions i), tick_reportModel, State.modModel_tick, State.log_tick]
    · rfl
  split
  · refine (forEach_keeps State.tick fun e _ w => ?_).trans lost
    split
    · dsimp only; split
      · rfl
      · rfl
    · rfl
  · exact lost

theorem tick_rehomeTile (t : Nat) : (s.rehomeTile t).tick = s.tick := by
  unfold State.rehomeTile; extract_lets failed gibs u v used w x
  have turned : u.tick = s.tick := State.modTile_tick _ _ _
  have marked : v.tick = u.tick := forEach_keeps State.tick fun g _ _ => tick_setRedirect _ _
  have moved : w.tick = v.tick := forEach_keeps State.tick fun g _ _ => tick_rehome t g
  split
  · rfl
  · rw [tick_loseRange]; dsimp only [x]; rw [tick_logIf, moved, marked, turned]

theorem tick_noteRehoming : s.noteRehoming.tick = s.tick := State.setNum_tick _ _ _ _

theorem tick_rehomeAtLanding : s.rehomeAtLanding.tick = s.tick := by
  unfold State.rehomeAtLanding; extract_lets ended copied u v before w
  have cleared : u.tick = s.tick := forEach_keeps State.tick fun r _ _ => tick_clearFill r.src
  have logged : v.tick = u.tick := tick_logIf _ _ _ _
  have moved : w.tick = v.tick := upTo_keeps State.tick fun t _ _ => tick_rehomeTile t
  split
  · rw [tick_noteRehoming, moved, logged, cleared]
  · rw [moved, logged, cleared]

theorem tick_respill : s.respill.tick = s.tick := upTo_keeps State.tick fun f _ u => by
  dsimp only; split
  · rfl
  · split
    · exact State.setNum_tick _ _ _ _
    · rfl

theorem tick_commitLoad (i : Nat) : (s.commitLoad i).tick = s.tick := by
  unfold State.commitLoad; extract_lets m u gibs n v w
  have put : u.tick = s.tick := State.setBlob_tick _ _ _ _
  have cleared : v.tick = u.tick := forEach_keeps State.tick fun g _ _ => tick_clearFill g
  rw [tick_reportModel, State.modModel_tick, State.log_tick]; dsimp only [w]
  split
  · rw [cleared, put]
  · rw [tick_noteRehoming, cleared, put]

theorem tick_commitLoads : s.commitLoads.tick = s.tick :=
  (forEach_keeps State.tick fun i _ _ => tick_commitLoad i).trans rfl

theorem tick_computeGrants (late : BitVec 64) : (s.computeGrants late).tick = s.tick := by
  unfold State.computeGrants; extract_lets d nonTile u ns tiles v
  have logged : v.tick = u.tick := forEach_keeps State.tick fun _ _ _ => rfl
  refine (upTo_keeps State.tick fun m _ w => ?_).trans (logged.trans (rfl : u.tick = s.tick))
  dsimp only; split
  · rfl
  · rfl

theorem tick_raiseVoltage : s.raiseVoltage.tick = s.tick := rfl

theorem tick_emptyQueues (f : Nat) : (s.emptyQueues f).tick = s.tick := by
  unfold State.emptyQueues; extract_lets l held u
  rw [State.modLink_tick, unsent_tick.lose]
  exact forEach_keeps State.tick fun q _ _ => unsent_tick.freePool _ _

theorem tick_noteLock (f : Nat) : (s.noteLock f).tick = s.tick := by
  unfold State.noteLock; extract_lets x bad u
  rw [State.modFiber_tick]; dsimp only [u]; split
  · exact State.count_tick _ _ _ _
  · rfl

theorem tick_txRest (f line : Nat) : (s.txRest f line).tick = s.tick := State.modTxLane_tick _ _ _ _

theorem tick_rxRest (f line : Nat) : (s.rxRest f line).tick = s.tick := State.modRxLane_tick _ _ _ _

theorem tick_restLanes (f : Nat) : (s.restLanes f).tick = s.tick := by
  unfold State.restLanes; rw [tick_noteLock]
  refine upTo_keeps State.tick fun line _ u => ?_
  extract_lets v
  have dark : v.tick = u.tick := by
    dsimp only [v]; split
    · rfl
    · exact tick_txRest f line
  split
  · exact dark
  · rw [tick_rxRest, dark]

theorem tick_linkDown (f : Nat) : (s.linkDown f).tick = s.tick := by
  unfold State.linkDown; extract_lets st u v
  split
  · rfl
  · rw [tick_restLanes, State.modLink_tick]; dsimp only [v]
    rw [State.modFiber_tick]; exact tick_emptyQueues f

theorem tick_requalAtLanding : s.requalAtLanding.tick = s.tick := upTo_keeps State.tick fun n _ u => by
  split
  · unfold State.startRequal; rw [State.modOe_tick]; exact forEach_keeps State.tick fun f _ _ => tick_linkDown f
  · rfl

/-! ### What waited for the landing -/

/-- The marks of the tick generator that the rest of a landing keeps. -/
def State.phase (s : State) : Bool × Bool × Bool × Bool × Bool :=
  (s.tick.running, s.tick.inLanding, s.tick.begun, s.tick.claimOut, s.tick.active)

theorem phase_of_tick {u v : State} (h : u.tick = v.tick) : u.phase = v.phase := by rw [State.phase, h]; rfl

theorem phase_of_beat {u v : State} (h : u.beat = v.beat) : u.phase = v.phase := phase_of_tick (tick_of_beat h)

theorem tick_putInForce (i j : Nat) (v : Value) : (s.putInForce i j v).tick = s.tick := by
  unfold State.putInForce; extract_lets n b sec u x test nv
  split
  · rfl
  · split
    · rfl
    · split
      · rfl
      · have put : u.tick = s.tick := State.setObj_tick _ _ _ _
        split
        · exact put
        · split
          · exact put
          · split
            · exact put
            · split
              · exact put
              · split
                · exact put
                · exact put

theorem tick_recap : s.recap.tick = s.tick := by
  unfold State.recap; extract_lets v u
  have logged : u.tick = s.tick := tick_logIf _ _ _ _
  exact logged

theorem tick_putWindow (i : Nat) (v : BitVec 256) : (s.putWindow i v).tick = s.tick := State.setNum_tick _ _ _ _

theorem tick_answerFrame (n : Nat) (f : Option (Nat × Nat)) : (s.answerFrame n f).tick = s.tick := by
  have sent (u : State) (i : Option Nat) (p : Nat × Nat) (b : List Byte) : (u.sendDatagram i p b).tick = u.tick := by
    unfold State.sendDatagram; split
    · rfl
    · split
      · rfl
      · rfl
  have finished (u : State) (f : Frame) : (u.finishFrame f).tick = u.tick := sent u f.inband f.peer _
  unfold State.answerFrame; split
  · rfl
  · split
    · rfl
    · dsimp only; split
      · rw [finished]; rfl
      · rfl

/-- A commit of a group keeps the phase where the values applied keep it. -/
theorem phase_applyCommit {slot c : Nat} {l : Bool} {check : State → Nat} {apply : State → State}
    (h : (apply s).phase = s.phase) : (s.applyCommit slot c l check apply).phase = s.phase := by
  have grouped (u : State) (g : Group) : (u.setGroup c g).phase = u.phase := by
    unfold State.setGroup; split
    · rfl
    · rfl
  have answered (u : State) (a b c d e : Nat) : (u.answer a b c d e).phase = u.phase := rfl
  unfold State.applyCommit; dsimp only; split
  · rw [answered, grouped, h]
  · rw [answered]; split
    · rfl
    · rfl

theorem phase_tickApply : (tickApply s).phase = s.phase := by
  unfold tickApply; extract_lets p l
  split
  · obtain ⟨-, -, -, tick⟩ := putTread_spec (s := s) p l
    rw [State.phase, tick]; rfl
  · rfl

theorem phase_redirectApply : (redirectApply s).phase = s.phase := forEach_keeps State.phase fun _ _ _ => rfl

/-- A value that waited is still right. -/
def State.stillRight (s : State) (index : Nat) (v : Value) : Bool :=
  match v with
  | .num n => index != 0x3001 || capRule s n == 0
  | .bytes b => (index != 0x2030 || s.scheduleRule b == 0)
    && !(decide (0x8100 ≤ index) && decide (index ≤ 0x821F) && !s.tallyPlace (index - 0x8100))

/-- A value that waited is in force, on record among the governing ones. -/
def State.putWaiting (s : State) (index sub : Nat) (v : Value) : State :=
  { s.putInForce index sub v with
    dict := { s.dict with governing := s.dict.governing ++ [(objKey index sub, s.num index sub)] } }

/-- One value that waited comes into force. -/
def State.applyOne (s : State) (d : Deferred) : State :=
  match d with
  | .write index sub v =>
    if !s.stillRight index v then s
    else if index = 0x3001 then (s.putWaiting index sub v).recap else s.putWaiting index sub v
  | .window i b => if s.windowRule i b = 0 then s.putWindow i (windowValue b) else s
  | .tickCommit slot frame => (s.applyCommit slot 0x2003 true tickRule tickApply).answerFrame s.sent.length frame
  | .redirectCommit slot frame => (s.applyCommit slot 0xA032 true redirectRule redirectApply).answerFrame s.sent.length frame

/-- Nothing waits any more. -/
def State.clearDeferred (s : State) : State := { s with dict := { s.dict with deferred := [], governing := [] } }

theorem applyDeferred_eq : s.applyDeferred = forEach s.dict.deferred s.clearDeferred fun d u => u.applyOne d := rfl

theorem phase_applyOne (d : Deferred) : (s.applyOne d).phase = s.phase := by
  cases d with
  | write i j v =>
    have put : (s.putWaiting i j v).tick = s.tick := tick_putInForce i j v
    unfold State.applyOne; dsimp only; split
    · rfl
    · apply phase_of_tick
      split
      · rw [tick_recap, put]
      · exact put
  | window i b =>
    unfold State.applyOne; dsimp only; split
    · exact phase_of_tick (tick_putWindow _ _)
    · rfl
  | tickCommit slot frame =>
    unfold State.applyOne; dsimp only
    rw [phase_of_tick (tick_answerFrame _ _), phase_applyCommit phase_tickApply]
  | redirectCommit slot frame =>
    unfold State.applyOne; dsimp only
    rw [phase_of_tick (tick_answerFrame _ _), phase_applyCommit phase_redirectApply]

theorem phase_applyDeferred : s.applyDeferred.phase = s.phase := by
  rw [applyDeferred_eq, forEach_keeps State.phase fun d _ _ => phase_applyOne d]; rfl

/-! ## LANDING_OPEN (R21) -/

theorem phase_foresee : s.foresee.phase = s.phase := by
  unfold State.foresee; split
  · split
    · rfl
    · rfl
  · rfl

theorem phase_applyDelays : s.applyDelays.phase = s.phase := by
  unfold State.applyDelays; extract_lets u
  have put : u.phase = s.phase := forEach_keeps State.phase fun _ _ _ => rfl
  exact put

/-- Claims leave alone whether treads run, and whether their landing is open. -/
def State.landing (s : State) : Bool × Bool := (s.tick.running, s.tick.inLanding)

theorem landing_of_phase {u v : State} (h : u.phase = v.phase) : u.landing = v.landing := by
  simp only [State.phase, Prod.mk.injEq] at h
  obtain ⟨running, landing, -⟩ := h
  rw [State.landing, running, landing]; rfl

theorem landing_releaseClaim : s.releaseClaim.landing = s.landing := by rw [State.landing, tick_releaseClaim]; rfl

theorem landing_takeClaim : s.takeClaim.landing = s.landing := by
  have active (u : State) : u.noteActive.landing = u.landing := by
    unfold State.noteActive; dsimp only; split
    · rfl
    · rfl
  unfold State.takeClaim; extract_lets t u
  have logged : u.landing = s.landing := by
    dsimp only [u]; split
    · rfl
    · split
      · rfl
      · rfl
  split
  · rfl
  · rw [active]; exact logged

theorem landing_landingClaims : s.landingClaims.landing = s.landing := by
  unfold State.landingClaims; extract_lets u t
  have judged : u.landing = s.landing := by
    dsimp only [u]; split
    · rw [landing_releaseClaim]; rfl
    · rfl
  split
  · rw [landing_takeClaim]; exact judged
  · exact judged

theorem landing_openLanding (late : BitVec 64) : (s.openLanding late).landing = (s.tick.running, true) := by
  unfold State.openLanding; extract_lets begun closed withheld applied listed moved granted
  have flocks : closed.landing = (s.tick.running, true) := by
    have tick : closed.tick = { s.tick with inLanding := true } := tick_closeFlocks
    rw [State.landing, tick]
  have cut : withheld.landing = closed.landing := by
    dsimp only [withheld]; split
    · rw [State.landing, tick_withholdAll]; rfl
    · rfl
  have values : applied.phase = withheld.phase := by
    dsimp only [applied]; rw [phase_of_beat beat_loadSchedule, phase_foresee, phase_applyDeferred]
  have members : listed.phase = applied.phase := by
    dsimp only [listed]; split
    · rfl
    · exact phase_of_beat beat_takeNewList
  have homes : moved.tick = listed.tick := by
    dsimp only [moved]; rw [tick_respill, tick_rehomeAtLanding, tick_reportDiscards]
  have grants : granted.tick = moved.tick := by
    dsimp only [granted]; rw [tick_raiseVoltage, tick_computeGrants, tick_commitLoads, tick_sealTread]
  have ended : granted.requalAtLanding.applyDelays.phase = withheld.phase := by
    rw [phase_applyDelays, phase_of_tick tick_requalAtLanding, phase_of_tick grants, phase_of_tick homes, members, values]
  rw [landing_landingClaims, landing_of_phase ended, cut, flocks]

/-- LANDING_OPEN in its place opens the landing; the treads run on. -/
theorem landingOpen_opens (late : BitVec 64) (running : s.tick.running = true) (begun : s.tick.begun = true)
    (work : s.tick.inLanding = false) :
    Done (.landingOpen late) s fun t => t.tick.inLanding = true ∧ t.tick.running = true := by
  have due : ¬ (!s.tick.running || !s.tick.begun || s.tick.inLanding) = true := by simp [running, begun, work]
  have opened := landing_openLanding (s := s) late
  refine ⟨s.openLanding late, ?_, ?_⟩
  · rw [exec_landingOpen, execLandingOpen, if_neg due]
  · generalize s.openLanding late = u at opened
    simp only [State.landing, Prod.mk.injEq] at opened
    exact ⟨opened.2, opened.1.trans running⟩

/-- Out of its place LANDING_OPEN changes nothing. -/
theorem landingOpen_idle (late : BitVec 64) (place : s.tick.begun = false ∨ s.tick.inLanding = true) :
    exec (.landingOpen late) s = .next s := by
  have out : (!s.tick.running || !s.tick.begun || s.tick.inLanding) = true := by
    rcases place with h | h <;> simp [h]
  rw [exec_landingOpen, execLandingOpen, if_pos out]

/-- In the work phase TICK changes nothing. -/
theorem tick_idle (f : BitVec 64) (begun : s.tick.begun = true) (work : s.tick.inLanding = false) :
    exec (.tick f) s = .next s := by
  have out : (!s.tick.running || (s.tick.begun && !s.tick.inLanding)) = true := by simp [begun, work]
  rw [exec_tick, execTick, if_pos out]

/-! ## The end of the treads (R22) -/

theorem tick_dismiss : s.dismiss.tick = s.tick := by
  unfold State.dismiss
  rw [tick_of_beat beat_finishUnloads]
  refine forEach_keeps State.tick fun e _ u => ?_
  split
  · split
    · exact tick_leave e.1
    · rfl
  · rfl

/-- The last tread's windows and records close. -/
def State.closeLast (s : State) : State := if s.tick.begun then s.talliesAtStop.closeTread else s

/-- A schedule loaded for a tick that does not come is staged still. -/
def State.unload (s : State) : State := { s with gallery := { s.gallery with loaded := none } }

theorem endTreads_eq : s.endTreads = ((s.closeLast.stopTicks.turnGallery.unload).applyDeferred.takeNewList.commitLoads
    ).endAll.logEnds.postRecords.dismiss := rfl

theorem phase_stopTicks : s.stopTicks.phase = (false, false, false, false, false) := by
  rw [State.phase, State.stopTicks, State.modTick, tick_releaseClaim]

theorem phase_endTreads : s.endTreads.phase = (false, false, false, false, false) := by
  have unloaded (u : State) : u.unload.phase = u.phase := rfl
  rw [endTreads_eq, phase_of_tick tick_dismiss, phase_of_beat beat_postRecords, phase_of_tick tick_logEnds,
    phase_of_tick tick_endAll, phase_of_tick tick_commitLoads, phase_of_beat beat_takeNewList, phase_applyDeferred, unloaded,
    phase_of_beat beat_turnGallery, phase_stopTicks]

/-- The tick that would begin the next tread begins none where the stop was asked for. -/
theorem tick_ends (f : BitVec 64) (running : s.tick.running = true) (place : s.tick.begun = false ∨ s.tick.inLanding = true)
    (stop : s.tick.stopReq = true) : Done (.tick f) s fun t => t.tick.running = false ∧ t.tick.inLanding = false
      ∧ t.tick.begun = false ∧ t.tick.claimOut = false ∧ t.tick.active = false := by
  have due : ¬ (!s.tick.running || (s.tick.begun && !s.tick.inLanding)) = true := by
    rcases place with h | h <;> simp [running, h]
  refine ⟨s.endTreads, ?_, ?_⟩
  · rw [exec_tick, execTick, if_neg due, if_pos stop]
  · have ended := phase_endTreads (s := s)
    simpa only [State.phase, Prod.mk.injEq] using ended

/-! ## STOP_TREADS and TICK_LOST (R22, R41) -/

theorem stopTreads_asks {slot : Nat} (h : Accepts s slot opCommand 0x2021 0) (running : s.tick.running = true) :
    Answers (.stopTreads slot) s slot opCommand 0x2021 0 0 fun u =>
      u = { s with tick := { s.tick with stopReq := true } } := by
  refine ⟨_, ?_, rfl⟩
  rw [exec_stopTreads, execStopTreads, h.command]
  dsimp only
  rw [if_pos running]
  rfl

theorem tickLost_logs (running : s.tick.running = true) (held : s.tick.lost = false) (role : s.tick.role ≠ 0) :
    exec .tickLost s = .next { s.log 0x2004 srcHub s.epoch with
      tick := { s.tick with lost := true, stopReq := true } } := by
  have lost : s.loseTick = (s.log 0x2004 srcHub s.epoch).modTick fun t => { t with lost := true, stopReq := true } := by
    simp [State.loseTick, running, held, role]
  rw [exec_tickLost, execTickLost, lost]
  rfl

/-- Settles O20: the tick of a tread, its landing and its end, and the commands that start and stop treads. -/
theorem treadsBeginAndEnd : Obligations.TreadsBeginAndEnd := by
  unfold Obligations.TreadsBeginAndEnd
  refine ⟨fun f late s running => ⟨fun place on => ?_, fun begun work => ?_, fun place => ?_⟩,
    fun f s running place stop => ?_, fun slot s => ⟨fun h stopped on => ?_, fun h running => ?_, fun running held role => ?_⟩⟩
  · exact tick_begins f running place on
  · exact ⟨tick_idle f begun work, landingOpen_opens late running begun work⟩
  · exact landingOpen_idle late place
  · exact tick_ends f running place stop
  · exact startTreads_starts h stopped on
  · exact stopTreads_asks h running
  · exact tickLost_logs running held role

end Sys2Proof.Machine
end

section
/-! SUPPORT. When a pen instruction does not reach its body: an idle or held pen, an illegal word (R44, R65, R66, R69,
R71); and from that statement O8. -/

namespace Sys2Proof.Machine

/-! ## Issue without a body -/

/-- Pen p has no run, or something holds it (R44, R69, R71). -/
def State.idles (s : State) (p : Nat) : Prop := (s.pen p).run = none ∨ s.penHeld p = true

theorem State.idles.issue_eq {s : State} {p : Nat} (h : s.idles p) (f : Form) (w : PenWord) (x : Bool)
    (body : State → Try State) : issue p f w x body s = s := by
  unfold issue
  dsimp only
  split
  · rfl
  · next r run =>
    have held : s.penHeld p = true := h.resolve_left (by simp [run])
    rw [if_pos (.inr held)]

/-- A word that R65 or R66 refuses ends the run before its body, whatever the body is. -/
theorem Runs.issue_refused {s : State} {p : Nat} {r : Run} (h : Runs s p r) {f : Form} {w : PenWord} {code : Nat}
    (refused : checkWord f w = raise code) (x : Bool) (body : State → Try State) :
    issue p f w x body s = s.except p r.issued (s.pen p).pc code 0 := by
  rw [h.issue_eq, refused, ← h.order_eq]; rfl

theorem checkWord_illegal {f : Form} {w : PenWord} (h : wordEncoded f w = false) : checkWord f w = raise 0x01 := by
  simp [checkWord, h]

theorem checkWord_kinds {f : Form} {w : PenWord} (h : wordEncoded f w = true) (k : wordKinds f w = false) :
    checkWord f w = raise 0x02 := by
  simp [checkWord, h, k]

/-! ## An exception of a run that has not ended, of any code -/

/-- The pen after it. -/
theorem Runs.pen_except {s : State} {p : Nat} {r : Run} (h : Runs s p r) (order index code detail : Nat) :
    (s.except p order index code detail).pen p = { s.pen p with
      run := some { r with
        ended := some (.exc code index (BitVec.ofNat 64 detail)), endedAt := order
        acc := if code = 0x10 then some (detail / 2 ^ 64) else none
        record := r.record ++ [.exc code index] } } := by
  obtain ⟨run, live, -, -⟩ := h
  simp [State.except, run, live, Run.keepsEnd]

/-! ## What MMA does beside issuing (Table 03.5) -/

/-- Table 04.7's form of MMA. -/
abbrev mmaForm : Form := { d := 2, a := 1, b := 1, modOk := fun m => m ≤ 1 }

/-- MMA's body, as it computes on its own pen. -/
abbrev mmaBody (p : Nat) (inj : Option (BitVec 32)) (w : PenWord) : State → Try State :=
  onPen p fun s q => mmaOp s.mem (tileOf p) inj w q

/-- The injection armed for pen p (Table 03.5). -/
abbrev State.armed (s : State) (p : Nat) : Option (BitVec 32) := s.macFault.filter fun x => field x.toNat 18 10 = p

/-- MMA issues as the others do, and uses up the armed injection where it reaches its array. -/
theorem execMma_eq (p : Fin 1024) (w : PenWord) (s : State) :
    let s' := issue p mmaForm w false (mmaBody p (s.armed p) w) s
    execMma p w s =
      .next (if (execMma.mmaRan s p w && (s.armed p).isSome) = true then { s' with macFault := none } else s') := by
  unfold execMma State.armed
  cases s.macFault with
  | none => cases execMma.mmaRan s p w <;> rfl
  | some x =>
    by_cases e : field x.toNat 18 10 = p.val <;> cases execMma.mmaRan s p w <;> simp [Option.filter, e]

/-- An MMA that does not reach its array only issues. -/
theorem exec_mma_of_not_ran {p : Fin 1024} {w : PenWord} {s : State} (h : execMma.mmaRan s p w = false) :
    exec (.mma p w) s = .next (issue p mmaForm w false (mmaBody p (s.armed p) w) s) := by
  rw [exec_mma, execMma_eq, h]; rfl

/-- A pen that issues nothing does not reach its array. -/
theorem State.idles.mmaRan_eq {s : State} {p : Nat} (h : s.idles p) (w : PenWord) :
    execMma.mmaRan s p w = false := by
  unfold execMma.mmaRan
  rw [h.issue_eq]
  dsimp only
  split
  · next r r' run run' =>
    obtain rfl : r = r' := Option.some.inj (run.symm.trans run')
    cases r.ended <;> simp
  · rfl

/-- Of the exceptions, 0x10 alone is raised behind the array. -/
theorem Runs.mmaRan_except {s : State} {p : Nat} {r : Run} (h : Runs s p r) {w : PenWord} {code detail : Nat}
    (ends : issue p mmaForm w false (mmaBody p none w) s = s.except p r.issued (s.pen p).pc code detail) :
    execMma.mmaRan s p w = (code == 0x10) := by
  unfold execMma.mmaRan
  have ⟨run, live, _⟩ := h
  rw [ends]
  dsimp only
  rw [h.pen_except, run]
  simp [live]

/-! ## The pen instructions all issue by their form -/

/-- Each pen instruction issues under the form that Table 04.7 gives it, and only MMA does more. -/
theorem penCommands_issue (p : Fin 1024) (w : PenWord) (s : State) : ∀ c ∈ penCommands p w,
    c = (.mma p w, mmaForm) ∨ ∃ x body, exec c.1 s = .next (issue p c.2 w x body s) := by
  unfold penCommands
  iterate 22 refine List.forall_mem_cons.mpr ⟨.inr ⟨_, _, rfl⟩, ?_⟩
  refine List.forall_mem_cons.mpr ⟨.inl rfl, ?_⟩
  iterate 15 refine List.forall_mem_cons.mpr ⟨.inr ⟨_, _, rfl⟩, ?_⟩
  exact List.forall_mem_nil _

/-- A pen that issues nothing stays as it is. -/
theorem State.idles.exec_eq {s : State} {p : Fin 1024} (h : s.idles p) {w : PenWord} {c : Instr × Form}
    (hc : c ∈ penCommands p w) : exec c.1 s = .next s := by
  obtain rfl | ⟨x, body, issues⟩ := penCommands_issue p w s c hc
  · rw [exec_mma_of_not_ran (h.mmaRan_eq w), h.issue_eq]
  · rw [issues, h.issue_eq]

/-- A refused word raises its code and changes nothing else. -/
theorem Runs.exec_refused {s : State} {p : Fin 1024} {r : Run} (h : Runs s p r) {w : PenWord} {c : Instr × Form}
    (hc : c ∈ penCommands p w) {code : Nat} (uncounted : code ≠ 0x10 ∧ code ≠ 0x11)
    (refused : checkWord c.2 w = raise code) :
    ∃ t, exec c.1 s = .next t ∧ Raised s t p r code 0 ∧ OnlyPen p s t := by
  refine ⟨s.except p r.issued (s.pen p).pc code 0, ?_, h.raised uncounted 0, h.onlyPen_except uncounted _ _ 0⟩
  obtain rfl | ⟨x, body, issues⟩ := penCommands_issue p w s c hc
  · have early : execMma.mmaRan s p w = false :=
      (h.mmaRan_except (h.issue_refused refused false _)).trans (by simp [uncounted.1])
    rw [exec_mma_of_not_ran early, h.issue_refused refused]
  · rw [issues, h.issue_refused refused]

/-- Settles O8: a pen that issues nothing, and words that R65 and R66 refuse. -/
theorem idleAndIllegalInstructions : Obligations.IdleAndIllegalInstructions := by
  unfold Obligations.IdleAndIllegalInstructions
  refine ⟨fun p w s idle c hc => ?_, fun p w s r h c hc => ⟨fun illegal => ?_, fun legal kinds => ?_⟩⟩
  · exact State.idles.exec_eq idle hc
  · exact h.exec_refused hc (by decide) (checkWord_illegal illegal)
  · exact h.exec_refused hc (by decide) (checkWord_kinds legal kinds)

end Sys2Proof.Machine
end

section
/-! SUPPORT. ACLR and MMA (R50, R51, R58, R59, R63, R76): what the array leaves alone, what each element becomes, when an
MMA reaches its array; and from that statement O14. -/

namespace Sys2Proof.Machine

/-! ## Folds -/

/-- What every step of a fold leaves as it was. -/
theorem foldl_keeps {σ α β : Type} (g : σ → β) {l : List α} {s : σ} {f : σ → α → σ}
    (h : ∀ u, ∀ a ∈ l, g (f u a) = g u) : g (l.foldl f s) = g s :=
  List.foldlRecOn l f (motive := fun u => g u = g s) rfl fun u hu a ha => (h u a ha).trans hu

/-- Where each step of an indexed fold changes the part of its own index alone, the part at an index is changed by that
index's step, once. -/
theorem foldl_zipIdx_part {σ α γ : Type} {part : σ → Nat → γ} {put : α → γ → γ} {f : σ → α × Nat → σ}
    (own : ∀ u a i, part (f u (a, i)) i = put a (part u i))
    (others : ∀ u a i j, j ≠ i → part (f u (a, i)) j = part u j) (l : List α) (s : σ) (n : Nat) {k : Nat}
    (hk : k < l.length) : part ((l.zipIdx n).foldl f s) (n + k) = put l[k] (part s (n + k)) := by
  induction l generalizing s n k with
  | nil => simp at hk
  | cons a l ih =>
    rw [List.zipIdx_cons, List.foldl_cons]
    cases k with
    | zero =>
      have later : part ((l.zipIdx (n + 1)).foldl f (f s (a, n))) n = part (f s (a, n)) n :=
        foldl_keeps (part · n) fun u b hb => others u b.1 b.2 n (Nat.ne_of_lt (List.le_snd_of_mem_zipIdx hb))
      exact later.trans (own s a n)
    | succ k =>
      have there := ih (f s (a, n)) (n + 1) (k := k) (by simpa using hk)
      rw [Nat.add_right_comm, Nat.add_assoc] at there
      rw [there, others s a n _ (by omega)]
      rfl

/-! ## The pen's stores (R68) -/

theorem Pen.accAt_setAcc (q : Pen) (n i m e : Nat) (v : F32) :
    (q.setAcc n i v).accAt m e = if 1024 * m + e = 1024 * n + i then v else q.accAt m e :=
  tabGet_tabSet _ _ _ _ _

/-- A write of an element changes no element of another accumulator. -/
theorem Pen.accAt_setAcc_other {m n e i : Nat} (hm : m ≠ n) (he : e < 1024) (hi : i < 1024) (q : Pen) (v : F32) :
    (q.setAcc n i v).accAt m e = q.accAt m e := by
  rw [Pen.accAt_setAcc, if_neg (by omega)]

@[simp] theorem Pen.accAt_setSide (q : Pen) (n m e : Nat) (x : AccSide) : (q.setSide n x).accAt m e = q.accAt m e := rfl
@[simp] theorem Pen.accAt_setCnt (q : Pen) (c : Cnt) (m e : Nat) : (q.setCnt c).accAt m e = q.accAt m e := rfl

theorem Pen.sideOf_setSide (q : Pen) (n m : Nat) (x : AccSide) :
    (q.setSide n x).sideOf m = if m = n then x else q.sideOf m := tabGet_tabSet _ _ _ _ _

/-- What the array works beside: the PC, the run and the scratch. -/
def Pen.seat (q : Pen) : Nat × Option Run × Tab Byte := (q.pc, q.run, q.scratch)

@[simp] theorem Pen.seat_setAcc (q : Pen) (n i : Nat) (v : F32) : (q.setAcc n i v).seat = q.seat := rfl
@[simp] theorem Pen.seat_setSide (q : Pen) (n : Nat) (x : AccSide) : (q.setSide n x).seat = q.seat := rfl
@[simp] theorem Pen.seat_setCnt (q : Pen) (c : Cnt) : (q.setCnt c).seat = q.seat := rfl

theorem Pen.run_of_seat {q q' : Pen} (h : q'.seat = q.seat) : q'.run = q.run := congrArg (·.2.1) h
theorem Pen.pc_of_seat {q q' : Pen} (h : q'.seat = q.seat) : q'.pc = q.pc := congrArg Prod.fst h
theorem Pen.scratch_of_seat {q q' : Pen} (h : q'.seat = q.seat) : q'.scratch = q.scratch := congrArg (·.2.2) h

/-! ## ACLR's effect (R76) -/

/-- What a write of an accumulator's element leaves alone, clearing it changes by the side alone. -/
theorem clearAcc_keeps {β : Type} (g : Pen → β) {n : Nat} (h : ∀ u, ∀ e < 1024, g (u.setAcc n e 0) = g u) (q : Pen) :
    g (clearAcc q n) = g (q.setSide n {}) :=
  foldl_keeps g fun u e he => h u e (List.mem_range.mp he)

theorem foldl_setAcc_zero (n e : Nat) (l : List Nat) (q : Pen) :
    (l.foldl (fun p i => p.setAcc n i 0) q).accAt n e = if e ∈ l then 0 else q.accAt n e := by
  induction l generalizing q with
  | nil => simp
  | cons i l ih =>
    rw [List.foldl_cons, ih, Pen.accAt_setAcc]
    by_cases own : e = i <;> simp [own]

theorem accAt_clearAcc (q : Pen) (n : Nat) {e : Nat} (he : e < 1024) : (clearAcc q n).accAt n e = 0 :=
  (foldl_setAcc_zero n e _ _).trans (if_pos (List.mem_range.mpr he))

theorem accAt_clearAcc_other (q : Pen) {n m e : Nat} (hm : m ≠ n) (he : e < 1024) :
    (clearAcc q n).accAt m e = q.accAt m e :=
  clearAcc_keeps (·.accAt m e) (fun u _ hi => Pen.accAt_setAcc_other hm he hi u 0) q

theorem sideOf_clearAcc (q : Pen) (n m : Nat) : (clearAcc q n).sideOf m = if m = n then {} else q.sideOf m :=
  (clearAcc_keeps (·.sideOf m) (fun _ _ _ => rfl) q).trans (Pen.sideOf_setSide q n m {})

theorem clearAcc_rest (q : Pen) (n : Nat) : { clearAcc q n with acc := q.acc, side := q.side } = q :=
  clearAcc_keeps (fun u => { u with acc := q.acc, side := q.side }) (fun _ _ _ => rfl) q

@[simp] theorem seat_clearAcc (q : Pen) (n : Nat) : (clearAcc q n).seat = q.seat :=
  clearAcc_keeps Pen.seat (fun _ _ _ => rfl) q

/-! ## The sum lanes' check (R78) -/

/-- Checking resident bales changes their marks alone. -/
theorem checkTouched_rest {mem : Tab Byte} {ks : List Nat} {q q' : Pen} (h : checkTouched mem ks q = .ok q') :
    { q' with resident := q.resident } = q := by
  induction ks generalizing q with
  | nil => cases h; rfl
  | cons k ks ih =>
    unfold checkTouched at h
    split at h
    · exact ih h
    · split at h
      · exact congrArg (fun u : Pen => { u with resident := q.resident }) (ih h)
      · cases h

theorem touch_rest {mem : Tab Byte} {q q' : Pen} {os : List Opnd} (h : touch mem q os = .ok q') :
    { q' with resident := q.resident } = q := checkTouched_rest h

theorem touch_seat {mem : Tab Byte} {q q' : Pen} {os : List Opnd} (h : touch mem q os = .ok q') : q'.seat = q.seat :=
  (congrArg Pen.seat (touch_rest h) :)

theorem touch_accAt {mem : Tab Byte} {q q' : Pen} {os : List Opnd} (h : touch mem q os = .ok q') (m e : Nat) :
    q'.accAt m e = q.accAt m e :=
  (congrArg (Pen.accAt · m e) (touch_rest h) :)

/-! ## One element of the array (R50, R51) -/

/-- What a row's and a column's strips of a block make of an element: its new value, the counts, whether it
saturated. -/
def cellStep (ints sat : Bool) (a b : Strip) (c : F32) : F32 × Cnt × Bool :=
  mmaElem ints sat ((a.scale : Int) + b.scale - 254) (a.scale == 0xFF || b.scale == 0xFF) (blockSum a.vals b.vals {}) c

/-- The array's step at row i and column j. -/
def cellInto (n : Nat) (ints sat : Bool) (a : Strip) (i : Nat) (st : Pen × Lanes) (bj : Strip × Nat) : Pen × Lanes :=
  let r := cellStep ints sat a bj.1 (st.1.accAt n (32 * i + bj.2))
  ((st.1.setAcc n (32 * i + bj.2) r.1).setCnt
      ⟨st.1.satc + r.2.1.sat, st.1.nanc + r.2.1.nan, st.1.infc + r.2.1.inf, st.1.rng⟩,
    if r.2.2 then { st.2 with satRows := i :: st.2.satRows, satCols := bj.2 :: st.2.satCols } else st.2)

/-- The array's steps along row i. -/
def rowInto (n : Nat) (ints sat : Bool) (bs : List Strip) (st : Pen × Lanes) (ai : Strip × Nat) : Pen × Lanes :=
  bs.zipIdx.foldl (cellInto n ints sat ai.1 ai.2) st

theorem blockInto_eq (n : Nat) (ints sat : Bool) (as bs : List Strip) (st : Pen × Lanes) :
    blockInto n ints sat as bs st = as.zipIdx.foldl (rowInto n ints sat bs) st := rfl

section
variable {n : Nat} {ints sat : Bool}

theorem accAt_cellInto (a b : Strip) (i j x : Nat) (st : Pen × Lanes) :
    (cellInto n ints sat a i st (b, j)).1.accAt n x =
      if x = 32 * i + j then (cellStep ints sat a b (st.1.accAt n x)).1 else st.1.accAt n x := by
  rw [cellInto, Pen.accAt_setCnt, Pen.accAt_setAcc]
  by_cases own : x = 32 * i + j <;> simp [own]

/-- Along a row each element takes its own column's step. -/
theorem accAt_rowInto (a : Strip) (i : Nat) (bs : List Strip) (st : Pen × Lanes) {j : Nat} (hj : j < bs.length) :
    (rowInto n ints sat bs st (a, i)).1.accAt n (32 * i + j) =
      (cellStep ints sat a bs[j] (st.1.accAt n (32 * i + j))).1 := by
  have key := foldl_zipIdx_part (part := fun (u : Pen × Lanes) j => u.1.accAt n (32 * i + j))
    (put := fun b c => (cellStep ints sat a b c).1) (f := cellInto n ints sat a i)
    (fun u b j => by rw [accAt_cellInto, if_pos rfl])
    (fun u b j k hk => by rw [accAt_cellInto, if_neg (by omega)]) bs st 0 hj
  simpa only [Nat.zero_add, rowInto] using key

/-- A row's steps change no other row. -/
theorem accAt_rowInto_other (a : Strip) {i k j : Nat} {bs : List Strip} (hbs : bs.length ≤ 32) (hk : k ≠ i) (hj : j < 32)
    (st : Pen × Lanes) : (rowInto n ints sat bs st (a, i)).1.accAt n (32 * k + j) = st.1.accAt n (32 * k + j) := by
  refine foldl_keeps (fun u : Pen × Lanes => u.1.accAt n (32 * k + j)) fun u b hb => ?_
  have := List.snd_lt_of_mem_zipIdx hb
  dsimp only
  rw [accAt_cellInto, if_neg (by omega)]

/-- A block changes each element by one step, of its row's strip and its column's. -/
theorem accAt_blockInto {as bs : List Strip} (hbs : bs.length = 32) (st : Pen × Lanes) {i j : Nat} (hi : i < as.length)
    (hj : j < 32) : (blockInto n ints sat as bs st).1.accAt n (32 * i + j) =
      (cellStep ints sat as[i] (bs[j]'(by omega)) (st.1.accAt n (32 * i + j))).1 := by
  have key := foldl_zipIdx_part (part := fun (u : Pen × Lanes) i => fun j : Fin 32 => u.1.accAt n (32 * i + j))
    (put := fun a c => fun j : Fin 32 => (cellStep ints sat a (bs[j.val]'(by omega)) (c j)).1)
    (f := rowInto n ints sat bs)
    (fun u a i => funext fun j => accAt_rowInto a i bs u (by omega))
    (fun u a i k hk => funext fun j => accAt_rowInto_other a hbs.le hk j.isLt u) as st 0 hi
  rw [blockInto_eq]
  simpa only [Nat.zero_add] using congrFun key ⟨j, hj⟩

/-! ## All blocks -/

/-- What no step of the array changes, a block does not. -/
theorem blockInto_keeps {β : Type} (g : Pen → β)
    (h : ∀ (u : Pen) (x : Nat) (v : F32) (c : Cnt), x < 1024 → g ((u.setAcc n x v).setCnt c) = g u) {as bs : List Strip}
    (has : as.length = 32) (hbs : bs.length = 32) (st : Pen × Lanes) : g (blockInto n ints sat as bs st).1 = g st.1 := by
  refine foldl_keeps (fun u : Pen × Lanes => g u.1) fun u a ha => ?_
  refine foldl_keeps (fun u : Pen × Lanes => g u.1) fun v b hb => h _ _ _ _ ?_
  have := List.snd_lt_of_mem_zipIdx ha
  have := List.snd_lt_of_mem_zipIdx hb
  omega

variable {mem : Tab Byte} {q : Pen} {a b : Placed}

theorem mmaBlocks_keeps {β : Type} (g : Pen → β)
    (h : ∀ (u : Pen) (x : Nat) (v : F32) (c : Cnt), x < 1024 → g ((u.setAcc n x v).setCnt c) = g u) (k blk : Nat)
    (st : Pen × Lanes) : g (mmaBlocks mem q a b n ints sat k blk st).1 = g st.1 := by
  induction k generalizing blk st with
  | zero => rfl
  | succ k ih =>
    rw [mmaBlocks, ih]
    dsimp only
    exact blockInto_keeps g h (by simp) (by simp) st

/-- R50: an element after the blocks is the fold of its steps, in increasing k. -/
theorem accAt_mmaBlocks {i j : Nat} (hi : i < 32) (hj : j < 32) (k blk : Nat) (st : Pen × Lanes) :
    (mmaBlocks mem q a b n ints sat k blk st).1.accAt n (32 * i + j) =
      (List.range' blk k).foldl (fun c x => (cellStep ints sat (stripOf mem q a x i) (stripOf mem q b x j) c).1)
        (st.1.accAt n (32 * i + j)) := by
  induction k generalizing blk st with
  | zero => rfl
  | succ k ih =>
    rw [mmaBlocks, ih, accAt_blockInto (by simp) st (by simpa using hi) hj, List.range'_succ, List.foldl_cons]
    simp

end

/-- The strips of a view are read from the scratch and the memory. -/
theorem stripOf_congr {q q' : Pen} (h : q'.scratch = q.scratch) (mem : Tab Byte) (v : Placed) (k i : Nat) :
    stripOf mem q' v k i = stripOf mem q v k i := by
  simp only [stripOf, Placed.exact, Placed.scale, Placed.value, Placed.code, Placed.store, h]

/-! ## The parts of an MMA -/

/-- The operands of an MMA, with what R76, R49 and R78 ask of them, and the pen with their sum lanes checked. -/
def mmaOperands (mem : Tab Byte) (tile : Nat) (w : PenWord) (q : Pen) : Try (Placed × Placed × Pen) := do
  let a ← placeView tile q (q.view w.a.toNat)
  let b ← placeView tile q (q.view w.b.toNat)
  need (a.v.ext2 == 1 && b.v.ext2 == 1 && !a.v.z0 && !b.v.z0 && decide (a.v.ext1 ≤ 32) && decide (b.v.ext1 ≤ 32)
    && a.v.ext0 == b.v.ext0) 0x04
  need (mmaPair a.v.fmt b.v.fmt && a.v.ext0 % 32 == 0) 0x03
  let p ← touch mem q [.view a, .view b]
  .ok (a, b, p)

/-- The pen that the array starts from: with CLEAR its accumulator is cleared. -/
def mmaStart (w : PenWord) (q : Pen) : Pen := if w.mod.getLsbD 0 then clearAcc q w.d.toNat else q

/-- The blocks of an MMA. -/
def mmaWork (mem : Tab Byte) (w : PenWord) (a b : Placed) (q : Pen) : Pen × Lanes :=
  mmaBlocks mem q a b w.d.toNat (mmaClass a.v.fmt == 2) w.sat (a.v.ext0 / 32) 0 (q, startLanes q w.d.toNat)

/-- An injection, where one is armed. -/
def disturb (inj : Option (BitVec 32)) (n : Nat) (st : Pen × Lanes) : Pen × Lanes :=
  inj.elim st fun x => inject x n st

/-- The comparison of R59. -/
def mmaJudge (n depth : Nat) (st : Pen × Lanes) : Try Pen :=
  let rows := failMask fun i => linePasses (st.2.satRows.contains i) (accRow st.1 n i) (st.2.r.getD i 0)
    (st.2.rm.getD i 0) depth
  let cols := failMask fun j => linePasses (st.2.satCols.contains j) (accCol st.1 n j) (st.2.q.getD j 0)
    (st.2.qm.getD j 0) depth
  if rows ≠ 0 ∨ cols ≠ 0 then .error (.exc 0x10 (rows + cols * 2 ^ 32 + n * 2 ^ 64))
  else .ok (st.1.setSide n { rowLane := laneTab st.2.r, rowMag := laneTab st.2.rm, colLane := laneTab st.2.q
                             colMag := laneTab st.2.qm, depth := depth, void := false })

/-- The array's part of an MMA. -/
def mmaArray (mem : Tab Byte) (inj : Option (BitVec 32)) (w : PenWord) (x : Placed × Placed × Pen) : Try Pen :=
  mmaJudge w.d.toNat (((mmaStart w x.2.2).sideOf w.d.toNat).depth + x.1.v.ext0)
    (disturb inj w.d.toNat (mmaWork mem w x.1 x.2.1 (mmaStart w x.2.2)))

theorem mmaOp_eq (mem : Tab Byte) (tile : Nat) (inj : Option (BitVec 32)) (w : PenWord) (q : Pen) :
    mmaOp mem tile inj w q = mmaOperands mem tile w q >>= mmaArray mem inj w := by
  unfold mmaOp mmaOperands
  simp only [bind_assoc]
  cases inj <;> rfl

theorem Try.bind_eq_ok {α β : Type} {x : Try α} {f : α → Try β} {b : β} :
    x >>= f = .ok b ↔ ∃ a, x = .ok a ∧ f a = .ok b := by
  cases x <;> simp [bind, Except.bind]

/-- An MMA's operands are its two views, and the pen is as it was but for the marks of its resident bales. -/
theorem mmaOperands_ok {mem : Tab Byte} {tile : Nat} {w : PenWord} {q : Pen} {x : Placed × Placed × Pen}
    (h : mmaOperands mem tile w q = .ok x) : placeView tile q (q.view w.a.toNat) = .ok x.1
      ∧ placeView tile q (q.view w.b.toNat) = .ok x.2.1 ∧ touch mem q [.view x.1, .view x.2.1] = .ok x.2.2 := by
  simp only [mmaOperands, Try.bind_eq_ok] at h
  obtain ⟨a, ha, b, hb, -, -, -, -, p, hp, h⟩ := h
  cases h
  exact ⟨ha, hb, hp⟩

theorem mmaJudge_cases (n depth : Nat) (st : Pen × Lanes) :
    (∃ x, mmaJudge n depth st = .ok (st.1.setSide n x)) ∨ ∃ d, mmaJudge n depth st = .error (.exc 0x10 d) := by
  unfold mmaJudge
  dsimp only
  split
  · exact .inr ⟨_, rfl⟩
  · exact .inl ⟨_, rfl⟩

theorem seat_mmaStart (w : PenWord) (q : Pen) : (mmaStart w q).seat = q.seat := by
  unfold mmaStart; split
  · exact seat_clearAcc q _
  · rfl

theorem seat_mmaWork (mem : Tab Byte) (w : PenWord) (a b : Placed) (q : Pen) : (mmaWork mem w a b q).1.seat = q.seat :=
  mmaBlocks_keeps Pen.seat (fun _ _ _ _ _ => rfl) _ _ _

theorem seat_disturb (inj : Option (BitVec 32)) (n : Nat) (st : Pen × Lanes) : (disturb inj n st).1.seat = st.1.seat := by
  cases inj with
  | none => rfl
  | some x => simp only [disturb, Option.elim_some, inject]; split_ifs <;> rfl

/-- Behind the operands an MMA keeps the pen's place and raises no code but 0x10. -/
theorem mmaArray_cases (mem : Tab Byte) (inj : Option (BitVec 32)) (w : PenWord) (x : Placed × Placed × Pen) :
    (∃ q', mmaArray mem inj w x = .ok q' ∧ q'.seat = x.2.2.seat) ∨ ∃ d, mmaArray mem inj w x = .error (.exc 0x10 d) := by
  refine (mmaJudge_cases _ _ _).imp_left fun ⟨y, judged⟩ => ⟨_, judged, ?_⟩
  rw [Pen.seat_setSide, seat_disturb, seat_mmaWork, seat_mmaStart]

/-- The operands' faults come before any injection; behind them an MMA keeps the pen's place and raises 0x10 alone. -/
theorem mmaOp_cases (mem : Tab Byte) (tile : Nat) (w : PenWord) (q : Pen) :
    (∃ e, ∀ inj, mmaOp mem tile inj w q = .error e)
      ∨ ∀ inj, (∃ q', mmaOp mem tile inj w q = .ok q' ∧ q'.seat = q.seat)
        ∨ ∃ d, mmaOp mem tile inj w q = .error (.exc 0x10 d) := by
  simp only [mmaOp_eq]
  cases h : mmaOperands mem tile w q with
  | error e => exact .inl ⟨e, fun _ => rfl⟩
  | ok x =>
    refine .inr fun inj => (mmaArray_cases mem inj w x).imp_left fun ⟨q', done, seat⟩ => ⟨q', done, seat.trans ?_⟩
    exact touch_seat (mmaOperands_ok h).2.2

/-! ## When an MMA reaches its array (Table 03.5) -/

section
variable {s : State} {p : Nat} {r : Run} {w : PenWord} {inj : Option (BitVec 32)}

theorem Issues.mma_ok {q' : Pen} (h : Issues s p r mmaForm w)
    (done : mmaOp s.mem (tileOf p) inj w (s.pen p).past = .ok q') :
    issue p mmaForm w false (mmaBody p inj w) s = (s.setPen p (s.pen p).past).setPen p q' :=
  h.onPen_ok (by simp) done

theorem Issues.mma_raises {code d : Nat} (h : Issues s p r mmaForm w)
    (raised : mmaOp s.mem (tileOf p) inj w (s.pen p).past = .error (.exc code d)) :
    issue p mmaForm w false (mmaBody p inj w) s = s.except p r.issued (s.pen p).pc code d :=
  h.exc (by simp) (onPen_error raised)

theorem Issues.mmaRan_ok {q' : Pen} (h : Issues s p r mmaForm w)
    (done : mmaOp s.mem (tileOf p) none w (s.pen p).past = .ok q') (seat : q'.seat = (s.pen p).past.seat) :
    execMma.mmaRan s p w = true := by
  obtain ⟨run, live, -, -⟩ := h.1
  have past : q'.run = some { r with issued := r.issued + 1 } := (Pen.run_of_seat seat).trans (by simp [run])
  have moved : q'.pc = (s.pen p).pc + 1 := Pen.pc_of_seat seat
  unfold execMma.mmaRan
  rw [h.mma_ok done]
  dsimp only
  rw [State.pen_setPen_same, run, past]
  simp [live, moved]

/-- An MMA that completes or fails the comparison has reached its array. -/
theorem Issues.mmaRan_array (h : Issues s p r mmaForm w)
    (reached : (∃ q', mmaOp s.mem (tileOf p) inj w (s.pen p).past = .ok q')
      ∨ ∃ d, mmaOp s.mem (tileOf p) inj w (s.pen p).past = .error (.exc 0x10 d)) : execMma.mmaRan s p w = true := by
  obtain ⟨e, fault⟩ | behind := mmaOp_cases s.mem (tileOf p) w (s.pen p).past
  · rw [fault] at reached
    obtain ⟨_, ⟨⟩⟩ | ⟨d, ⟨⟩⟩ := reached
    exact h.1.mmaRan_except (h.mma_raises (fault none))
  · obtain ⟨q', done, seat⟩ | ⟨d, raised⟩ := behind none
    · exact h.mmaRan_ok done seat
    · exact h.1.mmaRan_except (h.mma_raises raised)

/-- An operand's fault comes before the array. -/
theorem Issues.mmaRan_fault {code d : Nat} (h : Issues s p r mmaForm w) (early : code ≠ 0x10)
    (raised : mmaOp s.mem (tileOf p) inj w (s.pen p).past = .error (.exc code d)) : execMma.mmaRan s p w = false := by
  obtain ⟨e, fault⟩ | behind := mmaOp_cases s.mem (tileOf p) w (s.pen p).past
  · rw [fault] at raised
    cases raised
    exact (h.1.mmaRan_except (h.mma_raises (fault none))).trans (by simp [early])
  · obtain ⟨_, done, -⟩ | ⟨_, failed⟩ := behind inj
    · rw [done] at raised; cases raised
    · rw [failed] at raised; cases raised; exact absurd rfl early

end

/-- An MMA that reaches its array uses up the injection armed for its pen. -/
theorem exec_mma_of_ran {p : Fin 1024} {w : PenWord} {s s' : State} (ran : execMma.mmaRan s p w = true)
    (issued : issue p mmaForm w false (mmaBody p (s.armed p) w) s = s') (kept : s'.macFault = s.macFault) :
    exec (.mma p w) s = .next { s' with macFault := if (s.armed p).isSome then none else s.macFault } := by
  rw [exec_mma, execMma_eq, ran, issued, ← kept]
  cases (s.armed p).isSome <;> rfl

/-! ## A checksum failure (R60, R63, R89) -/

theorem objectRow_checksumFailures {k : Nat} (hk : k < 64) :
    ∃ r, objectRow 0x7031 (k + 1) = some r ∧ r.type.size = 4 := by
  have all : ∀ k : Fin 64, ((objectRow 0x7031 (k + 1)).map fun r => r.type.size) = some 4 := by decide
  exact Option.map_eq_some_iff.mp (all ⟨k, hk⟩)

theorem count_checksumFailures (s : State) {k : Nat} (hk : k < 64) :
    s.count 0x7031 (k + 1) 1 = s.setNum 0x7031 (k + 1) ((s.num 0x7031 (k + 1) + 1) % 2 ^ 32) := by
  obtain ⟨r, row, size⟩ := objectRow_checksumFailures hk
  simp only [State.count, row, size]

/-- Exception 0x10 counts on the tile, and changes no other pen, no memory and no armed injection. -/
theorem Runs.except_checksum {s : State} {p : Nat} {r : Run} (h : Runs s p r) (hp : tileOf p < 64) (order index d : Nat) :
    let t := s.except p order index 0x10 d
    t.num 0x7031 (tileOf p + 1) = (s.num 0x7031 (tileOf p + 1) + 1) % 2 ^ 32 ∧ t.mem = s.mem
      ∧ t.macFault = s.macFault ∧ ∀ k, k ≠ p → t.pen k = s.pen k := by
  obtain ⟨q, counted⟩ : ∃ q, s.except p order index 0x10 d = (s.count 0x7031 (tileOf p + 1) 1).setPen p q := by
    obtain ⟨run, live, -, -⟩ := h
    exact ⟨_, by simp only [State.except, run, live, Run.keepsEnd]; rfl⟩
  rw [counted, count_checksumFailures s hp]
  exact ⟨State.num_setNum_same _ _ _ _, rfl, rfl, (OnlyPen.setPen _ p q).2⟩

/-! ## The statement's clauses -/

/-- R76: ACLR clears its accumulator and nothing else. -/
theorem Issues.aclr_clears {p : Fin 1024} {w : PenWord} {s : State} {r : Run} (h : Issues s p r { d := 2 } w) :
    ∃ t, exec (.aclr p w) s = .next t ∧ t.pen p = clearAcc (s.pen p).past w.d.toNat ∧ OnlyPen p s t :=
  h.completes rfl

theorem Issues.mma_completes {p : Fin 1024} {w : PenWord} {s : State} {r : Run} (h : Issues s p r mmaForm w) {q' : Pen}
    (done : mmaOp s.mem (tileOf p) (s.armed p) w (s.pen p).past = .ok q') :
    exec (.mma p w) s = .next { (s.setPen p (s.pen p).past).setPen p q' with
      macFault := if (s.armed p).isSome then none else s.macFault } :=
  exec_mma_of_ran (h.mmaRan_array (.inl ⟨q', done⟩)) (h.mma_ok done) rfl

theorem Issues.mma_fails {p : Fin 1024} {w : PenWord} {s : State} {r : Run} (h : Issues s p r mmaForm w) {d : Nat}
    (failed : mmaOp s.mem (tileOf p) (s.armed p) w (s.pen p).past = .error (.exc 0x10 d)) :
    exec (.mma p w) s = .next { s.except p r.issued (s.pen p).pc 0x10 d with
      macFault := if (s.armed p).isSome then none else s.macFault } :=
  exec_mma_of_ran (h.mmaRan_array (.inr ⟨d, failed⟩)) (h.mma_raises failed) 
    (h.1.except_checksum (Nat.div_lt_of_lt_mul p.isLt) _ _ d).2.2.1

theorem Issues.mma_faults {p : Fin 1024} {w : PenWord} {s : State} {r : Run} (h : Issues s p r mmaForm w) {code d : Nat}
    (early : code ≠ 0x10) (fault : mmaOp s.mem (tileOf p) (s.armed p) w (s.pen p).past = .error (.exc code d)) :
    exec (.mma p w) s = .next (s.except p r.issued (s.pen p).pc code d) := by
  rw [exec_mma_of_not_ran (h.mmaRan_fault early fault), h.mma_raises fault]

/-- What an MMA that no injection disturbs leaves in the accumulators: what its blocks make of the pen it starts from. -/
theorem mmaOp_accAt {mem : Tab Byte} {tile : Nat} {w : PenWord} {q q' : Pen} {a b : Placed}
    (done : mmaOp mem tile none w q = .ok q') (ha : placeView tile q (q.view w.a.toNat) = .ok a)
    (hb : placeView tile q (q.view w.b.toNat) = .ok b) :
    ∃ p, touch mem q [.view a, .view b] = .ok p ∧
      ∀ m e, q'.accAt m e = (mmaWork mem w a b (mmaStart w p)).1.accAt m e := by
  rw [mmaOp_eq] at done
  cases h : mmaOperands mem tile w q with
  | error e => rw [h] at done; cases done
  | ok x =>
    obtain ⟨xa, xb, touched⟩ := mmaOperands_ok h
    obtain rfl : x.1 = a := Except.ok.inj (xa.symm.trans ha)
    obtain rfl : x.2.1 = b := Except.ok.inj (xb.symm.trans hb)
    have judged : mmaArray mem none w x = .ok q' := by rw [h] at done; exact done
    refine ⟨x.2.2, touched, fun m e => ?_⟩
    obtain ⟨y, ok⟩ | ⟨d, failed⟩ := mmaJudge_cases w.d.toNat (((mmaStart w x.2.2).sideOf w.d.toNat).depth + x.1.v.ext0)
      (disturb none w.d.toNat (mmaWork mem w x.1 x.2.1 (mmaStart w x.2.2)))
    · obtain rfl := Except.ok.inj (ok.symm.trans judged)
      rfl
    · cases failed.symm.trans judged

theorem accAt_mmaStart (w : PenWord) (q : Pen) {e : Nat} (he : e < 1024) :
    (mmaStart w q).accAt w.d.toNat e = if w.mod.getLsbD 0 then 0 else q.accAt w.d.toNat e := by
  unfold mmaStart; split
  · exact accAt_clearAcc q _ he
  · rfl

theorem accAt_mmaStart_other (w : PenWord) (q : Pen) {m e : Nat} (hm : m ≠ w.d.toNat) (he : e < 1024) :
    (mmaStart w q).accAt m e = q.accAt m e := by
  unfold mmaStart; split
  · exact accAt_clearAcc_other q hm he
  · rfl

theorem accAt_mmaWork_other (mem : Tab Byte) (w : PenWord) (a b : Placed) (q : Pen) {m e : Nat} (hm : m ≠ w.d.toNat)
    (he : e < 1024) : (mmaWork mem w a b q).1.accAt m e = q.accAt m e :=
  mmaBlocks_keeps (·.accAt m e) (fun u _ v _ hx => Pen.accAt_setAcc_other hm he hx u v) _ _ _

/-- R50, R51, R76: an element of the accumulator is the fold of its blocks. -/
theorem mmaOp_element {mem : Tab Byte} {tile : Nat} {w : PenWord} {q q' : Pen} {a b : Placed}
    (done : mmaOp mem tile none w q = .ok q') (ha : placeView tile q (q.view w.a.toNat) = .ok a)
    (hb : placeView tile q (q.view w.b.toNat) = .ok b) {i j : Nat} (hi : i < 32) (hj : j < 32) :
    q'.accAt w.d.toNat (32 * i + j) = (List.range (a.v.ext0 / 32)).foldl
      (fun c k => (cellStep (mmaClass a.v.fmt == 2) w.sat (stripOf mem q a k i) (stripOf mem q b k j) c).1)
      (if w.mod.getLsbD 0 then 0 else q.accAt w.d.toNat (32 * i + j)) := by
  obtain ⟨p, touched, acc⟩ := mmaOp_accAt done ha hb
  have scratch : (mmaStart w p).scratch = q.scratch :=
    Pen.scratch_of_seat ((seat_mmaStart w p).trans (touch_seat touched))
  rw [acc, mmaWork, accAt_mmaBlocks hi hj, accAt_mmaStart w p (by omega), touch_accAt touched, List.range_eq_range']
  simp only [stripOf_congr scratch]

/-- R76: the other accumulators keep their elements. -/
theorem mmaOp_others {mem : Tab Byte} {tile : Nat} {w : PenWord} {q q' : Pen} {a b : Placed}
    (done : mmaOp mem tile none w q = .ok q') (ha : placeView tile q (q.view w.a.toNat) = .ok a)
    (hb : placeView tile q (q.view w.b.toNat) = .ok b) {m e : Nat} (hm : m ≠ w.d.toNat) (he : e < 1024) :
    q'.accAt m e = q.accAt m e := by
  obtain ⟨p, touched, acc⟩ := mmaOp_accAt done ha hb
  rw [acc, accAt_mmaWork_other _ _ _ _ _ hm he, accAt_mmaStart_other w p hm he, touch_accAt touched]

/-- Settles O14: ACLR, MMA's ends, and an accumulated element as the fold of its blocks. -/
theorem matrixInstructionsComplete : Obligations.MatrixInstructionsComplete := by
  unfold Obligations.MatrixInstructionsComplete
  refine ⟨fun p w s r => ⟨fun h => ?_, fun h => ⟨fun q' done => ?_, fun d failed => ?_, fun code h10 h11 fault => ?_⟩⟩,
    fun mem tile w q q' a b done ha hb => ⟨fun i j hi hj => ?_, fun m e hm he => ?_⟩⟩
  · obtain ⟨t, runs, pen, only⟩ := h.aclr_clears
    refine ⟨t, runs, only, ?_⟩
    rw [pen]
    exact ⟨fun e he => accAt_clearAcc _ _ he, (sideOf_clearAcc _ _ _).trans (if_pos rfl),
      fun m e hm he => accAt_clearAcc_other _ hm he, fun m hm => (sideOf_clearAcc _ _ m).trans (if_neg hm),
      clearAcc_rest _ _⟩
  · exact ⟨_, h.mma_completes done, State.pen_setPen_same _ _ _, rfl, rfl, (OnlyPen.setPen_setPen s p _ q').2⟩
  · obtain ⟨counted, mem, -, others⟩ := h.1.except_checksum (Nat.div_lt_of_lt_mul p.isLt) r.issued (s.pen p).pc d
    exact ⟨_, h.mma_fails failed, h.1.pen_except _ _ _ _, counted, rfl, mem, others⟩
  · exact ⟨_, h.mma_faults h10 fault, h.1.raised ⟨h10, h11⟩ 0, h.1.onlyPen_except ⟨h10, h11⟩ _ _ 0⟩
  · exact mmaOp_element done ha hb hi hj
  · exact mmaOp_others done ha hb hm he

end Sys2Proof.Machine
end

section
/-! SUPPORT. The control instructions (R72–R75, R87): where a branch goes, what an END counts; and from that statement O9. -/

namespace Sys2Proof.Machine

-- One theorem after another: checked side by side, each in a thread of its own, they exceed the memory of the check.
set_option Elab.async false

/-! ## Bodies that are no pen's own -/

/-- A body that completes. -/
theorem Issues.issue_ok {s t : State} {p : Nat} {r : Run} {f : Form} {w : PenWord} {x : Bool} {body : State → Try State}
    (h : Issues s p r f w) (done : body (s.bodyView p) = .ok t) (free : x = true → (s.pen p).xBusy = false := by simp) :
    issue p f w x body s = t := by
  rw [h.issue_eq free, done]; rfl

/-! ## Branches (R73, R74) -/

/-- Where a branch by imm from the instruction that pen p is about to issue goes. -/
abbrev State.target (s : State) (p : Nat) (imm : Word64) : Int := (s.pen p).pc + imm.toInt

section
variable {s : State} {p : Nat} {r : Run} {q : Pen} {imm : Word64}

/-- A branch taken, by a pen that its instruction has moved on. -/
theorem Runs.branch_inside (h : Runs s p r) (run : q.run = (s.pen p).past.run) (pc : q.pc = (s.pen p).past.pc)
    (inside : 0 ≤ s.target p imm ∧ s.target p imm < r.ninstr) :
    branch q imm = .ok { q with pc := (s.target p imm).toNat } := by
  have run' : q.run = some { r with issued := r.issued + 1 } := by simp [run, h.1]
  have target : (q.pc : Int) - 1 + imm.toInt = s.target p imm := by rw [pc, Pen.past_target]
  rw [branch_in run' (by rwa [target]), target]

theorem Runs.branch_outside (h : Runs s p r) (run : q.run = (s.pen p).past.run) (pc : q.pc = (s.pen p).past.pc)
    (outside : ¬ (0 ≤ s.target p imm ∧ s.target p imm < r.ninstr)) : branch q imm = raise 0x05 := by
  have run' : q.run = some { r with issued := r.issued + 1 } := by simp [run, h.1]
  have target : (q.pc : Int) - 1 + imm.toInt = s.target p imm := by rw [pc, Pen.past_target]
  exact branch_out run' (by rwa [target])

end

section
variable {p : Fin 1024} {w : PenWord} {s : State} {r : Run}

/-! ## The control instructions, clause by clause -/

theorem Issues.nop_completes (h : Issues s p r {} w) :
    ∃ t, exec (.nop p w) s = .next t ∧ t.pen p = (s.pen p).past ∧ OnlyPen p s t :=
  ⟨s.bodyView p, congrArg Host.Outcome.next (h.issue_ok rfl), s.bodyView_pen p, OnlyPen.setPen s p _⟩

theorem Issues.br_inside (h : Issues s p r {} w) (inside : 0 ≤ s.target p w.imm ∧ s.target p w.imm < r.ninstr) :
    ∃ t, exec (.br p w) s = .next t ∧ t.pen p = { (s.pen p).past with pc := (s.target p w.imm).toNat } ∧ OnlyPen p s t :=
  h.completes (h.1.branch_inside rfl rfl inside)

theorem Issues.br_outside (h : Issues s p r {} w) (outside : ¬ (0 ≤ s.target p w.imm ∧ s.target p w.imm < r.ninstr)) :
    ∃ t, exec (.br p w) s = .next t ∧ Raised s t p r 0x05 0 ∧ OnlyPen p s t :=
  h.raisesPen (by decide) (h.1.branch_outside rfl rfl outside)

section
variable (h : Issues s p r { a := 4, b := 4, cnds := 8 } w)
include h

theorem Issues.brc_not_taken
    (fails : scalarCond w.cnd.toNat ((s.pen p).reg w.a.toNat) ((s.pen p).reg w.b.toNat) = false) :
    ∃ t, exec (.brc p w) s = .next t ∧ t.pen p = (s.pen p).past ∧ OnlyPen p s t :=
  h.completes (if_neg (Bool.eq_false_iff.mp fails))

theorem Issues.brc_inside
    (holds : scalarCond w.cnd.toNat ((s.pen p).reg w.a.toNat) ((s.pen p).reg w.b.toNat) = true)
    (inside : 0 ≤ s.target p w.imm ∧ s.target p w.imm < r.ninstr) :
    ∃ t, exec (.brc p w) s = .next t ∧ t.pen p = { (s.pen p).past with pc := (s.target p w.imm).toNat } ∧ OnlyPen p s t :=
  h.completes ((if_pos holds).trans (h.1.branch_inside rfl rfl inside))

theorem Issues.brc_outside
    (holds : scalarCond w.cnd.toNat ((s.pen p).reg w.a.toNat) ((s.pen p).reg w.b.toNat) = true)
    (outside : ¬ (0 ≤ s.target p w.imm ∧ s.target p w.imm < r.ninstr)) :
    ∃ t, exec (.brc p w) s = .next t ∧ Raised s t p r 0x05 0 ∧ OnlyPen p s t :=
  h.raisesPen (by decide) ((if_pos holds).trans (h.1.branch_outside rfl rfl outside))

end

/-- What LOOP decides on: S00 reads as zero, written or not. -/
theorem Pen.reg_loop (q : Pen) (n : Nat) :
    (q.setReg n (q.reg n - 1)).reg n = if n = 0 then 0 else q.reg n - 1 := by
  rw [Pen.reg_setReg]; simp

theorem Pen.reg_loop_ne {q : Pen} {n : BitVec 5} (more : n ≠ 0) (counts : q.reg n.toNat - 1 ≠ 0) :
    (q.setReg n.toNat (q.reg n.toNat - 1)).reg n.toNat ≠ 0 := by
  have : n.toNat ≠ 0 := fun e => more (BitVec.eq_of_toNat_eq e)
  rwa [Pen.reg_loop, if_neg this]

section
variable (h : Issues s p r { d := 4 } w)
include h

theorem Issues.loop_ends (ends : w.d = 0 ∨ (s.pen p).reg w.d.toNat - 1 = 0) :
    ∃ t, exec (.loop p w) s = .next t ∧ t.pen p = (s.pen p).past.setReg w.d.toNat 0 ∧ OnlyPen p s t := by
  obtain s00 | zero := ends
  · exact h.completes (by simp [s00, Pen.setReg, Pen.reg])
  · rw [← zero]
    exact h.completes (if_neg (by rw [Pen.reg_loop]; simpa using fun _ => zero))

variable (more : w.d ≠ 0) (counts : (s.pen p).reg w.d.toNat - 1 ≠ 0)
include more counts

theorem Issues.loop_inside (inside : 0 ≤ s.target p w.imm ∧ s.target p w.imm < r.ninstr) :
    ∃ t, exec (.loop p w) s = .next t ∧ t.pen p =
      { (s.pen p).past.setReg w.d.toNat ((s.pen p).reg w.d.toNat - 1) with pc := (s.target p w.imm).toNat }
      ∧ OnlyPen p s t :=
  h.completes ((if_pos (Pen.reg_loop_ne (q := (s.pen p).past) more counts)).trans
    (h.1.branch_inside (Pen.setReg_run _ _ _) (Pen.setReg_pc _ _ _) inside))

theorem Issues.loop_outside (outside : ¬ (0 ≤ s.target p w.imm ∧ s.target p w.imm < r.ninstr)) :
    ∃ t, exec (.loop p w) s = .next t ∧ Raised s t p r 0x05 0 ∧ OnlyPen p s t :=
  h.raisesPen (by decide) ((if_pos (Pen.reg_loop_ne (q := (s.pen p).past) more counts)).trans
    (h.1.branch_outside (Pen.setReg_run _ _ _) (Pen.setReg_pc _ _ _) outside))

end

/-- TRD's quantities (R75). -/
theorem Runs.treadQuantity_eq (h : Runs s p r) (m : Nat) : treadQuantity (s.bodyView p) p m =
    match m with
    | 0 => r.epoch
    | 1 => (s.clock - s.tick.tickAt) / 2
    | 2 => (2 * (s.tick.period - 1000 * s.tick.land) - (s.clock - s.tick.tickAt)) / 2
    | 3 => p
    | 4 => r.job.jobId
    | _ => p / 16 := by
  unfold treadQuantity
  simp only [State.bodyView_pen, Pen.past_run, h.1, Option.map_some]
  rfl

theorem Issues.trd_completes (h : Issues s p r { d := 4, modOk := fun m => m ≤ 5 } w) :
    ∃ t, exec (.trd p w) s = .next t
      ∧ t.pen p = (s.pen p).past.setReg w.d.toNat (BitVec.ofNat 64 (treadQuantity (s.bodyView p) p w.mod.toNat))
      ∧ OnlyPen p s t :=
  h.completes rfl

section
variable (h : Issues s p r { modOk := fun m => m ≤ 7 } w)
include h

theorem Issues.fence_passes (free : w.mod.getLsbD 2 = false ∨ (s.pen p).xBusy = false) :
    ∃ t, exec (.fence p w) s = .next t ∧ t.pen p = (s.pen p).past ∧ OnlyPen p s t :=
  h.completes (if_neg (by simpa only [Bool.and_eq_true, not_and_or, Bool.not_eq_true, Pen.past_xBusy] using free))

theorem Issues.fence_waits (named : w.mod.getLsbD 2 = true) (busy : (s.pen p).xBusy = true) :
    ∃ t, exec (.fence p w) s = .next t ∧ t.pen p = { s.pen p with stall := some .unitBusy } ∧ OnlyPen p s t :=
  h.waits (onPen_error (if_pos (by simp [named, busy])))

end

section
variable (h : Issues s p r { a := 12 } w)
include h

theorem Issues.twait_passes
    (past : (if w.ak = 3 then w.imm else (s.pen p).reg w.a.toNat).toNat ≤ (s.clock - s.tick.tickAt) / 2) :
    ∃ t, exec (.twait p w) s = .next t ∧ t.pen p = (s.pen p).past ∧ OnlyPen p s t :=
  h.completes (if_pos (by rw [scalarOrImm_eq]; exact past))

theorem Issues.twait_waits
    (early : (s.clock - s.tick.tickAt) / 2 < (if w.ak = 3 then w.imm else (s.pen p).reg w.a.toNat).toNat) :
    ∃ t, exec (.twait p w) s = .next t ∧ t.pen p = { s.pen p with stall := some .tick } ∧ OnlyPen p s t :=
  h.waits (onPen_error (if_neg (by rw [scalarOrImm_eq]; exact Nat.not_le.mpr early)))

end

/-! ## END and TRAP (R87) -/

/-- A tile's totals of saturations and of NaNs and infinities are 32-bit counters. -/
theorem count_total {i : Nat} (hi : i = 0x7032 ∨ i = 0x7033) (s : State) {k : Nat} (hk : k < 64) (n : Nat) :
    s.count i (k + 1) n = s.setNum i (k + 1) ((s.num i (k + 1) + n) % 2 ^ 32) := by
  have all : ∀ k : Fin 64, ∀ i ∈ [0x7032, 0x7033], ((objectRow i (k + 1)).map fun r => r.type.size) = some 4 := by decide
  obtain ⟨row, found, size⟩ := Option.map_eq_some_iff.mp (all ⟨k, hk⟩ i (by simpa using hi))
  simp only [State.count, found, size]

/-- The totals of pen p's tile with the counters of q added (Table 04.7). -/
def State.addTotals (s : State) (p : Nat) (q : Pen) : State :=
  (s.count 0x7032 (tileOf p + 1) q.satc).count 0x7033 (tileOf p + 1) (q.nanc + q.infc)

theorem State.addTotals_spec (s : State) (p : Fin 1024) (q : Pen) :
    let t := s.addTotals p q
    let sub := tileOf p + 1
    t.num 0x7032 sub = (s.num 0x7032 sub + q.satc) % 2 ^ 32
    ∧ t.num 0x7033 sub = (s.num 0x7033 sub + (q.nanc + q.infc)) % 2 ^ 32 ∧ { t with objs := s.objs } = s
    ∧ ∀ i j, objKey i j ≠ objKey 0x7032 sub → objKey i j ≠ objKey 0x7033 sub → t.obj i j = s.obj i j := by
  have hk : tileOf p < 64 := Nat.div_lt_of_lt_mul p.isLt
  have apart : objKey 0x7032 (tileOf p + 1) ≠ objKey 0x7033 (tileOf p + 1) := by unfold objKey; omega
  unfold State.addTotals
  rw [count_total (.inl rfl) s hk, count_total (.inr rfl) _ hk]
  refine ⟨?_, ?_, rfl, fun i j h2 h3 => ?_⟩
  · rw [State.num_setNum, if_neg apart, State.num_setNum_same]
  · rw [State.num_setNum_same, State.num_setNum, if_neg apart.symm]
  · rw [State.setNum, State.obj_setObj, if_neg h3, State.setNum, State.obj_setObj, if_neg h2]

section
variable (h : Issues s p r {} w)
include h

/-- The pen that END leaves. -/
theorem Issues.end_completes (idle : (s.pen p).xBusy = false) :
    exec (.endJob p w) s = .next (((s.bodyView p).addTotals p (s.pen p).past).setPen p { s.pen p with
      stall := none, resident := [], run := some { r with issued := r.issued + 1, ended := some .done } }) := by
  refine congrArg Host.Outcome.next (h.issue_ok ?_)
  simp only [State.bodyView_pen, Pen.past_run, h.1.1, Option.map_some, Pen.past_xBusy, idle, Bool.false_eq_true, if_false]
  rfl

theorem Issues.end_waits (busy : (s.pen p).xBusy = true) :
    ∃ t, exec (.endJob p w) s = .next t ∧ t.pen p = { s.pen p with stall := some .unitBusy } ∧ OnlyPen p s t := by
  refine h.waits ?_
  simp only [State.bodyView_pen, Pen.past_run, h.1.1, Option.map_some, Pen.past_xBusy, busy, if_true]

theorem Issues.trap_raises :
    ∃ t, exec (.trap p w) s = .next t ∧ Raised s t p r 0x09 (BitVec.ofNat 64 (w.imm.toNat % 2 ^ 32)) ∧ OnlyPen p s t :=
  h.raises (by decide) rfl

end

end

/-- Settles O9: each instruction by its clauses, END by the totals that it adds to. -/
theorem controlInstructionsComplete : Obligations.ControlInstructionsComplete := by
  unfold Obligations.ControlInstructionsComplete
  refine ⟨fun p w s r => ⟨Issues.nop_completes, Issues.br_inside, Issues.br_outside,
    fun h => ⟨h.brc_not_taken, h.brc_inside, h.brc_outside⟩, fun h => ⟨h.loop_ends, h.loop_inside, h.loop_outside⟩,
    fun h e he named => ?_, fun h => ⟨h.fence_passes, h.fence_waits⟩, fun h => ⟨h.twait_passes, h.twait_waits⟩⟩,
    fun p w s r h => ⟨fun idle => ?_, h.end_waits, h.trap_raises⟩⟩
  · have quantity : treadQuantity (s.bodyView p) p w.mod.toNat = e.2 := by
      rw [h.1.treadQuantity_eq, named]
      fin_cases he <;> rfl
    rw [← quantity]
    exact h.trd_completes
  · obtain ⟨sat, special, rest, others⟩ := (s.bodyView p).addTotals_spec p (s.pen p).past
    have pens := congrArg State.pens rest
    refine ⟨_, h.end_completes idle, State.pen_setPen_same _ _ _, sat, special, ?_, fun k hk => ?_, others⟩
    · exact congrArg (fun u : State => { u with pens := s.pens }) rest
    · rw [State.pen_setPen, if_neg hk, State.pen, pens]
      exact (OnlyPen.setPen s p _).2 k hk

end Sys2Proof.Machine
end

section
/-! SUPPORT. The scalar and view instructions (R67, R73): scratch addresses, one field of a descriptor; and from those
statements O10 and O11. -/

namespace Sys2Proof.Machine

-- One theorem after another: checked side by side, each in a thread of its own, they exceed the memory of the check.
set_option Elab.async false

/-! ## Parts of an instruction that answer or stop -/

theorem Try.bind_of_ok {α β : Type} {x : Try α} {a : α} (h : x = .ok a) (f : α → Try β) : x >>= f = f a := by
  rw [h]; rfl

theorem Try.bind_of_error {α β : Type} {x : Try α} {e : Stop} (h : x = .error e) (f : α → Try β) :
    x >>= f = .error e := by
  rw [h]; rfl

theorem need_true {b : Bool} (h : b = true) (code : Nat) : need b code = .ok () := if_pos h
theorem need_false {b : Bool} (h : b = false) (code : Nat) : need b code = raise code := by rw [need, h]; rfl

/-! ## Scratch addresses (R73) -/

theorem scratchAddr_ok {base imm : Word64} {n : Nat} (aligned : (base + imm).toNat % n = 0)
    (fits : (base + imm).toNat + n ≤ 524288) : scratchAddr base imm n = .ok (base + imm).toNat :=
  if_pos ⟨aligned, fits⟩

theorem scratchAddr_error {base imm : Word64} {n : Nat}
    (bad : ¬ ((base + imm).toNat % n = 0 ∧ (base + imm).toNat + n ≤ 524288)) : scratchAddr base imm n = raise 0x05 :=
  if_neg bad

section
variable {p : Fin 1024} {w : PenWord} {s : State} {r : Run}

/-! ## The scalar instructions, clause by clause -/

theorem Issues.sli_completes (h : Issues s p r { d := 4 } w) :
    ∃ t, exec (.sli p w) s = .next t ∧ t.pen p = (s.pen p).past.setReg w.d.toNat w.imm ∧ OnlyPen p s t :=
  h.completes rfl

theorem Issues.salu_completes (h : Issues s p r { d := 4, a := 4, b := 12, modOk := fun m => m ≤ 10 } w) :
    ∃ t, exec (.salu p w) s = .next t
      ∧ t.pen p = (s.pen p).past.setReg w.d.toNat (saluOp w.mod.toNat ((s.pen p).reg w.a.toNat)
          (if w.bk = 3 then w.imm else (s.pen p).reg w.b.toNat)) ∧ OnlyPen p s t := by
  rw [← scalarOrImm_eq]
  exact h.completes rfl

/-- The bytes of a scalar access: 4 with MOD bit 0, else 8. -/
abbrev accessBytes (w : PenWord) : Nat := if w.mod.getLsbD 0 then 4 else 8

section
variable (h : Issues s p r { d := 4, a := 4, modOk := fun m => m ≤ 1 } w)
include h

theorem Issues.sld_completes (aligned : ((s.pen p).reg w.a.toNat + w.imm).toNat % accessBytes w = 0)
    (fits : ((s.pen p).reg w.a.toNat + w.imm).toNat + accessBytes w ≤ 524288) :
    ∃ t, exec (.sld p w) s = .next t ∧ t.pen p = (s.pen p).past.setReg w.d.toNat (BitVec.ofNat 64
      (leNat (readTab (s.pen p).scratch ((s.pen p).reg w.a.toNat + w.imm).toNat (accessBytes w)))) ∧ OnlyPen p s t :=
  h.completes (Try.bind_of_ok (scratchAddr_ok aligned fits) _)

theorem Issues.sld_raises (bad : ¬ (((s.pen p).reg w.a.toNat + w.imm).toNat % accessBytes w = 0
      ∧ ((s.pen p).reg w.a.toNat + w.imm).toNat + accessBytes w ≤ 524288)) :
    ∃ t, exec (.sld p w) s = .next t ∧ Raised s t p r 0x05 0 ∧ OnlyPen p s t :=
  h.raisesPen (by decide) (Try.bind_of_error (scratchAddr_error bad) _)

end

section
variable (h : Issues s p r { a := 4, b := 4, modOk := fun m => m ≤ 1 } w)
include h

theorem Issues.sst_completes (aligned : ((s.pen p).reg w.a.toNat + w.imm).toNat % accessBytes w = 0)
    (fits : ((s.pen p).reg w.a.toNat + w.imm).toNat + accessBytes w ≤ 524288) :
    ∃ t, exec (.sst p w) s = .next t ∧ t.pen p = { (s.pen p).past with
      scratch := writeTab (s.pen p).scratch ((s.pen p).reg w.a.toNat + w.imm).toNat
        (leBytes (accessBytes w) ((s.pen p).reg w.b.toNat).toNat) } ∧ OnlyPen p s t :=
  h.completes (Try.bind_of_ok (scratchAddr_ok aligned fits) _)

theorem Issues.sst_raises (bad : ¬ (((s.pen p).reg w.a.toNat + w.imm).toNat % accessBytes w = 0
      ∧ ((s.pen p).reg w.a.toNat + w.imm).toNat + accessBytes w ≤ 524288)) :
    ∃ t, exec (.sst p w) s = .next t ∧ Raised s t p r 0x05 0 ∧ OnlyPen p s t :=
  h.raisesPen (by decide) (Try.bind_of_error (scratchAddr_error bad) _)

end

/-- A byte outside those written keeps its value. -/
theorem tabGet_writeTab_outside (m : Tab Byte) {a k : Nat} {bs : List Byte} (h : k < a ∨ a + bs.length ≤ k) :
    tabGet memDefault (writeTab m a bs) k = tabGet memDefault m k := by
  rw [tabGet_writeTab, dif_neg (by omega)]

theorem Issues.sfp_completes (h : Issues s p r { d := 4, a := 4, b := 12, modOk := fun m => m ≤ 5 } w) :
    let v := sfpOp w.mod.toNat ((s.pen p).reg w.a.toNat) (if w.bk = 3 then w.imm else (s.pen p).reg w.b.toNat)
    ∃ t, exec (.sfp p w) s = .next t
      ∧ t.pen p = ((s.pen p).past.setCnt ((s.pen p).past.cnt.made v.2)).setReg w.d.toNat v.1 ∧ OnlyPen p s t := by
  rw [← scalarOrImm_eq]
  exact h.completes rfl

end

/-- Settles O10: each instruction by its clauses, and each operation of SALU and SFP by its MOD. -/
theorem scalarInstructionsComplete : Obligations.ScalarInstructionsComplete := by
  unfold Obligations.ScalarInstructionsComplete
  refine fun p w s r => ⟨Issues.sli_completes, fun h e he named => ?_, fun h => ⟨h.sld_completes, h.sld_raises⟩,
    fun h => ⟨fun aligned fits => ?_, h.sst_raises⟩, fun h e he named => ?_⟩
  · have result : saluOp w.mod.toNat ((s.pen p).reg w.a.toNat)
        (if w.bk = 3 then w.imm else (s.pen p).reg w.b.toNat) = e.2 := by
      rw [named]; fin_cases he <;> rfl
    rw [← result]
    exact h.salu_completes
  · obtain ⟨t, runs, pen, only⟩ := h.sst_completes aligned fits
    have bytes := leBytes_length (accessBytes w) ((s.pen p).reg w.b.toNat).toNat
    refine ⟨t, runs, only, by rw [pen], ?_, fun k out => ?_⟩
    · rw [pen]
      have back := readTab_writeTab (s.pen p).scratch ((s.pen p).reg w.a.toNat + w.imm).toNat
        (leBytes (accessBytes w) ((s.pen p).reg w.b.toNat).toNat)
      rwa [bytes] at back
    · rw [pen]
      exact tabGet_writeTab_outside _ (by rwa [bytes])
  · have result : sfpOp w.mod.toNat ((s.pen p).reg w.a.toNat)
        (if w.bk = 3 then w.imm else (s.pen p).reg w.b.toNat) = e.2 := by
      rw [named]; fin_cases he <;> rfl
    rw [← result]
    exact h.sfp_completes

/-! ## One field of a descriptor (R67, R73) -/

/-- The unsigned fields of Table 04.6, by VSET's MOD: the low bit and the width. -/
theorem vsetField_unsigned {e : Nat × Nat × Nat}
    (he : e ∈ [(0, 16, 32), (6, 160, 32), (9, 8, 4), (10, 0, 2), (11, 12, 1)]) (a : Word64) :
    vsetField e.1 a = if a.toNat < 2 ^ e.2.2 then some (e.2.1, e.2.2, a.toNat) else none := by
  fin_cases he <;> rfl

/-- The extents hold their value less 1. -/
theorem vsetField_extent {e : Nat × Nat} (he : e ∈ [(1, 48), (2, 64), (3, 80)]) (a : Word64) :
    vsetField e.1 a = if 1 ≤ a.toNat ∧ a.toNat ≤ 65536 then some (e.2, 16, a.toNat - 1) else none := by
  fin_cases he <;> rfl

/-- The low 32 bits of a word, read as signed, are its low 32 bits. -/
theorem toInt_low32 (a : Word64) : (a.toInt % 2 ^ 32).toNat = a.toNat % 2 ^ 32 := by
  have := a.isLt
  rw [BitVec.toInt_eq_toNat_cond]
  split <;> omega

/-- Strides and offsets are signed 32-bit. -/
theorem vsetField_signed {e : Nat × Nat} (he : e ∈ [(4, 96), (5, 128), (7, 192), (8, 224)]) (a : Word64) :
    vsetField e.1 a =
      if -2147483648 ≤ a.toInt ∧ a.toInt ≤ 2147483647 then some (e.2, 32, a.toNat % 2 ^ 32) else none := by
  rw [← toInt_low32]
  fin_cases he <;> rfl

/-! ## The view instructions, clause by clause -/

section
variable {p : Fin 1024} {w : PenWord} {s : State} {r : Run}

section
variable (h : Issues s p r { d := 1, a := 4, modOk := fun m => m ≤ 11 } w)
include h

theorem Issues.vset_puts {lo n v : Nat} (fits : vsetField w.mod.toNat ((s.pen p).reg w.a.toNat) = some (lo, n, v)) :
    ∃ t, exec (.vset p w) s = .next t
      ∧ t.pen p = (s.pen p).past.setView w.d.toNat (setField ((s.pen p).past.view w.d.toNat) lo n v) ∧ OnlyPen p s t :=
  h.completes (by simp only [Pen.past_reg, fits])

theorem Issues.vset_raises (unfit : vsetField w.mod.toNat ((s.pen p).reg w.a.toNat) = none) :
    ∃ t, exec (.vset p w) s = .next t ∧ Raised s t p r 0x04 0 ∧ OnlyPen p s t :=
  h.raisesPen (by decide) (by simp only [Pen.past_reg, unfit]; rfl)

end

/-- BASE and SBASE of a descriptor advanced with 32-bit wrap. -/
def advance (d : BitVec 256) (base sbase : Word64) : BitVec 256 :=
  let d := setField d 16 32 (field d.toNat 16 32 + base.toNat)
  setField d 160 32 (field d.toNat 160 32 + sbase.toNat)

theorem Issues.vadv_completes (h : Issues s p r { d := 1, a := 4, b := 4 } w) :
    ∃ t, exec (.vadv p w) s = .next t
      ∧ t.pen p = (s.pen p).past.setView w.d.toNat
          (advance ((s.pen p).past.view w.d.toNat) ((s.pen p).reg w.a.toNat) ((s.pen p).reg w.b.toNat))
      ∧ OnlyPen p s t :=
  h.completes rfl

section
variable (h : Issues s p r { d := 1, a := 4 } w)
include h

theorem Issues.vld_completes (aligned : ((s.pen p).reg w.a.toNat + w.imm).toNat % 32 = 0)
    (fits : ((s.pen p).reg w.a.toNat + w.imm).toNat + 32 ≤ 524288) :
    ∃ t, exec (.vld p w) s = .next t ∧ t.pen p = (s.pen p).past.setView w.d.toNat (BitVec.ofNat 256
      (leNat (readTab (s.pen p).scratch ((s.pen p).reg w.a.toNat + w.imm).toNat 32))) ∧ OnlyPen p s t :=
  h.completes (Try.bind_of_ok (scratchAddr_ok aligned fits) _)

theorem Issues.vld_raises (bad : ¬ (((s.pen p).reg w.a.toNat + w.imm).toNat % 32 = 0
      ∧ ((s.pen p).reg w.a.toNat + w.imm).toNat + 32 ≤ 524288)) :
    ∃ t, exec (.vld p w) s = .next t ∧ Raised s t p r 0x05 0 ∧ OnlyPen p s t :=
  h.raisesPen (by decide) (Try.bind_of_error (scratchAddr_error bad) _)

end

end

/-- Settles O11: VSET by the kind of its field, VADV, and VLD by its address. -/
theorem viewInstructionsComplete : Obligations.ViewInstructionsComplete := by
  unfold Obligations.ViewInstructionsComplete
  refine fun p w s r => ⟨fun h => ⟨fun e he named => ?_, fun e he named => ?_, fun e he named => ?_⟩, fun h => ?_,
    fun h => ⟨fun aligned fits => ?_, h.vld_raises⟩⟩
  · have field := vsetField_unsigned he ((s.pen p).reg w.a.toNat)
    rw [← named] at field
    exact ⟨fun fits => h.vset_puts (field.trans (if_pos fits)),
      fun large => h.vset_raises (field.trans (if_neg (Nat.not_lt.mpr large)))⟩
  · have field := vsetField_extent he ((s.pen p).reg w.a.toNat)
    rw [← named] at field
    refine ⟨fun low high => h.vset_puts (field.trans (if_pos ⟨low, high⟩)), fun out => ?_⟩
    exact h.vset_raises (field.trans (if_neg (by simp only [Pen.past_reg] at out; omega)))
  · have field := vsetField_signed he ((s.pen p).reg w.a.toNat)
    rw [← named] at field
    refine ⟨fun low high => h.vset_puts (field.trans (if_pos ⟨low, Int.le_of_lt_add_one high⟩)), fun out => ?_⟩
    exact h.vset_raises (field.trans (if_neg (by simp only [Pen.past_reg] at out; omega)))
  · obtain ⟨t, runs, pen, only⟩ := h.vadv_completes
    exact ⟨t, runs, only, pen⟩
  · obtain ⟨t, runs, pen, only⟩ := h.vld_completes aligned fits
    exact ⟨t, runs, only, pen⟩

end Sys2Proof.Machine
end

section
/-! SUPPORT. The elementwise instructions (R68, R77): operands placed, then shapes, integer mode and sum lanes; and from
that statement O15. -/

namespace Sys2Proof.Machine

-- One theorem after another: checked side by side, each in a thread of its own, they exceed the memory of the check.
set_option Elab.async false

/-! ## Parts in a row -/

section
variable {α β γ δ ε : Type} {x : Try α} {y : Try β} {z : Try γ} {u : Try δ} {a : α} {b : β} {c : γ} {d : δ} {v : Try ε}
  (hx : x = .ok a) (hy : y = .ok b)
include hx hy

theorem Try.bind₂_of_ok {f : α → β → Try ε} (e : f a b = v) : (do let a ← x; let b ← y; f a b) = v :=
  (Try.bind_of_ok hx _).trans ((Try.bind_of_ok hy _).trans e)

variable (hz : z = .ok c)
include hz

theorem Try.bind₃_of_ok {f : α → β → γ → Try ε} (e : f a b c = v) : (do let a ← x; let b ← y; let c ← z; f a b c) = v :=
  Try.bind₂_of_ok hx hy ((Try.bind_of_ok hz _).trans e)

theorem Try.bind₄_of_ok (hu : u = .ok d) {f : α → β → γ → δ → Try ε} (e : f a b c d = v) :
    (do let a ← x; let b ← y; let c ← z; let d ← u; f a b c d) = v :=
  Try.bind₃_of_ok hx hy hz ((Try.bind_of_ok hu _).trans e)

end

/-! ## An elementwise instruction on placed operands -/

section
variable {mem : Tab Byte} {w : PenWord} {dst : Opnd} {reads : List Opnd} {step : Nat} {elem : Pen → Nat → Val}
  {ints : Option (Pen → Nat → BitVec 32)} {q q' : Pen}

theorem elementwise_mismatch (mismatch : (reads.all fun o => o.matches dst.shape) = false) :
    elementwise mem w dst reads step elem ints q = raise 0x04 :=
  Try.bind_of_error (need_false mismatch _) _

variable (fits : (reads.all fun o => o.matches dst.shape) = true)
include fits

theorem elementwise_noInts {x : Placed} (mode : intMode dst reads = some x) (refused : ints = none) :
    elementwise mem w dst reads step elem ints q = raise 0x03 :=
  (Try.bind_of_ok (need_true fits _) _).trans (by rw [mode, refused])

theorem elementwise_ints {x : Placed} (mode : intMode dst reads = some x) (touched : touch mem q reads = .ok q')
    {f : Pen → Nat → BitVec 32} (accepted : ints = some f) : elementwise mem w dst reads step elem ints q =
      .ok (intSteps f x step dst.size ((dst.size + step - 1) / step) 0 q') := by
  refine (Try.bind_of_ok (need_true fits _) _).trans ?_
  rw [mode, accepted]
  exact Try.bind_of_ok touched _

theorem elementwise_floats (mode : intMode dst reads = none) (touched : touch mem q reads = .ok q') :
    elementwise mem w dst reads step elem ints q = .ok (finishDst dst (vecAll elem dst w.sr w.sat step dst.size q')) := by
  refine (Try.bind_of_ok (need_true fits _) _).trans ?_
  rw [mode]
  exact Try.bind_of_ok touched _

end

/-- Settles O15: each instruction places its operands, and ends as its elementwise work does. -/
theorem elementwiseInstructionsComplete : Obligations.ElementwiseInstructionsComplete := by
  unfold Obligations.ElementwiseInstructionsComplete
  intro p w s r q' d a b c q tile m steps done bad hd ha
  refine ⟨fun h hb => ⟨fun no => ?_, fun yes touched => ⟨fun mode => ?_, fun x mode => ?_⟩⟩,
    fun h hb hc => ⟨fun no => ?_, fun yes => ⟨fun x mode => ?_, fun mode touched => ?_⟩⟩,
    fun h => ⟨fun no => ?_, fun yes => ⟨fun x mode big => ?_, fun touched => ⟨fun x mode small => ?_, fun mode => ?_⟩⟩⟩,
    fun h hb hc hself => ⟨fun no => ?_, fun yes touched => ⟨fun mode => ?_, fun x mode => ?_⟩⟩,
    fun h => ⟨fun no => ?_, fun yes touched => ⟨fun mode => ?_, fun x mode => ?_⟩⟩⟩
  · exact h.raisesPen (by decide) (Try.bind₃_of_ok hd ha hb (elementwise_mismatch (by simpa using no)))
  · exact h.completes (Try.bind₃_of_ok hd ha hb (elementwise_floats (by simpa using yes) mode touched))
  · exact h.completes (Try.bind₃_of_ok hd ha hb (elementwise_ints (by simpa using yes) mode touched rfl))
  · exact h.raisesPen (by decide) (Try.bind₄_of_ok hd ha hb hc (elementwise_mismatch (by simpa using no)))
  · exact h.raisesPen (by decide)
      (Try.bind₄_of_ok hd ha hb hc (elementwise_noInts (by simpa [and_assoc] using yes) mode rfl))
  · exact h.completes (Try.bind₄_of_ok hd ha hb hc (elementwise_floats (by simpa [and_assoc] using yes) mode touched))
  · exact h.raisesPen (by decide) (Try.bind₂_of_ok hd ha (elementwise_mismatch (by simpa using no)))
  · have refused : ¬ w.mod.toNat ≤ 2 := Nat.not_le.mpr big
    exact h.raisesPen (by decide) (Try.bind₂_of_ok hd ha (elementwise_noInts (by simpa using yes) mode (if_neg refused)))
  · refine h.completes (Try.bind₂_of_ok hd ha ?_)
    rw [if_pos (show w.mod.toNat ≤ 2 from small)]
    exact elementwise_ints (by simpa using yes) mode touched (if_pos small)
  · exact h.completes (Try.bind₂_of_ok hd ha (elementwise_floats (by simpa using yes) mode touched))
  · exact h.raisesPen (by decide) (Try.bind₄_of_ok hd ha hb hc (elementwise_mismatch (by simpa [hself] using no)))
  · exact h.completes
      (Try.bind₄_of_ok hd ha hb hc (elementwise_floats (by simpa [hself, and_assoc] using yes) mode touched))
  · exact h.completes
      (Try.bind₄_of_ok hd ha hb hc (elementwise_ints (by simpa [hself, and_assoc] using yes) mode touched rfl))
  · exact h.raisesPen (by decide) (Try.bind₂_of_ok hd ha (elementwise_mismatch (by simpa using no)))
  · exact h.completes (Try.bind₂_of_ok hd ha (elementwise_floats (by simpa using yes) mode touched))
  · exact h.completes (Try.bind₂_of_ok hd ha (elementwise_ints (by simpa using yes) mode touched rfl))

end Sys2Proof.Machine
end

section
/-! SUPPORT. Reductions, searches, random values and range checks (R77, R83, R85, R86, R88); and from that statement
O16. -/

namespace Sys2Proof.Machine

-- One theorem after another: checked side by side, each in a thread of its own, they exceed the memory of the check.
set_option Elab.async false

/-! ## What a vector step writes to an accumulator (R77) -/

/-- Counting what operations made leaves the generator. -/
theorem foldl_made_rng {α : Type} (made : α → Made) (l : List α) (c : Cnt) :
    (l.foldl (fun c x => c.made (made x)) c).rng = c.rng :=
  foldl_keeps Cnt.rng fun _ _ _ => rfl

section
variable {n : Nat} {sr sat : Bool}

theorem writeResults_acc_keeps {β : Type} (g : Pen → β) {ws : List F32} {e : Nat} {q : Pen}
    (h : ∀ u i v, e ≤ i → i < e + ws.length → g (u.setAcc n i v) = g u) :
    g (writeResults sr sat (.acc n) e ws q) = g q := by
  induction ws generalizing e q with
  | nil => rfl
  | cons w ws ih =>
    rw [writeResults, ih fun u i v low high => h u i v (by omega) (by simp; omega)]
    exact h q e w (Nat.le_refl e) (by simp)

theorem accAt_writeResults (ws : List F32) (e i : Nat) (q : Pen) :
    (writeResults sr sat (.acc n) e ws q).accAt n i =
      if h : e ≤ i ∧ i < e + ws.length then ws[i - e]'(by omega) else q.accAt n i := by
  induction ws generalizing e q with
  | nil => simp [writeResults]
  | cons w ws ih =>
    rw [writeResults, ih, Pen.accAt_setAcc]
    by_cases first : i = e
    · simp [first]
    · by_cases later : e + 1 ≤ i ∧ i < e + 1 + ws.length
      · rw [dif_pos later, dif_pos (by simp; omega), List.getElem_cons, dif_neg (by omega)]
        congr 1
      · rw [dif_neg later, if_neg (by omega), dif_neg (by simp; omega)]

variable {elem : Pen → Nat → Val} {step size : Nat}

/-- A step on an accumulator leaves no results over. -/
theorem vecStep_acc (e k : Nat) (q : Pen) : ∃ c : Cnt, c.rng = q.rng ∧
    vecStep elem (.acc n) sr sat e k [] q =
      ([], writeResults sr sat (.acc n) e ((List.range k).map fun i => (elem q (e + i)).1) (q.setCnt c)) := by
  refine ⟨_, foldl_made_rng Prod.snd ((List.range k).map fun i => elem q (e + i)) q.cnt, ?_⟩
  simp only [vecStep, List.map_map]
  rfl

/-- What writes of an accumulator's elements and counts leave alone, all steps do. -/
theorem vecSteps_acc_keeps {β : Type} (g : Pen → β) (written : ∀ u i v, i < size → g (u.setAcc n i v) = g u)
    (counted : ∀ (u : Pen) (c : Cnt), c.rng = u.rng → g (u.setCnt c) = g u) (k e : Nat) (q : Pen) :
    g (vecSteps elem (.acc n) sr sat step size k e [] q) = g q := by
  induction k generalizing e q with
  | zero => rfl
  | succ k ih =>
    obtain ⟨c, rng, one⟩ := vecStep_acc (elem := elem) (sr := sr) (sat := sat) (n := n) e (min step (size - e)) q
    rw [vecSteps]
    dsimp only
    rw [one, ih, writeResults_acc_keeps g, counted q c rng]
    intro u i v low high
    refine written u i v ?_
    simp at high
    omega

/-- The pen with the accumulators and counters of q. -/
def Pen.beside (u q : Pen) : Pen := { u with acc := q.acc, satc := q.satc, nanc := q.nanc, infc := q.infc }

theorem Pen.beside_setCnt {u : Pen} {c : Cnt} (rng : c.rng = u.rng) (q : Pen) : (u.setCnt c).beside q = u.beside q := by
  simp only [Pen.setCnt, Pen.beside, rng]

theorem accAt_vecSteps {q : Pen} (same : ∀ u e, u.beside q = q → elem u e = elem q e) (i k e : Nat) (u : Pen)
    (beside : u.beside q = q) : (vecSteps elem (.acc n) sr sat step size k e [] u).accAt n i =
      if e ≤ i ∧ i < e + k * step ∧ i < size then (elem q i).1 else u.accAt n i := by
  induction k generalizing e u with
  | zero => rw [if_neg (by omega)]; rfl
  | succ k ih =>
    obtain ⟨c, rng, one⟩ := vecStep_acc (elem := elem) (sr := sr) (sat := sat) (n := n) e (min step (size - e)) u
    rw [vecSteps]
    dsimp only
    rw [one]
    have after := writeResults_acc_keeps (n := n) (sr := sr) (sat := sat) (·.beside q) (e := e) (q := u.setCnt c)
      (ws := (List.range (min step (size - e))).map fun i => (elem u (e + i)).1) fun _ _ _ _ _ => rfl
    rw [ih _ _ (after.trans ((Pen.beside_setCnt rng q).trans beside)), accAt_writeResults, Nat.succ_mul]
    simp only [List.length_map, List.length_range, List.getElem_map, List.getElem_range, Pen.accAt_setCnt]
    by_cases now : e ≤ i ∧ i < e + min step (size - e)
    · rw [dif_pos now, if_neg (by omega), if_pos (by omega), same u _ beside, Nat.add_sub_cancel' now.1]
    · rw [dif_neg now]
      by_cases later : e + min step (size - e) ≤ i ∧ i < e + min step (size - e) + k * step ∧ i < size
      · rw [if_pos later, if_pos (by omega)]
      · rw [if_neg later, if_neg (by omega)]

/-- R77: each element of an accumulator written is the element's result; the others, the scratch and the registers
stay. -/
theorem vecAll_acc {q : Pen} (positive : 0 < step) (bounded : size ≤ 1024)
    (same : ∀ u e, u.beside q = q → elem u e = elem q e) :
    (∀ e, e < size → (vecAll elem (.acc n) sr sat step size q).accAt n e = (elem q e).1)
    ∧ (∀ m e, m ≠ n → e < 1024 → (vecAll elem (.acc n) sr sat step size q).accAt m e = q.accAt m e)
    ∧ (vecAll elem (.acc n) sr sat step size q).scratch = q.scratch
    ∧ (vecAll elem (.acc n) sr sat step size q).regs = q.regs := by
  have enough : size ≤ (size + step - 1) / step * step := by
    have := Nat.lt_div_mul_add (a := size + step - 1) positive
    omega
  refine ⟨fun e he => ?_, fun m e hm he => ?_, ?_, ?_⟩
  · rw [vecAll, accAt_vecSteps same e _ 0 q rfl, if_pos (by omega)]
  · exact vecSteps_acc_keeps (·.accAt m e) (fun u i v hi => Pen.accAt_setAcc_other hm he (by omega) u v)
      (fun _ _ _ => rfl) _ _ _
  · exact vecSteps_acc_keeps Pen.scratch (fun _ _ _ _ => rfl) (fun _ _ _ => rfl) _ _ _
  · exact vecSteps_acc_keeps Pen.regs (fun _ _ _ _ => rfl) (fun _ _ _ => rfl) _ _ _

end

/-! ## The first match (R85) -/

theorem firstMatch_spec (test : Nat → Bool) (n e : Nat) :
    e ≤ firstMatch test n e ∧ firstMatch test n e ≤ e + n
    ∧ (∀ i, e ≤ i → i < firstMatch test n e → test i = false)
    ∧ (firstMatch test n e < e + n → test (firstMatch test n e) = true) := by
  induction n generalizing e with
  | zero => exact ⟨Nat.le_refl e, Nat.le_refl e, fun i low high => absurd high (Nat.not_lt.mpr low), fun h => absurd h (Nat.lt_irrefl e)⟩
  | succ n ih =>
    rw [firstMatch]
    split
    · next hit => exact ⟨Nat.le_refl e, by omega, fun i low high => absurd high (Nat.not_lt.mpr low), fun _ => hit⟩
    · next miss =>
      obtain ⟨low, high, before, here⟩ := ih (e + 1)
      refine ⟨by omega, by omega, fun i hi h => ?_, fun h => here (by omega)⟩
      obtain rfl | later := Nat.eq_or_lt_of_le hi
      · exact Bool.eq_false_iff.mpr miss
      · exact before i later h

theorem Pen.regs_setCnt_setReg (q : Pen) (c : Cnt) (n : Nat) (v : Word64) :
    ((q.setCnt c).setReg n v).regs = (q.setReg n v).regs := by
  unfold Pen.setReg; split <;> rfl

/-! ## The instructions, clause by clause -/

section
variable {p : Fin 1024} {w : PenWord} {s : State} {r : Run} {d a b : Opnd} {q' : Pen}

section
variable (h : Issues s p r { d := 1, a := 3, modOk := fun m => m ≤ 15 && m % 4 != 3 } w)
  (hd : opndD (tileOf p) (s.pen p).past w = .ok d) (ha : opndA (tileOf p) (s.pen p).past w = .ok a)
include h hd ha

theorem Issues.red_mismatch (mismatch : d.shape ≠ some (reducedDims (w.mod.toNat % 4) a.dims)) :
    ∃ t, exec (.red p w) s = .next t ∧ Raised s t p r 0x04 0 ∧ OnlyPen p s t := by
  refine h.raises (by decide) ?_
  simp only [State.bodyView_pen]
  exact Try.bind₂_of_ok hd ha (Try.bind_of_error (need_false (by simpa using mismatch) _) _)

variable (fits : d.shape = some (reducedDims (w.mod.toNat % 4) a.dims)) (touched : touch s.mem (s.pen p).past [a] = .ok q')
include fits touched

theorem Issues.red_completes (apart : ∀ x y, d = .view x → a = .view y → overlap x y = false) :
    ∃ t, exec (.red p w) s = .next t
      ∧ t.pen p = vecAll (fun _ => redCalc s.mem a w.mod.toNat q') d w.sr w.sat 64 d.size q' ∧ OnlyPen p s t := by
  refine ⟨_, congrArg Host.Outcome.next (h.issue_ok (t := (s.bodyView p).setPen p _) ?_), State.pen_setPen_same _ _ _,
    OnlyPen.setPen_setPen s p _ _⟩
  simp only [State.bodyView_pen]
  refine Try.bind₂_of_ok hd ha ((Try.bind_of_ok (need_true (by simpa using fits) _) _).trans
    ((Try.bind_of_ok touched _).trans ?_))
  split
  · next x y => exact if_neg (by simp [apart x y rfl rfl])
  · rfl

theorem Issues.red_overlaps {x y : Placed} (hx : d = .view x) (hy : a = .view y) (meet : overlap x y = true) :
    exec (.red p w) s = .next { (s.bodyView p).setPen p (freeFill s.fresh x
      (vecAll (fun _ => redCalc s.mem a w.mod.toNat q') d w.sr w.sat 64 d.size q')) with fresh := s.fresh + 1 } := by
  refine congrArg Host.Outcome.next (h.issue_ok ?_)
  simp only [State.bodyView_pen]
  refine Try.bind₂_of_ok hd ha ((Try.bind_of_ok (need_true (by simpa using fits) _) _).trans
    ((Try.bind_of_ok touched _).trans ?_))
  subst hx hy
  exact if_pos meet

end

section
variable (h : Issues s p r { d := 1, a := 3 } w) (hd : opndD (tileOf p) (s.pen p).past w = .ok d)
  (ha : opndA (tileOf p) (s.pen p).past w = .ok a)
include h hd ha

theorem Issues.csum_mismatch (mismatch : d.shape ≠ a.shape) :
    ∃ t, exec (.csum p w) s = .next t ∧ Raised s t p r 0x04 0 ∧ OnlyPen p s t :=
  h.raisesPen (by decide) (Try.bind₂_of_ok hd ha (Try.bind_of_error (need_false (by simpa using mismatch) _) _))

variable (fits : d.shape = a.shape) (touched : touch s.mem (s.pen p).past [a] = .ok q')
include fits touched

theorem Issues.csum_floats (mode : intMode d [a] = none) : ∃ t, exec (.csum p w) s = .next t
    ∧ t.pen p = csumSteps s.mem a d w.sr w.sat d.size ((d.size + 63) / 64) 0 none [] q' ∧ OnlyPen p s t :=
  h.completes (Try.bind₂_of_ok hd ha ((Try.bind_of_ok (need_true (by simpa using fits) _) _).trans
    ((Try.bind_of_ok touched _).trans (by rw [mode]; rfl))))

theorem Issues.csum_ints {x : Placed} (mode : intMode d [a] = some x) : ∃ t, exec (.csum p w) s = .next t
    ∧ t.pen p = csumInt s.mem a x d.size ((d.size + 63) / 64) 0 0 q' ∧ OnlyPen p s t :=
  h.completes (Try.bind₂_of_ok hd ha ((Try.bind_of_ok (need_true (by simpa using fits) _) _).trans
    ((Try.bind_of_ok touched _).trans (by rw [mode]; rfl))))

end

/-- Operands A and B are compared as integers. -/
def bothInts (a b : Opnd) : Bool := a.fmt == some 12 && (b.fmt == none || b.fmt == some 12)

/-- FIND's test of an element. -/
def findHit (mem : Tab Byte) (w : PenWord) (a b : Opnd) (q : Pen) (e : Nat) : Bool :=
  if bothInts a b then intCond w.cnd.toNat (a.int mem q e) (b.int mem q e)
  else elemCond w.cnd.toNat (a.value mem q e).1 (b.value mem q e).1

/-- The special values of the elements that FIND reads as values. -/
def findMade (mem : Tab Byte) (w : PenWord) (a b : Opnd) (q : Pen) : Made :=
  if bothInts a b then {}
  else (List.range (min (firstMatch (findHit mem w a b q) a.size 0 + 1) a.size)).foldl
    (fun m e => m.plus ((a.value mem q e).2.plus (b.value mem q e).2)) {}

section
variable (h : Issues s p r { d := 4, a := 1, b := 15, cnds := 6 } w)
  (ha : opndA (tileOf p) (s.pen p).past w = .ok a) (hb : opndB (tileOf p) (s.pen p).past w = .ok b)
include h ha hb

theorem Issues.find_mismatch (mismatch : b.matches a.shape = false) :
    ∃ t, exec (.find p w) s = .next t ∧ Raised s t p r 0x04 0 ∧ OnlyPen p s t :=
  h.raisesPen (by decide) (Try.bind₂_of_ok ha hb (Try.bind_of_error (need_false mismatch _) _))

/-- FIND writes the first match. -/
theorem Issues.find_completes (fits : b.matches a.shape = true) (touched : touch s.mem (s.pen p).past [a, b] = .ok q') :
    ∃ t, exec (.find p w) s = .next t
      ∧ t.pen p = (q'.setCnt (q'.cnt.made (findMade s.mem w a b q'))).setReg w.d.toNat
          (BitVec.ofNat 64 (firstMatch (findHit s.mem w a b q') a.size 0)) ∧ OnlyPen p s t :=
  h.completes
    (Try.bind₂_of_ok ha hb ((Try.bind_of_ok (need_true fits _) _).trans (Try.bind_of_ok touched _)))

end

section
variable (h : Issues s p r { d := 1, a := 4, b := 4, c := 4 } w) (hd : opndD (tileOf p) (s.pen p).past w = .ok d)
include h hd

theorem Issues.rng_format (other : d.fmt ≠ some 0) :
    ∃ t, exec (.rng p w) s = .next t ∧ Raised s t p r 0x03 0 ∧ OnlyPen p s t :=
  h.raisesPen (by decide) ((Try.bind_of_ok hd _).trans (Try.bind_of_error (need_false (by simpa using other) _) _))

theorem Issues.rng_completes (fp32 : d.fmt = some 0) : ∃ t, exec (.rng p w) s = .next t
    ∧ t.pen p = vecAll (fun _ e => (rngValue ((s.pen p).reg w.a.toNat) ((s.pen p).reg w.b.toNat)
        ((s.pen p).reg w.c.toNat) e, {})) d false false 64 d.size (s.pen p).past ∧ OnlyPen p s t :=
  h.completes ((Try.bind_of_ok hd _).trans (Try.bind_of_ok (need_true (by simpa using fp32) _) _))

end

/-- The first element of A that RCHK finds at fault, with its test. -/
def rchkFault (mem : Tab Byte) (w : PenWord) (a : Opnd) (q : Pen) : Option (Nat × Nat) :=
  rchkFirst w.mod.toNat (low32 (scalarOrImm q w w.bk.toNat w.b.toNat)) (fun e => (a.value mem q e).1) a.size 0

theorem rchkFault_eq (mem : Tab Byte) (w : PenWord) (a : Opnd) (q : Pen) : rchkFault mem w a q =
    rchkFirst w.mod.toNat (low32 (if w.bk = 3 then w.imm else q.reg w.b.toNat)) (fun e => (a.value mem q e).1) a.size 0 := by
  rw [rchkFault, scalarOrImm_eq]

/-- RCHK behind its operand's sum lanes: the elements, then the saturation count. -/
def rchkJudge (mem : Tab Byte) (w : PenWord) (a : Opnd) (q : Pen) : Try Pen :=
  match rchkFault mem w a q with
  | some (e, t) => .error (.exc 0x13 (e % 2 ^ 32 + t * 2 ^ 32))
  | none =>
    if w.mod.getLsbD 2 ∧ q.satc > (q.reg w.c.toNat).toNat then .error (.exc 0x13 (2 * 2 ^ 32))
    else .ok (q.setCnt (q.cnt.made ((List.range a.size).foldl (fun m e => m.plus (a.value mem q e).2) {})))

section
variable (h : Issues s p r { a := 3, b := 12, c := 4, modOk := fun m => m ≤ 7 } w)
  (ha : opndA (tileOf p) (s.pen p).past w = .ok a) (touched : touch s.mem (s.pen p).past [a] = .ok q')
include h ha touched

theorem Issues.rchk_raises {d : Nat} (judged : rchkJudge s.mem w a q' = .error (.exc 0x13 d)) :
    ∃ t, exec (.rchk p w) s = .next t ∧ Raised s t p r 0x13 (BitVec.ofNat 64 d) ∧ OnlyPen p s t :=
  h.raisesPen (by decide) ((Try.bind_of_ok ha _).trans ((Try.bind_of_ok touched _).trans judged))

theorem Issues.rchk_completes {v : Pen} (judged : rchkJudge s.mem w a q' = .ok v) :
    ∃ t, exec (.rchk p w) s = .next t ∧ t.pen p = v ∧ OnlyPen p s t :=
  h.completes ((Try.bind_of_ok ha _).trans ((Try.bind_of_ok touched _).trans judged))

end

end

/-- Settles O16: the instructions clause by clause, and the elements that a vector step writes. -/
theorem reductionsAndChecksComplete : Obligations.ReductionsAndChecksComplete := by
  unfold Obligations.ReductionsAndChecksComplete
  refine ⟨fun p w s r q' d a b => ⟨fun h hd ha => ⟨h.red_mismatch hd ha, fun fits touched =>
      ⟨h.red_completes hd ha fits touched, fun x y hx hy meet => ?_⟩⟩,
    fun h hd ha => ⟨h.csum_mismatch hd ha, fun fits touched =>
      ⟨h.csum_floats hd ha fits touched, fun x => h.csum_ints hd ha fits touched⟩⟩,
    fun h ha hb => ⟨h.find_mismatch ha hb, fun fits touched => ?_⟩,
    fun h hd => ⟨h.rng_format hd, h.rng_completes hd⟩,
    fun h ha touched => ⟨fun e test fault => ?_, fun sound above => ?_, fun sound below => ?_⟩⟩,
    fun elem n step size sr sat q => vecAll_acc⟩
  · exact ⟨_, h.red_overlaps hd ha fits touched hx hy meet, State.pen_setPen_same _ _ _, rfl,
      (OnlyPen.setPen_setPen s p _ _).2⟩
  · obtain ⟨t, runs, pen, only⟩ := h.find_completes ha hb fits touched
    obtain ⟨-, last, before, here⟩ := firstMatch_spec (findHit s.mem w a b q') a.size 0
    rw [Nat.zero_add] at last here
    refine ⟨t, _, runs, only, ?_, last, fun e => before e (Nat.zero_le e), here, fun ints => ?_⟩
    · rw [pen, Pen.regs_setCnt_setReg]
    · rw [pen, findMade, if_pos (show bothInts a b = true from ints)]
      rfl
  · have first : rchkFault s.mem w a q' = some (e, test) :=
      (rchkFault_eq _ _ _ _).trans fault
    exact h.rchk_raises ha touched (by rw [rchkJudge, first])
  · have first : rchkFault s.mem w a q' = none := (rchkFault_eq _ _ _ _).trans sound
    have judged : w.mod.getLsbD 2 = true ∧ (q'.reg w.c.toNat).toNat < q'.satc := by
      simpa only [Bool.and_eq_true, decide_eq_true_eq] using above
    exact h.rchk_raises ha touched (by rw [rchkJudge, first]; exact if_pos judged)
  · have first : rchkFault s.mem w a q' = none := (rchkFault_eq _ _ _ _).trans sound
    have judged : ¬ (w.mod.getLsbD 2 = true ∧ (q'.reg w.c.toNat).toNat < q'.satc) := by
      rw [← decide_eq_true_eq (p := _ < _), ← Bool.and_eq_true, below]; decide
    obtain ⟨t, runs, pen, only⟩ := h.rchk_completes ha touched (by rw [rchkJudge, first]; exact if_neg judged)
    exact ⟨t, runs, only, by rw [pen]; rfl⟩

end Sys2Proof.Machine
end

section
/-! SUPPORT. The index instructions and the online softmax (R84, R85); and from that statement O17. -/

namespace Sys2Proof.Machine

-- One theorem after another: checked side by side, each in a thread of its own, they exceed the memory of the check.
set_option Elab.async false

/-! ## The steps of GATH and SCAT (R85) -/

theorem indexOf_cases (mem : Tab Byte) (q : Pen) (b : Opnd) (e n : Nat) :
    (∃ i, indexOf mem q b e n = .ok i) ∨ indexOf mem q b e n = raise 0x04 := by
  unfold indexOf
  dsimp only
  split
  · exact .inl ⟨_, rfl⟩
  · exact .inr rfl

theorem gathSteps_cases (mem : Tab Byte) (d a b : Opnd) (codes : Option Placed) (sr sat : Bool) (n e : Nat)
    (pend : List F32) (q : Pen) :
    (∃ v, gathSteps mem d a b codes sr sat n e pend q = .ok v)
      ∨ gathSteps mem d a b codes sr sat n e pend q = raise 0x04 := by
  induction n generalizing e pend q with
  | zero => exact .inl ⟨q, rfl⟩
  | succ n ih =>
    rw [gathSteps]
    obtain ⟨i, found⟩ | outside := indexOf_cases mem q b e a.size
    · rw [Try.bind_of_ok found]
      cases codes with
      | none => exact ih _ _ _
      | some x => exact ih _ _ _
    · exact .inr (Try.bind_of_error outside _)

theorem scatSteps_cases (mem : Tab Byte) (x : Placed) (a b : Opnd) (codes sr sat : Bool) (n e : Nat) (q : Pen) :
    (∃ v, scatSteps mem x a b codes sr sat n e q = .ok v) ∨ scatSteps mem x a b codes sr sat n e q = raise 0x04 := by
  induction n generalizing e q with
  | zero => exact .inl ⟨q, rfl⟩
  | succ n ih =>
    rw [scatSteps]
    obtain ⟨i, found⟩ | outside := indexOf_cases mem q b e x.v.count
    · rw [Try.bind_of_ok found]
      cases codes with
      | true => exact ih _ _
      | false => exact ih _ _
    · exact .inr (Try.bind_of_error outside _)

/-! ## The instructions, clause by clause -/

section
variable {p : Fin 1024} {w : PenWord} {s : State} {r : Run} {d a b : Opnd} {q' : Pen}

/-- TOPK's k. -/
def topkCount (w : PenWord) (q : Pen) : Nat := (low32 (scalarOrImm q w w.bk.toNat w.b.toNat)).toNat

/-- The values and indices of rank below k, in order of rank. -/
def topkBest (mem : Tab Byte) (a : Opnd) (k : Nat) (q : Pen) : List (F32 × Nat) :=
  (((List.range a.size).map fun e => a.value mem q e).zipIdx).foldl (fun l y => topkInsert (y.1.1, y.2) k l) []

/-- What TOPK leaves: the values, padded with −Inf, and the indices, padded with −1. -/
def topkEnd (mem : Tab Byte) (w : PenWord) (d a : Opnd) (x : Placed) (k : Nat) (q : Pen) : Pen :=
  let top := topkBest mem a k q
  let ws := top.map (·.1) ++ List.replicate (k - top.length) (inf32 true)
  x.setCodes (vecStep (fun _ e => (ws.getD e 0, {})) d w.sr w.sat 0 k []
    (q.setCnt (((List.range a.size).map fun e => a.value mem q e).foldl (fun c y => c.made y.2) q.cnt))).2 0
    (top.map (·.2) ++ List.replicate (k - top.length) 0xFFFFFFFF)

section
variable (h : Issues s p r { d := 1, a := 1, b := 12, c := 1 } w) (hd : opndD (tileOf p) (s.pen p).past w = .ok d)
  (h1 : (viewOf ((s.pen p).past.view w.c.toNat)).space ≠ 1) (h2 : (viewOf ((s.pen p).past.view w.c.toNat)).space ≠ 2)
  (ha : opndA (tileOf p) (s.pen p).past w = .ok a) {x : Placed} (hc : opndC (tileOf p) (s.pen p).past w = .ok (.view x))
include h hd h1 h2 ha hc

theorem Issues.topk_format (other : isFloat (a.fmt.getD 0) = false ∨ x.v.fmt ≠ 12) :
    ∃ t, exec (.topk p w) s = .next t ∧ Raised s t p r 0x03 0 ∧ OnlyPen p s t := by
  refine h.raisesPen (by decide) (Try.bind₄_of_ok hd (need_true (decide_eq_true ⟨h1, h2⟩) _) ha hc (Try.bind_of_error (need_false ?_ _) _))
  obtain no | no := other
  · simp [no]
  · simp [Opnd.fmt, no]

variable (float : isFloat (a.fmt.getD 0) = true) (index : x.v.fmt = 12)
include float index

theorem Issues.topk_shape (unfit : topkCount w (s.pen p).past = 0 ∨ 1024 < topkCount w (s.pen p).past ∨ 2 ^ 20 < a.size
      ∨ d.size ≠ topkCount w (s.pen p).past ∨ x.v.count ≠ topkCount w (s.pen p).past) :
    ∃ t, exec (.topk p w) s = .next t ∧ Raised s t p r 0x04 0 ∧ OnlyPen p s t := by
  have ints : (Opnd.view x).fmt = some 12 := congrArg some index
  refine h.raisesPen (by decide) (Try.bind₄_of_ok hd (need_true (decide_eq_true ⟨h1, h2⟩) _) ha hc
    ((Try.bind_of_ok (need_true (by rw [float, ints]; rfl) _) _).trans
      (Try.bind_of_error (need_false (Bool.eq_false_iff.mpr fun fit => ?_) _) _)))
  simp only [Bool.and_eq_true, decide_eq_true_eq, beq_iff_eq] at fit
  obtain ⟨⟨⟨size, positive, few⟩, values⟩, indices⟩ := fit
  change x.v.count = _ at indices
  unfold topkCount at unfit
  omega

theorem Issues.topk_completes (positive : 1 ≤ topkCount w (s.pen p).past) (few : topkCount w (s.pen p).past ≤ 1024)
    (size : a.size ≤ 2 ^ 20) (values : d.size = topkCount w (s.pen p).past)
    (indices : x.v.count = topkCount w (s.pen p).past) (touched : touch s.mem (s.pen p).past [a] = .ok q') :
    ∃ t, exec (.topk p w) s = .next t ∧ t.pen p = topkEnd s.mem w d a x (topkCount w (s.pen p).past) q'
      ∧ OnlyPen p s t := by
  have ints : (Opnd.view x).fmt = some 12 := congrArg some index
  refine h.completes (Try.bind₄_of_ok hd (need_true (decide_eq_true ⟨h1, h2⟩) _) ha hc
    ((Try.bind_of_ok (need_true (by rw [float, ints]; rfl) _) _).trans
      ((Try.bind_of_ok (need_true ?_ _) _).trans (Try.bind_of_ok touched _))))
  have indices : (Opnd.view x).size = topkCount w (s.pen p).past := indices
  simp only [Bool.and_eq_true, decide_eq_true_eq, beq_iff_eq]
  exact ⟨⟨⟨size, positive, few⟩, values⟩, indices⟩

end

section
variable (h : Issues s p r { d := 1, a := 1, b := 1 } w) (hd : opndD (tileOf p) (s.pen p).past w = .ok d)
  (ha : opndA (tileOf p) (s.pen p).past w = .ok a) (hb : opndB (tileOf p) (s.pen p).past w = .ok b)
include h hd ha hb

theorem Issues.index_format (other : b.fmt ≠ some 12) :
    (∃ t, exec (.gath p w) s = .next t ∧ Raised s t p r 0x03 0 ∧ OnlyPen p s t)
    ∧ ∃ t, exec (.scat p w) s = .next t ∧ Raised s t p r 0x03 0 ∧ OnlyPen p s t :=
  have refused : (b.fmt == some 12) = false := by simpa using other
  ⟨h.raisesPen (by decide) (Try.bind₃_of_ok hd ha hb (Try.bind_of_error (need_false refused _) _)),
    h.raisesPen (by decide) (Try.bind₃_of_ok hd ha hb (Try.bind_of_error (need_false refused _) _))⟩

variable (int : b.fmt = some 12)
include int

theorem Issues.gath_shape (mismatch : b.shape ≠ d.shape) :
    ∃ t, exec (.gath p w) s = .next t ∧ Raised s t p r 0x04 0 ∧ OnlyPen p s t :=
  h.raisesPen (by decide) (Try.bind₃_of_ok hd ha hb ((Try.bind_of_ok (need_true (by simpa using int) _) _).trans
    (Try.bind_of_error (need_false (by simpa using mismatch) _) _)))

theorem Issues.scat_shape (mismatch : b.shape ≠ a.shape) :
    ∃ t, exec (.scat p w) s = .next t ∧ Raised s t p r 0x04 0 ∧ OnlyPen p s t :=
  h.raisesPen (by decide) (Try.bind₃_of_ok hd ha hb ((Try.bind_of_ok (need_true (by simpa using int) _) _).trans
    (Try.bind_of_error (need_false (by simpa using mismatch) _) _)))

variable (touched : touch s.mem (s.pen p).past [a, b] = .ok q')
include touched

theorem Issues.gath_ends (fits : b.shape = d.shape) :
    (∀ v, gathSteps s.mem d a b (intMode d [a]) w.sr w.sat d.size 0 [] q' = .ok v →
      ∃ t, exec (.gath p w) s = .next t ∧ t.pen p = v ∧ OnlyPen p s t)
    ∧ (gathSteps s.mem d a b (intMode d [a]) w.sr w.sat d.size 0 [] q' = raise 0x04 →
      ∃ t, exec (.gath p w) s = .next t ∧ Raised s t p r 0x04 0 ∧ OnlyPen p s t) := by
  have ready : need (b.shape == d.shape) 0x04 = .ok () := need_true (by simpa using fits) _
  have format : need (b.fmt == some 12) 0x03 = .ok () := need_true (by simpa using int) _
  refine ⟨fun v steps => h.completes ?_, fun steps => h.raisesPen (by decide) ?_⟩
  · exact Try.bind₃_of_ok hd ha hb (Try.bind₃_of_ok format ready touched steps)
  · exact Try.bind₃_of_ok hd ha hb (Try.bind₃_of_ok format ready touched steps)

theorem Issues.scat_ends (fits : b.shape = a.shape) {x : Placed} (hx : d = .view x) :
    (∀ v, scatSteps s.mem x a b (x.v.fmt == 12 && a.fmt == some 12) w.sr w.sat a.size 0 q' = .ok v →
      ∃ t, exec (.scat p w) s = .next t ∧ t.pen p = v ∧ OnlyPen p s t)
    ∧ (scatSteps s.mem x a b (x.v.fmt == 12 && a.fmt == some 12) w.sr w.sat a.size 0 q' = raise 0x04 →
      ∃ t, exec (.scat p w) s = .next t ∧ Raised s t p r 0x04 0 ∧ OnlyPen p s t) := by
  subst hx
  have ready : need (b.shape == a.shape) 0x04 = .ok () := need_true (by simpa using fits) _
  have format : need (b.fmt == some 12) 0x03 = .ok () := need_true (by simpa using int) _
  refine ⟨fun v steps => h.completes ?_, fun steps => h.raisesPen (by decide) ?_⟩
  · exact Try.bind₃_of_ok hd ha hb (Try.bind₃_of_ok format ready touched steps)
  · exact Try.bind₃_of_ok hd ha hb (Try.bind₃_of_ok format ready touched steps)

end

theorem Issues.osm_completes {m l f : Placed} (h : Issues s p r { d := 2, a := 1, b := 1, c := 1 } w)
    (hm : (opndA (tileOf p) (s.pen p).past w).bind osmView = .ok m)
    (hl : (opndB (tileOf p) (s.pen p).past w).bind osmView = .ok l)
    (hf : (opndC (tileOf p) (s.pen p).past w).bind osmView = .ok f)
    (touched : touch s.mem (s.pen p).past [.view m, .view l] = .ok q') : ∃ t, exec (.osm p w) s = .next t
      ∧ t.pen p = ((List.range 32).foldl (fun q i => osmRow w.d.toNat (low32 w.imm) m l f i q) q').voidAcc w.d.toNat
      ∧ OnlyPen p s t :=
  h.completes (Try.bind₃_of_ok hm hl hf (Try.bind_of_ok touched _))

end

/-- Settles O17: the instructions clause by clause, and the steps of GATH and SCAT by induction over the elements. -/
theorem indexInstructionsComplete : Obligations.IndexInstructionsComplete := by
  unfold Obligations.IndexInstructionsComplete
  refine ⟨fun p w s r q' d a b => ⟨fun h hd h1 h2 ha x hc => ?_, fun h hd ha hb => ⟨h.index_format hd ha hb,
      h.gath_shape hd ha hb, h.scat_shape hd ha hb, fun int fits touched => h.gath_ends hd ha hb int touched fits,
      fun int fits touched x => h.scat_ends hd ha hb int touched fits⟩,
    fun h m l f hm hl hf => h.osm_completes hm hl hf⟩, fun mem d a b codes x raw sr sat n e pend q =>
      ⟨gathSteps_cases mem d a b codes sr sat n e pend q, scatSteps_cases mem x a b raw sr sat n e q⟩⟩
  rw [← scalarOrImm_eq]
  exact ⟨h.topk_format hd h1 h2 ha hc, fun float index => ⟨h.topk_shape hd h1 h2 ha hc float index,
    h.topk_completes hd h1 h2 ha hc float index⟩⟩

end Sys2Proof.Machine
end

section
/-! SUPPORT. What a pen instruction can touch (R94, R65–R89); and from that statement O18. -/

namespace Sys2Proof.Machine

-- One theorem after another: checked side by side, each in a thread of its own, they exceed the memory of the check.
set_option Elab.async false

/-- From s to t nothing changed but pen p, objects, the supply of free values and the armed MAC fault. -/
def Beside (p : Nat) (s t : State) : Prop :=
  { t with pens := s.pens, objs := s.objs, fresh := s.fresh, macFault := s.macFault } = s ∧ ∀ k, k ≠ p → t.pen k = s.pen k

section
variable {p : Nat} {s t u : State}

theorem Beside.refl (p : Nat) (s : State) : Beside p s s := ⟨rfl, fun _ _ => rfl⟩

theorem Beside.trans (h : Beside p s t) (k : Beside p t u) : Beside p s u := by
  obtain ⟨parts, pens⟩ := h
  obtain ⟨parts', pens'⟩ := k
  refine ⟨?_, fun i hi => (pens' i hi).trans (pens i hi)⟩
  rw [← parts'] at parts
  exact parts

theorem Beside.setPen (p : Nat) (s : State) (q : Pen) : Beside p s (s.setPen p q) :=
  ⟨rfl, (OnlyPen.setPen s p q).2⟩

theorem Beside.count (p : Nat) (s : State) (i j n : Nat) : Beside p s (s.count i j n) := by
  unfold State.count
  split
  · exact ⟨rfl, fun _ _ => rfl⟩
  · exact .refl p s

theorem Beside.except (p : Nat) (s : State) (order index code detail : Nat) :
    Beside p s (s.except p order index code detail) := by
  unfold State.except
  dsimp only
  split
  · exact .refl p s
  · next r _ =>
    have counted : Beside p s (if code = 0x10 ∨ code = 0x11 then s.count 0x7031 (tileOf p + 1) 1 else s) := by
      split
      · exact .count p s _ _ _
      · exact .refl p s
    split
    · exact counted
    · exact counted.trans (.setPen p _ _)

/-- A part of an instruction that, where it completes, has touched no more than that. -/
def EndsBeside (p : Nat) (s : State) (o : Try State) : Prop := ∀ t, o = .ok t → Beside p s t

theorem EndsBeside.ok (h : Beside p s t) : EndsBeside p s (.ok t) := fun _ e => by cases e; exact h

theorem EndsBeside.stops (e : Stop) : EndsBeside p s (.error e) := fun _ h => nomatch h

theorem EndsBeside.bind {α : Type} {x : Try α} {f : α → Try State} (h : ∀ a, EndsBeside p s (f a)) :
    EndsBeside p s (x >>= f) := fun t done =>
  have ⟨a, _, done⟩ := Try.bind_eq_ok.mp done
  h a t done

theorem EndsBeside.ite {c : Prop} [Decidable c] {x y : Try State} (h : EndsBeside p s x) (k : EndsBeside p s y) :
    EndsBeside p s (if c then x else y) := by
  split <;> assumption

/-- A guard that stops. -/
theorem EndsBeside.guard {α : Type} {c : Prop} [Decidable c] {e : Stop} {f : α → Try State} {x : Try State}
    (h : EndsBeside p s x) : EndsBeside p s (if c then Except.error e >>= f else x) :=
  .ite (fun _ done => nomatch done) h

theorem EndsBeside.onPen (f : State → Pen → Try Pen) : EndsBeside p s (onPen p f s) := fun t done => by
  unfold Machine.onPen at done
  cases g : f s (s.pen p) with
  | error e => rw [g] at done; cases done
  | ok q => rw [g] at done; cases done; exact .setPen p s q

theorem EndsBeside.openRead (slot : Nat) (b : BaleRead) : EndsBeside p s (s.openRead p slot b) :=
  .ite (.stops _) (.ok (.setPen p s _))

theorem Beside.settle {o : Try State} (h : EndsBeside p s o) : Beside p s (s.settle p o) := by
  cases o with
  | ok t => exact h t rfl
  | error e =>
    cases e with
    | exc code detail => exact .except p s _ _ code detail
    | stall why => exact .setPen p s _

/-- An instruction touches no more than its body does. -/
theorem Beside.issue {f : Form} {w : PenWord} {x : Bool} {body : State → Try State}
    (h : ∀ u, EndsBeside p u (body u)) : Beside p s (issue p f w x body s) := by
  unfold Machine.issue
  dsimp only
  split
  · exact .refl p s
  · split
    · exact .refl p s
    · split
      · exact .except p s _ _ _ _
      · exact .settle (.bind fun _ => .guard (.guard fun t done => (Beside.setPen p s _).trans (h _ t done)))

end

/-! ## The instructions -/

/-- A command that issues a body which touches no more than that. -/
def IssuesBeside (p : Nat) (s : State) (i : Instr) : Prop :=
  ∃ f w x body, exec i s = .next (issue p f w x body s) ∧ ∀ u, EndsBeside p u (body u)

section
variable (p : Fin 1024) (w : PenWord) (s : State)

theorem endJob_beside : IssuesBeside p s (.endJob p w) :=
  ⟨_, _, _, _, rfl, fun u => by
    dsimp only
    split
    · exact .ok (.refl _ _)
    · exact .ite (.stops _) (.ok ((Beside.count _ _ _ _ _).trans ((Beside.count _ _ _ _ _).trans (.setPen _ _ _))))⟩

theorem bld_beside : IssuesBeside p s (.bld p w) :=
  ⟨_, _, _, _, rfl, fun _ => .bind fun _ => .guard <| .bind fun _ => .bind fun _ => .bind fun _ => .bind fun _ =>
    .bind fun _ => .openRead _ _⟩

theorem take_beside : IssuesBeside p s (.take p w) :=
  ⟨_, _, _, _, rfl, fun _ => .bind fun _ => .bind fun _ => .bind fun _ => .bind fun _ => .bind fun _ => .bind fun _ =>
    .openRead _ _⟩

theorem emit_beside : IssuesBeside p s (.emit p w) :=
  ⟨_, _, _, _, rfl, fun _ => .bind fun _ => .bind fun _ => .bind fun _ => .bind fun _ => .bind fun _ =>
    .ok (.setPen _ _ _)⟩

theorem red_beside : IssuesBeside p s (.red p w) :=
  ⟨_, _, _, _, rfl, fun u => .bind fun d => .bind fun a => .bind fun _ => .bind fun q => by
    dsimp only
    split
    · exact .ite (.ok ⟨rfl, (OnlyPen.setPen u p _).2⟩) (.ok (.setPen _ _ _))
    · exact .ok (.setPen _ _ _)⟩

/-- An MMA uses up an armed fault beside. -/
theorem mma_beside {t : State} (runs : exec (.mma p w) s = .next t) : Beside p s t := by
  rw [exec_mma, execMma_eq] at runs
  cases runs
  have issued : Beside p s (issue p mmaForm w false (mmaBody p (s.armed p) w) s) := .issue fun _ => .onPen _
  split
  · exact issued.trans ⟨rfl, fun _ _ => rfl⟩
  · exact issued

/-- Each pen instruction but BST and MMA, in the order of Table 04.7. -/
theorem penCommands_beside : ∀ c ∈ penCommands p w, c.1 ≠ .bst p w → c.1 = .mma p w ∨ IssuesBeside p s c.1 := by
  unfold penCommands
  refine List.forall_mem_cons.mpr ⟨fun _ => .inr ⟨_, _, _, _, rfl, fun u => .ok (.refl _ u)⟩, ?_⟩
  refine List.forall_mem_cons.mpr ⟨fun _ => .inr (endJob_beside p w s), ?_⟩
  iterate 3 refine List.forall_mem_cons.mpr ⟨fun _ => .inr ⟨_, _, _, _, rfl, fun _ => .onPen _⟩, ?_⟩
  refine List.forall_mem_cons.mpr ⟨fun _ => .inr ⟨_, _, _, _, rfl, fun _ => .stops _⟩, ?_⟩
  iterate 11 refine List.forall_mem_cons.mpr ⟨fun _ => .inr ⟨_, _, _, _, rfl, fun _ => .onPen _⟩, ?_⟩
  refine List.forall_mem_cons.mpr ⟨fun _ => .inr (bld_beside p w s), ?_⟩
  refine List.forall_mem_cons.mpr ⟨fun _ => .inr (take_beside p w s), ?_⟩
  refine List.forall_mem_cons.mpr ⟨fun other => absurd rfl other, ?_⟩
  refine List.forall_mem_cons.mpr ⟨fun _ => .inr (emit_beside p w s), ?_⟩
  refine List.forall_mem_cons.mpr ⟨fun _ => .inr ⟨_, _, _, _, rfl, fun _ => .onPen _⟩, ?_⟩
  refine List.forall_mem_cons.mpr ⟨fun _ => .inl rfl, ?_⟩
  iterate 6 refine List.forall_mem_cons.mpr ⟨fun _ => .inr ⟨_, _, _, _, rfl, fun _ => .onPen _⟩, ?_⟩
  refine List.forall_mem_cons.mpr ⟨fun _ => .inr (red_beside p w s), ?_⟩
  iterate 8 refine List.forall_mem_cons.mpr ⟨fun _ => .inr ⟨_, _, _, _, rfl, fun _ => .onPen _⟩, ?_⟩
  exact List.forall_mem_nil _

end

/-- Settles O18: every body touches its own pen, objects and free values alone, and so does issuing it. -/
theorem penInstructionsTouchOnlyTheirPen : Obligations.PenInstructionsTouchOnlyTheirPen := by
  unfold Obligations.PenInstructionsTouchOnlyTheirPen
  intro p w i f s t listed other runs
  have beside : Beside p s t := by
    obtain rfl | ⟨f, w, x, body, issues, ends⟩ := penCommands_beside p w s (i, f) listed other
    · exact mma_beside p w s runs
    · rw [issues] at runs
      cases runs
      exact .issue ends
  obtain ⟨parts, pens⟩ := beside
  have mem : t.mem = s.mem := (congrArg State.mem parts :)
  exact ⟨parts, fun a => by rw [State.byte, State.byte, mem], pens⟩

end Sys2Proof.Machine
end

section
/-! SUPPORT. The cycle bound and the MAC fault injection (R94, Table 03.5); and from that statement O19. -/

namespace Sys2Proof.Machine

-- One theorem after another: checked side by side, each in a thread of its own, they exceed the memory of the check.
set_option Elab.async false

/-! ## The cycle bound (R94) -/

theorem State.except_idle {s : State} {p : Nat} (idle : (s.pen p).run = none) (order index code detail : Nat) :
    s.except p order index code detail = s := by
  simp only [State.except, idle]

/-- A run that has not ended, its PC in the image or not, held or not, ends by an exception that does not count. -/
theorem except_live {s : State} {p : Nat} {r : Run} (run : (s.pen p).run = some r) (live : r.ended = none) {code : Nat}
    (uncounted : code ≠ 0x10 ∧ code ≠ 0x11) (order index detail : Nat) :
    s.except p order index code detail = s.setPen p { s.pen p with run := some { r with
      ended := some (.exc code index (BitVec.ofNat 64 detail)), endedAt := order, acc := none
      record := r.record ++ [.exc code index] } } := by
  simp [State.except, run, live, uncounted, Run.keepsEnd]

theorem cycleBound_ends {p : Fin 1024} {s : State} {r : Run} (run : (s.pen p).run = some r) (live : r.ended = none) :
    Done (.cycleBoundExpiry p) s fun t => Raised s t p r 0x0A 0 ∧ OnlyPen p s t := by
  have order : (s.pen p).order = r.issued := by rw [Pen.order, run]
  refine ⟨_, congrArg Host.Outcome.next (except_live run live (by decide) _ _ 0), ?_, OnlyPen.setPen s p _⟩
  rw [Raised, State.pen_setPen_same, order]
  rfl

/-! ## The MAC fault injection (Table 03.5) -/

/-- The object's row. -/
theorem objectRow_macFault : ∃ r, objectRow 0xF030 0 = some r ∧ r.access = .wo ∧ r.type = .u32 ∧ r.min = 0 ∧ r.max = 4294967295 :=
  ⟨_, rfl, rfl, rfl, rfl, rfl⟩

theorem writeFits_macFault (s : State) (v : BitVec 32) : WriteFits s 0xF030 0 (.num v.toNat) := by
  obtain ⟨r, row, access, type, low, high⟩ := objectRow_macFault
  have := v.isLt
  refine ⟨r, row, by simp [access], by rw [type]; rfl, by rw [type]; exact v.isLt, ?_⟩
  simp only [inRange, type, low, high]
  simp
  omega

/-- The words that the rule accepts. -/
def State.faultWordOk (s : State) (n : Nat) : Prop :=
  (field n 28 4 = 0 ∧ field n 12 6 ≤ 32 ∧ field n 6 6 ≤ 32 ∧ ¬ (field n 12 6 = 32 ∧ field n 6 6 = 32)
    ∧ s.fenced (field n 18 10) = false) ∧ field n 0 6 ≤ 31

theorem macFaultRule_ok {s : State} {n : Nat} (ok : s.faultWordOk n) : macFaultRule s n = 0 := by
  obtain ⟨⟨reserved, row, col, both, unfenced⟩, lane⟩ := ok
  refine if_neg ?_
  rw [unfenced]
  simp only [Bool.false_eq_true, or_false]
  omega

theorem macFaultRule_refused {s : State} {n : Nat} (bad : ¬ s.faultWordOk n) : macFaultRule s n = 0xF0000020 := by
  refine if_pos ?_
  unfold State.faultWordOk at bad
  cases fenced : s.fenced (field n 18 10) with
  | true => simp
  | false => simp only [fenced, and_true] at bad; omega

/-- The state that an accepted word leaves. -/
def State.armFault (s : State) (v : BitVec 32) : State :=
  { s.setNum 0xF030 0 v.toNat with macFault := some v }

theorem exec_macFaultInjection_eq {s : State} {slot : Nat} (v : BitVec 32) (h : Accepts s slot opWrite 0xF030 0) :
    exec (.macFaultInjection slot v) s = .next (if macFaultRule s v.toNat ≠ 0
      then s.answer slot opWrite 0xF030 0 (macFaultRule s v.toNat)
      else (s.armFault v).answerWrite slot 0xF030 0 0) := by
  obtain ⟨r, row, written⟩ := writeWith_eq h (writeFits_macFault s v) (fun s => macFaultRule s v.toNat)
    (fun s r => s.storeValue slot 0xF030 0 (.num v.toNat) r)
  obtain ⟨_, row', access, -⟩ := objectRow_macFault
  obtain rfl := Option.some.inj (row.symm.trans row')
  have put : s.storeValue slot 0xF030 0 (.num v.toNat) r = (s.armFault v).answerWrite slot 0xF030 0 0 := by
    simp [State.storeValue, State.acceptWrite, access, State.putInForce, State.armFault, State.setNum]
  rw [← put]
  exact congrArg Host.Outcome.next written

/-- Settles O19: the run's end, and the injection by what its rule says of the word. -/
theorem cycleBoundAndMacFault : Obligations.CycleBoundAndMacFault := by
  unfold Obligations.CycleBoundAndMacFault
  refine fun p s => ⟨fun r => cycleBound_ends, fun idle => congrArg Host.Outcome.next (State.except_idle idle _ _ _ _),
    fun slot v h => ⟨fun good lane => ?_, fun bad => ?_⟩⟩
  · have rule : macFaultRule s v.toNat = 0 := macFaultRule_ok ⟨good, lane⟩
    refine ⟨s.armFault v, ?_, rfl, rfl⟩
    rw [exec_macFaultInjection_eq v h, rule]
    rfl
  · have rule : macFaultRule s v.toNat = 0xF0000020 := macFaultRule_refused bad
    refine ⟨s, ?_, rfl⟩
    rw [exec_macFaultInjection_eq v h, rule]
    rfl

end Sys2Proof.Machine
end

section
/-! SUPPORT. Bale reads: BLD and TAKE open them, an arrival closes them (R69, R78, R81, R107, R116, R118); and from that
statement O12. -/

namespace Sys2Proof.Machine

-- One theorem after another: checked side by side, each in a thread of its own, they exceed the memory of the check.
set_option Elab.async false

/-! ## What a body sees of the X unit -/

section
variable {s : State} {p : Nat} {r : Run}

theorem Runs.runOf_past (h : Runs s p r) : runOf (s.pen p).past = .ok { r with issued := r.issued + 1 } := by
  simp [runOf, h.1]

theorem Runs.xWaits_bodyView (h : Runs s p r) : (s.bodyView p).xWaits p = s.xWaits p := by
  unfold State.xWaits
  simp only [State.bodyView_pen, Pen.past_run, h.1, Option.map_some]
  rfl

/-- Moving a pen on opens no read. -/
theorem State.tileReads_bodyView (s : State) (p t : Nat) : (s.bodyView p).tileReads t = s.tileReads t := by
  unfold State.tileReads
  congr 1
  refine List.map_congr_left fun i _ => ?_
  rw [State.pen_setPen]
  split
  · next own => rw [own]; rfl
  · rfl

/-- A body that changes its own pen as a function of it. -/
theorem Issues.modifies {f : Form} {w : PenWord} {x : Bool} {body : State → Try State} {g : Pen → Pen}
    (h : Issues s p r f w) (done : body (s.bodyView p) = .ok ((s.bodyView p).modPen p g))
    (free : x = true → (s.pen p).xBusy = false := by simp) :
    ∃ t, Host.Outcome.next (issue p f w x body s) = (Host.Outcome.next t : Res) ∧ OnlyPen p s t
      ∧ t.pen p = g (s.pen p).past := by
  refine ⟨_, congrArg Host.Outcome.next (h.issue_ok done free), (OnlyPen.setPen s p _).trans (OnlyPen.modPen _ p g), ?_⟩
  rw [State.pen_modPen_same, State.bodyView_pen]

theorem openRead_ok {slot : Nat} {b : BaleRead} (room : s.tileReads (tileOf p) < 128) :
    s.openRead p slot b = .ok (s.modPen p fun q => { q with reads := tabSet (fun _ => none) q.reads slot (some b) }) :=
  if_neg (Nat.not_le.mpr room)

end

/-- What an entry reaches depends on the staging area and the schedule alone. -/
theorem State.entryReaches_congr {s t : State} (staging : s.stagingBase = t.stagingBase)
    (schedule : s.blob 0x2031 0 = t.blob 0x2031 0) (e : BitVec 128) : s.entryReaches e = t.entryReaches e := by
  unfold State.entryReaches State.reaches State.place State.inboundPlace State.inboundDesc
  rw [staging, schedule]

theorem State.entryReaches_bodyView (s : State) (p : Nat) (e : BitVec 128) :
    (s.bodyView p).entryReaches e = s.entryReaches e :=
  State.entryReaches_congr (s := s.bodyView p) (t := s) rfl rfl e

theorem inputEntry_ok {r : Run} {slot : Nat} (h : slot < r.job.nin) :
    inputEntry r slot = .ok (r.job.bales.getD slot 0) := if_pos h

theorem inputEntry_error {r : Run} {slot : Nat} (h : r.job.nin ≤ slot) : inputEntry r slot = raise 0x06 :=
  if_neg (Nat.not_lt.mpr h)

theorem voidCheck_ok {s : State} {e : BitVec 128}
    (h : entryClass e = 3 → (s.inbound (entryStream e) (entrySeq e)).void = false) : s.voidCheck e = .ok () :=
  need_true (by by_cases c : entryClass e = 3 <;> simp [c, h]) _

/-! ## BLD -/

section
variable {p : Fin 1024} {w : PenWord} {s : State} {r : Run}

section
variable (h : Issues s p r { a := 4, b := 4, modOk := fun m => m ≤ 1 } w)
include h

theorem Issues.bld_waits
    (held : s.xWaits p = true ∨ (tabGet (fun _ => none) (s.pen p).reads (slotOf (s.pen p).past w)).isSome = true) :
    ∃ t, exec (.bld p w) s = .next t ∧ t.pen p = { s.pen p with stall := some .unitBusy } ∧ OnlyPen p s t := by
  refine h.waits ?_
  simp only [State.bodyView_pen]
  refine (Try.bind_of_ok h.1.runOf_past _).trans (if_pos ?_)
  rw [h.1.xWaits_bodyView, Bool.or_eq_true]
  exact held

variable (free : s.xWaits p = false)
  (closed : tabGet (fun _ => none) (s.pen p).reads (slotOf (s.pen p).past w) = none)
include free closed

/-- BLD's guard, where the X unit and the slot are free. -/
theorem Issues.bld_guard : ((s.bodyView p).xWaits p
    || (tabGet (fun _ => none) (s.pen p).past.reads (slotOf (s.pen p).past w)).isSome) ≠ true := by
  have closed : tabGet (fun _ => none) (s.pen p).past.reads (slotOf (s.pen p).past w) = none := closed
  rw [h.1.xWaits_bodyView, free, closed]
  decide

theorem Issues.bld_slot (out : r.job.nin ≤ slotOf (s.pen p).past w) :
    ∃ t, exec (.bld p w) s = .next t ∧ Raised s t p r 0x06 0 ∧ OnlyPen p s t := by
  refine h.raises (by decide) ?_
  simp only [State.bodyView_pen]
  exact (Try.bind_of_ok h.1.runOf_past _).trans ((if_neg (h.bld_guard free closed)).trans
    (Try.bind_of_error (inputEntry_error out) _))

/-- Where BLD copies a bale to. -/
abbrev bldDest (q : Pen) (w : PenWord) : Nat := (q.reg w.a.toNat + w.imm >>> 32).toNat

theorem Issues.bld_opens {e : BitVec 128} (slot : slotOf (s.pen p).past w < r.job.nin)
    (he : r.job.bales.getD (slotOf (s.pen p).past w) 0 = e) (reaches : s.entryReaches e = true)
    (inPlace : w.mod.getLsbD 0 = true → entryClass e = 2 ∨ ∃ k, s.place (entryPayload e) 4096 = some (.pasture k))
    (copied : w.mod.getLsbD 0 = false → bldDest (s.pen p).past w % 64 = 0 ∧ bldDest (s.pen p).past w + 4096 ≤ 524288)
    (void : entryClass e = 3 → (s.inbound (entryStream e) (entrySeq e)).void = false)
    (room : s.tileReads (tileOf p) < 128) :
    ∃ t, exec (.bld p w) s = .next t ∧ OnlyPen p s t ∧ t.pen p = { (s.pen p).past with
      reads := tabSet (fun _ => none) (s.pen p).past.reads (slotOf (s.pen p).past w) (some
        { cls := entryClass e, payload := entryPayload e, header := entryHeader e
          copyTo := if w.mod.getLsbD 0 then none else some (bldDest (s.pen p).past w), index := (s.pen p).pc
          order := r.issued }) } := by
  refine h.modifies (g := fun q => { q with
    reads := tabSet (fun _ => none) q.reads (slotOf (s.pen p).past w) (some _) }) ?_
  simp only [State.bodyView_pen]
  refine (Try.bind_of_ok h.1.runOf_past _).trans ((if_neg (h.bld_guard free closed)).trans
    ((Try.bind_of_ok (inputEntry_ok slot) _).trans ?_))
  rw [he]
  refine (Try.bind_of_ok (need_true ((s.entryReaches_bodyView p e).trans reaches) _) _).trans
    ((Try.bind_of_ok (need_true ?_ _) _).trans ((Try.bind_of_ok (need_true ?_ _) _).trans
      ((Try.bind_of_ok (voidCheck_ok void) _).trans (openRead_ok ?_))))
  · cases place : w.mod.getLsbD 0 with
    | false => rfl
    | true =>
      obtain own | ⟨k, pasture⟩ := inPlace place
      · simp [own]
      · have pasture : (s.bodyView p).place (entryPayload e) 4096 = some (.pasture k) := pasture
        simp [pasture]
  · cases place : w.mod.getLsbD 0 with
    | true => rfl
    | false =>
      obtain ⟨aligned, fits⟩ := copied place
      simp only [Bool.false_or, Bool.and_eq_true, decide_eq_true_eq, beq_iff_eq]
      exact ⟨aligned, fits⟩
  · rwa [State.tileReads_bodyView]

end

/-! ## TAKE -/

section
variable (h : Issues s p r {} w) (idle : (s.pen p).xBusy = false)
include h idle

theorem Issues.take_refused (no : r.job.gal = false ∨ r.job.donor ≠ none) :
    ∃ t, exec (.take p w) s = .next t ∧ Raised s t p r 0x0B 0 ∧ OnlyPen p s t := by
  refine h.raises (by decide) ?_ fun _ => idle
  simp only [State.bodyView_pen]
  refine (Try.bind_of_ok h.1.runOf_past _).trans (Try.bind_of_error (need_false ?_ _) _)
  obtain no | no := no
  · simp [no]
  · simp [Option.isSome_iff_ne_none.mpr no]

theorem Issues.take_opens {e : BitVec 128} (gal : r.job.gal = true) (own : r.job.donor = none)
    (slot : w.imm.toNat % 256 < r.job.nin) (he : r.job.bales.getD (w.imm.toNat % 256) 0 = e) (inbound : entryClass e = 3)
    (reaches : s.entryReaches e = true) (void : (s.inbound (entryStream e) (entrySeq e)).void = false)
    (room : s.tileReads (tileOf p) < 128) :
    ∃ t, exec (.take p w) s = .next t ∧ OnlyPen p s t ∧ t.pen p = { (s.pen p).past with
      reads := tabSet (fun _ => none) (s.pen p).past.reads (w.imm.toNat % 256) (some
        { cls := 3, payload := entryPayload e, header := entryHeader e, copyTo := none, index := (s.pen p).pc
          order := r.issued, take := true }) } := by
  refine h.modifies (g := fun q => { q with
    reads := tabSet (fun _ => none) q.reads (w.imm.toNat % 256) (some _) }) ?_ fun _ => idle
  simp only [State.bodyView_pen]
  refine (Try.bind_of_ok h.1.runOf_past _).trans ((Try.bind_of_ok (need_true (by simp [gal, own]) _) _).trans
    ((Try.bind_of_ok (inputEntry_ok slot) _).trans ?_))
  rw [he]
  refine (Try.bind_of_ok (need_true (by simp [inbound]) _) _).trans
    ((Try.bind_of_ok (need_true ((s.entryReaches_bodyView p e).trans reaches) _) _).trans
      ((Try.bind_of_ok (voidCheck_ok fun _ => void) _).trans (openRead_ok ?_)))
  rwa [State.tileReads_bodyView]

end

end

/-! ## BALE_READ_ARRIVAL -/

/-- The checks of R78 raise none of the counted codes. -/
theorem arrivalCheck_code {payload : List Byte} {h bad code detail : Nat}
    (found : arrivalCheck payload h bad = some (code, detail)) : code ≠ 0x10 ∧ code ≠ 0x11 := by
  have among : code ∈ [0x20, 0x12, 0x06] := by
    unfold arrivalCheck at found
    dsimp only at found
    split at found
    · cases found; decide
    · cases found; decide
    · cases found; decide
    · split at found
      · cases found
      · cases found; decide
  constructor
  · rintro rfl; exact absurd among (by decide)
  · rintro rfl; exact absurd among (by decide)

section
variable {q : Pen} {i : Nat} {b : BaleRead} {payload : List Byte} {h : BitVec 512}

@[simp] theorem Pen.record_reads : (q.record i b payload h).reads = q.reads := by
  unfold Pen.record; cases b.copyTo <;> rfl

theorem Pen.record_residentAt : (q.record i b payload h).residentAt i =
    some ⟨if b.copyTo = none ∧ b.cls ≠ 2 then 1 else 0, b.copyTo.getD b.payload, h, false⟩ := by
  unfold Pen.record Pen.residentAt
  cases copied : b.copyTo with
  | some d => simp
  | none => by_cases own : b.cls = 2 <;> simp [own]

theorem Pen.closeRead_closed : tabGet (fun _ => none) (q.closeRead i).reads i = none :=
  tabGet_tabSet_same (fun _ => none) q.reads i none

end

section
variable {p : Fin 1024} {i : Fin 64} {bad : Nat} {s : State} {r : Run} {b : BaleRead} (run : (s.pen p).run = some r)
  (opened : tabGet (fun _ => none) (s.pen p).reads i = some b)
include run opened

theorem arrival_waits (early : s.readReady r i b = false ∨ s.penHeld p = true) :
    exec (.baleReadArrival p i bad) s = .next s := by
  simp only [exec_baleReadArrival, execBaleReadArrival, run, opened]
  exact if_pos (by simpa using early)

variable (ready : s.readReady r i b = true) (free : s.penHeld p = false)
include ready free

theorem arrival_records (good : arrivalCheck (s.moved (s.pen p) b).1 (s.moved (s.pen p) b).2.toNat bad = none) :
    exec (.baleReadArrival p i bad) s = .next ((s.noteMoved b).setPen p
      (((s.pen p).closeRead i).record i b (s.moved (s.pen p) b).1 (s.moved (s.pen p) b).2)) := by
  simp only [exec_baleReadArrival, execBaleReadArrival, run, opened]
  rw [if_neg (by simp [ready, free])]
  simp only [good]

theorem arrival_raises {code detail : Nat}
    (found : arrivalCheck (s.moved (s.pen p) b).1 (s.moved (s.pen p) b).2.toNat bad = some (code, detail)) :
    exec (.baleReadArrival p i bad) s = .next
      (((s.noteMoved b).setPen p ((s.pen p).closeRead i)).except p b.order b.index code detail) := by
  simp only [exec_baleReadArrival, execBaleReadArrival, run, opened]
  rw [if_neg (by simp [ready, free])]
  simp only [found]

end

/-- Settles O12: what opens a read, and what its arrival leaves. -/
theorem baleLoadsComplete : Obligations.BaleLoadsComplete := by
  unfold Obligations.BaleLoadsComplete
  refine fun p w s r => ⟨fun h => ⟨h.bld_waits, fun free closed => ⟨h.bld_slot free closed,
      fun slot reaches inPlace copied void room => h.bld_opens free closed slot rfl reaches inPlace copied void room⟩⟩,
    fun h idle => ⟨h.take_refused idle, fun gal own slot inbound reaches void room =>
      h.take_opens idle gal own slot rfl inbound reaches void room⟩,
    fun i bad b run opened => ⟨arrival_waits run opened, fun ready free good => ?_, fun ready free live code detail found => ?_⟩⟩
  · refine ⟨_, arrival_records run opened ready free good, State.pen_setPen_same _ _ _, OnlyPen.setPen _ _ _, ?_, ?_⟩
    · rw [State.pen_setPen_same, Pen.record_reads, Pen.closeRead_closed]
    · rw [State.pen_setPen_same, Pen.record_residentAt]
  · have closed : (((s.noteMoved b).setPen p ((s.pen p).closeRead i)).pen p) = (s.pen p).closeRead i :=
      State.pen_setPen_same _ _ _
    refine ⟨_, arrival_raises run opened ready free found, ?_⟩
    rw [except_live (by rw [closed]; exact run) live (arrivalCheck_code found), closed]
    exact ⟨OnlyPen.setPen_setPen _ p _ _, State.pen_setPen_same _ _ _⟩

end Sys2Proof.Machine
end

section
/-! SUPPORT. Stores and commits of the X unit: BST, EMIT and TOKW (R79, R81, R82, R111, R123); and from that statement
O13. -/

namespace Sys2Proof.Machine

-- One theorem after another: checked side by side, each in a thread of its own, they exceed the memory of the check.
set_option Elab.async false

/-! ## What a store makes -/

/-- The run with the instruction at hand issued (R72). -/
abbrev Run.issue (r : Run) : Run := { r with issued := r.issued + 1 }

/-- The run after a store to an entry: a COMMIT slot counts (R82). -/
def Run.counted (r : Run) (e : BitVec 128) : Run :=
  if entryClass e = 10 then { r with commitsMade := r.commitsMade + 1 } else r

theorem Run.counted_stored (r : Run) (e : BitVec 128) : (r.counted e).stored = r.stored := by
  unfold Run.counted; split <;> rfl
theorem Run.counted_record (r : Run) (e : BitVec 128) : (r.counted e).record = r.record := by
  unfold Run.counted; split <;> rfl
theorem Run.counted_job (r : Run) (e : BitVec 128) : (r.counted e).job = r.job := by
  unfold Run.counted; split <;> rfl
theorem Run.counted_epoch (r : Run) (e : BitVec 128) : (r.counted e).epoch = r.epoch := by
  unfold Run.counted; split <;> rfl

/-- The run after a store of a view d to a slot, with its header h. -/
def Run.storing (r : Run) (slot : Nat) (e : BitVec 128) (d : BitVec 256) (h : BitVec 512) : Run :=
  { r.issue.counted e with
    stored := slot :: r.stored
    record := r.record ++ [.bst slot (viewOf d).fmt (shapeFields h.toNat) (field h.toNat 96 32) (field h.toNat 128 32)] }

theorem countCommit_ok {r : Run} (room : r.commitsMade < r.job.ncmt) :
    countCommit r = .ok { r with commitsMade := r.commitsMade + 1 } := if_pos room

theorem countCommit_error {r : Run} (full : r.job.ncmt ≤ r.commitsMade) : countCommit r = raise 0x0D :=
  if_neg (Nat.not_lt.mpr full)

/-- A store counts its commit, where its slot is one, and goes on. -/
theorem counted_bind {r : Run} {e : BitVec 128} (room : entryClass e = 10 → r.commitsMade < r.job.ncmt)
    (f : Run → Try State) :
    (if entryClass e = 10 then countCommit r >>= f else Except.ok r >>= f) = f (r.counted e) := by
  unfold Run.counted
  split
  · next commit => exact Try.bind_of_ok (countCommit_ok (room commit)) f
  · rfl

theorem outputEntry_ok {r : Run} {slot : Nat} (h : slot < r.job.nout) :
    outputEntry r slot = .ok (r.job.bales.getD (r.job.nin + slot) 0) := if_pos h

/-! ## Where a store lands, by its slot's class (R79) -/

section
variable {s : State} {p slot i : Nat} {r : Run} {e : BitVec 128} {payload : List Byte} {h : BitVec 512}

theorem putBale_scratch (c : entryClass e = 8) : s.putBale p slot r e payload h =
    .ok (s.modPen p fun q =>
      { q with scratch := writeTab (writeTab q.scratch (entryPayload e) payload) (entryHeader e) (headerBytes h) }) :=
  if_pos c

theorem putBale_tread (c : entryClass e = 9) : s.putBale p slot r e payload h =
    .ok ((s.store (entryPayload e) payload).store (entryHeader e) (headerBytes h)) :=
  (if_neg (by omega)).trans (if_pos c)

/-- The state that a commit leaves in its staging slot. -/
def State.stageBale (s : State) (p slot i : Nat) (r : Run) (e : BitVec 128) (payload : List Byte) (h : BitVec 512) : State :=
  (s.putStaged (tileOf p) i
    { jobId := r.job.jobId, out := slot, header := entryHeader e, payload := entryPayload e } payload h).modPen p fun q =>
      { q with run := q.run.map fun r =>
        { r with commits := r.commits ++ [.bale (tileOf p) r.job.jobId slot i (entryHeader e) (entryPayload e)] } }

theorem putBale_commit (c : entryClass e = 10) (found : s.freeStaging (tileOf p) = some i) :
    s.putBale p slot r e payload h = .ok (s.stageBale p slot i r e payload h) := by
  unfold State.putBale
  rw [if_neg (by omega), if_neg (by omega), found]
  rfl

theorem putBale_full (c : entryClass e = 10) (full : s.freeStaging (tileOf p) = none) :
    s.putBale p slot r e payload h = .error (.stall .stagingSlot) := by
  unfold State.putBale
  rw [if_neg (by omega), if_neg (by omega), full]

end

/-! ## BST -/

section
variable {p : Fin 1024} {w : PenWord} {s : State} {r : Run} {o : Placed} {q' : Pen}

/-- The header that BST writes (R79). -/
def bstHeader (s : State) (p : Nat) (w : PenWord) (r : Run) (o : Placed) (q' : Pen) : BitVec 512 :=
  storeHeader ((s.pen p).past.view w.a.toNat) (sumLane s.mem o q')
    (readTab (s.pen p).scratch (viewOf ((s.pen p).past.view w.a.toNat)).base 4096) p r.epoch

/-- The pen before the bale is put: its checks are made, its run holds the store. -/
def bstPen (s : State) (p : Nat) (w : PenWord) (r : Run) (e : BitVec 128) (o : Placed) (q' : Pen) : Pen :=
  { q' with run := some (r.storing (slotOf (s.pen p).past w) e ((s.pen p).past.view w.a.toNat) (bstHeader s p w r o q')) }

theorem Issues.bst_settles (h : Issues s p r { a := 1, b := 4 } w) (idle : (s.pen p).xBusy = false) {e : BitVec 128}
    (slot : slotOf (s.pen p).past w < r.job.nout)
    (he : r.job.bales.getD (r.job.nin + slotOf (s.pen p).past w) 0 = e) (new : slotOf (s.pen p).past w ∉ r.stored)
    (fits : storeViewOk ((s.pen p).past.view w.a.toNat) = true) (reaches : s.entryReaches e = true)
    (room : entryClass e = 10 → r.commitsMade < r.job.ncmt)
    (placed : placeView (tileOf p) (s.pen p).past ((s.pen p).past.view w.a.toNat) = .ok o)
    (touched : touch s.mem (s.pen p).past [.view o] = .ok q') :
    exec (.bst p w) s = .next (s.settle p (if r.job.kind.compare
      then .ok ((s.bodyView p).setPen p (bstPen s p w r e o q'))
      else ((s.bodyView p).setPen p (bstPen s p w r e o q')).putBale p (slotOf (s.pen p).past w)
        (r.storing (slotOf (s.pen p).past w) e ((s.pen p).past.view w.a.toNat) (bstHeader s p w r o q')) e
        (readTab (s.pen p).scratch (viewOf ((s.pen p).past.view w.a.toNat)).base 4096) (bstHeader s p w r o q'))) := by
  have scratch : q'.scratch = (s.pen p).past.scratch := Pen.scratch_of_seat (touch_seat touched)
  refine congrArg Host.Outcome.next ((h.issue_eq (fun _ => idle) _).trans (congrArg (s.settle p) ?_))
  simp only [State.bodyView_pen]
  refine (Try.bind_of_ok h.1.runOf_past _).trans ((Try.bind_of_ok (outputEntry_ok slot) _).trans ?_)
  rw [he]
  refine (Try.bind_of_ok (need_true (by simpa using new) _) _).trans ((Try.bind_of_ok (need_true fits _) _).trans
    ((Try.bind_of_ok (need_true ((s.entryReaches_bodyView p e).trans reaches) _) _).trans
      ((counted_bind (r := r.issue) room _).trans
        ((Try.bind_of_ok placed _).trans ((Try.bind_of_ok touched _).trans ?_)))))
  have payload (base : Nat) : readTab q'.scratch base 4096 = readTab (s.pen p).scratch base 4096 := by rw [scratch]; rfl
  simp only [payload, bstPen, Run.storing, Run.counted_stored, Run.counted_record, Run.counted_job, Run.counted_epoch]
  rfl

end

/-- Two writes leave every byte outside their ranges. -/
theorem writeTab_writeTab_outside {m : Tab Byte} {x y a : Nat} {d h : List Byte} (first : a < x ∨ x + d.length ≤ a)
    (second : a < y ∨ y + h.length ≤ a) :
    tabGet memDefault (writeTab (writeTab m x d) y h) a = tabGet memDefault m a := by
  rw [tabGet_writeTab, dif_neg (by omega), tabGet_writeTab, dif_neg (by omega)]

theorem headerBytes_length (h : BitVec 512) : (headerBytes h).length = 64 := leBytes_length _ _

/-- A bale that can be placed is stored, payload and header. -/
theorem State.store_store_ok {s : State} {a b x y : Nat} {d h : List Byte} (hx : s.writePart a = .ok x)
    (hy : s.writePart b = .ok y) : (s.store a d).store b h = (s.write x d).write y h := by
  rw [State.store_ok d hx, State.store_ok h ((s.writePart_write x d b).trans hy)]

/-- A bale of which neither part can be placed is discarded, and counted (R123). -/
theorem State.store_store_error {s : State} {a b : Nat} {x y : Option Nat} {d h : List Byte} (hx : s.writePart a = .error x)
    (hy : s.writePart b = .error y) : (s.store a d).store b h = (s.countDiscard x).countDiscard y := by
  rw [State.store_error d hx, State.store_error h ((s.writePart_countDiscard x b).trans hy)]

theorem State.pen_countDiscard (s : State) (x : Option Nat) (k : Nat) : (s.countDiscard x).pen k = s.pen k := by
  cases x <;> rfl

theorem State.countDiscard_withPens (s : State) (pens : Tab Pen) (x : Option Nat) :
    { s.countDiscard x with pens := pens } = ({ s with pens := pens } : State).countDiscard x := by
  cases x <;> rfl

theorem State.staging_stageBale (s : State) (p slot i : Nat) (r : Run) (e : BitVec 128) (payload : List Byte)
    (h : BitVec 512) : tabGet (fun _ => none) ((s.stageBale p slot i r e payload h).tile (tileOf p)).staging i
      = some { jobId := r.job.jobId, out := slot, header := entryHeader e, payload := entryPayload e } := by
  have staged := State.tile_modTile_same (s.write (sramBase (tileOf p) + s.stagingBase + 4160 * i) payload) (tileOf p)
    fun x => { x with staging := tabSet (fun _ => none) x.staging i (some
      { jobId := r.job.jobId, out := slot, header := entryHeader e, payload := entryPayload e }) }
  exact (congrArg (fun x : Tile => tabGet (fun _ => none) x.staging i) staged).trans
    (by dsimp only; rw [tabGet_tabSet, if_pos rfl])

/-- The state with these pens, memory and tiles. -/
def State.withStores (s : State) (pens : Tab Pen) (mem : Tab Byte) (tiles : Tab Tile) : State :=
  { s with pens := pens, mem := mem, tiles := tiles }

section
variable (s : State) (pens : Tab Pen) (mem : Tab Byte) (tiles : Tab Tile)

theorem State.withStores_modPen (p : Nat) (f : Pen → Pen) :
    (s.modPen p f).withStores pens mem tiles = s.withStores pens mem tiles := rfl

theorem State.withStores_write (a : Nat) (d : List Byte) :
    (s.write a d).withStores pens mem tiles = s.withStores pens mem tiles := rfl

theorem State.withStores_modTile (t : Nat) (f : Tile → Tile) :
    (s.modTile t f).withStores pens mem tiles = s.withStores pens mem tiles := rfl

theorem State.withStores_stageBale (p slot i : Nat) (r : Run) (e : BitVec 128) (payload : List Byte) (h : BitVec 512) :
    (s.stageBale p slot i r e payload h).withStores pens mem tiles = s.withStores pens mem tiles := by
  rw [State.stageBale, State.withStores_modPen, State.putStaged, State.withStores_modTile, State.withStores_write,
    State.withStores_write]

end

/-! ## What the bale leaves, put into a state v in which pen p alone has moved on -/

/-- What does not speak of the pens is the same. -/
theorem OnlyPen.frame {α : Sort _} {p : Nat} {s v : State} (h : OnlyPen p s v) (f : State → α)
    (free : ∀ x pens, f { x with pens := pens } = f x) : f v = f s :=
  (free v s.pens).symm.trans (congrArg f h.1)

section
variable {s v : State} {p slot i : Nat} {r : Run} {e : BitVec 128} {payload : List Byte} {h : BitVec 512}
  (only : OnlyPen p s v)
include only

theorem lands_scratch (c : entryClass e = 8) : ∃ t, v.putBale p slot r e payload h = .ok t ∧ OnlyPen p s t
    ∧ t.pen p = { v.pen p with
        scratch := writeTab (writeTab (v.pen p).scratch (entryPayload e) payload) (entryHeader e) (headerBytes h) } :=
  ⟨_, putBale_scratch c, only.trans (OnlyPen.modPen _ _ _), State.pen_modPen_same _ _ _⟩

theorem lands_tread (c : entryClass e = 9) (whole : payload.length = 4096) {x y : Nat}
    (hx : s.writePart (entryPayload e) = .ok x) (hy : s.writePart (entryHeader e) = .ok y) : ∃ t,
    v.putBale p slot r e payload h = .ok t ∧ t.pen p = v.pen p ∧ (∀ k, k ≠ p → t.pen k = s.pen k)
      ∧ t.mem = writeTab (writeTab s.mem x payload) y (headerBytes h)
      ∧ (∀ a, (a < x ∨ x + 4096 ≤ a) → (a < y ∨ y + 64 ≤ a) → t.byte a = s.byte a)
      ∧ { t with pens := s.pens, mem := s.mem } = s := by
  have mem : v.mem = s.mem := only.frame State.mem fun _ _ => rfl
  have places (a : Nat) : v.writePart a = s.writePart a := only.frame (·.writePart a) fun _ _ => rfl
  have stored : ((v.write x payload).write y (headerBytes h)).mem = writeTab (writeTab s.mem x payload) y (headerBytes h) := by
    rw [← mem]; rfl
  refine ⟨_, (putBale_tread c).trans (congrArg _ (State.store_store_ok ((places _).trans hx) ((places _).trans hy))),
    rfl, fun k other => only.2 k other, stored, fun a first second => ?_, ?_⟩
  · rw [State.byte, stored]
    exact writeTab_writeTab_outside (by rwa [whole]) (by rwa [headerBytes_length])
  · rw [← mem]
    exact (congrArg (fun x : State => { x with pens := s.pens }) (rfl : { v with mem := v.mem } = v)).trans only.1

theorem lands_discarded (c : entryClass e = 9) {x y : Option Nat}
    (hx : s.writePart (entryPayload e) = .error x) (hy : s.writePart (entryHeader e) = .error y) : ∃ t,
    v.putBale p slot r e payload h = .ok t ∧ t.pen p = v.pen p ∧ (∀ k, k ≠ p → t.pen k = s.pen k)
      ∧ { t with pens := s.pens } = (s.countDiscard x).countDiscard y := by
  have places (a : Nat) : v.writePart a = s.writePart a := only.frame (·.writePart a) fun _ _ => rfl
  refine ⟨_, (putBale_tread c).trans (congrArg _ (State.store_store_error ((places _).trans hx) ((places _).trans hy))),
    ?_, fun k other => ?_, ?_⟩
  · rw [State.pen_countDiscard, State.pen_countDiscard]
  · rw [State.pen_countDiscard, State.pen_countDiscard, only.2 k other]
  · rw [State.countDiscard_withPens, State.countDiscard_withPens, only.1]

theorem lands_commit (c : entryClass e = 10) (found : s.freeStaging (tileOf p) = some i) (run : (v.pen p).run = some r) :
    ∃ t, v.putBale p slot r e payload h = .ok t ∧ (∀ k, k ≠ p → t.pen k = s.pen k)
      ∧ t.pen p = { v.pen p with run := some { r with
          commits := r.commits ++ [.bale (tileOf p) r.job.jobId slot i (entryHeader e) (entryPayload e)] } }
      ∧ t.mem = writeTab (writeTab s.mem (sramBase (tileOf p) + s.stagingBase + 4160 * i) payload)
          (sramBase (tileOf p) + s.stagingBase + 4160 * i + 4096) (headerBytes h)
      ∧ tabGet (fun _ => none) (t.tile (tileOf p)).staging i = some
          { jobId := r.job.jobId, out := slot, header := entryHeader e, payload := entryPayload e }
      ∧ { t with pens := s.pens, mem := s.mem, tiles := s.tiles } = s := by
  have same : v.freeStaging (tileOf p) = s.freeStaging (tileOf p) := only.frame (·.freeStaging (tileOf p)) fun _ _ => rfl
  refine ⟨_, putBale_commit c (same.trans found), fun k other => ?_, ?_, ?_, State.staging_stageBale v p slot i r e payload h,
    ?_⟩
  · exact ((State.pen_modPen _ _ _ _).trans (if_neg other)).trans (only.2 k other)
  · have own (b : StagedBale) : (v.putStaged (tileOf p) i b payload h).pen p = v.pen p := rfl
    rw [State.stageBale, State.pen_modPen_same, own, run]
    rfl
  · rw [← only.frame State.mem fun _ _ => rfl, ← only.frame State.stagingBase fun _ _ => rfl]
    rfl
  · change State.withStores _ s.pens s.mem s.tiles = s
    rw [State.withStores_stageBale]
    exact only.frame (·.withStores s.pens s.mem s.tiles) fun _ _ => rfl

end

section
variable {p : Fin 1024} {w : PenWord} {s : State} {r : Run}

/-! ## EMIT and TOKW (R81, R82) -/

theorem Issues.emit_commits (h : Issues s p r {} w) (idle : (s.pen p).xBusy = false) (gallery : r.job.gal = true)
    (own : r.job.donor = none) (slot : w.imm.toNat % 256 < r.job.nout) (stored : w.imm.toNat % 256 ∈ r.stored)
    (room : r.commitsMade < r.job.ncmt) :
    let e := r.job.bales.getD (r.job.nin + w.imm.toNat % 256) 0
    let b := (s.bodyView p).storedBale p (w.imm.toNat % 256)
      { r with issued := r.issued + 1, commitsMade := r.commitsMade + 1 } e
    exec (.emit p w) s = .next ((s.bodyView p).setPen p { (s.pen p).past with run := some { r with
      issued := r.issued + 1, commitsMade := r.commitsMade + 1
      record := r.record ++ [.emit (w.imm.toNat % 256) (w.imm.toNat / 256 % 256)]
      commits := if r.job.kind.compare then r.commits else r.commits ++ [.emit (tileOf p) r.job.jobId (w.imm.toNat % 256)
        (w.imm.toNat / 256 % 256) (decide (r.job.planEpoch < r.epoch)) b.2 b.1] } }) := by
  refine congrArg Host.Outcome.next (h.issue_ok ?_ fun _ => idle)
  simp only [State.bodyView_pen]
  refine (Try.bind_of_ok h.1.runOf_past _).trans
    ((Try.bind_of_ok (need_true (by rw [gallery, own]; rfl) _) _).trans
    ((Try.bind_of_ok (outputEntry_ok slot) _).trans
    ((Try.bind_of_ok (need_true (by simpa using stored) _) _).trans
    ((Try.bind_of_ok (countCommit_ok (r := r.issue) room) _).trans ?_))))
  cases r.job.kind.compare <;> rfl

theorem Issues.tokw_refuses_session (h : Issues s p r { a := 4, b := 4, c := 4 } w) (idle : (s.pen p).xBusy = false)
    (foreign : ((s.pen p).past.reg w.a.toNat).toNat % 2 ^ 16 ∉ r.job.sessions) :
    ∃ t, exec (.tokw p w) s = .next t ∧ Raised s t p r 0x0C 0 ∧ OnlyPen p s t :=
  h.raisesPen (by decide) ((Try.bind_of_ok h.1.runOf_past _).trans
    (Try.bind_of_error (need_false (by simpa using foreign) _) _)) fun _ => idle

theorem Issues.tokw_refuses_count (h : Issues s p r { a := 4, b := 4, c := 4 } w) (idle : (s.pen p).xBusy = false)
    (known : ((s.pen p).past.reg w.a.toNat).toNat % 2 ^ 16 ∈ r.job.sessions) (full : r.job.ncmt ≤ r.commitsMade) :
    ∃ t, exec (.tokw p w) s = .next t ∧ Raised s t p r 0x0D 0 ∧ OnlyPen p s t :=
  h.raisesPen (by decide) ((Try.bind_of_ok h.1.runOf_past _).trans
    ((Try.bind_of_ok (need_true (by simpa using known) _) _).trans
    (Try.bind_of_error (countCommit_error (r := r.issue) full) _))) fun _ => idle

theorem Issues.tokw_commits (h : Issues s p r { a := 4, b := 4, c := 4 } w) (idle : (s.pen p).xBusy = false)
    (known : ((s.pen p).past.reg w.a.toNat).toNat % 2 ^ 16 ∈ r.job.sessions) (room : r.commitsMade < r.job.ncmt) :
    let session := ((s.pen p).past.reg w.a.toNat).toNat % 2 ^ 16
    let token := ((s.pen p).past.reg w.b.toNat).toNat % 2 ^ 32
    let flags := ((s.pen p).past.reg w.c.toNat).toNat % 2 ^ 8
    ∃ t, exec (.tokw p w) s = .next t ∧ t.pen p = { (s.pen p).past with run := some { r with
        issued := r.issued + 1, commitsMade := r.commitsMade + 1, record := r.record ++ [.tokw session token flags]
        commits := if r.job.kind.compare then r.commits
          else r.commits ++ [.token (tileOf p) r.job.jobId session token flags] } } ∧ OnlyPen p s t := by
  refine h.completes ((Try.bind_of_ok h.1.runOf_past _).trans
    ((Try.bind_of_ok (need_true (by simpa using known) _) _).trans
    ((Try.bind_of_ok (countCommit_ok (r := r.issue) room) _).trans ?_))) fun _ => idle
  dsimp only [Run.issue]
  cases r.job.kind.compare <;> rfl

end

/-- Settles O13: a store is one equation (`Issues.bst_settles`), and where it lands goes by its slot's class. -/
theorem baleStoresComplete : Obligations.BaleStoresComplete := by
  intro p w s r idle
  refine ⟨fun h o q' slot new fits reaches room placed touched => ?_,
    fun h gallery own slot stored room => ?_, fun h => ⟨h.tokw_refuses_session idle, h.tokw_refuses_count idle,
      fun known room => ?_⟩⟩
  · generalize he : r.job.bales.getD (r.job.nin + slotOf (s.pen p).past w) 0 = e at reaches room ⊢
    have done := h.bst_settles idle slot he new fits reaches room placed touched
    have only := OnlyPen.setPen_setPen s p (s.pen p).past (bstPen s p w r e o q')
    have pen := State.pen_setPen_same (s.bodyView p) p (bstPen s p w r e o q')
    generalize (s.bodyView p).setPen p (bstPen s p w r e o q') = v at done only pen
    refine ⟨fun compare => ?_, fun planned scratch => ?_, fun planned tread x y hx hy => ?_,
      fun planned tread x y hx hy => ?_, fun planned commit i found => ?_, fun planned commit full => ?_⟩
    · rw [if_pos compare] at done
      exact ⟨v, done, pen, only⟩
    all_goals rw [if_neg (by simp [planned])] at done
    · obtain ⟨t, put, only, lands⟩ := lands_scratch only scratch
      rw [put] at done
      exact ⟨t, done, only, by rw [lands, pen]; rfl⟩
    · obtain ⟨t, put, own, effect⟩ := lands_tread only tread (readTab_length _ _ _) hx hy
      rw [put] at done
      exact ⟨t, done, own.trans pen, effect⟩
    · obtain ⟨t, put, own, effect⟩ := lands_discarded only tread hx hy
      rw [put] at done
      exact ⟨t, done, own.trans pen, effect⟩
    · obtain ⟨t, put, others, own, mem, staging, rest⟩ := lands_commit only commit found (by rw [pen]; rfl)
      rw [put] at done
      refine ⟨t, done, others, own.trans ?_, mem, staging.trans ?_, rest⟩
      · simp only [pen, bstPen, Run.storing, Run.counted, if_pos commit]
        rfl
      · rw [Run.storing, Run.counted_job]
    · rw [putBale_full commit ((only.frame (·.freeStaging (tileOf p)) fun _ _ => rfl).trans full)] at done
      exact ⟨_, done, State.pen_modPen_same _ _ _, OnlyPen.modPen _ _ _⟩
  · exact ⟨_, _, h.emit_commits idle gallery own slot stored room, OnlyPen.setPen_setPen _ _ _ _, rfl,
      State.pen_setPen_same _ _ _⟩
  · obtain ⟨t, runs, pen, only⟩ := h.tokw_commits idle known room
    exact ⟨t, runs, only, pen⟩

end Sys2Proof.Machine
end

section
/-! SUPPORT. Job completion (R87, R89, R106, R138, R142, R354): what each ending leaves alone, and what it does; and from
that statement O26. -/

namespace Sys2Proof.Machine

-- One theorem after another: checked side by side, each in a thread of its own, they exceed the memory of the check.
set_option Elab.async false

/-! ## Tiles whose jobs move -/

/-- Tile y holds the commits, readable outputs and cases of x, and withholds at least x's sessions. -/
structure Tile.Grows (x y : Tile) : Prop where
  commits : y.commits = x.commits
  treadOut : y.treadOut = x.treadOut
  cases : y.cases = x.cases
  withheld : ∀ i ∈ x.withheld, i ∈ y.withheld

theorem Tile.Grows.of_eq {x y : Tile} (commits : y.commits = x.commits) (treadOut : y.treadOut = x.treadOut)
    (cases : y.cases = x.cases) (withheld : y.withheld = x.withheld) : x.Grows y :=
  ⟨commits, treadOut, cases, fun _ h => withheld ▸ h⟩

theorem Tile.Grows.refl (x : Tile) : x.Grows x := .of_eq rfl rfl rfl rfl

theorem Tile.Grows.trans {x y z : Tile} (h : x.Grows y) (k : y.Grows z) : x.Grows z :=
  ⟨k.commits.trans h.commits, k.treadOut.trans h.treadOut, k.cases.trans h.cases, fun i hi => k.withheld i (h.withheld i hi)⟩

theorem Tile.grows_append (x : Tile) (i : Nat) (j : Job) : x.Grows (x.append i j) := by
  unfold Tile.append
  dsimp only
  split
  · exact .of_eq rfl rfl rfl rfl
  · exact .of_eq rfl rfl rfl rfl

theorem Tile.grows_prepend (x : Tile) (i : Nat) (j : Job) : x.Grows (x.prepend i j) := by
  unfold Tile.prepend
  dsimp only
  split
  · exact .of_eq rfl rfl rfl rfl
  · exact .of_eq rfl rfl rfl rfl

/-! ## Steps beside a completion -/

/-- From s to t: what the completion on pen p reports of the pen's run, the epoch, the sessions and the tile is kept. -/
structure Aside (p : Nat) (s t : State) : Prop where
  run : (t.pen p).run = (s.pen p).run
  sampled : (t.pen p).sampled = (s.pen p).sampled
  epoch : t.epoch = s.epoch
  service : t.service = s.service
  tile : (s.tile (tileOf p)).Grows (t.tile (tileOf p))

/-- The same of a step that changes no more than other pens, the queues of the tiles and what is sent. -/
structure Settles (p : Nat) (s t : State) : Prop where
  pen : t.pen p = s.pen p
  mem : t.mem = s.mem
  objs : t.objs = s.objs
  events : t.events = s.events
  service : t.service = s.service
  tile : (s.tile (tileOf p)).Grows (t.tile (tileOf p))

theorem State.num_congr {s t : State} (objs : t.objs = s.objs) (i j : Nat) : t.num i j = s.num i j := by
  unfold State.num State.obj
  rw [objs]

section
variable {p : Nat} {s t u : State}

theorem Aside.refl (p : Nat) (s : State) : Aside p s s := ⟨rfl, rfl, rfl, rfl, Tile.Grows.refl _⟩

theorem Aside.trans (h : Aside p s t) (k : Aside p t u) : Aside p s u :=
  ⟨k.run.trans h.run, k.sampled.trans h.sampled, k.epoch.trans h.epoch, k.service.trans h.service, h.tile.trans k.tile⟩

theorem Settles.refl (p : Nat) (s : State) : Settles p s s := ⟨rfl, rfl, rfl, rfl, rfl, Tile.Grows.refl _⟩

theorem Settles.trans (h : Settles p s t) (k : Settles p t u) : Settles p s u :=
  ⟨k.pen.trans h.pen, k.mem.trans h.mem, k.objs.trans h.objs, k.events.trans h.events, k.service.trans h.service,
    h.tile.trans k.tile⟩

theorem Settles.epoch (h : Settles p s t) : t.epoch = s.epoch := State.num_congr h.objs 0x2004 0

theorem Settles.aside (h : Settles p s t) : Aside p s t :=
  ⟨congrArg Pen.run h.pen, congrArg Pen.sampled h.pen, h.epoch, h.service, h.tile⟩

theorem State.tile_modTile_grows {f : Tile → Tile} (grows : ∀ x : Tile, x.Grows (f x)) (k i : Nat) :
    (s.tile k).Grows ((s.modTile i f).tile k) := by
  rw [State.tile_modTile]
  split
  · next same => rw [same]; exact grows _
  · exact Tile.Grows.refl _

theorem Settles.modTile {f : Tile → Tile} (grows : ∀ x : Tile, x.Grows (f x)) (i : Nat) : Settles p s (s.modTile i f) :=
  ⟨rfl, rfl, rfl, rfl, rfl, State.tile_modTile_grows grows _ i⟩

theorem Settles.forEach {α : Type} {l : List α} {f : α → State → State}
    (step : ∀ a ∈ l, ∀ u, Settles p s u → Settles p u (f a u)) :
    Settles p s (forEach l s f) :=
  forEach_induct (Q := Settles p s) (Settles.refl p s) fun a ha u hu => hu.trans (step a ha u hu)

end

/-! ## The shepherd's part of a completion (R106, R138, R142, R149) -/

section
variable (p : Nat) (s : State) (t : Nat) (j : Job)

theorem settles_withhold (l : List Nat) : Settles p s (s.withhold t l) :=
  Settles.modTile (by exact fun _ => ⟨rfl, rfl, rfl, fun _ h => List.mem_append_left _ h⟩) t

/-- The sessions are withheld. -/
theorem State.withheld_withhold (l : List Nat) : ∀ i ∈ l, i ∈ ((s.withhold t l).tile t).withheld := by
  intro i hi
  rw [State.withhold, State.tile_modTile_same]
  by_cases known : i ∈ (s.tile t).withheld
  · exact List.mem_append_left _ known
  · exact List.mem_append_right _ (List.mem_filter.mpr ⟨hi, by simpa using known⟩)

theorem settles_placeElsewhere : Settles p s (s.placeElsewhere t j) := by
  unfold State.placeElsewhere
  split
  · exact settles_withhold p s t _
  · split
    · exact Settles.modTile (fun x => x.grows_append _ j) t
    · split
      · exact Settles.refl p s
      · exact settles_withhold p s t _

theorem settles_placeReady : Settles p s (s.placeReady t j) := by
  unfold State.placeReady
  split
  · exact Settles.modTile (fun x => x.grows_append _ j) t
  · exact settles_placeElsewhere p s t j

theorem settles_release : Settles p s (s.release t j) :=
  (Settles.modTile (by exact fun _ => .of_eq rfl rfl rfl rfl) t).trans
    (Settles.forEach fun k _ u _ => settles_placeReady p u t k)

theorem settles_send (o : Out) : Settles p s (s.send o) := ⟨rfl, rfl, rfl, rfl, rfl, Tile.Grows.refl _⟩

theorem settles_reportTrade (cls : Nat) : Settles p s (s.reportTrade t j cls) := by
  unfold State.reportTrade
  split
  · exact (Settles.modTile (by exact fun _ => .of_eq rfl rfl rfl rfl) t).trans (settles_send p _ _)
  · exact Settles.refl p s

theorem settles_withholdSuccessors : Settles p s (s.withholdSuccessors t j) :=
  (Settles.modTile (by exact fun _ => .of_eq rfl rfl rfl rfl) t).trans (settles_withhold p _ t _)

variable {p s}

/-- An exception that does not count stops another pen alone. -/
theorem settles_except {q : Nat} (other : q ≠ p) {code : Nat} (uncounted : ¬(code = 0x10 ∨ code = 0x11))
    (order index detail : Nat) : Settles p s (s.except q order index code detail) := by
  unfold State.except
  dsimp only
  rw [if_neg uncounted]
  split
  · exact Settles.refl p s
  · split
    · exact Settles.refl p s
    · exact ⟨by rw [State.pen_setPen, if_neg (Ne.symm other)], rfl, rfl, rfl, rfl, Tile.Grows.refl _⟩

/-- A pen without reads is not stalled on an output: stopping those that are leaves it alone. -/
theorem settles_stopStalled (free : (s.pen p).reads = []) {code : Nat} (uncounted : ¬(code = 0x10 ∨ code = 0x11)) :
    Settles p s (s.stopStalled j code) := by
  refine Settles.forEach fun e _ u hu => ?_
  by_cases own : e.1 = p
  · rw [own, hu.pen, free]
    exact Settles.refl p u
  · split
    · exact settles_except own uncounted _ _ _
    · exact Settles.refl p u
    · exact Settles.refl p u

theorem settles_jobWithheld (free : (s.pen p).reads = []) {code : Nat} (uncounted : ¬(code = 0x10 ∨ code = 0x11)) :
    Settles p (s.withhold t j.sessions) (s.jobWithheld t j code) := by
  have successors := settles_withholdSuccessors p (s.withhold t j.sessions) t j
  have unread : (((s.withhold t j.sessions).withholdSuccessors t j).pen p).reads = [] := by
    rw [successors.pen, (settles_withhold p s t _).pen, free]
  exact (successors.trans (settles_stopStalled j unread uncounted)).trans (settles_reportTrade p _ t j _)

theorem settles_placeReplay (free : (s.pen p).reads = []) : Settles p s (s.placeReplay t j 0x30).1 := by
  unfold State.placeReplay
  split
  · exact Settles.modTile (fun x => x.grows_prepend _ _) t
  · exact (settles_withhold p s t _).trans (settles_jobWithheld t j free (by decide))

theorem settles_placeRepetition (k : RunKind) : Settles p s (s.placeRepetition p j k) :=
  Settles.modTile (fun x => x.grows_prepend _ _) _

end

/-! ## Ends of sessions (R89, R290) -/

theorem State.forEach_endAtLanding (s : State) (l : List Nat) (status : Nat) :
    forEach l s (fun i s => s.endAtLanding i status 0) =
      { s with service := { s.service with endsNow := s.service.endsNow ++ l.map fun i => (i, status, 0) } } := by
  induction l generalizing s with
  | nil => simp [forEach]
  | cons i l ih =>
    refine (ih (s.endAtLanding i status 0)).trans ?_
    simp [State.endAtLanding]

theorem State.endSessions_eq (s : State) (t : Nat) (ids : List Nat) (status : Nat) :
    s.endSessions t ids status = { s.withhold t ids with
      service := { s.service with endsNow := s.service.endsNow ++ (distinct ids).map fun i => (i, status, 0) } } :=
  State.forEach_endAtLanding _ _ _

theorem State.num_endSessions (s : State) (t : Nat) (ids : List Nat) (status i j : Nat) :
    (s.endSessions t ids status).num i j = s.num i j :=
  State.num_congr (by rw [State.endSessions_eq]; rfl) i j

/-! ## Poisoned outputs (R106, R107) -/

section
variable {p : Nat} {s : State} {r : Run} {code : Nat}

/-- The entry of an output slot. -/
abbrev Run.output (r : Run) (n : Nat) : BitVec 128 := r.job.bales.getD (r.job.nin + n) 0

/-- An ending of the run in class P or X poisons this output. -/
def Run.Poisons (s : State) (r : Run) (n : Nat) : Prop :=
  s.entryReaches (r.output n) = true ∧ (entryClass (r.output n) = 8 ∨ entryClass (r.output n) = 9)

/-- What poisoning does at one output slot. -/
def State.poisonOutput (s : State) (p : Nat) (r : Run) (code n : Nat) : State :=
  let e := r.output n
  let h := headerBytes (s.poisonedOutput p n r e code)
  if !s.entryReaches e then s
  else if entryClass e = 9 then (s.store (entryHeader e) h).notePoison code p
  else if entryClass e = 8 then
    (s.modPen p fun q => { q with scratch := writeTab q.scratch (entryHeader e) h }).notePoison code p
  else s

theorem State.poisonOutputs_eq (s : State) (p : Nat) (r : Run) (code : Nat) :
    s.poisonOutputs p r code = upTo r.job.nout s fun n s => s.poisonOutput p r code n := rfl

/-- The steps of poisoning keep in addition what an entry reaches. -/
structure Poisoning (p : Nat) (s t : State) : Prop where
  aside : Aside p s t
  reach : ∀ e, t.entryReaches e = s.entryReaches e

theorem Poisoning.refl (p : Nat) (s : State) : Poisoning p s s := ⟨Aside.refl p s, fun _ => rfl⟩

theorem Poisoning.trans {t u : State} (h : Poisoning p s t) (k : Poisoning p t u) : Poisoning p s u :=
  ⟨h.aside.trans k.aside, fun e => (k.reach e).trans (h.reach e)⟩

theorem State.blob_congr {s t : State} (objs : t.objs = s.objs) (i j : Nat) : t.blob i j = s.blob i j := by
  unfold State.blob State.obj
  rw [objs]

/-- What an entry reaches hangs on the staging slots and the objects. -/
theorem State.entryReaches_of_objs {s t : State} (staging : t.stagingInForce = s.stagingInForce) (objs : t.objs = s.objs)
    (e : BitVec 128) : t.entryReaches e = s.entryReaches e :=
  State.entryReaches_congr (by rw [State.stagingBase, State.stagingSlots, staging]; rfl) (State.blob_congr objs _ _) e

theorem poisoning_store (a : Nat) (d : List Byte) : Poisoning p s (s.store a d) := by
  unfold State.store
  split
  · exact ⟨⟨rfl, rfl, rfl, rfl, Tile.Grows.refl _⟩, State.entryReaches_of_objs rfl rfl⟩
  · next u _ =>
    cases u with
    | none => exact Poisoning.refl p s
    | some u =>
      exact ⟨⟨rfl, rfl, rfl, rfl, State.tile_modTile_grows (by exact fun _ => .of_eq rfl rfl rfl rfl) _ _⟩,
        State.entryReaches_of_objs rfl rfl⟩

theorem poisoning_scratch (a : Nat) (d : List Byte) :
    Poisoning p s (s.modPen p fun q => { q with scratch := writeTab q.scratch a d }) :=
  ⟨⟨by rw [State.pen_modPen_same], by rw [State.pen_modPen_same], rfl, rfl, Tile.Grows.refl _⟩,
    State.entryReaches_of_objs rfl rfl⟩

theorem State.stagingBase_setNum (s : State) (i j n : Nat) : (s.setNum i j n).stagingBase = s.stagingBase := by
  rw [State.stagingBase, State.stagingBase]
  rfl

theorem poisoning_setNum {i : Nat} (n : Nat) (epoch : objKey 0x2004 0 ≠ objKey i 0)
    (schedule : objKey 0x2031 0 ≠ objKey i 0) :
    Poisoning p s (s.setNum i 0 n) :=
  ⟨⟨rfl, rfl, by rw [State.epoch, State.num_setNum, if_neg epoch]; rfl, rfl, Tile.Grows.refl _⟩,
    fun e => State.entryReaches_congr (s.stagingBase_setNum i 0 n)
      (by rw [State.blob, State.setNum, State.obj_setObj, if_neg schedule]; rfl) e⟩

theorem poisoning_notePoison (code unit : Nat) : Poisoning p s (s.notePoison code unit) := by
  obtain ⟨row, hrow⟩ : ∃ row, objectRow 0xA040 0 = some row := ⟨_, rfl⟩
  have counts : s.count 0xA040 0 1 = s.setNum 0xA040 0 ((s.num 0xA040 0 + 1) % 2 ^ (8 * row.type.size)) := by
    unfold State.count
    rw [hrow]
  unfold State.notePoison
  rw [counts]
  exact (poisoning_setNum _ (by decide) (by decide)).trans (poisoning_setNum _ (by decide) (by decide))

theorem State.poisonOutput_of_not {n : Nat} (spared : ¬ r.Poisons s n) : s.poisonOutput p r code n = s := by
  unfold State.poisonOutput
  dsimp only
  split
  · rfl
  · next reached =>
    have reaches : s.entryReaches (r.output n) = true := by simpa using reached
    rw [if_neg fun c => spared ⟨reaches, .inr c⟩, if_neg fun c => spared ⟨reaches, .inl c⟩]

theorem State.poisonOutput_of {n : Nat} (hit : r.Poisons s n) :
    ∃ u, s.poisonOutput p r code n = u.notePoison code p ∧ Poisoning p s u := by
  obtain ⟨reaches, kind⟩ := hit
  unfold State.poisonOutput
  dsimp only
  rw [if_neg (by rw [reaches]; decide)]
  rcases kind with scratch | tread
  · rw [if_neg (by omega), if_pos scratch]
    exact ⟨_, rfl, poisoning_scratch _ _⟩
  · rw [if_pos tread]
    exact ⟨_, rfl, poisoning_store _ _⟩

theorem poisoning_poisonOutput (n : Nat) : Poisoning p s (s.poisonOutput p r code n) := by
  by_cases hit : r.Poisons s n
  · obtain ⟨u, eq, before⟩ := State.poisonOutput_of (p := p) (code := code) hit
    rw [eq]
    exact before.trans (poisoning_notePoison _ _)
  · rw [State.poisonOutput_of_not hit]
    exact Poisoning.refl p s

theorem poisoning_poisonOutputs : Poisoning p s (s.poisonOutputs p r code) :=
  upTo_induct (Q := Poisoning p s) (Poisoning.refl p s) fun _ _ _ hu => hu.trans (poisoning_poisonOutput _)

theorem Poisoning.poisons {u : State} (h : Poisoning p s u) (n : Nat) : r.Poisons u n ↔ r.Poisons s n := by
  rw [Run.Poisons, h.reach, Run.Poisons]

/-- The origin that a poisoned output leaves (R107). -/
def State.newOrigin (s : State) (code p : Nat) : Nat := code % 2 ^ 16 * 2 ^ 48 + p % 2 ^ 16 * 2 ^ 32 + s.epoch % 2 ^ 32

theorem State.origin_notePoison (u : State) (code p : Nat) :
    (u.notePoison code p).num 0xA041 0 = u.newOrigin code p := by
  rw [State.notePoison, State.num_setNum_same, State.newOrigin]

theorem Poisoning.origin {u : State} (h : Poisoning p s u) {n : Nat} (hit : r.Poisons s n) :
    (u.poisonOutput p r code n).num 0xA041 0 = s.newOrigin code p := by
  obtain ⟨v, eq, before⟩ := State.poisonOutput_of (p := p) (code := code) ((h.poisons n).mpr hit)
  rw [eq, State.origin_notePoison, State.newOrigin, before.aside.epoch, h.aside.epoch, State.newOrigin]

/-- Where an output is poisoned, object 0xA041 holds the new origin. -/
theorem State.poisonOutputs_origin {n : Nat} (bound : n < r.job.nout) (hit : r.Poisons s n) :
    (s.poisonOutputs p r code).num 0xA041 0 = s.newOrigin code p := by
  rw [State.poisonOutputs_eq]
  refine upTo_each (Q := Poisoning p s) (P := fun i u => r.Poisons s i → u.num 0xA041 0 = s.newOrigin code p)
    (Poisoning.refl p s) (fun i _ u hu => ⟨hu.trans (poisoning_poisonOutput i), hu.origin⟩)
    (fun i _ j _ u hu held hj => ?_) n bound hit
  by_cases hi : r.Poisons s i
  · exact hu.origin hi
  · rw [State.poisonOutput_of_not fun h => hi ((hu.poisons i).mp h)]
    exact held hj

/-- Where none is, nothing happens. -/
theorem State.poisonOutputs_of_not (spared : ∀ n < r.job.nout, ¬ r.Poisons s n) : s.poisonOutputs p r code = s :=
  upTo_id fun n bound => State.poisonOutput_of_not (spared n bound)

end

/-! ## What an ending starts from, and its last step (R138) -/

/-- The origin that a consumed poison names, from its exception's detail (R107). -/
def consumedOrigin (detail : Nat) : Nat :=
  detail % 2 ^ 16 * 2 ^ 48 + detail / 2 ^ 16 % 2 ^ 16 * 2 ^ 32 + detail / 2 ^ 32 % 2 ^ 32

/-- The state in which the run of pen p is over: its busy time counted, the pen idle. -/
def State.runOver (s : State) (p : Nat) (r : Run) : State := (s.addBusy p r).modPen p Pen.idle

section
variable (s : State) (p : Nat) (r : Run)

theorem onlyPen_runOver : OnlyPen p s (s.runOver p r) := (OnlyPen.modPen s p _).trans (OnlyPen.modPen _ p _)

theorem State.pen_runOver : (s.runOver p r).pen p =
    Pen.idle { s.pen p with busy := (s.pen p).busy + (s.clock - r.startClock -
      2 * ((s.heldNs (tileOf p) + 2 ^ 32 - r.reinStart) % 2 ^ 32)) } := by
  rw [State.runOver, State.pen_modPen_same, State.addBusy, State.pen_modPen_same]

theorem State.runOver_run : ((s.runOver p r).pen p).run = none := by rw [State.pen_runOver]; rfl

theorem State.runOver_reads : ((s.runOver p r).pen p).reads = [] := by rw [State.pen_runOver]; rfl

theorem State.runOver_sampled : ((s.runOver p r).pen p).sampled = (s.pen p).sampled := by rw [State.pen_runOver]; rfl

theorem State.runOver_epoch : (s.runOver p r).epoch = s.epoch := (onlyPen_runOver s p r).frame State.epoch fun _ _ => rfl

theorem State.runOver_service : (s.runOver p r).service = s.service :=
  (onlyPen_runOver s p r).frame State.service fun _ _ => rfl

theorem State.runOver_mem : (s.runOver p r).mem = s.mem := (onlyPen_runOver s p r).frame State.mem fun _ _ => rfl

theorem State.runOver_tile (k : Nat) : (s.runOver p r).tile k = s.tile k :=
  (onlyPen_runOver s p r).frame (·.tile k) fun _ _ => rfl

theorem State.runOver_entryReaches (e : BitVec 128) : (s.runOver p r).entryReaches e = s.entryReaches e :=
  State.entryReaches_of_objs ((onlyPen_runOver s p r).frame State.stagingInForce fun _ _ => rfl)
    ((onlyPen_runOver s p r).frame State.objs fun _ _ => rfl) e

end

section
variable {p : Nat} {s : State} {r : Run}

/-- The tile as it holds the outcome of a job. -/
def Tile.finished (x : Tile) (p : Nat) (j : Job) (cs : List Commit) : Tile :=
  { x with treadOut := x.treadOut ++ j.treadHeaders, commits := x.commits ++ cs.map (fun c => (j.sessions, c))
           done := x.done ++ [(p, j.sessions)] }

theorem settles_finish (s : State) (p : Nat) (j : Job) (cs : List Commit) (cls : Nat) :
    Settles p (s.modTile (tileOf p) fun x => x.finished p j cs) (s.finish p j cs cls) := by
  unfold State.finish
  dsimp only
  split
  · exact settles_reportTrade p _ _ j cls
  · exact settles_release p _ _ j

theorem State.settleKind_plan (plan : r.job.kind = .plan) (e : RunEnd) : s.settleKind p r e = s := by
  unfold State.settleKind
  rw [plan]

theorem State.makeShadow_unsampled (unsampled : (s.pen p).sampled = false) : s.makeShadow p r = s := by
  unfold State.makeShadow
  simp [unsampled]

/-! ## Endings with the sessions (R89) -/

/-- From v to u, sessions end with a status and are withheld; the tile's commits stay. -/
structure SessionsEnd (p : Nat) (ids : List Nat) (status : Nat) (v u : State) : Prop where
  run : (u.pen p).run = (v.pen p).run
  sampled : (u.pen p).sampled = (v.pen p).sampled
  epoch : u.epoch = v.epoch
  endsNow : u.service.endsNow = v.service.endsNow ++ (distinct ids).map fun i => (i, status, 0)
  commits : (u.tile (tileOf p)).commits = (v.tile (tileOf p)).commits
  withheld : ∀ i ∈ ids, i ∈ (u.tile (tileOf p)).withheld

variable {ids : List Nat} {status : Nat} {v u t : State}

theorem Aside.endSessions (h : Aside p v u) (ids : List Nat) (status : Nat) :
    SessionsEnd p ids status v (u.endSessions (tileOf p) ids status) := by
  rw [State.endSessions_eq]
  exact ⟨h.run, h.sampled, h.epoch, by rw [h.service],
    (settles_withhold p u (tileOf p) ids).tile.commits.trans h.tile.commits, u.withheld_withhold (tileOf p) ids⟩

theorem SessionsEnd.settles (h : SessionsEnd p ids status v u) (k : Settles p u t) : SessionsEnd p ids status v t :=
  ⟨(congrArg Pen.run k.pen).trans h.run, (congrArg Pen.sampled k.pen).trans h.sampled, k.epoch.trans h.epoch,
    (congrArg (·.endsNow) k.service).trans h.endsNow, k.tile.commits.trans h.commits,
    fun i hi => k.tile.withheld i (h.withheld i hi)⟩

theorem SessionsEnd.log (h : SessionsEnd p ids status v u) (code source detail : Nat) :
    SessionsEnd p ids status v (u.log code source detail) :=
  ⟨h.run, h.sampled, h.epoch, h.endsNow, h.commits, h.withheld⟩

/-- A job that finishes without commits changes nothing of that. -/
theorem SessionsEnd.finish (h : SessionsEnd p ids status v u) (j : Job) (cls : Nat) :
    SessionsEnd p ids status v (u.finish p j [] cls) :=
  have finished : SessionsEnd p ids status v (u.modTile (tileOf p) fun x => x.finished p j []) :=
    ⟨h.run, h.sampled, h.epoch, h.endsNow, by rw [State.tile_modTile_same]; exact (List.append_nil _).trans h.commits,
      fun i hi => by rw [State.tile_modTile_same]; exact h.withheld i hi⟩
  finished.settles (settles_finish u p j [] cls)

end

/-! ## The endings of a planned run (R87, R89, R106, R354) -/

section
variable {p : Nat} {s : State} {r : Run} {code index : Nat} {detail : BitVec 64}
  (plan : r.job.kind = .plan) (unsampled : (s.pen p).sampled = false)
include plan unsampled

theorem completeRun_done : s.completeRun p r .done = (s.runOver p r).finish p r.job r.commits reportDone := by
  have kept : (((s.runOver p r).finish p r.job r.commits reportDone).pen p).sampled = false := by
    rw [(settles_finish _ p r.job r.commits reportDone).pen]
    exact (s.runOver_sampled p r).trans unsampled
  unfold State.completeRun
  simp only [plan]
  rw [State.settleKind_plan plan]
  exact State.makeShadow_unsampled kept

theorem completeRun_program (cls : excClass code = .p) : s.completeRun p r (.exc code index detail) =
    ((s.runOver p r).endProgram p r).finish p r.job [] reportProgram
    ∧ SessionsEnd p r.job.sessions 0x0011 (s.runOver p r)
        (((s.runOver p r).endProgram p r).finish p r.job [] reportProgram) := by
  have ends : SessionsEnd p r.job.sessions 0x0011 (s.runOver p r)
      (((s.runOver p r).endProgram p r).finish p r.job [] reportProgram) :=
    ((poisoning_poisonOutputs.aside.endSessions _ _).log _ _ _).finish r.job reportProgram
  refine ⟨?_, ends⟩
  unfold State.completeRun
  simp only [plan, cls]
  rw [State.settleKind_plan plan]
  exact State.makeShadow_unsampled ((ends.sampled.trans (s.runOver_sampled p r)).trans unsampled)

theorem completeRun_poison (cls : excClass code = .x) : s.completeRun p r (.exc code index detail) =
    ((s.runOver p r).endPoison p r detail.toNat).finish p r.job [] reportPoison
    ∧ SessionsEnd p r.job.sessions 0x0012 (s.runOver p r)
        (((s.runOver p r).endPoison p r detail.toNat).finish p r.job [] reportPoison) := by
  have held : Poisoning p (s.runOver p r) ((s.runOver p r).setNum 0xA041 0 (consumedOrigin detail.toNat)) :=
    poisoning_setNum _ (by decide) (by decide)
  have ends : SessionsEnd p r.job.sessions 0x0012 (s.runOver p r)
      (((s.runOver p r).endPoison p r detail.toNat).finish p r.job [] reportPoison) :=
    ((held.trans poisoning_poisonOutputs).aside.endSessions _ _).finish r.job reportPoison
  refine ⟨?_, ends⟩
  unfold State.completeRun
  simp only [plan, cls]
  rw [State.settleKind_plan plan]
  exact State.makeShadow_unsampled ((ends.sampled.trans (s.runOver_sampled p r)).trans unsampled)

omit unsampled

theorem completeRun_withheld (cls : excClass code = .w) :
    s.completeRun p r (.exc code index detail) = (s.runOver p r).jobWithheld (tileOf p) r.job code := by
  unfold State.completeRun
  simp only [plan, cls]
  rfl

theorem completeRun_check (scr : r.job.scr = false) (cls : excClass code = .c) :
    s.completeRun p r (.exc code index detail) = (s.runOver p r).openCase p r code index false := by
  unfold State.completeRun
  simp only [plan, cls]
  unfold State.checkFailed
  simp only [plan, scr]
  rfl

end

/-- A withheld ending is no checksum failure. -/
theorem uncounted_of_withheld {code : Nat} (cls : excClass code = .w) : ¬(code = 0x10 ∨ code = 0x11) := by
  rintro (rfl | rfl) <;> exact absurd cls (by decide)

section
variable {p : Nat} {s : State} {r : Run} {code index : Nat}

/-- Object 0xA041 after an ending in class X: the consumed origin, or the new one where an output is poisoned. -/
theorem State.endPoison_origin (detail : Nat) :
    ((∃ n, n < r.job.nout ∧ r.Poisons s n) → (s.endPoison p r detail).num 0xA041 0 = s.newOrigin 0x0011 p)
    ∧ ((¬ ∃ n, n < r.job.nout ∧ r.Poisons s n) → (s.endPoison p r detail).num 0xA041 0 = consumedOrigin detail) := by
  have held : Poisoning p s (s.setNum 0xA041 0 (consumedOrigin detail)) := poisoning_setNum _ (by decide) (by decide)
  have eq : s.endPoison p r detail = ((s.setNum 0xA041 0 (consumedOrigin detail)).poisonOutputs p r 0x0011).endSessions
    (tileOf p) r.job.sessions 0x0012 := rfl
  rw [eq, State.num_endSessions]
  refine ⟨fun ⟨n, bound, hit⟩ => ?_, fun none => ?_⟩
  · refine (State.poisonOutputs_origin bound ((held.poisons n).mpr hit)).trans ?_
    rw [State.newOrigin, held.aside.epoch, State.newOrigin]
  · rw [State.poisonOutputs_of_not fun n bound hit => none ⟨n, bound, (held.poisons n).mp hit⟩]
    exact s.num_setNum_same 0xA041 0 (consumedOrigin detail)

/-- The case that a check failure opens. -/
theorem openCase_opens (free : (s.pen p).reads = []) :
    let t := s.openCase p r code index false
    (t.pen p).run = (s.pen p).run ∧ (t.pen p).suspect = true ∧ t.epoch = s.epoch ∧ t.service = s.service ∧ t.mem = s.mem
      ∧ (t.tile (tileOf p)).commits = (s.tile (tileOf p)).commits
      ∧ ∃ c, (t.tile (tileOf p)).cases = (s.tile (tileOf p)).cases ++ [c] ∧ c.pen = p ∧ c.job = r.job ∧ c.code = code
          ∧ c.index = index ∧ c.replay = none := by
  have suspect := State.pen_modPen_same (s := s) p fun q => { q with suspect := true }
  have placed := (settles_placeReplay (s := s.modPen p fun q => { q with suspect := true }) (tileOf p) r.job
    (by rw [suspect]; exact free)).trans (settles_placeRepetition (p := p) r.job .repetition)
  unfold State.openCase
  dsimp only
  generalize hu : State.placeRepetition _ p r.job .repetition = u at placed ⊢
  have tile := State.tile_modTile_same (s := u) (tileOf p)
  refine ⟨?_, ?_, placed.epoch, placed.service, placed.mem, ?_,
    ⟨_, (congrArg Tile.cases (tile _)).trans (congrArg (· ++ _) placed.tile.cases), rfl, rfl, rfl, rfl, rfl⟩⟩
  · exact (congrArg Pen.run placed.pen).trans (by rw [suspect])
  · exact (congrArg Pen.suspect placed.pen).trans (congrArg Pen.suspect suspect)
  · rw [State.setCases, tile]
    exact placed.tile.commits

end

theorem exec_jobComplete_ended {p : Fin 1024} {s : State} {r : Run} {e : RunEnd} (run : (s.pen p).run = some r)
    (ended : r.ended = some e) : exec (.jobComplete p) s = .next (s.completeRun p r e) := by
  refine congrArg Host.Outcome.next ?_
  simp only [State.completePen, run, ended]

theorem exec_jobComplete_live {p : Fin 1024} {s : State} {r : Run} (run : (s.pen p).run = some r)
    (live : r.ended = none) : exec (.jobComplete p) s = .next s := by
  refine congrArg Host.Outcome.next ?_
  simp only [State.completePen, run, live]

/-! ## The outcome of each ending, and O26 -/

section
variable {p : Nat} {s : State} {r : Run} {code index : Nat} {detail : BitVec 64}
  (plan : r.job.kind = .plan) (unsampled : (s.pen p).sampled = false)
include plan unsampled

theorem done_outcome :
    let t := s.completeRun p r .done
    (t.pen p).run = none ∧ t.epoch = s.epoch
      ∧ (t.tile (tileOf p)).commits = (s.tile (tileOf p)).commits ++ r.commits.map (fun c => (r.job.sessions, c))
      ∧ (t.tile (tileOf p)).treadOut = (s.tile (tileOf p)).treadOut ++ r.job.treadHeaders
      ∧ t.service = s.service ∧ t.mem = s.mem := by
  rw [completeRun_done plan unsampled]
  have settled := settles_finish (s.runOver p r) p r.job r.commits reportDone
  have tile := State.tile_modTile_same (s := s.runOver p r) (tileOf p) fun x => x.finished p r.job r.commits
  refine ⟨(congrArg Pen.run settled.pen).trans (s.runOver_run p r), settled.epoch.trans (s.runOver_epoch p r), ?_, ?_,
    settled.service.trans (s.runOver_service p r), settled.mem.trans (s.runOver_mem p r)⟩
  · rw [settled.tile.commits, tile, State.runOver_tile]
    rfl
  · rw [settled.tile.treadOut, tile, State.runOver_tile]
    rfl

theorem program_outcome (cls : excClass code = .p) :
    let t := s.completeRun p r (.exc code index detail)
    SessionsEnd p r.job.sessions 0x0011 (s.runOver p r) t
      ∧ ∃ v ∈ t.events, v.code = 0x7011 ∧ v.source = tileOf p ∧ v.detail = r.job.jobId := by
  obtain ⟨eq, ends⟩ := completeRun_program plan unsampled cls (index := index) (detail := detail)
  rw [eq]
  refine ⟨ends, ?_⟩
  rw [(settles_finish _ p r.job [] reportProgram).events]
  exact ⟨_, List.mem_cons_self, rfl, rfl, rfl⟩

theorem poison_outcome (cls : excClass code = .x) :
    let t := s.completeRun p r (.exc code index detail)
    SessionsEnd p r.job.sessions 0x0012 (s.runOver p r) t
      ∧ ((∃ n, n < r.job.nout ∧ r.Poisons s n) → t.num 0xA041 0 = s.newOrigin 0x0011 p)
      ∧ ((¬ ∃ n, n < r.job.nout ∧ r.Poisons s n) → t.num 0xA041 0 = consumedOrigin detail.toNat) := by
  obtain ⟨eq, ends⟩ := completeRun_poison plan unsampled cls (index := index) (detail := detail)
  rw [eq]
  have origin := State.num_congr
    (settles_finish ((s.runOver p r).endPoison p r detail.toNat) p r.job [] reportPoison).objs 0xA041 0
  obtain ⟨hit, spared⟩ := State.endPoison_origin (p := p) (s := s.runOver p r) (r := r) detail.toNat
  simp only [Run.Poisons, State.runOver_entryReaches, State.newOrigin, State.runOver_epoch] at hit spared
  exact ⟨ends, fun poisons => origin.trans (hit poisons), fun none => origin.trans (spared none)⟩

omit unsampled

theorem withheld_outcome (cls : excClass code = .w) :
    let t := s.completeRun p r (.exc code index detail)
    Settles p (s.runOver p r) t ∧ ∀ i ∈ r.job.sessions, i ∈ (t.tile (tileOf p)).withheld := by
  rw [completeRun_withheld plan cls]
  have settled := settles_jobWithheld (tileOf p) r.job (s.runOver_reads p r) (uncounted_of_withheld cls)
  exact ⟨(settles_withhold p _ _ _).trans settled, fun i hi => settled.tile.withheld i (State.withheld_withhold _ _ _ i hi)⟩

theorem check_outcome (scr : r.job.scr = false) (cls : excClass code = .c) :
    let t := s.completeRun p r (.exc code index detail)
    (t.pen p).run = none ∧ (t.pen p).suspect = true ∧ t.epoch = s.epoch ∧ t.service = s.service ∧ t.mem = s.mem
      ∧ (t.tile (tileOf p)).commits = (s.tile (tileOf p)).commits
      ∧ ∃ c, (t.tile (tileOf p)).cases = (s.tile (tileOf p)).cases ++ [c] ∧ c.pen = p ∧ c.job = r.job ∧ c.code = code
          ∧ c.index = index ∧ c.replay = none := by
  have opens := openCase_opens (r := r) (code := code) (index := index) (s.runOver_reads p r)
  rw [State.runOver_run, State.runOver_epoch, State.runOver_service, State.runOver_mem, State.runOver_tile] at opens
  rwa [completeRun_check plan scr cls]

end

/-- The sessions of a run that is over end from the state at hand. -/
theorem SessionsEnd.of_runOver {p status : Nat} {ids : List Nat} {s t : State} {r : Run}
    (h : SessionsEnd p ids status (s.runOver p r) t) :
    (t.pen p).run = none ∧ t.epoch = s.epoch ∧ (t.tile (tileOf p)).commits = (s.tile (tileOf p)).commits
      ∧ (t.service.endsNow = s.service.endsNow ++ (distinct ids).map fun i => (i, status, 0))
      ∧ ∀ i ∈ ids, i ∈ (t.tile (tileOf p)).withheld :=
  ⟨h.run.trans (s.runOver_run p r), h.epoch.trans (s.runOver_epoch p r), h.commits.trans (by rw [State.runOver_tile]),
    h.endsNow.trans (by rw [State.runOver_service]), h.withheld⟩

/-- Settles O26, ending by ending. -/
theorem jobsComplete : Obligations.JobsComplete := by
  intro p s r e
  refine ⟨fun run live => exec_jobComplete_live run live, fun run ended plan scr unsampled => ?_⟩
  refine ⟨_, exec_jobComplete_ended run ended, ?_⟩
  cases e with
  | done =>
    obtain ⟨idle, epoch, outcome⟩ := done_outcome plan unsampled
    exact ⟨idle, epoch, fun _ => outcome, nofun⟩
  | exc code index detail =>
    cases cls : excClass code with
    | p =>
      obtain ⟨ends, event⟩ := program_outcome plan unsampled cls (index := index) (detail := detail)
      obtain ⟨idle, epoch, commits, endsNow, withheld⟩ := ends.of_runOver
      refine ⟨idle, epoch, nofun, ?_⟩
      rintro _ _ _ ⟨⟩
      refine ⟨commits, fun _ => ⟨endsNow, withheld, event⟩, ?_, ?_, ?_⟩
      all_goals exact fun other => absurd (cls.symm.trans other) (by decide)
    | x =>
      obtain ⟨ends, hit, spared⟩ := poison_outcome plan unsampled cls (index := index) (detail := detail)
      obtain ⟨idle, epoch, commits, endsNow, withheld⟩ := ends.of_runOver
      have unit : p.val % 2 ^ 16 = p.val := Nat.mod_eq_of_lt (p.isLt.trans (by decide))
      refine ⟨idle, epoch, nofun, ?_⟩
      rintro _ _ _ ⟨⟩
      refine ⟨commits, ?_, fun _ => ⟨endsNow, withheld, fun poisons => (hit poisons).trans ?_, spared⟩, ?_, ?_⟩
      case refine_2 => rw [State.newOrigin, unit, Nat.mod_eq_of_lt (by decide : 0x0011 < 2 ^ 16)]
      all_goals exact fun other => absurd (cls.symm.trans other) (by decide)
    | w =>
      obtain ⟨settled, withheld⟩ := withheld_outcome plan cls (s := s) (p := p) (index := index) (detail := detail)
      refine ⟨(congrArg Pen.run settled.pen).trans (s.runOver_run p r), settled.epoch.trans (s.runOver_epoch p r), nofun, ?_⟩
      rintro _ _ _ ⟨⟩
      refine ⟨settled.tile.commits.trans (by rw [State.runOver_tile]), ?_, ?_,
        fun _ => ⟨settled.service.trans (s.runOver_service p r), withheld, settled.mem.trans (s.runOver_mem p r)⟩, ?_⟩
      all_goals exact fun other => absurd (cls.symm.trans other) (by decide)
    | c =>
      obtain ⟨idle, suspect, epoch, service, mem, commits, report⟩ :=
        check_outcome plan scr cls (s := s) (p := p) (index := index) (detail := detail)
      refine ⟨idle, epoch, nofun, ?_⟩
      rintro _ _ _ ⟨⟩
      refine ⟨commits, ?_, ?_, ?_, fun _ => ⟨service, suspect, mem, report⟩⟩
      all_goals exact fun other => absurd (cls.symm.trans other) (by decide)

end Sys2Proof.Machine
end

section
/-! SUPPORT. Bale reads at their memory controllers (R103, R105, R115, R123, R351): what a controller answers and what it
leaves alone, and from that statement O29. -/

namespace Sys2Proof.Machine

variable {s : State}

/-! ## Poison noted, and events logged with it (R107) -/

/-- Poison noted: one more is counted, and its origin is held. -/
theorem notePoison_eq (code unit : Nat) : s.notePoison code unit =
    (s.setNum 0xA040 0 ((s.num 0xA040 0 + 1) % 2 ^ 32)).setNum 0xA041 0 (s.newOrigin code unit) := by
  obtain ⟨row, hrow, size⟩ : ∃ row, objectRow 0xA040 0 = some row ∧ row.type.size = 4 := ⟨_, rfl, rfl⟩
  unfold State.notePoison State.count
  rw [hrow]
  simp only [size, State.newOrigin]

theorem num_notePoison (code unit : Nat) : (s.notePoison code unit).num 0xA040 0 = (s.num 0xA040 0 + 1) % 2 ^ 32 := by
  rw [notePoison_eq, num_setNum_ne (by decide)]
  exact s.num_setNum_same 0xA040 0 _

@[simp] theorem mem_notePoison (code unit : Nat) : (s.notePoison code unit).mem = s.mem := by
  rw [notePoison_eq, State.setNum_mem, State.setNum_mem]

@[simp] theorem pens_notePoison (code unit : Nat) : (s.notePoison code unit).pens = s.pens := by
  rw [notePoison_eq, State.setNum_pens, State.setNum_pens]

@[simp] theorem tiles_notePoison (code unit : Nat) : (s.notePoison code unit).tiles = s.tiles := by
  rw [notePoison_eq, State.setNum_tiles, State.setNum_tiles]

/-- An object other than the epoch is written: what is logged then is the same. -/
theorem events_log_setNum {i j n : Nat} (h : objKey 0x2004 0 ≠ objKey i j) (c a d : Nat) :
    ((s.setNum i j n).log c a d).events = (s.log c a d).events := by
  unfold State.log State.epoch
  rw [num_setNum_ne h]
  rfl

theorem events_log_notePoison (code unit c a d : Nat) : ((s.notePoison code unit).log c a d).events = (s.log c a d).events := by
  rw [notePoison_eq, events_log_setNum (by decide), events_log_setNum (by decide)]

/-! ## What a failing channel leaves alone (R124) -/

theorem mem_failChannel (k c : Nat) : (s.failChannel k c).mem = s.mem :=
  mem_of_domains (domains_failChannel (ks := []) k c)

theorem pens_enterDirect (f : Nat) : (s.enterDirect f).pens = s.pens := by
  unfold State.enterDirect
  split
  · rfl
  · rfl

theorem pens_failChannel (k c : Nat) : (s.failChannel k c).pens = s.pens := by
  unfold State.failChannel
  dsimp only
  split
  · rfl
  · rw [loseSpill_keeps State.pens (fun f _ => pens_enterDirect f), State.modTile_pens, State.setNum_pens,
      State.setNum_pens, State.log_pens]

theorem channelError_frame (k c : Nat) :
    (s.channelError k c).mem = s.mem ∧ (s.channelError k c).pens = s.pens := by
  unfold State.channelError
  dsimp only
  split
  · exact ⟨mem_failChannel k c, pens_failChannel k c⟩
  · exact ⟨rfl, rfl⟩

/-! ## The controller's checks (R103, R115) -/

/-- The header that lies at an address. -/
def State.headerAt (s : State) (a : Nat) : BitVec 512 := BitVec.ofNat 512 (leNat (s.read a 64))

/-- What the checks find of a bale as it lies in memory. -/
def State.foundAt (s : State) (pa ha : Nat) : Found := checkBale (s.read pa 4096) (s.headerAt ha).toNat

/-- A bale poisoned where it lies, in the name of channel u, and delivered so. -/
def State.poisonStored (s : State) (p slot : Nat) (b : BaleRead) (pa ha u : Nat) : State :=
  let h := poisonHeader (s.headerAt ha).toNat 0x0001 u s.epoch
  (((((s.write ha (headerBytes h)).notePoison 0x0001 u).deliver p slot b (s.read pa 4096) h).log 0xA002 (u / 8) pa)
    ).channelError (u / 8) (u % 8)

section
variable {p slot pa ha errors : Nat} {b : BaleRead}

theorem controllerRead_passes (found : s.foundAt pa ha = .poisoned ∨ (s.foundAt pa ha = .good ∧ errors = 0))
    (few : errors ≤ 1) :
    s.controllerRead p slot b pa ha errors = s.deliver p slot b (s.read pa 4096) (s.headerAt ha) := by
  unfold State.foundAt State.headerAt at found
  unfold State.controllerRead State.headerAt
  have second : ¬ 2 ≤ errors := by omega
  rcases found with found | ⟨found, rfl⟩
  · by_cases first : 1 ≤ errors
    · simp only [first, second, found, ↓reduceIte]
    · simp only [first, found, ↓reduceIte]
  · have first : ¬ 1 ≤ 0 := by decide
    simp only [first, found, ↓reduceIte]

theorem controllerRead_again (found : s.foundAt pa ha = .good) :
    s.controllerRead p slot b pa ha 1
      = (s.deliver p slot b (s.read pa 4096) (s.headerAt ha)).log 0xA001 (failingChannel pa ha false / 8) pa := by
  unfold State.foundAt State.headerAt at found
  unfold State.controllerRead State.headerAt
  have second : ¬ 2 ≤ 1 := by decide
  simp only [second, found, Nat.le_refl, ↓reduceIte]

theorem controllerRead_fails
    (found : 1 < errors ∨ s.foundAt pa ha = .badHeader ∨ s.foundAt pa ha = .badPayload) :
    s.controllerRead p slot b pa ha errors = s.poisonStored p slot b pa ha
      (failingChannel pa ha (decide (errors ≤ 1) && s.foundAt pa ha == .badHeader)) := by
  unfold State.foundAt State.headerAt at found
  unfold State.controllerRead State.poisonStored State.foundAt State.headerAt
  by_cases many : 1 < errors
  · have first : 1 ≤ errors := by omega
    have second : 2 ≤ errors := many
    have few : ¬ errors ≤ 1 := by omega
    simp only [first, second, few, decide_false, Bool.false_and, ↓reduceIte]
    rfl
  · have second : ¬ 2 ≤ errors := many
    have few : errors ≤ 1 := by omega
    rcases found.resolve_left many with found | found
    · by_cases first : 1 ≤ errors
      · simp only [first, second, few, found, decide_true, Bool.true_and, ↓reduceIte]
      · simp only [first, second, few, found, decide_true, Bool.true_and, ↓reduceIte]
    · by_cases first : 1 ≤ errors
      · simp only [first, second, few, found, decide_true, Bool.true_and, ↓reduceIte]
      · simp only [first, second, few, found, decide_true, Bool.true_and, ↓reduceIte]

theorem mem_deliver (payload : List Byte) (h : BitVec 512) : (s.deliver p slot b payload h).mem = s.mem := rfl

/-- The delivery changes one read of one pen. -/
theorem deliver_pen (payload : List Byte) (h : BitVec 512) :
    ((s.deliver p slot b payload h).pen p).reads
      = tabSet (fun _ => none) (s.pen p).reads slot (some { b with served := some (payload, h) }) := by
  unfold State.deliver
  rw [State.pen_modPen_same]

theorem deliver_other (payload : List Byte) (h : BitVec 512) {k : Nat} (hk : k ≠ p) :
    (s.deliver p slot b payload h).pen k = s.pen k := by
  unfold State.deliver
  rw [State.pen_modPen, if_neg hk]

/-- The read in a slot holds what was delivered, whatever changes outside the pens. -/
theorem deliver_served {t : State} {payload : List Byte} {h : BitVec 512}
    (pens : t.pens = (s.deliver p slot b payload h).pens) :
    tabGet (fun _ => none) (t.pen p).reads slot = some { b with served := some (payload, h) } := by
  have pen : t.pen p = (s.deliver p slot b payload h).pen p := by rw [State.pen, pens]; rfl
  rw [pen, deliver_pen, tabGet_tabSet_same]

/-- A bale that failed twice is delivered with the header that now lies in its place; no other byte changes (R105). -/
theorem poisonStored_spec (u : Nat) :
    let v := poisonHeader (s.headerAt ha).toNat 0x0001 u s.epoch
    let t := s.poisonStored p slot b pa ha u
    tabGet (fun _ => none) (t.pen p).reads slot = some { b with served := some (s.read pa 4096, v) }
      ∧ t.read ha 64 = headerBytes v ∧ ∀ a, a < ha ∨ ha + 64 ≤ a → t.byte a = s.byte a := by
  intro v t
  let w := ((s.write ha (headerBytes v)).notePoison 0x0001 u).deliver p slot b (s.read pa 4096) v
  obtain ⟨mem, pens⟩ := channelError_frame (s := w.log 0xA002 (u / 8) pa) (u / 8) (u % 8)
  have stored : t.mem = writeTab s.mem ha (headerBytes v) := by
    refine mem.trans ?_
    rw [State.log_mem, mem_deliver, mem_notePoison]
    rfl
  refine ⟨deliver_served (pens.trans (State.log_pens ..)), ?_, fun a outside => ?_⟩
  · have back := readTab_writeTab s.mem ha (headerBytes v)
    rwa [headerBytes_length, ← stored] at back
  · rw [State.byte, stored]
    exact tabGet_writeTab_outside s.mem (by rwa [headerBytes_length])

end

/-! ## MEMORY_READ (R103, R118, R123) -/

/-- A read that its controller serves at once: it has a part in LPDDR, nothing was delivered, no released write touches it and
it lies in no pasture that is off. -/
structure BaleRead.Due (b : BaleRead) (s : State) : Prop where
  lpddr : b.fromLpddr = true
  unserved : b.served = none
  payloadSettled : s.writePending b.payload 4096 = false
  headerSettled : s.writePending b.header 64 = false
  payloadHeard : s.mute b.payload = false
  headerHeard : s.mute b.header = false

section
variable {p : Fin 1024} {slot : Fin 64} {errors : Nat} {b : BaleRead}
  (read : tabGet (fun _ => none) (s.pen p).reads slot = some b) (due : b.Due s)
include read due

theorem memoryRead_controlled {ha pa : Nat} (header : s.readPart b.header = .ok ha) (payload : s.readPart b.payload = .ok pa) :
    exec (.memoryRead p slot errors) s = .next (s.controllerRead p slot b pa ha errors) := by
  rw [exec_memoryRead, execMemoryRead, read]
  simp [due.lpddr, due.unserved, due.payloadSettled, due.headerSettled, due.payloadHeard, due.headerHeard, header, payload]

theorem memoryRead_unreadable {code unit : Nat} (error : s.readPart b.header = .error (code, unit)
    ∨ ((∃ ha, s.readPart b.header = .ok ha) ∧ s.readPart b.payload = .error (code, unit))) :
    exec (.memoryRead p slot errors) s = .next (s.deliverPoison p slot b code unit) := by
  rw [exec_memoryRead, execMemoryRead, read]
  rcases error with header | ⟨⟨ha, header⟩, payload⟩
  · simp [due.lpddr, due.unserved, due.payloadSettled, due.headerSettled, due.payloadHeard, due.headerHeard, header]
  · simp [due.lpddr, due.unserved, due.payloadSettled, due.headerSettled, due.payloadHeard, due.headerHeard, header, payload]

end

/-! ## BALE_READ_TIMEOUT (R351) -/

section
variable {p : Fin 1024} {slot : Fin 64} {b : BaleRead} {r : Run}
  (read : tabGet (fun _ => none) (s.pen p).reads slot = some b) (run : (s.pen p).run = some r)
  (issued : b.cls = 0 ∨ s.readReady r slot b = true)
include read run issued

theorem baleReadTimeout_reissues (first : b.reissued = false) :
    exec (.baleReadTimeout p slot) s = .next (s.setPen p { s.pen p with
      reads := tabSet (fun _ => none) (s.pen p).reads slot (some { b with reissued := true, served := none }) }) := by
  have out : (b.cls == 0 || s.readReady r slot b) = true := by simpa using issued
  rw [exec_baleReadTimeout, execBaleReadTimeout]
  simp only [run, read, out, first, Bool.not_true, Bool.false_eq_true, ↓reduceIte]

theorem baleReadTimeout_gives_up (second : b.reissued = true) :
    exec (.baleReadTimeout p slot) s
      = .next ((s.setPen p ((s.pen p).closeRead slot)).except p b.order b.index 0x12 0) := by
  have out : (b.cls == 0 || s.readReady r slot b) = true := by simpa using issued
  rw [exec_baleReadTimeout, execBaleReadTimeout]
  simp only [run, read, out, second, Bool.not_true, Bool.false_eq_true, ↓reduceIte]

end

/-- Settles O29: a read by what its controller's checks find, and a read that times out by whether it was issued again. -/
theorem baleReadsAreChecked : Obligations.BaleReadsAreChecked := by
  unfold Obligations.BaleReadsAreChecked
  intro p slot errors s b read served
  refine ⟨fun lpddr unserved ps hs pm hm => ?_, fun r run live issued => ⟨fun first => ?_, fun second => ?_⟩⟩
  · have due : b.Due s := ⟨lpddr, unserved, ps, hs, pm, hm⟩
    refine ⟨fun ha pa header payload => ⟨fun found few => ?_, fun found one => ?_, fun found => ?_⟩, fun code unit error => ?_⟩
    · refine ⟨_, memoryRead_controlled read due header payload, ?_⟩
      rw [controllerRead_passes found few]
      exact ⟨deliver_served rfl, rfl, fun k hk => deliver_other _ _ hk⟩
    · refine ⟨_, memoryRead_controlled read due header payload, ?_⟩
      rw [one, controllerRead_again found]
      exact ⟨deliver_served rfl, rfl, rfl⟩
    · refine ⟨_, memoryRead_controlled read due header payload, ?_⟩
      rw [controllerRead_fails found]
      exact poisonStored_spec _
    · refine ⟨_, memoryRead_unreadable read due error, deliver_served (pens_notePoison _ _), mem_notePoison _ _, ?_⟩
      exact num_notePoison _ _
  · refine ⟨_, baleReadTimeout_reissues read run issued first, OnlyPen.setPen _ _ _, ?_⟩
    rw [State.pen_setPen_same]
  · refine ⟨_, baleReadTimeout_gives_up read run issued second, ?_⟩
    have closed : (s.setPen p ((s.pen p).closeRead slot)).pen p = (s.pen p).closeRead slot := State.pen_setPen_same _ _ _
    have running : ((s.setPen p ((s.pen p).closeRead slot)).pen p).run = some r := by rw [closed]; exact run
    rw [except_live running live (by decide)]
    refine ⟨OnlyPen.setPen_setPen _ _ _ _, ?_, ?_⟩
    · rw [State.pen_setPen_same, closed]
      exact Pen.closeRead_closed
    · rw [State.pen_setPen_same]
      rfl

end Sys2Proof.Machine
end

section
/-! SUPPORT. Commit writes at their destination ports (R103, R111, R118–R120, R125, R351): what each of their commands leaves
in the staging slot, in memory and in the log, and from that statement O30. -/

namespace Sys2Proof.Machine

variable {s : State}

/-! ## Staging slots -/

/-- The state whose staging slot i of tile k holds v. -/
def State.stagedAs (s : State) (k i : Nat) (v : Option StagedBale) : State :=
  s.modTile k fun x => { x with staging := tabSet (fun _ => none) x.staging i v }

/-- What a slot holds changes that slot of that tile alone. -/
theorem stagedAs_tile {t : State} (tiles : t.tiles = s.tiles) (k i : Nat) (v : Option StagedBale) :
    (t.stagedAs k i v).tile k = { s.tile k with staging := tabSet (fun _ => none) (s.tile k).staging i v }
      ∧ ∀ j, j ≠ k → (t.stagedAs k i v).tile j = s.tile j := by
  have same (j : Nat) : t.tile j = s.tile j := by rw [State.tile, tiles]; rfl
  refine ⟨?_, fun j hj => ?_⟩
  · rw [State.stagedAs, State.tile_modTile_same, same]
  · rw [State.stagedAs, State.tile_modTile, if_neg hj, same]

/-- A write that is discarded leaves its slot, and where a channel discards it the landing's count grows (R125). -/
theorem discardWrite_spec (k i : Nat) (u : Option Nat) :
    let t := s.discardWrite k i u
    tabGet (fun _ => none) (t.tile k).staging i = none ∧ t.mem = s.mem
      ∧ ∀ c, u = some c → tabGet (fun _ => 0) (t.tile (c / 8)).discards (c % 8)
          = tabGet (fun _ => 0) (s.tile (c / 8)).discards (c % 8) + 1 := by
  intro t
  obtain ⟨own, others⟩ := stagedAs_tile (s := s) rfl k i none
  have freed : tabGet (fun _ => none) ((s.stagedAs k i none).tile k).staging i = none := by
    rw [own]
    exact tabGet_tabSet_same _ (s.tile k).staging i none
  have discards (j : Nat) : ((s.stagedAs k i none).tile j).discards = (s.tile j).discards := by
    by_cases hj : j = k
    · rw [hj, own]
    · rw [others j hj]
  cases u with
  | none => exact ⟨freed, rfl, fun c h => nomatch h⟩
  | some c =>
    have counted : t = (s.stagedAs k i none).countDiscard (some c) := rfl
    refine ⟨?_, rfl, fun d same => ?_⟩
    · rw [counted, State.countDiscard, State.tile_modTile]
      split
      · next at_ => rw [← at_]; exact freed
      · exact freed
    · obtain rfl : c = d := Option.some.inj same
      rw [counted, State.countDiscard, State.tile_modTile_same]
      exact (tabGet_tabSet_same _ _ (c % 8) _).trans (congrArg (fun l => tabGet (fun _ => 0) l (c % 8) + 1) (discards (c / 8)))

/-! ## The port's checks (R103) -/

/-- One fetch that is not spoilt and passes its checks is enough; else the header is poisoned. -/
theorem checkedHeader_eq (payload : List Byte) (h : BitVec 512) (bad u epoch : Nat) :
    let whole : Bool := decide (bad ≤ 1) && (checkBale payload h.toNat == .good || checkBale payload h.toNat == .poisoned)
    checkedHeader payload h bad u epoch = (if whole then h else poisonHeader h.toNat 0x0004 u epoch, !whole) := by
  intro whole
  have passes : checkedHeader payload h bad u epoch = if whole then (h, false) else (poisonHeader h.toNat 0x0004 u epoch, true) := by
    unfold checkedHeader
    by_cases few : bad ≤ 1
    · have second : ¬ 2 ≤ bad := by omega
      by_cases first : 1 ≤ bad
      · simp [whole, few, first, second]
      · simp [whole, few, first, second]
    · have first : 1 ≤ bad := by omega
      have second : 2 ≤ bad := by omega
      simp [whole, few, first, second]
  rw [passes]
  cases whole with
  | true => rfl
  | false => rfl

/-! ## The commands of a released write -/

/-- A bale of which both fetches failed is noted as poisoned (R107). -/
def State.noteSpoilt (s : State) (spoilt : Bool) (u pa : Nat) : State :=
  if spoilt then (s.notePoison 0x0004 u).log 0xA002 u pa else s

theorem noteSpoilt_spec (whole : Bool) (u pa : Nat) :
    (s.noteSpoilt (!whole) u pa).tiles = s.tiles ∧ (s.noteSpoilt (!whole) u pa).mem = s.mem
      ∧ (s.noteSpoilt (!whole) u pa).events = if whole then s.events else (s.log 0xA002 u pa).events := by
  cases whole with
  | true => exact ⟨rfl, rfl, rfl⟩
  | false =>
    refine ⟨?_, ?_, events_log_notePoison _ _ _ _ _⟩
    · exact (State.log_tiles ..).trans (tiles_notePoison _ _)
    · exact (State.log_mem ..).trans (mem_notePoison _ _)

section
variable {k i bad pa ha : Nat} {b : StagedBale}
  (staged : tabGet (fun _ => none) (s.tile k).staging i = some b) (released : b.released = true)
include staged released

theorem commitWrite_discards (new : b.written = false) {u : Option Nat} (target : s.writeTarget b.payload b.header = .error u) :
    s.commitWrite k i bad = s.discardWrite k i u := by
  unfold State.commitWrite
  rw [staged]
  simp only [released, new, target, Bool.not_true, Bool.or_false, Bool.false_eq_true, ↓reduceIte]

theorem commitWrite_drops (new : b.written = false) (target : s.writeTarget b.payload b.header = .ok (pa, ha))
    (loser : b.loser = true) :
    s.commitWrite k i bad = (s.log 0xA003 (destinationUnit pa) b.header).stagedAs k i
      (some { b with written := true, head := none }) := by
  unfold State.commitWrite
  rw [staged]
  simp only [released, new, target, loser, Bool.not_true, Bool.or_false, Bool.false_eq_true, ↓reduceIte]
  rfl

theorem commitWrite_checks (new : b.written = false) (target : s.writeTarget b.payload b.header = .ok (pa, ha))
    (winner : b.loser = false) :
    let h := s.stagedHeader k i
    let f := checkBale (s.stagedPayload k i) h.toNat
    let whole : Bool := decide (bad ≤ 1) && (f == .good || f == .poisoned)
    let u := destinationUnit pa
    s.commitWrite k i bad = (s.noteSpoilt (!whole) u pa).stagedAs k i (some { b with
      written := true, head := some (if whole then h else poisonHeader h.toNat 0x0004 u s.epoch) }) := by
  intro h f whole u
  unfold State.commitWrite
  rw [staged]
  simp only [released, new, target, winner, Bool.not_true, Bool.or_false, Bool.false_eq_true, ↓reduceIte,
    checkedHeader_eq (s.stagedPayload k i)]
  rfl

end

theorem commitWriteComplete_eq {k : Fin 64} {i : Nat} {b : StagedBale} (released : b.released = true)
    (staged : tabGet (fun _ => none) (s.tile k).staging i = some b)
    (written : b.written = true) : exec (.commitWriteComplete k i) s = .next (s.completeWrite k i b) := by
  rw [exec_commitWriteComplete, execCommitWriteComplete, staged]
  simp only [released, written, Bool.and_self, ↓reduceIte]

/-- The memory that a write leaves whose port holds a header, or none: payload and header, or nothing (R120). -/
def State.land (s : State) (payload : List Byte) (pa ha : Nat) : Option (BitVec 512) → State
  | some v => (s.write pa payload).write ha (headerBytes v)
  | none => s

theorem tiles_land (payload : List Byte) (pa ha : Nat) (head : Option (BitVec 512)) : (s.land payload pa ha head).tiles = s.tiles := by
  cases head with
  | some v => rfl
  | none => rfl

theorem completeWrite_ok {k i pa ha : Nat} {b : StagedBale} (target : s.writeTarget b.payload b.header = .ok (pa, ha)) :
    s.completeWrite k i b = (s.land (s.stagedPayload k i) pa ha b.head).stagedAs k i none := by
  unfold State.completeWrite
  rw [target]
  cases b.head with
  | some v => rfl
  | none => rfl

theorem completeWrite_error {k i : Nat} {b : StagedBale} {u : Option Nat}
    (target : s.writeTarget b.payload b.header = .error u) : s.completeWrite k i b = s.discardWrite k i u := by
  unfold State.completeWrite
  rw [target]

section
variable {k : Fin 64} {i : Nat} {b : StagedBale}
  (staged : tabGet (fun _ => none) (s.tile k).staging i = some b) (released : b.released = true)
include staged released

theorem commitWriteTimeout_resends {d : Nat × Nat} (target : s.writeTarget b.payload b.header = .ok d) :
    exec (.commitWriteTimeout k i) s = .next (s.stagedAs k i (some { b with written := false, head := none })) := by
  rw [exec_commitWriteTimeout, execCommitWriteTimeout, staged]
  simp only [released, target, Bool.not_true, Bool.false_eq_true, ↓reduceIte]
  rfl

theorem commitWriteTimeout_discards {u : Option Nat} (target : s.writeTarget b.payload b.header = .error u) :
    exec (.commitWriteTimeout k i) s = .next (s.discardWrite k i u) := by
  rw [exec_commitWriteTimeout, execCommitWriteTimeout, staged]
  simp only [released, target, Bool.not_true, Bool.false_eq_true, ↓reduceIte]

end

/-- Settles O30: a write by whether it can be placed, then command by command. -/
theorem commitWritesArePlaced : Obligations.CommitWritesArePlaced := by
  unfold Obligations.CommitWritesArePlaced
  intro k slot bad s b held released
  refine ⟨fun pa ha target => ⟨fun new loser => ?_, fun new winner => ?_, fun written => ?_, ?_⟩,
    fun u target => ⟨fun new => ?_, fun written => ?_, ?_⟩⟩
  · refine ⟨_, exec_commitWrite k slot bad s, ?_⟩
    rw [commitWrite_drops held released new target loser]
    exact ⟨stagedAs_tile rfl k slot _, rfl, rfl⟩
  · refine ⟨_, exec_commitWrite k slot bad s, ?_⟩
    rw [commitWrite_checks held released new target winner]
    obtain ⟨tiles, mem, events⟩ := noteSpoilt_spec (s := s) _ (destinationUnit pa) pa
    exact ⟨stagedAs_tile tiles k slot _, mem, events⟩
  · refine ⟨_, commitWriteComplete_eq released held written, ?_⟩
    rw [completeWrite_ok target]
    refine ⟨stagedAs_tile (tiles_land _ pa ha b.head) k slot none, ?_⟩
    cases b.head with
    | some v => rfl
    | none => rfl
  · exact ⟨_, commitWriteTimeout_resends held released target, stagedAs_tile rfl k slot _, rfl⟩
  · refine ⟨_, exec_commitWrite k slot bad s, ?_⟩
    rw [commitWrite_discards held released new target]
    exact discardWrite_spec k slot u
  · refine ⟨_, commitWriteComplete_eq released held written, ?_⟩
    rw [completeWrite_error target]
    exact discardWrite_spec k slot u
  · exact ⟨_, commitWriteTimeout_discards held released target, discardWrite_spec k slot u⟩

end Sys2Proof.Machine
end

section
/-! SUPPORT. Re-homing copies (R127): bytes copied within memory, the mirror of a region that fills a GiB, and what a copy
leaves alone. -/

namespace Sys2Proof.Machine

variable {s : State}

/-! ## Sparse stores, entry by entry -/

/-- A store thinned out by key reads as before where the key stays. -/
theorem tabGet_filter {α : Type} (d : Nat → α) (keep : Nat → Bool) (t : Tab α) (k : Nat) :
    tabGet d (t.filter fun e => keep e.1) k = if keep k then tabGet d t k else d k := by
  induction t with
  | nil => simp [tabGet]
  | cons e t ih =>
    by_cases he : keep e.1 = true
    · rw [List.filter_cons_of_pos (by exact he), tabGet, tabGet, ih]
      by_cases hk : k = e.1
      · rw [if_pos hk, if_pos hk, hk, if_pos he]
      · rw [if_neg hk, if_neg hk]
    · rw [List.filter_cons_of_neg (by exact he), ih, tabGet]
      by_cases hk : k = e.1
      · rw [hk, if_neg he, if_neg he]
      · rw [if_neg hk]

/-- Entries written to other keys leave a key's value. -/
theorem tabGet_foldl_tabSet_other {α : Type} [DecidableEq α] (d : Nat → α) (f : Nat → Nat) (l m : Tab α) {k : Nat}
    (h : ∀ e ∈ l, f e.1 ≠ k) : tabGet d (l.foldl (fun m e => tabSet d m (f e.1) e.2) m) k = tabGet d m k := by
  induction l generalizing m with
  | nil => rfl
  | cons e l ih =>
    have own : k ≠ f e.1 := Ne.symm (h e List.mem_cons_self)
    exact (ih _ fun c hc => h c (List.mem_cons_of_mem e hc)).trans (tabGet_tabSet_ne d m e.2 own)

/-- Entries of distinct keys written under new keys read back under these. -/
theorem tabGet_foldl_tabSet {α : Type} [DecidableEq α] (d : Nat → α) (f : Nat → Nat) (l m : Tab α) {k : Nat}
    (nodup : (l.map (·.1)).Nodup) (apart : ∀ e ∈ l, f e.1 = f k → e.1 = k) :
    tabGet d (l.foldl (fun m e => tabSet d m (f e.1) e.2) m) (f k)
      = if k ∈ l.map (·.1) then tabGet d l k else tabGet d m (f k) := by
  induction l generalizing m with
  | nil => rfl
  | cons e l ih =>
    rw [List.map_cons, List.nodup_cons] at nodup
    refine (ih _ nodup.2 fun c hc => apart c (List.mem_cons_of_mem e hc)).trans ?_
    by_cases hk : k = e.1
    · subst hk
      rw [if_neg nodup.1, tabGet_tabSet_same, if_pos (by simp), tabGet, if_pos rfl]
    · have other : f k ≠ f e.1 := fun same => hk (apart e List.mem_cons_self same.symm).symm
      rw [tabGet_tabSet_ne d m e.2 other, tabGet, if_neg hk]
      simp only [List.map_cons, List.mem_cons, hk, false_or]

/-- In canonical form every key stands once. -/
theorem nodup_of_tabWfFrom {α : Type} [DecidableEq α] {d : Nat → α} {t : Tab α} {b : Nat} (h : tabWfFrom d b t = true) :
    (t.map (·.1)).Nodup ∧ ∀ k ∈ t.map (·.1), b ≤ k := by
  induction t generalizing b with
  | nil => simp
  | cons e t ih =>
    simp only [tabWfFrom, Bool.and_eq_true, decide_eq_true_eq] at h
    obtain ⟨⟨low, -⟩, rest⟩ := h
    obtain ⟨nodup, above⟩ := ih rest
    refine ⟨?_, fun k hk => ?_⟩
    · rw [List.map_cons, List.nodup_cons]
      exact ⟨fun mem => absurd (above e.1 mem) (by omega), nodup⟩
    · rw [List.map_cons, List.mem_cons] at hk
      rcases hk with rfl | hk
      · exact low
      · have := above k hk
        omega

theorem mem_of_mem_tabDrop {α : Type} {t : Tab α} {k : Nat} {e : Nat × α} (h : e ∈ tabDrop t k) : e ∈ t := by
  induction t with
  | nil => exact h
  | cons c t ih =>
    rw [tabDrop] at h
    split at h
    · exact List.mem_cons_of_mem c (ih h)
    · rcases List.mem_cons.mp h with same | h
      · exact same ▸ List.mem_cons_self
      · exact List.mem_cons_of_mem c (ih h)

theorem mem_tabPut {α : Type} {t : Tab α} {k : Nat} {v : α} {e : Nat × α} (h : e ∈ tabPut t k v) : e ∈ t ∨ e = (k, v) := by
  induction t with
  | nil => exact .inr (List.mem_singleton.mp h)
  | cons c t ih =>
    rw [tabPut] at h
    split at h
    · exact (List.mem_cons.mp h).symm
    · split at h
      · exact (List.mem_cons.mp h).symm.imp_left (List.mem_cons_of_mem c)
      · rcases List.mem_cons.mp h with same | h
        · exact .inl (same ▸ List.mem_cons_self)
        · exact (ih h).imp_left (List.mem_cons_of_mem c)

/-- What a store lists after a write was listed before, or is what was written. -/
theorem mem_tabSet {α : Type} [DecidableEq α] {d : Nat → α} {t : Tab α} {k : Nat} {v : α} {e : Nat × α}
    (h : e ∈ tabSet d t k v) : e ∈ t ∨ e = (k, v) := by
  unfold tabSet at h
  split at h
  · exact .inl (mem_of_mem_tabDrop h)
  · exact mem_tabPut h

/-- A key reads as its entry or as its default. -/
theorem tabGet_mem {α : Type} (d : Nat → α) (t : Tab α) (k : Nat) : (k, tabGet d t k) ∈ t ∨ tabGet d t k = d k := by
  induction t with
  | nil => exact .inr rfl
  | cons e t ih =>
    rw [tabGet]
    split
    · next same => exact .inl (by rw [same]; exact List.mem_cons_self)
    · exact ih.imp_left (List.mem_cons_of_mem e)

/-! ## Bytes copied -/

/-- A copy fills its range. -/
theorem byte_copy (wf : Inv s) (src dst n : Nat) {i : Nat} (hi : i < n) : (s.copy src dst n).byte (dst + i) = s.byte (src + i) := by
  let inside (a : Nat) : Bool := decide (src ≤ a) && decide (a < src + n)
  let moved : Tab Byte := s.mem.filter fun e => inside e.1
  let keep : Tab Byte := s.mem.filter fun e => !(decide (dst ≤ e.1) && decide (e.1 < dst + n))
  have within : inside (src + i) = true := by simp [inside]; omega
  have nodup : (moved.map (·.1)).Nodup := (nodup_of_tabWfFrom wf).1.sublist (List.filter_sublist.map _)
  have apart : ∀ e ∈ moved, dst + (e.1 - src) = dst + (src + i - src) → e.1 = src + i := by
    intro e he same
    have range := (List.mem_filter.mp he).2
    simp only [inside, Bool.and_eq_true, decide_eq_true_eq] at range
    omega
  have read := tabGet_foldl_tabSet memDefault (fun a => dst + (a - src)) moved keep nodup apart
  have lists : tabGet memDefault moved (src + i) = s.byte (src + i) :=
    (tabGet_filter memDefault inside s.mem (src + i)).trans (if_pos within)
  have cleared : tabGet memDefault keep (dst + i) = memDefault (dst + i) :=
    (tabGet_filter memDefault (fun a => !(decide (dst ≤ a) && decide (a < dst + n))) s.mem (dst + i)).trans
      (if_neg (by simp; omega))
  have place : dst + (src + i - src) = dst + i := by omega
  simp only [place] at read
  refine read.trans ?_
  split
  · exact lists
  · next absent => rw [cleared, ← lists, tabGet_of_not_mem memDefault absent]; rfl

/-- A copy leaves every byte outside its range. -/
theorem byte_copy_outside (src dst n : Nat) {a : Nat} (h : a < dst ∨ dst + n ≤ a) : (s.copy src dst n).byte a = s.byte a := by
  have other : ∀ e ∈ s.mem.filter fun e => decide (src ≤ e.1) && decide (e.1 < src + n), dst + (e.1 - src) ≠ a := by
    intro e he
    have range := (List.mem_filter.mp he).2
    simp only [Bool.and_eq_true, decide_eq_true_eq] at range
    omega
  refine (tabGet_foldl_tabSet_other memDefault (fun a => dst + (a - src)) _ _ other).trans ?_
  exact (tabGet_filter memDefault (fun a => !(decide (dst ≤ a) && decide (a < dst + n))) s.mem a).trans
    (if_pos (by simp; omega))

/-! ## No write pends -/

/-- A released write waits in no slot of the tile. -/
def Tile.settled (x : Tile) : Prop := ∀ e ∈ x.staging, ∀ b, e.2 = some b → b.released = false

theorem writesPend_iff : s.writesPend = false ↔ ∀ e ∈ s.tiles, e.2.settled := by
  simp only [State.writesPend, List.any_eq_false, Bool.not_eq_true, Tile.settled]
  refine forall₂_congr fun e _ => forall₂_congr fun c _ => ?_
  cases c.2 with
  | none => simp
  | some b => simp

theorem settleRange_of_settled (settled : s.writesPend = false) (a n : Nat) : s.settleRange a n = s := by
  have free : s.writePending a n = false := by
    rw [writesPend_iff] at settled
    simp only [State.writePending, List.any_eq_false, Bool.not_eq_true]
    intro e he c hc
    cases hb : c.2 with
    | none => simp
    | some b => simp [settled e he c hc b hb]
  unfold State.settleRange
  rw [free]
  rfl

theorem mem_tiles_modTile {k : Nat} {f : Tile → Tile} {e : Nat × Tile} (h : e ∈ (s.modTile k f).tiles) :
    e ∈ s.tiles ∨ e = (k, f (s.tile k)) := mem_tabSet (d := fun _ => ({} : Tile)) h

/-- A write that is counted as discarded stays in its slot, and no other begins to wait. -/
theorem writesPend_countDiscard (settled : s.writesPend = false) (u : Option Nat) : (s.countDiscard u).writesPend = false := by
  cases u with
  | none => exact settled
  | some u =>
    rw [writesPend_iff] at settled ⊢
    have own : (s.tile (u / 8)).settled := by
      rcases tabGet_mem (fun _ => ({} : Tile)) s.tiles (u / 8) with listed | fresh
      · exact settled _ listed
      · rw [State.tile, fresh]
        exact fun e he => nomatch he
    intro e he
    rcases mem_tiles_modTile he with listed | rfl
    · exact settled e listed
    · exact own

theorem byte_countDiscard (u : Option Nat) (a : Nat) : (s.countDiscard u).byte a = s.byte a := by
  cases u with
  | none => rfl
  | some u => rfl

/-! ## The mirror of a region (R127) -/

/-- From s to u bytes changed in one GiB alone, and no released write waits. -/
def State.fills (s : State) (tgt : Nat) (u : State) : Prop :=
  u.writesPend = false ∧ ∀ a, a / 2 ^ 30 ≠ tgt → u.byte a = s.byte a

/-- Where the part of a region begins that lies in a GiB. -/
def Region.low (r : Region) (src : Nat) : Nat := max r.base (src * 2 ^ 30)
/-- Where that part ends. -/
def Region.high (r : Region) (src : Nat) : Nat := min (r.base + r.len) ((src + 1) * 2 ^ 30)
/-- Where that part's mirror begins. -/
def Region.mirrorOf (r : Region) (src : Nat) : Nat := r.mirror + (r.low src - r.base)

/-- One GiB of the mirror, copied into the target where it can be read and the target's channel works. -/
def State.copyPart (s : State) (r : Region) (src tgt g : Nat) : State :=
  let m := r.mirrorOf src
  let a := max m g
  let e := min (m + (r.high src - r.low src)) (g + 2 ^ 30)
  let t := tgt / 64
  if !(s.tile t).tileOn || s.channelBad t (tgt % 64 / 8) then s.countDiscard (some (8 * t + tgt % 64 / 8))
  else match s.readPart a with
    | .ok b => s.copy b (tgt * 2 ^ 30 + r.low src % 2 ^ 30 + (a - m)) (e - a)
    | .error _ => s

theorem copyMirror_eq (r : Region) (src tgt : Nat) : s.copyMirror r src tgt =
    if r.kind = 1 ∧ r.mv ∧ r.low src < r.high src then
      forEach (gibsOf (r.mirrorOf src) (r.high src - r.low src))
        (s.settleRange (r.mirrorOf src) (r.high src - r.low src)) fun g u => u.copyPart r src tgt g
    else s := rfl

theorem fills_copyPart {u : State} {r : Region} {src tgt : Nat} (order : r.low src < r.high src) (g : Nat)
    (h : s.fills tgt u) : s.fills tgt (u.copyPart r src tgt g) := by
  obtain ⟨settled, kept⟩ := h
  unfold State.copyPart
  dsimp only
  split
  · exact ⟨writesPend_countDiscard settled _, fun a ha => (byte_countDiscard _ a).trans (kept a ha)⟩
  · split
    · refine ⟨settled, fun a ha => (byte_copy_outside _ _ _ ?_).trans (kept a ha)⟩
      have low : src * 2 ^ 30 ≤ r.low src := Nat.le_max_right ..
      have high : r.high src ≤ (src + 1) * 2 ^ 30 := Nat.min_le_right ..
      generalize r.mirrorOf src = m
      omega
    · exact ⟨settled, kept⟩

/-- A copy keeps to the target GiB. -/
theorem fills_copyMirror {u : State} (r : Region) (src tgt : Nat) (h : s.fills tgt u) : s.fills tgt (u.copyMirror r src tgt) := by
  rw [copyMirror_eq]
  split
  · next cond =>
    rw [settleRange_of_settled h.1]
    exact forEach_induct h fun g _ v hv => fills_copyPart cond.2.2 g hv
  · exact h

/-- A mirror that lies in one GiB fills the region's part of the target. -/
theorem copyMirror_single {r : Region} {src tgt b : Nat} (settled : s.writesPend = false) (kind : r.kind = 1) (mv : r.mv = true)
    (order : r.low src < r.high src) (on : (s.tile (tgt / 64)).tileOn = true)
    (good : s.channelBad (tgt / 64) (tgt % 64 / 8) = false)
    (one : r.mirrorOf src / 2 ^ 30 = (r.mirrorOf src + (r.high src - r.low src) - 1) / 2 ^ 30)
    (readable : s.readPart (r.mirrorOf src) = .ok b) :
    s.copyMirror r src tgt = s.copy b (tgt * 2 ^ 30 + r.low src % 2 ^ 30) (r.high src - r.low src) := by
  have single : gibsOf (r.mirrorOf src) (r.high src - r.low src) = [r.mirrorOf src / 2 ^ 30 * 2 ^ 30] := by
    unfold gibsOf
    rw [← one, Nat.add_sub_cancel_left]
    rfl
  have first : max (r.mirrorOf src) (r.mirrorOf src / 2 ^ 30 * 2 ^ 30) = r.mirrorOf src := by omega
  have last : min (r.mirrorOf src + (r.high src - r.low src)) (r.mirrorOf src / 2 ^ 30 * 2 ^ 30 + 2 ^ 30)
      = r.mirrorOf src + (r.high src - r.low src) := by omega
  rw [copyMirror_eq, if_pos ⟨kind, mv, order⟩, settleRange_of_settled settled, single]
  show s.copyPart r src tgt _ = _
  unfold State.copyPart
  dsimp only
  rw [on, good, first, last, readable]
  simp only [Bool.not_true, Bool.or_false, Bool.false_eq_true, ↓reduceIte, Nat.sub_self, Nat.add_zero, Nat.add_sub_cancel_left]

/-! ## REHOMING_COPY_COMPLETE (R127) -/

/-- The mirrors of all regions, copied into the GiB's target. -/
def State.copyMirrors (s : State) (src tgt : Nat) : State := forEach s.regions s fun g u => u.copyMirror g src tgt

/-- The copies out of a GiB are done. -/
def State.copied (s : State) (src : Nat) : State :=
  { s with refills := s.refills.map fun x => if x.src = src then { x with done := true } else x }

theorem rehomingCopyComplete_eq {k : Fin 64} {gib : Fin 48} {r : Refill}
    (found : s.refills.find? (fun r => r.src == 64 * k.val + gib && r.copies && !r.done) = some r) :
    r.src = 64 * k.val + gib
      ∧ exec (.rehomingCopyComplete k gib) s = .next ((s.copyMirrors (64 * k.val + gib) r.tgt).copied (64 * k.val + gib)) := by
  refine ⟨?_, ?_⟩
  · have holds := List.find?_some found
    simp only [Bool.and_eq_true, beq_iff_eq] at holds
    exact holds.1.1
  · rw [exec_rehomingCopyComplete, execRehomingCopyComplete]
    dsimp only
    rw [found]
    rfl

theorem copied_done {src : Nat} : ∀ x ∈ (s.copied src).refills, x.src = src → x.done = true := by
  intro x hx own
  obtain ⟨y, -, rfl⟩ := List.mem_map.mp hx
  split at own
  · next same => rw [if_pos same]
  · next other => exact absurd own other

theorem fills_copyMirrors (settled : s.writesPend = false) (src tgt : Nat) : s.fills tgt (s.copyMirrors src tgt) :=
  forEach_induct (Q := s.fills tgt) ⟨settled, fun _ _ => rfl⟩ fun g _ _ hu => fills_copyMirror g src tgt hu

end Sys2Proof.Machine
end

section
/-! SUPPORT. Refresh, failed channels, the redirect group and the region map (R122, R124, R126, R128), and from them and the
re-homing copies statement O31. -/

namespace Sys2Proof.Machine

variable {s : State}

/-! ## REFRESH_RATE_POLL (R122) -/

/-- A report that is out of range is logged. -/
def State.noteReport (s : State) (k report : Nat) : State := if report > 4 then s.log 0xA006 k report else s

theorem noteReport_spec (k report : Nat) : (s.noteReport k report).objs = s.objs ∧ (s.noteReport k report).mem = s.mem
    ∧ (s.noteReport k report).events = if 4 < report then (s.log 0xA006 k report).events else s.events := by
  unfold State.noteReport
  by_cases high : 4 < report
  · rw [if_pos high, if_pos high]
    exact ⟨rfl, rfl, rfl⟩
  · rw [if_neg high, if_neg high]
    exact ⟨rfl, rfl, rfl⟩

theorem refreshRatePoll_applies (k : Fin 64) (report : Nat) :
    let m := if report ≤ 1 then 1 else if report ≤ 2 then 2 else 4
    Done (.refreshRatePoll k report) s fun t => (t.tile k).deviceRefresh = m ∧ t.mem = s.mem
      ∧ t.num 0xA003 (k + 1) = max (bandRefresh (s.num 0x4004 (92 + k / 2 + 1))) m
      ∧ t.events = (if 4 < report then (s.log 0xA006 k report).events else s.events) := by
  intro m
  let v := (s.noteReport k report).modTile k fun x => { x with deviceRefresh := m }
  obtain ⟨objs, mem, events⟩ := noteReport_spec (s := s) k report
  have tile : (v.tile k).deviceRefresh = m := by rw [State.tile_modTile_same]
  refine ⟨v.refresh k, exec_refreshRatePoll k report s, ?_, ?_, ?_, ?_⟩
  · unfold State.refresh
    rw [State.tile, State.setNum_tiles]
    exact tile
  · unfold State.refresh
    rw [State.setNum_mem]
    exact mem
  · unfold State.refresh
    rw [State.num_setNum_same, State.num_congr (show v.objs = s.objs from objs), tile]
  · unfold State.refresh
    rw [State.setNum_events]
    exact events

/-! ## CHANNEL_FAILED (R124) -/

/-- A channel that is declared failed: its event, its mask bit, its 8 GiB, and the landing that it waits for. -/
def State.declareFailed (s : State) (k c : Nat) : State :=
  let s := s.log 0xA004 k (8 * k + c)
  let s := s.setNum 0xA002 (k + 1) (s.num 0xA002 (k + 1) ||| 2 ^ c)
  let s := s.setNum 0xA001 (k + 1) (s.num 0xA001 (k + 1) - 8)
  s.modTile k fun x => { x with newlyFailed := x.newlyFailed ||| BitVec.ofNat 6 (2 ^ c) }

theorem failChannel_bad {k c : Nat} (bad : s.channelBad k c = true) : s.failChannel k c = s := if_pos bad

theorem failChannel_good {k c : Nat} (good : s.channelBad k c = false) :
    s.failChannel k c = (s.declareFailed k c).loseSpill fun b => b / 2 ^ 36 == k && b / 2 ^ 33 % 8 == c :=
  if_neg (by simp [good])

theorem channelFailed_declares {k : Fin 64} {c : Fin 6} (good : s.channelBad k c = false) :
    Done (.channelFailed k c) s fun t =>
      (∀ j : Fin 6, t.channelBad k j = (s.channelBad k j || j == c)) ∧ t.num 0xA001 (k + 1) = s.num 0xA001 (k + 1) - 8
      ∧ (t.tile k).newlyFailed = (s.tile k).newlyFailed ||| BitVec.ofNat 6 (2 ^ c.val) ∧ t.mem = s.mem := by
  refine ⟨s.failChannel k c, exec_channelFailed k c s, fun j => ?_, ?_, ?_, mem_failChannel k c⟩
  · rw [channelBad_failChannel k.isLt k.isLt]
    simp [Fin.ext_iff, beq_eq_decide]
  · have keys : objKey 0xA001 (k + 1) ≠ objKey 0xA002 (k + 1) := by unfold objKey; omega
    rw [failChannel_good good, State.num_congr (objs_loseSpill _), State.declareFailed]
    rw [num_modTile, State.num_setNum_same, num_setNum_ne keys, num_log]
  · rw [failChannel_good good, State.tile, tiles_loseSpill, State.declareFailed]
    exact (congrArg Tile.newlyFailed (State.tile_modTile_same ..)).trans
      (by rw [State.tile, State.setNum_tiles, State.setNum_tiles]; rfl)

/-! ## REDIRECT_GROUP_COMMIT (R126, R308) -/

/-- A valid entry that leads beyond the populated GiB aborts the commit. -/
theorem redirectRule_target {k e : Nat} (hk : k < 64) (listed : e ∈ redirectEntries (s.stagedBlob 0xA032 0xA031 (k + 1)))
    (valid : bit e 15 = true) (beyond : 4096 ≤ e % 2 ^ 13 ∨ 48 ≤ e % 64) : redirectRule s = 0xA0000010 := by
  refine if_pos (List.any_eq_true.mpr ⟨e % 2 ^ 13, ?_, ?_⟩)
  · exact List.mem_flatMap.mpr ⟨k, List.mem_range.mpr hk, List.mem_filterMap.mpr ⟨e, listed, if_pos valid⟩⟩
  · have slots : e % 2 ^ 13 % 64 = e % 64 := by omega
    simpa [slots] using beyond

theorem redirectApply_frame : { redirectApply s with objs := s.objs } = s :=
  forEach_induct (Q := fun u => { u with objs := s.objs } = s) rfl fun _ _ _ hu => hu

/-- Each staged map is in force, where no two are of one object. -/
theorem redirectApply_objs (subs : ∀ e ∈ (s.group 0xA032).staged, e.2.1 < 256)
    (nodup : ((s.group 0xA032).staged.map fun e => (e.1, e.2.1)).Nodup) :
    ∀ e ∈ (s.group 0xA032).staged, (redirectApply s).obj e.1 e.2.1 = e.2.2 := by
  refine forEach_each (Q := fun _ => True) (P := fun (e : Nat × Nat × Value) u => u.obj e.1 e.2.1 = e.2.2) trivial
    (fun e _ u _ => ⟨trivial, ?_⟩) fun c hc e he u _ held => ?_
  · rw [State.obj_setObj, if_pos rfl]
  · rw [State.obj_setObj]
    split
    · next same =>
      have subC := subs c hc
      have subE := subs e he
      have keys : e.1 = c.1 ∧ e.2.1 = c.2.1 := by unfold objKey at same; omega
      rw [List.inj_on_of_nodup_map nodup he hc (Prod.ext keys.1 keys.2)]
    · exact held

section
variable {slot : Nat} (accepts : Accepts s slot opCommand 0xA032 0) (free : (s.group 0xA032).busy slot = false)
  (stopped : s.tick.running = false)
include accepts free stopped

theorem exec_redirectGroupCommit_eq :
    exec (.redirectGroupCommit slot) s = .next (s.applyCommit slot 0xA032 false redirectRule redirectApply) := by
  rw [exec_redirectGroupCommit, execRedirectGroupCommit, accepts.commitCommand, free, stopped]
  rfl

theorem redirectGroupCommit_aborts {k e : Nat} (hk : k < 64)
    (listed : e ∈ redirectEntries (s.stagedBlob 0xA032 0xA031 (k + 1))) (valid : bit e 15 = true)
    (beyond : 4096 ≤ e % 2 ^ 13 ∨ 48 ≤ e % 64) :
    Answers (.redirectGroupCommit slot) s slot opCommand 0xA032 0 0xA0000010 fun u => u = s := by
  refine ⟨s, ?_, rfl⟩
  rw [exec_redirectGroupCommit_eq accepts free stopped,
    applyCommit_refused (redirectRule_target hk listed valid beyond) (by decide)]

theorem redirectGroupCommit_applies (agrees : redirectRule s = 0) (subs : ∀ e ∈ (s.group 0xA032).staged, e.2.1 < 256)
    (nodup : ((s.group 0xA032).staged.map fun e => (e.1, e.2.1)).Nodup) :
    Answers (.redirectGroupCommit slot) s slot opCommand 0xA032 0 0 fun u =>
      (∀ e ∈ (s.group 0xA032).staged, u.obj e.1 e.2.1 = e.2.2) ∧ u.dict = { s.dict with redirectGroup := {} }
      ∧ { u with objs := s.objs, dict := s.dict } = s := by
  have kept := congrArg State.dict (redirectApply_frame (s := s))
  have dict : (redirectApply s).dict = s.dict := kept
  refine ⟨(redirectApply s).setGroup 0xA032 {}, ?_, redirectApply_objs subs nodup, ?_, ?_⟩
  · rw [exec_redirectGroupCommit_eq accepts free stopped, applyCommit_accepted agrees]
  · rw [← dict]
    rfl
  · exact congrArg (fun v : State => { v with dict := s.dict }) redirectApply_frame

end

/-! ## REGION_MAP_WRITE (R128) -/

theorem objectRow_regionMap :
    ∃ r, objectRow 0xA030 0 = some r ∧ r.access = .rws ∧ r.type = .blob ∧ r.min = 0 ∧ r.max = 2097152 :=
  ⟨_, rfl, rfl, rfl, rfl, rfl⟩

/-- A map's rules, case by case. -/
theorem regionMapRule_length {data : List Byte} (h : data.length % 32 ≠ 0) : regionMapRule data = 0x10000005 := if_pos h

theorem regionMapRule_whole {data : List Byte} (h : data.length % 32 = 0) : regionMapRule data =
    if (regionsOf (data.length / 32) data).any (·.reserved) then 0x10000008
    else if (regionsOf (data.length / 32) data).all regionOk && regionsApart (regionsOf (data.length / 32) data) then 0
    else 0xA0000012 := if_neg (by simp [h])

section
variable {slot : Nat} {data : List Byte} (accepts : Accepts s slot opWrite 0xA030 0) (stopped : s.tick.running = false)
  (short : data.length ≤ 2097152)
include accepts stopped short

theorem exec_regionMapWrite_eq : exec (.regionMapWrite slot data) s = .next (if regionMapRule data ≠ 0
    then s.answer slot opWrite 0xA030 0 (regionMapRule data)
    else (s.setBlob 0xA030 0 data).answerWrite slot 0xA030 0 0) := by
  obtain ⟨row, hrow, access, type, low, high⟩ := objectRow_regionMap
  have fits : WriteFits s 0xA030 0 (.bytes data) := by
    refine ⟨row, hrow, by simp [stopped], by rw [type]; rfl, by rw [low]; omega, ?_⟩
    rw [high]
    exact_mod_cast short
  obtain ⟨row', hrow', written⟩ := writeWith_eq accepts fits (fun _ => regionMapRule data)
    (fun s r => s.storeValue slot 0xA030 0 (.bytes data) r)
  obtain rfl := Option.some.inj (hrow'.symm.trans hrow)
  have put : s.storeValue slot 0xA030 0 (.bytes data) row' = (s.setBlob 0xA030 0 data).answerWrite slot 0xA030 0 0 := by
    simp [State.storeValue, State.acceptWrite, access, State.putInForce, State.setBlob]
  rw [← put]
  exact congrArg Host.Outcome.next written

theorem regionMapWrite_refused {code : Nat} (rule : regionMapRule data = code) (refuses : code ≠ 0) :
    Answers (.regionMapWrite slot data) s slot opWrite 0xA030 0 code fun u => u = s := by
  refine ⟨s, ?_, rfl⟩
  rw [exec_regionMapWrite_eq accepts stopped short, rule, if_pos refuses]

theorem regionMapWrite_taken (rule : regionMapRule data = 0) :
    Wrote (.regionMapWrite slot data) s slot 0xA030 0 0 fun u => u.blob 0xA030 0 = data ∧ { u with objs := s.objs } = s := by
  refine ⟨s.setBlob 0xA030 0 data, ?_, s.blob_setBlob_same 0xA030 0 data, rfl⟩
  rw [exec_regionMapWrite_eq accepts stopped short, rule, if_neg (by simp)]

end

/-- Settles O31, command by command. -/
theorem channelsAndMapsFollowTheirRules : Obligations.ChannelsAndMapsFollowTheirRules := by
  unfold Obligations.ChannelsAndMapsFollowTheirRules
  intro s
  refine ⟨refreshRatePoll_applies, fun k c => ⟨fun bad => ?_, channelFailed_declares⟩, fun k gib r wf found => ?_,
    fun slot accepts free stopped => ⟨?_, redirectGroupCommit_applies accepts free stopped⟩,
    fun slot data accepts stopped short => ⟨fun odd => ?_, fun whole reserved => ?_, fun whole clear => ⟨?_, fun breaks => ?_⟩⟩⟩
  · rw [exec_channelFailed, execChannelFailed, failChannel_bad bad]
  · obtain ⟨src, run⟩ := rehomingCopyComplete_eq found
    refine ⟨_, run, copied_done, fun settled => ⟨(fills_copyMirrors settled _ r.tgt).2, ?_⟩⟩
    intro g m regions kind mv on good lo hi from_ one readable i hi_
    have order : g.low r.src < g.high r.src := by
      show lo < hi
      omega
    have copies : s.copyMirrors (64 * k.val + gib) r.tgt
        = s.copy m (r.tgt * 2 ^ 30 + lo % 2 ^ 30) (hi - lo) := by
      rw [← src, State.copyMirrors, regions]
      exact copyMirror_single settled kind mv order on good one readable
    show (s.copyMirrors (64 * k.val + gib) r.tgt).byte _ = _
    rw [copies]
    exact byte_copy wf m _ _ hi_
  · rintro ⟨k, hk, e, listed, valid, beyond⟩
    exact redirectGroupCommit_aborts accepts free stopped hk listed valid beyond
  · exact regionMapWrite_refused accepts stopped short (regionMapRule_length odd) (by decide)
  · refine regionMapWrite_refused accepts stopped short ?_ (by decide)
    rw [regionMapRule_whole whole, if_pos (List.any_eq_true.mpr reserved)]
  · intro entries apart
    refine regionMapWrite_taken accepts stopped short ?_
    rw [regionMapRule_whole whole, if_neg (by simpa using clear), if_pos (by simpa [apart] using entries)]
  · refine regionMapWrite_refused accepts stopped short ?_ (by decide)
    rw [regionMapRule_whole whole, if_neg (by simpa using clear), if_neg (by simpa using breaks)]

end Sys2Proof.Machine
end

section
/-! SUPPORT. Trades between tiles and the slots of the energy grant (R136, R140–R142, R149, R158, R159): what jobs that move
between the queues of a tile leave alone, what each message of a trade does, and from that statement O28. -/

namespace Sys2Proof.Machine

variable {s t u : State}

/-! ## Tiles that change alone -/

/-- From s to t nothing but tile k changed. -/
structure OnlyTile (k : Nat) (s t : State) : Prop where
  parts : { t with tiles := s.tiles } = s
  others : ∀ n, n ≠ k → t.tile n = s.tile n

theorem OnlyTile.refl (k : Nat) (s : State) : OnlyTile k s s := ⟨rfl, fun _ _ => rfl⟩

theorem OnlyTile.trans {k : Nat} (h : OnlyTile k s t) (h' : OnlyTile k t u) : OnlyTile k s u := by
  obtain ⟨parts, others⟩ := h
  obtain ⟨parts', others'⟩ := h'
  refine ⟨?_, fun n hn => (others' n hn).trans (others n hn)⟩
  rw [← parts'] at parts
  exact parts

theorem OnlyTile.modTile (k : Nat) (s : State) (f : Tile → Tile) : OnlyTile k s (s.modTile k f) :=
  ⟨rfl, fun n hn => by rw [State.tile_modTile, if_neg hn]⟩

/-- Whatever does not look at the tiles is kept. -/
theorem OnlyTile.keeps {β : Type} {k : Nat} (h : OnlyTile k s t) (g : State → β)
    (blind : ∀ v l, g { v with tiles := l } = g v) : g t = g s := by
  rw [← h.parts]
  exact (blind t s.tiles).symm

/-! ## Jobs that move between queues (R135, R149) -/

/-- From x to y nothing but a tile's queues and its withheld sessions changed. -/
def Tile.Requeued (x y : Tile) : Prop :=
  { y with deques := x.deques, readyList := x.readyList, withheld := x.withheld } = x

theorem Tile.Requeued.refl (x : Tile) : x.Requeued x := rfl

theorem Tile.Requeued.trans {x y z : Tile} (h : x.Requeued y) (h' : y.Requeued z) : x.Requeued z := by
  unfold Tile.Requeued at h ⊢
  rw [← h'] at h
  exact h

/-- Whatever does not look at the queues and the withheld sessions is kept. -/
theorem Tile.Requeued.keeps {β : Type} {x y : Tile} (h : x.Requeued y) (g : Tile → β)
    (blind : ∀ z d r w, g { z with deques := d, readyList := r, withheld := w } = g z) : g y = g x := by
  rw [← h]
  exact (blind y x.deques x.readyList x.withheld).symm

theorem Tile.requeued_append (x : Tile) (i : Nat) (j : Job) : x.Requeued (x.append i j) := by
  unfold Tile.append
  dsimp only
  split
  · rfl
  · rfl

theorem Tile.requeued_refill (x : Tile) : x.Requeued x.refill := by
  have moved (l : List Job) (y : Tile) : y.Requeued (l.foldl (fun x j => x.append j.home j) y) := by
    induction l generalizing y with
    | nil => exact .refl y
    | cons j l ih => exact (y.requeued_append j.home j).trans (ih _)
  exact Tile.Requeued.trans (y := { x with readyList := [] }) rfl (moved x.readyList _)

/-- From s to t nothing but the queues and the withheld sessions of tile k changed. -/
structure Requeues (k : Nat) (s t : State) : Prop extends OnlyTile k s t where
  tile : (s.tile k).Requeued (t.tile k)

theorem Requeues.refl (k : Nat) (s : State) : Requeues k s s := ⟨.refl k s, .refl _⟩

theorem Requeues.trans {k : Nat} (h : Requeues k s t) (h' : Requeues k t u) : Requeues k s u :=
  ⟨h.toOnlyTile.trans h'.toOnlyTile, h.tile.trans h'.tile⟩

theorem Requeues.modTile {k : Nat} {f : Tile → Tile} (h : (s.tile k).Requeued (f (s.tile k))) : Requeues k s (s.modTile k f) :=
  ⟨.modTile k s f, by rwa [State.tile_modTile_same]⟩

section
variable (k : Nat) (j : Job)

theorem requeues_withhold (l : List Nat) : Requeues k s (s.withhold k l) := .modTile rfl

theorem requeues_placeElsewhere : Requeues k s (s.placeElsewhere k j) := by
  unfold State.placeElsewhere
  split
  · exact requeues_withhold k _
  · split
    · exact .modTile (Tile.requeued_append _ _ j)
    · split
      · exact .refl k s
      · exact requeues_withhold k _

theorem requeues_placeReady : Requeues k s (s.placeReady k j) := by
  unfold State.placeReady
  split
  · exact .modTile (Tile.requeued_append _ _ j)
  · exact requeues_placeElsewhere k j

/-- Successors that become ready leave the jobs that wait; the rest is placed. -/
theorem release_requeues : ∃ w, Requeues k (s.modTile k fun x => { x with waiting := w }) (s.release k j) :=
  ⟨_, forEach_induct (Q := Requeues k _) (.refl k _) fun i _ _ h => h.trans (requeues_placeReady k i)⟩

/-- What a completed job's successors leave alone. -/
theorem onlyTile_release : OnlyTile k s (s.release k j) ∧ ((s.release k j).tile k).tradedOut = (s.tile k).tradedOut := by
  obtain ⟨w, placed⟩ := release_requeues (s := s) k j
  refine ⟨(OnlyTile.modTile k s _).trans placed.toOnlyTile, (placed.tile.keeps Tile.tradedOut fun _ _ _ _ => rfl).trans ?_⟩
  rw [State.tile_modTile_same]

end

/-! ## TRADE_IDLE_EXPIRY (R140) -/

/-- Ask tile n for work, with the asking tile k's free allowances. -/
def State.askTrade (s : State) (k n : Nat) (a : Nat × Nat × Nat) : State :=
  (s.send (.tileMessage k n msgRequest [s.drover.clockNow.floor.toNat, a.1, a.2.1, a.2.2])).modTile k fun x =>
    { x with requested := x.requested ++ [n] }

/-- Ask the neighbour on side d, where its flock is on and it has no request from tile k. -/
def State.askSide (s : State) (k : Nat) (a : Nat × Nat × Nat) (d : Nat) : State :=
  match neighbour k d with
  | some n => if (s.tile n).flockOn && !(s.tile k).requested.contains n then s.askTrade k n a else s
  | none => s

/-- From s to t tile k asked some neighbours for work, and nothing else changed. -/
structure Asks (k : Nat) (s t : State) : Prop where
  parts : { t with tiles := s.tiles, sent := s.sent } = s
  flockOn : ∀ n, (t.tile n).flockOn = (s.tile n).flockOn
  kept : ∀ n ∈ (s.tile k).requested, n ∈ (t.tile k).requested
  sent : ∀ o ∈ s.sent, o ∈ t.sent
  asked : ∀ n ∈ (t.tile k).requested, n ∈ (s.tile k).requested ∨ ∃ a, Out.tileMessage k n msgRequest a ∈ t.sent

theorem Asks.refl (k : Nat) (s : State) : Asks k s s :=
  ⟨rfl, fun _ => rfl, fun _ h => h, fun _ h => h, fun _ h => .inl h⟩

theorem Asks.trans {k : Nat} (h : Asks k s t) (h' : Asks k t u) : Asks k s u where
  parts := by
    have parts := h.parts
    rw [← h'.parts] at parts
    exact parts
  flockOn n := (h'.flockOn n).trans (h.flockOn n)
  kept n hn := h'.kept n (h.kept n hn)
  sent o ho := h'.sent o (h.sent o ho)
  asked n hn := (h'.asked n hn).elim (fun before => (h.asked n before).imp_right fun ⟨a, ha⟩ => ⟨a, h'.sent _ ha⟩) .inr

theorem asks_askTrade (k n : Nat) (a : Nat × Nat × Nat) : Asks k s (s.askTrade k n a) where
  parts := rfl
  flockOn m := by
    rw [State.askTrade, State.tile_modTile]
    split
    · next same => rw [same]; rfl
    · rfl
  kept m hm := by
    rw [State.askTrade, State.tile_modTile_same]
    exact List.mem_append_left _ hm
  sent o ho := List.mem_append_left _ ho
  asked m hm := by
    rw [State.askTrade, State.tile_modTile_same] at hm
    refine (List.mem_append.mp hm).imp_right fun hm => ?_
    rw [List.mem_singleton.mp hm]
    exact ⟨_, List.mem_append_right _ (List.mem_singleton_self _)⟩

theorem asks_askSide (k : Nat) (a : Nat × Nat × Nat) (d : Nat) : Asks k s (s.askSide k a d) := by
  unfold State.askSide
  split
  · split
    · exact asks_askTrade k _ a
    · exact .refl k s
  · exact .refl k s

/-- A neighbour whose flock is on has a request once its side has been asked. -/
theorem requested_askSide {k d n : Nat} (a : Nat × Nat × Nat) (side : neighbour k d = some n) (on : (s.tile n).flockOn = true) :
    n ∈ ((s.askSide k a d).tile k).requested := by
  simp only [State.askSide, side, on, Bool.true_and]
  split
  · rw [State.askTrade, State.tile_modTile_same]
    exact List.mem_append_right _ (List.mem_singleton_self n)
  · next known => simpa using known

/-- All four sides are asked (R140). -/
theorem askSides_spec (k : Nat) (a : Nat × Nat × Nat) : Asks k s (upTo 4 s fun d u => u.askSide k a d)
    ∧ ∀ d < 4, ∀ n, neighbour k d = some n → (s.tile n).flockOn = true →
        n ∈ ((upTo 4 s fun d u => u.askSide k a d).tile k).requested := by
  refine ⟨upTo_induct (.refl k s) fun d _ u h => h.trans (asks_askSide k a d), fun d hd => ?_⟩
  refine upTo_each (Q := Asks k s)
    (P := fun d u => ∀ n, neighbour k d = some n → (s.tile n).flockOn = true → n ∈ (u.tile k).requested)
    (.refl k s) (fun e _ u h => ⟨h.trans (asks_askSide k a e), fun n side on => ?_⟩)
    (fun e _ f _ u _ asked n side on => (asks_askSide k a e).kept n (asked n side on)) d hd
  exact requested_askSide a side ((h.flockOn n).trans on)

theorem tradeIdleExpiry_asks {p : Fin 1024} (idleTime : s.gov 0x7041 0 ≠ 0) (running : s.tick.running = true)
    (work : s.tick.inLanding = false) (serves : s.serves (tileOf p) (p % 16) = true) (idle : (s.pen p).run = none)
    (own : s.ownEntry (tileOf p) (p % 16) = none) (steal : s.stealEntry (tileOf p) (p % 16) = none)
    (early : 1000 * s.gov 0x7043 0 < s.toLanding) (room : (s.tile (tileOf p)).tradedIn.length < 16) :
    Done (.tradeIdleExpiry p) s fun t => { t with tiles := s.tiles, sent := s.sent } = s ∧ ∀ d n, d < 4 →
      neighbour (tileOf p) d = some n → (s.tile n).flockOn = true → n ∉ (s.tile (tileOf p)).requested →
        n ∈ (t.tile (tileOf p)).requested ∧ ∃ a, Out.tileMessage (tileOf p) n msgRequest a ∈ t.sent := by
  obtain ⟨asks, requested⟩ := askSides_spec (s := s) (tileOf p) (s.allowances (tileOf p))
  refine ⟨_, (if_neg ?_).trans rfl, asks.parts, fun d n hd side on new => ?_⟩
  · simp only [running, work, serves, idle, own, steal, Bool.not_true, Option.isSome_none, Bool.false_eq_true, false_or,
      not_or]
    exact ⟨idleTime, not_le.mpr early, not_le.mpr room⟩
  · have there := requested d hd n side on
    exact ⟨there, (asks.asked n there).resolve_left new⟩

/-! ## TRADE_REQUEST_RECEIVED (R141) -/

/-- What R141 asks of each job that goes. -/
def Job.Tradable (j : Job) : Prop := j.mig = true ∧ j.scr = false ∧ j.pinned = false ∧ j.donor = none

theorem tradable_of_eligible {clkt : Nat} {a : Nat × Nat × Nat} {l : List Job} {j : Job}
    (h : s.eligible clkt a l j = true) : j.Tradable := by
  simp only [State.eligible, Bool.and_eq_true, Bool.not_eq_true', Option.isNone_iff_eq_none] at h
  obtain ⟨⟨⟨⟨⟨⟨⟨⟨mig, free⟩, own⟩, -⟩, -⟩, -⟩, -⟩, -⟩, -⟩ := h
  obtain ⟨scr, pinned⟩ := Bool.or_eq_false_iff.mp free
  exact ⟨mig, scr, pinned, own⟩

/-- Entry m of deque i leaves for another tile. -/
def State.takeTraded (s : State) (k i m : Nat) : State :=
  s.modTile k fun x => (x.setDeque i (without (x.deque i) m)).refill

theorem requeues_takeTraded (k i m : Nat) : Requeues k s (s.takeTraded k i m) :=
  .modTile (Tile.Requeued.trans (y := (s.tile k).setDeque i _) rfl (Tile.requeued_refill _))

/-- One choice: none is left, or an eligible job joins those chosen. -/
theorem chooseTrades_succ (k clkt : Nat) (a : Nat × Nat × Nat) (n : Nat) (l : List Job) :
    s.chooseTrades k clkt a (n + 1) l = (s, l)
    ∨ ∃ j i m, s.eligible clkt a l j = true
      ∧ s.chooseTrades k clkt a (n + 1) l = (s.takeTraded k i m).chooseTrades k clkt a n (l ++ [j]) := by
  rw [State.chooseTrades]
  split
  · exact .inl rfl
  · next i _ =>
    split
    · exact .inl rfl
    · next j m found =>
      split
      · exact .inl rfl
      · have eligible := List.find?_some found
        exact .inr ⟨j, i, m, eligible, rfl⟩

theorem chooseTrades_spec (k clkt : Nat) (a : Nat × Nat × Nat) (n : Nat) (s : State) (l : List Job) :
    Requeues k s (s.chooseTrades k clkt a n l).1 ∧ ∃ m, (s.chooseTrades k clkt a n l).2 = l ++ m ∧ m.length ≤ n
      ∧ ∀ j ∈ m, j.Tradable := by
  have nothing {n : Nat} (s : State) (l : List Job) : Requeues k s s ∧ ∃ m, l = l ++ m ∧ m.length ≤ n ∧ ∀ j ∈ m, j.Tradable :=
    ⟨.refl k s, [], (List.append_nil l).symm, Nat.zero_le n, List.forall_mem_nil _⟩
  induction n generalizing s l with
  | zero => exact nothing s l
  | succ n ih =>
    obtain stops | ⟨j, i, m, eligible, goes⟩ := chooseTrades_succ (s := s) k clkt a n l
    · rw [stops]
      exact nothing s l
    · obtain ⟨requeued, rest, chosen, short, tradable⟩ := ih (s.takeTraded k i m) (l ++ [j])
      rw [goes]
      refine ⟨(requeues_takeTraded k i m).trans requeued, j :: rest, ?_, Nat.succ_le_succ short, ?_⟩
      · rw [chosen, List.append_assoc, List.singleton_append]
      · exact List.forall_mem_cons.mpr ⟨tradable_of_eligible eligible, tradable⟩

/-- A donor that may dispatch (R141). -/
def State.mayGrant (s : State) (d : Nat) : Bool :=
  (s.tile d).flockOn && !s.drover.rein && !(s.tile d).rein && s.tick.running && !s.tick.inLanding

theorem mayGrant_eq_false {d : Nat}
    (h : (s.tile d).flockOn = false ∨ s.drover.rein = true ∨ (s.tile d).rein = true ∨ s.tick.inLanding = true) :
    s.mayGrant d = false := by
  rw [State.mayGrant]
  rcases h with h | h | h | h
  all_goals simp [h]

/-- The jobs that leave the donor's queues, and the state without them. -/
def State.grantJobs (s : State) (d clkt : Nat) (a : Nat × Nat × Nat) : State × List Job :=
  if s.mayGrant d then s.chooseTrades d clkt a (min 4 (16 - (s.tile d).tradedOut.length)) [] else (s, [])

theorem grantJobs_spec (d clkt : Nat) (a : Nat × Nat × Nat) : Requeues d s (s.grantJobs d clkt a).1
    ∧ (s.grantJobs d clkt a).2.length ≤ 4 ∧ (∀ j ∈ (s.grantJobs d clkt a).2, j.Tradable)
    ∧ (s.mayGrant d = false → (s.grantJobs d clkt a).2 = []) := by
  unfold State.grantJobs
  split
  · next may =>
    obtain ⟨requeued, l, chosen, short, tradable⟩ :=
      chooseTrades_spec d clkt a (min 4 (16 - (s.tile d).tradedOut.length)) s []
    rw [chosen, List.nil_append]
    refine ⟨requeued, short.trans (Nat.min_le_left ..), tradable, fun closed => ?_⟩
    exact absurd (may.symm.trans closed) (by decide)
  · exact ⟨.refl d s, Nat.zero_le 4, List.forall_mem_nil _, fun _ => rfl⟩

/-- The donor keeps copies of the jobs that go to tile r, and their energy leaves it. -/
def State.copyOut (s : State) (d r : Nat) (l : List Job) : State :=
  s.modTile d fun x => { x with
    tradedOut := x.tradedOut ++ l.map (fun j => (r, j)), tradeDelta := x.tradeDelta - (l.map fun j => (j.energy : Int)).sum }

/-- Tile r gains their energy, and the grant is sent. -/
def State.passJobs (s : State) (d r : Nat) (l : List Job) : State :=
  ((s.copyOut d r l).modTile r fun x => { x with tradeDelta := x.tradeDelta + (l.map fun j => (j.energy : Int)).sum }).send
    (.tileMessage d r msgGrant (l.map (·.jobId)))

theorem tile_passJobs (d r k : Nat) (l : List Job) : (s.passJobs d r l).tile k = ((s.copyOut d r l).modTile r fun x =>
    { x with tradeDelta := x.tradeDelta + (l.map fun j => (j.energy : Int)).sum }).tile k := rfl

theorem tradedOut_passJobs {d r : Nat} (ne : d ≠ r) (l : List Job) :
    ((s.passJobs d r l).tile d).tradedOut = (s.tile d).tradedOut ++ l.map (fun j => (r, j)) := by
  rw [tile_passJobs, State.tile_modTile, if_neg ne, State.copyOut, State.tile_modTile_same]

theorem jobs_passJobs {d r : Nat} (ne : d ≠ r) (l : List Job) : ((s.passJobs d r l).tile r).jobs = (s.tile r).jobs := by
  rw [tile_passJobs, State.tile_modTile_same, State.copyOut, State.tile_modTile, if_neg (Ne.symm ne)]

theorem passJobs_keeps (d r : Nat) (l : List Job) : (s.passJobs d r l).pens = s.pens ∧ (s.passJobs d r l).objs = s.objs
    ∧ (s.passJobs d r l).mem = s.mem := by
  simp [State.passJobs, State.copyOut]

theorem sent_passJobs (d r : Nat) (l : List Job) :
    (s.passJobs d r l).sent = s.sent ++ [.tileMessage d r msgGrant (l.map (·.jobId))] := rfl

theorem exec_tradeRequestReceived_passes (d r : Fin 64) (clkt a b c : Nat) : exec (.tradeRequestReceived d r clkt a b c) s =
    .next ((s.grantJobs d clkt (a, b, c)).1.passJobs d r (s.grantJobs d clkt (a, b, c)).2) := by
  rw [exec_tradeRequestReceived, execTradeRequestReceived, State.passJobs, State.copyOut, State.grantJobs, State.mayGrant]

theorem tradeRequestReceived_grants {d r : Fin 64} (ne : d ≠ r) (clkt a b c : Nat) :
    Done (.tradeRequestReceived d r clkt a b c) s fun t =>
      ∃ l : List Job, l.length ≤ 4 ∧ t.sent = s.sent ++ [.tileMessage d r msgGrant (l.map (·.jobId))]
        ∧ (t.tile d).tradedOut = (s.tile d).tradedOut ++ l.map (fun j => (r.val, j))
        ∧ (∀ j ∈ l, j.mig = true ∧ j.scr = false ∧ j.pinned = false ∧ j.donor = none)
        ∧ ((s.tile d).flockOn = false ∨ s.drover.rein = true ∨ (s.tile d).rein = true ∨ s.tick.inLanding = true → l = [])
        ∧ (t.tile r).jobs = (s.tile r).jobs ∧ t.pens = s.pens ∧ t.objs = s.objs ∧ t.mem = s.mem := by
  have apart : d.val ≠ r.val := fun h => ne (Fin.ext h)
  obtain ⟨requeued, short, tradable, closed⟩ := grantJobs_spec (s := s) d clkt (a, b, c)
  have run := exec_tradeRequestReceived_passes (s := s) d r clkt a b c
  generalize s.grantJobs d clkt (a, b, c) = g at *
  obtain ⟨pens, objs, mem⟩ := passJobs_keeps (s := g.1) d r g.2
  refine ⟨g.1.passJobs d r g.2, run, g.2, short, ?_, ?_, tradable, fun h => closed (mayGrant_eq_false h), ?_,
    pens.trans (requeued.keeps State.pens fun _ _ => rfl), objs.trans (requeued.keeps State.objs fun _ _ => rfl),
    mem.trans (requeued.keeps State.mem fun _ _ => rfl)⟩
  · rw [sent_passJobs, requeued.keeps State.sent fun _ _ => rfl]
  · rw [tradedOut_passJobs apart, requeued.tile.keeps Tile.tradedOut fun _ _ _ _ => rfl]
  · rw [jobs_passJobs apart, requeued.others r (Ne.symm apart)]

/-! ## TRADE_GRANT_RECEIVED (R142) -/

/-- No copy of a job is left among those traded out. -/
def Tile.Forgets (x : Tile) (id : Nat) : Prop := ∀ e ∈ x.tradedOut, e.2.jobId ≠ id

/-- The copies without those of a job. -/
def State.dropTraded (s : State) (d id : Nat) : State :=
  s.modTile d fun x => { x with tradedOut := x.tradedOut.filter fun e => e.2.jobId != id }

theorem forgets_dropTraded (d id : Nat) : ((s.dropTraded d id).tile d).Forgets id := by
  intro e he
  rw [State.dropTraded, State.tile_modTile_same] at he
  simpa using (List.mem_filter.mp he).2

theorem Tile.Forgets.congr {x y : Tile} {id : Nat} (h : x.Forgets id) (same : y.tradedOut = x.tradedOut) : y.Forgets id := by
  unfold Tile.Forgets
  rw [same]
  exact h

/-- A job that comes back leaves the donor's copies and joins a queue of its own. -/
theorem takeBack_spec (d id : Nat) : OnlyTile d s (s.takeBack d id) ∧ ((s.takeBack d id).tile d).Forgets id := by
  unfold State.takeBack
  split
  · next unknown =>
    refine ⟨.refl d s, fun e he same => ?_⟩
    exact List.find?_eq_none.mp unknown e he (beq_iff_eq.mpr same)
  · next j _ =>
    have placed := requeues_placeReady (s := s.dropTraded d id) d j
    exact ⟨(OnlyTile.modTile d s _).trans placed.toOnlyTile,
      (forgets_dropTraded d id).congr (placed.tile.keeps Tile.tradedOut fun _ _ _ _ => rfl)⟩

/-- The receiver takes the grant that it waited for. -/
def State.unrequest (s : State) (r d : Nat) : State :=
  s.modTile r fun x => { x with requested := x.requested.filter (· ≠ d) }

theorem tile_unrequest (r d : Nat) :
    (s.unrequest r d).tile r = { s.tile r with requested := (s.tile r).requested.filter (· ≠ d) } :=
  State.tile_modTile_same ..

/-- What the receiver of a job that goes back sends, what it keeps, and what the donor forgets. -/
theorem returned_spec {r d : Nat} (ne : r ≠ d) (id : Nat) : let v := (s.unrequest r d).returnJob r d id
    (v.tile r).jobs = (s.tile r).jobs ∧ v.sent = s.sent ++ [.tileMessage r d msgReturn [id]] ∧ (v.tile d).Forgets id
    ∧ v.events = s.events ∧ ∀ code source detail, (v.log code source detail).events = (s.log code source detail).events := by
  intro v
  obtain ⟨only, forgets⟩ := takeBack_spec (s := (s.unrequest r d).send (.tileMessage r d msgReturn [id])) d id
  have receiver : v.tile r = (s.unrequest r d).tile r := only.others r ne
  refine ⟨by rw [receiver, tile_unrequest], only.keeps State.sent fun _ _ => rfl, forgets,
    only.keeps State.events fun _ _ => rfl, fun code source detail => ?_⟩
  exact only.keeps (fun u => (u.log code source detail).events) fun _ _ => rfl

theorem tile_logged (code source detail k : Nat) : (s.log code source detail).tile k = s.tile k := rfl

section
variable {r d : Fin 64} {g : TradedJob}

theorem exec_grantOfOne (r d : Fin 64) (g : TradedJob) :
    exec (.tradeGrantReceived r d [g]) s = .next ((s.unrequest r d).receiveJob r d g) := rfl

/-- A job whose image differs goes back with event 0x7012 (R142). -/
theorem tradeGrantReceived_differs (ne : r ≠ d) : let j := tradedJob d s.epoch g
    let h := leNat (s.read (sramBase r + j.prog) 64)
    field h 128 32 ≠ g.imgcrc ∨ field h 160 32 ≠ g.ninstr → Done (.tradeGrantReceived r d [g]) s fun t =>
      t.events = (s.log 0x7012 d j.jobId).events ∧ (t.tile r).jobs = (s.tile r).jobs
      ∧ t.sent = s.sent ++ [.tileMessage r d msgReturn [j.jobId]] ∧ ∀ e ∈ (t.tile d).tradedOut, e.2.jobId ≠ j.jobId := by
  intro j h differs
  have apart : r.val ≠ d.val := fun e => ne (Fin.ext e)
  obtain ⟨jobs, sent, forgets, -, log⟩ := returned_spec (s := s) apart j.jobId
  refine ⟨((s.unrequest r d).returnJob r d j.jobId).log 0x7012 d j.jobId, ?_, log _ _ _, ?_⟩
  · rw [exec_grantOfOne]
    exact congrArg _ (if_pos differs)
  · rw [tile_logged, tile_logged, State.log_sent]
    exact ⟨jobs, sent, forgets⟩

/-- A job beyond the receiver's 16 goes back without an event (log entry 123). -/
theorem tradeGrantReceived_full (ne : r ≠ d) : let j := tradedJob d s.epoch g
    let h := leNat (s.read (sramBase r + j.prog) 64)
    field h 128 32 = g.imgcrc → field h 160 32 = g.ninstr → 16 ≤ (s.tile r).tradedIn.length →
      Done (.tradeGrantReceived r d [g]) s fun t => (t.tile r).jobs = (s.tile r).jobs ∧ t.events = s.events
        ∧ t.sent = s.sent ++ [.tileMessage r d msgReturn [j.jobId]] := by
  intro j h crc ninstr full
  have apart : r.val ≠ d.val := fun e => ne (Fin.ext e)
  obtain ⟨jobs, sent, -, events, -⟩ := returned_spec (s := s) apart j.jobId
  refine ⟨(s.unrequest r d).returnJob r d j.jobId, ?_, jobs, events, sent⟩
  rw [exec_grantOfOne]
  refine congrArg _ ((if_neg (not_or.mpr ⟨not_not.mpr crc, not_not.mpr ninstr⟩)).trans (if_pos (.inl ?_)))
  rw [tile_unrequest]
  exact full

theorem count_of_word {i j n : Nat} (h : (objectRow i j).map (fun r => r.type.size) = some 4) :
    s.count i j n = s.setNum i j ((s.num i j + n) % 2 ^ 32) := by
  obtain ⟨row, found, size⟩ := Option.map_eq_some_iff.mp h
  rw [State.count, found]
  simp only [size]

theorem objectRow_tradesIn (k : Fin 64) : (objectRow 0x704A (k + 1)).map (fun r => r.type.size) = some 4 := by
  revert k
  decide

/-- The receiver counts a job that it keeps, and queues it at its pen i. -/
def State.keepJob (s : State) (r d : Nat) (j : Job) (i : Nat) : State :=
  (s.count 0x704A (r + 1) 1).modTile r fun x =>
    ({ x with tradedIn := x.tradedIn ++ [(d, j.jobId)], jobs := x.jobs ++ [{ j with home := i }] }).append i j

theorem keepJob_spec {r d : Fin 64} (ne : d.val ≠ r.val) (j : Job) (i : Nat) :
    (((s.unrequest r d).keepJob r d j i).tile r).jobs = (s.tile r).jobs ++ [{ j with home := i }]
    ∧ (((s.unrequest r d).keepJob r d j i).tile r).tradedIn = (s.tile r).tradedIn ++ [(d.val, j.jobId)]
    ∧ ((s.unrequest r d).keepJob r d j i).tile d = s.tile d ∧ ((s.unrequest r d).keepJob r d j i).events = s.events
    ∧ ((s.unrequest r d).keepJob r d j i).num 0x704A (r + 1) = (s.num 0x704A (r + 1) + 1) % 2 ^ 32 := by
  have counted : (s.unrequest r d).count 0x704A (r + 1) 1
      = (s.unrequest r d).setNum 0x704A (r + 1) ((s.num 0x704A (r + 1) + 1) % 2 ^ 32) := count_of_word (objectRow_tradesIn r)
  have receiver := State.tile_modTile_same (s := (s.unrequest r d).count 0x704A (r + 1) 1) r.val fun x =>
    ({ x with tradedIn := x.tradedIn ++ [(d.val, j.jobId)], jobs := x.jobs ++ [{ j with home := i }] }).append i j
  have before : ((s.unrequest r d).count 0x704A (r + 1) 1).tile r = (s.unrequest r d).tile r := by rw [counted]; rfl
  have queued := Tile.requeued_append { (s.unrequest r d).tile r with
    tradedIn := ((s.unrequest r d).tile r).tradedIn ++ [(d.val, j.jobId)]
    jobs := ((s.unrequest r d).tile r).jobs ++ [{ j with home := i }] } i j
  rw [before] at receiver
  refine ⟨?_, ?_, ?_, ?_, ?_⟩
  · refine (congrArg Tile.jobs receiver).trans ((queued.keeps Tile.jobs fun _ _ _ _ => rfl).trans ?_)
    rw [tile_unrequest]
  · refine (congrArg Tile.tradedIn receiver).trans ((queued.keeps Tile.tradedIn fun _ _ _ _ => rfl).trans ?_)
    rw [tile_unrequest]
  · refine ((OnlyTile.modTile r.val _ _).others d ne).trans ?_
    rw [counted]
    exact (OnlyTile.modTile r.val s fun x => { x with requested := x.requested.filter (· ≠ d.val) }).others d ne
  · rw [State.keepJob, State.modTile_events, State.count_events]; rfl
  · rw [State.keepJob, State.num_congr (State.modTile_objs ..), counted, State.num_setNum_same]

theorem serves_unrequest (r d : Nat) : (s.unrequest r d).serves r = s.serves r := by
  funext i
  unfold State.serves State.works
  rw [tile_unrequest]
  rfl

/-- A job that the receiver keeps is queued at its pen with the fewest entries (R142). -/
theorem tradeGrantReceived_taken (ne : r ≠ d) : let j := tradedJob d s.epoch g
    let h := leNat (s.read (sramBase r + j.prog) 64)
    field h 128 32 = g.imgcrc → field h 160 32 = g.ninstr → (s.tile r).tradedIn.length < 16 →
      fits s.tick.land s.stagingSlots ((s.tile r).jobs ++ [j]) = true → ∀ i,
      fewest (s.serves r) (fun n => ((s.tile r).deque n).length) = some i →
      Done (.tradeGrantReceived r d [g]) s fun t => (t.tile r).jobs = (s.tile r).jobs ++ [{ j with home := i }]
        ∧ (t.tile r).tradedIn = (s.tile r).tradedIn ++ [(d.val, j.jobId)] ∧ t.tile d = s.tile d ∧ t.events = s.events
        ∧ t.num 0x704A (r + 1) = (s.num 0x704A (r + 1) + 1) % 2 ^ 32 := by
  intro j h crc ninstr room fit i least
  have apart : d.val ≠ r.val := fun e => ne (Fin.ext e.symm)
  refine ⟨(s.unrequest r d).keepJob r d j i, ?_, keepJob_spec apart j i⟩
  have fits : ¬ (((s.unrequest r d).tile r).tradedIn.length ≥ 16
      ∨ (!fits s.tick.land s.stagingSlots (((s.unrequest r d).tile r).jobs ++ [j])) = true) := by
    rw [tile_unrequest, fit]
    exact not_or.mpr ⟨Nat.not_le.mpr room, Bool.false_ne_true⟩
  have least : fewest ((s.unrequest r d).serves r) (fun n => (((s.unrequest r d).tile r).deque n).length) = some i := by
    rw [serves_unrequest, tile_unrequest]
    exact least
  rw [exec_grantOfOne]
  refine congrArg _ ((if_neg (not_or.mpr ⟨not_not.mpr crc, not_not.mpr ninstr⟩)).trans ((if_neg fits).trans ?_))
  rw [least]
  rfl

end

/-! ## TRADE_COMPLETION_REPORT (R142) -/

theorem stopStalled_keeps (j : Job) (code : Nat) : (s.stopStalled j code).tiles = s.tiles ∧ (s.stopStalled j code).mem = s.mem := by
  refine forEach_induct (Q := fun u => u.tiles = s.tiles ∧ u.mem = s.mem) ⟨rfl, rfl⟩ fun e _ u h => ?_
  split
  · next b _ =>
    have beside := (Beside.except e.1 u b.order b.index code 0).1
    exact ⟨(congrArg State.tiles beside).trans h.1, (congrArg State.mem beside).trans h.2⟩
  · exact h
  · exact h

/-- The successors of a job whose ending is withheld no longer wait. -/
theorem waiting_withholdSuccessors (k : Nat) (j : Job) : ∀ q ∈ ((s.withholdSuccessors k j).tile k).waiting,
    ¬ (q.planEpoch = j.planEpoch ∧ q.index ∈ j.succ) := by
  intro q hq successor
  rw [State.withholdSuccessors, State.withhold, State.tile_modTile_same, State.tile_modTile_same] at hq
  have stays := (List.mem_filter.mp hq).2
  simp [successor] at stays

theorem withholdSuccessors_keeps (k : Nat) (j : Job) : (s.withholdSuccessors k j).mem = s.mem
    ∧ ((s.withholdSuccessors k j).tile k).tradedOut = (s.tile k).tradedOut
    ∧ ∀ i ∈ (s.tile k).withheld, i ∈ ((s.withholdSuccessors k j).tile k).withheld := by
  rw [State.withholdSuccessors, State.withhold, State.tile_modTile_same, State.tile_modTile_same]
  exact ⟨rfl, rfl, fun i hi => List.mem_append_left _ hi⟩

section
variable {d : Fin 64} {id cls r : Nat} {j : Job}
  (found : (s.tile d).tradedOut.find? (fun e => e.2.jobId == id) = some (r, j))
include found

theorem exec_tradeCompletionReport_of_found : exec (.tradeCompletionReport d id cls) s = .next
    (if cls = 3 then (((s.dropTraded d id).withhold d j.sessions).withholdSuccessors d j).stopStalled j 0x30
    else (s.dropTraded d id).release d j) := by
  rw [exec_tradeCompletionReport, execTradeCompletionReport, found]
  exact (apply_ite Host.Outcome.next _ _ _).symm

theorem tradeCompletionReport_completes (done : cls ≠ 3) : Done (.tradeCompletionReport d id cls) s fun t =>
    (∀ e ∈ (t.tile d).tradedOut, e.2.jobId ≠ id) ∧ t.mem = s.mem ∧ t.pens = s.pens := by
  obtain ⟨only, copies⟩ := onlyTile_release (s := s.dropTraded d id) d j
  refine ⟨(s.dropTraded d id).release d j, ?_, (forgets_dropTraded d.val id).congr copies,
    only.keeps State.mem fun _ _ => rfl, only.keeps State.pens fun _ _ => rfl⟩
  rw [exec_tradeCompletionReport_of_found found, if_neg done]

theorem tradeCompletionReport_withholds (withheld : cls = 3) : Done (.tradeCompletionReport d id cls) s fun t =>
    (∀ e ∈ (t.tile d).tradedOut, e.2.jobId ≠ id) ∧ t.mem = s.mem ∧ (∀ i ∈ j.sessions, i ∈ (t.tile d).withheld)
    ∧ ∀ q ∈ (t.tile d).waiting, ¬ (q.planEpoch = j.planEpoch ∧ q.index ∈ j.succ) := by
  have copies := requeues_withhold (s := s.dropTraded d id) d j.sessions
  have sessions := State.withheld_withhold (s.dropTraded d id) d j.sessions
  have run : exec (.tradeCompletionReport d id cls) s = _ :=
    (exec_tradeCompletionReport_of_found found).trans (congrArg _ (if_pos withheld))
  have forgets := (forgets_dropTraded (s := s) d id).congr (copies.tile.keeps Tile.tradedOut fun _ _ _ _ => rfl)
  have untouched : ((s.dropTraded d id).withhold d j.sessions).mem = s.mem := rfl
  generalize (s.dropTraded d id).withhold d j.sessions = v at *
  obtain ⟨mem, copies', grows⟩ := withholdSuccessors_keeps (s := v) d j
  have successors := waiting_withholdSuccessors (s := v) d j
  obtain ⟨tiles, mem'⟩ := stopStalled_keeps (s := v.withholdSuccessors d j) j 0x30
  have tile : ((v.withholdSuccessors d j).stopStalled j 0x30).tile d = (v.withholdSuccessors d j).tile d := by
    rw [State.tile, tiles, State.tile]
  refine ⟨_, run, ?_⟩
  dsimp only
  rw [tile]
  exact ⟨forgets.congr copies', mem'.trans (mem.trans untouched), fun i hi => grows i (sessions i hi), successors⟩

end

/-! ## GRANT_SLOT_BOUNDARY (R136, R158, R159) -/

/-- A slot's grant is added up to the cap, with the energy of the jobs traded since the last slot. -/
theorem grantSlotBoundary_grants {k : Fin 64} (running : s.tick.running = true) (work : s.tick.inLanding = false)
    (on : (s.tile k).flockOn = true) (within : (s.tile k).slotNo + 1 < slotCount s.workNs) :
    let n := (s.tile k).slotNo + 1
    let g := s.grantFor k n
    Done (.grantSlotBoundary k) s fun t => (∀ j, j ≠ k.val → t.tile j = s.tile j) ∧ t.num 0x3030 (k + 1) = g
      ∧ t.tile k = { s.tile k with
          grant := g, slotNo := n, slotWait := 0, tradeDelta := 0
          balance := min ((s.tile k).balance + g) ((s.num 0x7040 0 * g : Nat) : Int) + (s.tile k).tradeDelta } := by
  intro n g
  have goes : ¬ (!s.tick.running || s.tick.inLanding || !(s.tile k).flockOn || decide (n ≥ slotCount s.workNs)) = true := by
    simp [running, work, on, n, within]
  have cap : (s.putGrant k n).num 0x7040 0 = s.num 0x7040 0 :=
    num_setNum_of_ne (i := 0x3030) (j := k + 1) (by unfold objKey; omega)
  have granted : (s.putGrant k n).tile k = { s.tile k with grant := g, slotNo := n, slotWait := 0 } :=
    State.tile_modTile_same ..
  refine ⟨_, if_neg goes, fun j hj => ?_, State.num_setNum_same .., ?_⟩
  · rw [State.tile_modTile, if_neg hj]
    exact (OnlyTile.modTile k.val (s.setNum 0x3030 (k + 1) g) _).others j hj
  · rw [State.tile_modTile_same, granted, cap]

/-- Settles O28: each message of a trade by what its receiver finds, and the slot boundary. -/
theorem tradesMoveJobs : Obligations.TradesMoveJobs := by
  refine fun s => ⟨fun p => tradeIdleExpiry_asks, fun d r clkt a b c ne => tradeRequestReceived_grants ne clkt a b c,
    fun r d g ne => ⟨tradeGrantReceived_differs ne, tradeGrantReceived_taken ne, tradeGrantReceived_full ne⟩,
    fun d id cls r j found => ?_, fun k => grantSlotBoundary_grants⟩
  by_cases withheld : cls = 3
  · obtain ⟨t, run, forgets, mem, sessions, successors⟩ := tradeCompletionReport_withholds found withheld
    exact ⟨t, run, forgets, mem, fun ne => absurd withheld ne, fun _ => ⟨sessions, successors⟩⟩
  · obtain ⟨t, run, forgets, mem, pens⟩ := tradeCompletionReport_completes found withheld
    exact ⟨t, run, forgets, mem, fun _ => pens, fun is => absurd is withheld⟩

end Sys2Proof.Machine
end

section
/-! SUPPORT. Power: input readings, the cap in force, the rein of the module and of its tiles (R151, R152, R154, R160–R162): what
each operation of the drover leaves alone and what it establishes; and from that statement O32. -/

namespace Sys2Proof.Machine

variable {s t u : State}

/-! ## Folds whose steps each have a part of their own -/

/-- Where each step leaves the parts of the others alone, a part goes into its own step as it was at the start, and stays as that
step left it. -/
theorem upTo_own {β : Type} (part : Nat → State → β) {Q : State → Prop} {n : Nat} {f : Nat → State → State} (start : Q s)
    (step : ∀ i < n, ∀ u, Q u → Q (f i u)) (others : ∀ i < n, ∀ j, j ≠ i → ∀ u, part j (f i u) = part j u) (k : Nat) (hk : k < n) :
    ∃ u, Q u ∧ part k u = part k s ∧ part k (upTo n s f) = part k (f k u) := by
  induction n with
  | zero => exact absurd hk (Nat.not_lt_zero k)
  | succ n ih =>
    have below {i : Nat} (h : i < n) : i < n + 1 := Nat.lt_succ_of_lt h
    have last : upTo (n + 1) s f = f n (upTo n s f) := by
      simp only [upTo, List.range_succ, List.foldl_append, List.foldl_cons, List.foldl_nil]
    rw [last]
    by_cases here : k = n
    · subst here
      refine ⟨upTo k s f, upTo_induct start fun i hi => step i (below hi), ?_, rfl⟩
      exact upTo_induct (Q := fun u => part k u = part k s) rfl fun i hi u same =>
        (others i (below hi) k (Nat.ne_of_gt hi) u).trans same
    · obtain ⟨u, there, before, after⟩ :=
        ih (fun i hi => step i (below hi)) (fun i hi => others i (below hi)) (by omega)
      exact ⟨u, there, before, (others n (Nat.lt_succ_self n) k here _).trans after⟩

/-! ## Events -/

/-- An event just logged is the newest. -/
theorem newest_log (code source detail : Nat) : ∃ e, (s.log code source detail).events.head? = some e ∧ e.code = code
    ∧ e.detail = detail := ⟨_, rfl, rfl, rfl⟩

/-- The newest event stays in the ring when one more is logged. -/
theorem newest_mem_log {e : Event} (newest : s.events.head? = some e) (code source detail : Nat) :
    e ∈ (s.log code source detail).events := by
  obtain ⟨l, hl⟩ := List.head?_eq_some_iff.mp newest
  rw [State.log, hl]
  exact List.mem_cons_of_mem _ List.mem_cons_self

/-! ## Work on objects, events and the drover alone -/

/-- From s to t nothing but objects, the event log and the drover changed. -/
structure PowerOnly (s t : State) : Prop where
  parts : { t with objs := s.objs, events := s.events, nextSeq := s.nextSeq, drover := s.drover } = s

theorem PowerOnly.trans (h : PowerOnly s t) (h' : PowerOnly t u) : PowerOnly s u := by
  obtain ⟨parts⟩ := h
  obtain ⟨parts'⟩ := h'
  rw [← parts'] at parts
  exact ⟨parts⟩

/-- The drover takes new values. -/
def State.withDrover (s : State) (d : Drover) : State := { s with drover := d }

theorem powerOnly_withDrover (d : Drover) : PowerOnly s (s.withDrover d) := ⟨rfl⟩
theorem powerOnly_setNum (i j n : Nat) : PowerOnly s (s.setNum i j n) := ⟨rfl⟩

/-- Whatever looks at none of these parts is kept. -/
theorem PowerOnly.keeps {β : Type} (h : PowerOnly s t) (g : State → β)
    (blind : ∀ v o e n d, g { v with objs := o, events := e, nextSeq := n, drover := d } = g v) : g t = g s := by
  rw [← h.parts]
  exact (blind t _ _ _ _).symm

/-! ## The cap in force (R151, R152) -/

/-- The cap in force by the cap object, the input voltage in mV and the tab fault. -/
def capOf (own mv : Nat) (fault : Bool) : Nat :=
  let n := min own 2200
  if mv = 0 then n else min n (min (55 * mv / 1000) (if fault then 35 * mv / 1000 else n))

theorem capNow_eq : s.capNow = capOf (s.num 0x3001 0) s.drover.millivolts s.drover.tabFault := rfl

/-- Event 0x3002, where the voltage term begins to govern. -/
def State.logVolt (s : State) : State :=
  if s.voltSmallest && !s.drover.voltLimited then s.log 0x3002 srcHub s.capNow else s

theorem recap_eq : s.recap = { s.logVolt.setNum 0x3002 0 s.logVolt.capNow with
    drover := { s.logVolt.drover with voltLimited := s.voltSmallest } } := rfl

theorem logVolt_spec : PowerOnly s s.logVolt ∧ s.logVolt.objs = s.objs ∧ s.logVolt.drover = s.drover := by
  unfold State.logVolt
  split <;> exact ⟨⟨rfl⟩, rfl, rfl⟩

theorem cap_recap : s.recap.num 0x3002 0 = s.capNow := by
  obtain ⟨-, objs, drover⟩ := logVolt_spec (s := s)
  rw [recap_eq]
  refine (State.num_setNum_same ..).trans ?_
  rw [capNow_eq, capNow_eq, State.num_congr objs, drover]

theorem num_recap {i j : Nat} (other : objKey i j ≠ objKey 0x3002 0) : s.recap.num i j = s.num i j := by
  obtain ⟨-, objs, -⟩ := logVolt_spec (s := s)
  rw [recap_eq]
  exact (num_setNum_of_ne other).trans (State.num_congr objs i j)

theorem drover_recap : s.recap.drover = { s.drover with voltLimited := s.voltSmallest } := by
  obtain ⟨-, -, drover⟩ := logVolt_spec (s := s)
  rw [recap_eq, drover]

theorem powerOnly_recap : PowerOnly s s.recap := by
  obtain ⟨only, -, -⟩ := logVolt_spec (s := s)
  rw [recap_eq]
  exact only.trans ⟨rfl⟩

theorem newest_mem_recap {e : Event} (newest : s.events.head? = some e) : e ∈ s.recap.events := by
  rw [recap_eq]
  show e ∈ s.logVolt.events
  unfold State.logVolt
  split
  · exact newest_mem_log newest ..
  · exact List.mem_of_mem_head? newest

/-! ### Input readings (R151, R154) -/

/-- The drover takes a reading. -/
def Drover.read (d : Drover) (mv a b vk : Nat) : Drover := { d with millivolts := mv, tabA := a, tabB := b, vkMw := vk }

/-- What a reading puts into the objects. -/
def State.putReadings (s : State) (mv a b : Nat) : State :=
  ((s.setF32 0x3003 0 ((mv : Rat) / 1000)).setF32 0x3004 1 ((a : Rat) / 1000)).setF32 0x3004 2 ((b : Rat) / 1000)

/-- A reading before the checks that follow it. -/
def State.takeReading (s : State) (mv a b vk : Nat) : State :=
  (s.withDrover (s.drover.read mv a b vk)).putReadings mv a b

theorem exec_inputReading_eq (mv a b vk : Nat) : exec (.inputReading mv a b vk) s
    = .next ((s.takeReading mv a b vk).noteDisagree (((mv * (a + b) : Nat) : Rat) / 1000)).recap := rfl

theorem putReadings_objects (mv a b : Nat) : (s.putReadings mv a b).num 0x3003 0 = (ratF32 ((mv : Rat) / 1000)).toNat
    ∧ (s.putReadings mv a b).num 0x3004 1 = (ratF32 ((a : Rat) / 1000)).toNat
    ∧ (s.putReadings mv a b).num 0x3004 2 = (ratF32 ((b : Rat) / 1000)).toNat
    ∧ (s.putReadings mv a b).num 0x3001 0 = s.num 0x3001 0 := by
  unfold State.putReadings State.setF32
  refine ⟨?_, ?_, State.num_setNum_same .., ?_⟩
  · rw [num_setNum_of_ne (by decide), num_setNum_of_ne (by decide), State.num_setNum_same]
  · rw [num_setNum_of_ne (by decide), State.num_setNum_same]
  · rw [num_setNum_of_ne (by decide), num_setNum_of_ne (by decide), num_setNum_of_ne (by decide)]

theorem powerOnly_putReadings (mv a b : Nat) : PowerOnly s (s.putReadings mv a b) :=
  ((powerOnly_setNum ..).trans (powerOnly_setNum ..)).trans (powerOnly_setNum ..)

theorem drover_takeReading (mv a b vk : Nat) : (s.takeReading mv a b vk).drover = s.drover.read mv a b vk := rfl

theorem powerOnly_takeReading (mv a b vk : Nat) : PowerOnly s (s.takeReading mv a b vk) :=
  (powerOnly_withDrover _).trans (powerOnly_putReadings ..)

/-- The count of readings in a row that disagree, and the event at the 100th. -/
def State.countDisagree (s : State) (n : Nat) : State :=
  let u := { s with drover := { s.drover with disagree := n } }
  if u.drover.disagree = 100 then u.log 0x3009 srcHub 0 else u

theorem noteDisagree_eq (p : Rat) : ∃ n, s.noteDisagree p = s.countDisagree n := ⟨_, rfl⟩

theorem drover_countDisagree (n : Nat) : (s.countDisagree n).drover = { s.drover with disagree := n } := by
  unfold State.countDisagree
  dsimp only
  split <;> rfl

theorem objs_countDisagree (n : Nat) : (s.countDisagree n).objs = s.objs := by
  unfold State.countDisagree
  dsimp only
  split <;> rfl

theorem powerOnly_countDisagree (n : Nat) : PowerOnly s (s.countDisagree n) := by
  unfold State.countDisagree
  dsimp only
  split <;> exact ⟨rfl⟩

theorem inputReading_kept (mv a b vk : Nat) : Done (.inputReading mv a b vk) s fun t =>
    t.num 0x3003 0 = (ratF32 ((mv : Rat) / 1000)).toNat
      ∧ t.num 0x3004 1 = (ratF32 ((a : Rat) / 1000)).toNat ∧ t.num 0x3004 2 = (ratF32 ((b : Rat) / 1000)).toNat
      ∧ t.num 0x3002 0 = capOf (s.num 0x3001 0) mv s.drover.tabFault
      ∧ t.drover = { s.drover with
          millivolts := mv, tabA := a, tabB := b, vkMw := vk, disagree := t.drover.disagree, voltLimited := t.drover.voltLimited }
      ∧ { t with objs := s.objs, events := s.events, nextSeq := s.nextSeq, drover := s.drover } = s := by
  obtain ⟨volts, first, second, own⟩ := putReadings_objects (s := s.withDrover (s.drover.read mv a b vk)) mv a b
  obtain ⟨n, noted⟩ := noteDisagree_eq (s := s.takeReading mv a b vk) (((mv * (a + b) : Nat) : Rat) / 1000)
  have num := State.num_congr (objs_countDisagree (s := s.takeReading mv a b vk) n)
  have drover : ((s.takeReading mv a b vk).countDisagree n).drover = { s.drover.read mv a b vk with disagree := n } := by
    rw [drover_countDisagree, drover_takeReading]
  have only := ((powerOnly_takeReading (s := s) mv a b vk).trans (powerOnly_countDisagree n)).trans powerOnly_recap
  rw [← noted] at num drover only
  refine ⟨_, exec_inputReading_eq mv a b vk, ?_⟩
  dsimp only
  rw [num_recap (by decide), num_recap (by decide), num_recap (by decide), num, num, num, cap_recap, capNow_eq, drover,
    drover_recap, drover, num]
  exact ⟨volts, first, second, congrArg (capOf · mv s.drover.tabFault) own, rfl, only.parts⟩

/-! ### Tab faults (R152) -/

theorem tabFault_caps (clear : s.drover.tabFault = false) : Done .tabFault s fun t => t.drover.tabFault = true
    ∧ t.num 0x3002 0 = capOf (s.num 0x3001 0) s.drover.millivolts true ∧ ∃ v ∈ t.events, v.code = 0x3003 := by
  have run : exec .tabFault s = .next
      ({ s.log 0x3003 srcHub 0 with drover := { s.drover with tabFault := true } } : State).recap := by
    rw [exec_tabFault, execTabFault, if_neg (by simp [clear])]
  obtain ⟨e, newest, code, -⟩ := newest_log (s := s) 0x3003 srcHub 0
  exact ⟨_, run, by rw [drover_recap], cap_recap, e, newest_mem_recap newest, code⟩

theorem tabFaultClear_caps : Done .tabFaultClear s fun t => t.drover.tabFault = false
    ∧ t.num 0x3002 0 = capOf (s.num 0x3001 0) s.drover.millivolts false ∧ t.mem = s.mem ∧ t.pens = s.pens := by
  refine ⟨_, exec_tabFaultClear s, by rw [drover_recap], cap_recap, ?_, ?_⟩
  · exact powerOnly_recap.keeps State.mem fun _ _ _ _ _ => rfl
  · exact powerOnly_recap.keeps State.pens fun _ _ _ _ _ => rfl

/-! ### Writes of the cap (R151) -/

theorem objectRow_powerCap : ∃ r, objectRow 0x3001 0 = some r ∧ r.access = .rw ∧ r.type = .u16 ∧ r.min = 900 ∧ r.max = 2200 :=
  ⟨_, rfl, rfl, rfl, rfl, rfl⟩

theorem writeFits_powerCap {v : Nat} (low : 900 ≤ v) (high : v ≤ 2200) : WriteFits s 0x3001 0 (.num v) := by
  obtain ⟨r, row, access, type, min, max⟩ := objectRow_powerCap
  refine ⟨r, row, by simp [access], by rw [type]; rfl, ?_, ?_⟩
  · rw [type]
    exact lt_of_le_of_lt high (by decide)
  · simpa [inRange, type, min, max] using And.intro low high

/-- What a cap within the range does, by the rule of R151 and by whether treads run. -/
theorem exec_powerCapWrite_eq {slot v : Nat} (accepts : Accepts s slot opWrite 0x3001 0) (low : 900 ≤ v) (high : v ≤ 2200) :
    exec (.powerCapWrite slot v) s = .next (if capRule s v ≠ 0 then s.answer slot opWrite 0x3001 0 (capRule s v)
      else if s.tick.running then (s.defer (.write 0x3001 0 (.num v))).answerWrite slot 0x3001 0 1
      else ((s.setNum 0x3001 0 v).answerWrite slot 0x3001 0 0).recap) := by
  obtain ⟨r, row, written⟩ := writeWith_eq accepts (writeFits_powerCap low high) (fun s => capRule s v)
    fun s r => (fun s : State => if s.tick.running then s else s.recap) (s.storeValue slot 0x3001 0 (.num v) r)
  obtain ⟨_, row', access, -⟩ := objectRow_powerCap
  obtain rfl := Option.some.inj (row.symm.trans row')
  refine (congrArg Host.Outcome.next written).trans ?_
  have put : s.storeValue slot 0x3001 0 (.num v) r = if s.tick.running then
      (s.defer (.write 0x3001 0 (.num v))).answerWrite slot 0x3001 0 1
      else (s.setNum 0x3001 0 v).answerWrite slot 0x3001 0 0 := by
    simp [State.storeValue, State.acceptWrite, access, State.putInForce, State.setNum]
  dsimp only
  rw [put]
  cases running : s.tick.running with
  | true => simp [State.defer, State.answerWrite, running]
  | false => simp [State.answerWrite, running]

theorem powerCapWrite_spec {slot v : Nat} (accepts : Accepts s slot opWrite 0x3001 0) (low : 900 ≤ v) (high : v ≤ 2200) :
    let short : Prop := ((1000 * v : Nat) : Rat) < s.drover.nonTile + (64 * s.num 0x3008 0 : Nat)
    (short → Done (.powerCapWrite slot v) s fun t =>
      t.num 0x3001 0 = s.num 0x3001 0 ∧ t.sent = (s.answer slot opWrite 0x3001 0 0x30000010).sent)
    ∧ (¬ short → s.tick.running = false → Done (.powerCapWrite slot v) s fun t => t.num 0x3001 0 = v
        ∧ t.num 0x3002 0 = capOf v s.drover.millivolts s.drover.tabFault ∧ t.sent = (s.answerWrite slot 0x3001 0 0).sent)
    ∧ (¬ short → s.tick.running = true → Done (.powerCapWrite slot v) s fun t => t.num 0x3001 0 = s.num 0x3001 0
        ∧ t.dict.deferred = (s.dict.deferred.filter fun e => !(Deferred.write 0x3001 0 (.num v)).replaces e)
            ++ [.write 0x3001 0 (.num v)]
        ∧ t.sent = (s.answerWrite slot 0x3001 0 1).sent) := by
  intro short
  have run := exec_powerCapWrite_eq accepts low high
  refine ⟨fun refused => ?_, fun fits stopped => ?_, fun fits running => ?_⟩
  · have rule : capRule s v = 0x30000010 := if_pos refused
    rw [rule, if_pos (by decide)] at run
    exact ⟨_, run, rfl, rfl⟩
  · have rule : capRule s v = 0 := if_neg fits
    rw [rule, if_neg (by decide), if_neg (by simp [stopped])] at run
    have own : ((s.setNum 0x3001 0 v).answerWrite slot 0x3001 0 0).num 0x3001 0 = v := State.num_setNum_same ..
    refine ⟨_, run, (num_recap (by decide)).trans own, ?_, powerOnly_recap.keeps State.sent fun _ _ _ _ _ => rfl⟩
    rw [cap_recap, capNow_eq, own]
    rfl
  · have rule : capRule s v = 0 := if_neg fits
    rw [rule, if_neg (by decide), if_pos running] at run
    exact ⟨_, run, rfl, rfl, rfl⟩

/-! ## Rein (R160–R162) -/

/-- What a window's metering and rein leave alone but for the drover's own state and the tiles. -/
structure SenseBase where
  mem : Tab Byte
  pens : Tab Pen
  dict : DictSt
  nv : NvSt
  clock : Nat
  running : Bool
  inLanding : Bool
  cap : Nat
  ceiling : Nat
  margin : Nat
  millivolt : Nat

def State.sensed (s : State) : SenseBase :=
  { mem := s.mem, pens := s.pens, dict := s.dict, nv := s.nv, clock := s.clock, running := s.tick.running
    inLanding := s.tick.inLanding, cap := s.num 0x3002 0, ceiling := s.num 0x3006 0, margin := s.num 0x3007 0
    millivolt := s.drover.millivoltTile }

/-- Whether a tile is on, and whether its rein holds it. -/
def State.reins (s : State) (k : Nat) : Bool × Bool := ((s.tile k).tileOn, (s.tile k).rein)

theorem cap_of_sensed (h : t.sensed = s.sensed) : t.num 0x3002 0 = s.num 0x3002 0 := congrArg SenseBase.cap h

theorem gov_congr {i j : Nat} (running : t.tick.running = s.tick.running) (landing : t.tick.inLanding = s.tick.inLanding)
    (dict : t.dict = s.dict) (num : t.num i j = s.num i j) : t.gov i j = s.gov i j := by
  unfold State.gov
  rw [running, landing, dict, num]

theorem ceiling_of_sensed (h : t.sensed = s.sensed) : t.gov 0x3006 0 = s.gov 0x3006 0 :=
  gov_congr (congrArg SenseBase.running h) (congrArg SenseBase.inLanding h) (congrArg SenseBase.dict h)
    (congrArg SenseBase.ceiling h)

theorem margin_of_sensed (h : t.sensed = s.sensed) : t.gov 0x3007 0 = s.gov 0x3007 0 :=
  gov_congr (congrArg SenseBase.running h) (congrArg SenseBase.inLanding h) (congrArg SenseBase.dict h)
    (congrArg SenseBase.margin h)

theorem tilePower_of_sensed (h : t.sensed = s.sensed) (l : List (Nat × Nat)) (k : Nat) : t.tilePower l k = s.tilePower l k := by
  have millivolt : t.drover.millivoltTile = s.drover.millivoltTile := congrArg SenseBase.millivolt h
  have nv : t.nv = s.nv := congrArg SenseBase.nv h
  have rail : t.railPower = s.railPower := funext fun e => by
    unfold State.railPower State.railVolt
    rw [millivolt, nv]
  unfold State.tilePower
  rw [rail]

/-- The objects of rein that are counted, and the metered power, are none of those that a window reads. -/
theorem sensed_setNum {i j : Nat} (own : ∀ k ∈ [0x3002, 0x3006, 0x3007], objKey k 0 ≠ objKey i j) (n : Nat) :
    (s.setNum i j n).sensed = s.sensed := by
  unfold State.sensed
  rw [num_setNum_of_ne (own _ (by simp)), num_setNum_of_ne (own _ (by simp)), num_setNum_of_ne (own _ (by simp))]
  rfl

theorem count_eq (i j n : Nat) : ∃ v, s.count i j n = s.setNum i j v ∨ s.count i j n = s := by
  unfold State.count
  split
  · exact ⟨_, .inl rfl⟩
  · exact ⟨0, .inr rfl⟩

theorem sensed_count {i j : Nat} (own : ∀ k ∈ [0x3002, 0x3006, 0x3007], objKey k 0 ≠ objKey i j) (n : Nat) :
    (s.count i j n).sensed = s.sensed := by
  obtain ⟨v, eq | eq⟩ := count_eq (s := s) i j n <;> rw [eq]
  exact sensed_setNum own v

theorem num_count_of_ne {i j k l : Nat} (other : objKey k l ≠ objKey i j) (n : Nat) : (s.count i j n).num k l = s.num k l := by
  obtain ⟨v, eq | eq⟩ := count_eq (s := s) i j n <;> rw [eq]
  exact num_setNum_of_ne other

theorem reins_modTile {f : Tile → Tile} (h : ∀ x, ((f x).tileOn, (f x).rein) = (x.tileOn, x.rein)) (t : Nat) :
    (s.modTile t f).reins = s.reins := by
  funext k
  unfold State.reins
  rw [State.tile_modTile]
  split
  · next same => rw [same]; exact h _
  · rfl

/-! ### The sums of a window -/

/-- The drover's sums with one more window. -/
def State.windowSums (s : State) (l : List (Nat × Nat)) (pm : Rat) : Drover :=
  let tiles := ratSum ((l.filter fun e => isTileRail e.1).map fun e => s.railPower e / s.eff e.1)
  let d := s.drover
  { d with
    metered := pm, windowSum := d.windowSum + pm, windowCount := d.windowCount + 1
    nonTileSum := d.nonTileSum + (pm - tiles), nonTileCount := d.nonTileCount + 1
    railSum := l.foldl (fun x e => tabSet (fun _ => 0) x e.1 (tabGet (fun _ => 0) x e.1 + s.railPower e)) d.railSum
    railWindows := d.railWindows + 1 }

/-- The mean of 100 windows. -/
def Drover.closeMean (d : Drover) : Drover := { d with mean := d.windowSum / 100, windowSum := 0, windowCount := 0 }

/-- A window joins the drover's sums. -/
def State.addWindow (s : State) (l : List (Nat × Nat)) (pm : Rat) : State :=
  let d := s.windowSums l pm
  if d.windowCount = 100 then (s.setF32 0x3005 0 (d.windowSum / 100 / 1000)).withDrover d.closeMean else s.withDrover d

/-- The tiles' sums for their floors, in a landing. -/
def State.addFloors (s : State) (l : List (Nat × Nat)) : State :=
  if s.tick.inLanding then
    upTo 64 s fun t s => if !(s.tile t).flockOn then s else s.modTile t fun x =>
      { x with floorSum := x.floorSum + s.tilePower l t, floorWindows := x.floorWindows + 1 }
  else s

theorem sumWindow_eq (l : List (Nat × Nat)) (pm : Rat) : s.sumWindow l pm = (s.addWindow l pm).addFloors l := rfl

theorem addFloors_keeps {β : Type} (g : State → β)
    (blind : ∀ v t (f : Tile → Tile), (∀ x, ((f x).tileOn, (f x).rein) = (x.tileOn, x.rein)) → g (v.modTile t f) = g v)
    (l : List (Nat × Nat)) : g (s.addFloors l) = g s := by
  unfold State.addFloors
  split
  · refine upTo_keeps g fun t _ u => ?_
    split
    · rfl
    · exact blind u t _ fun _ => rfl
  · rfl

theorem sensed_withDrover {d : Drover} (same : d.millivoltTile = s.drover.millivoltTile) :
    (s.withDrover d).sensed = s.sensed := congrArg (fun m => { s.sensed with millivolt := m }) same

/-- The metered mean is no object that a window reads. -/
theorem putMean_spec {d : Drover} (same : d.millivoltTile = s.drover.millivoltTile) (n : Nat) :
    ((s.setNum 0x3005 0 n).withDrover d).sensed = s.sensed ∧ ((s.setNum 0x3005 0 n).withDrover d).tiles = s.tiles
    ∧ ((s.setNum 0x3005 0 n).withDrover d).num 0x3020 0 = s.num 0x3020 0 :=
  ⟨(sensed_withDrover (s := s.setNum 0x3005 0 n) same).trans (sensed_setNum (by decide) n), rfl, num_setNum_of_ne (by decide)⟩

theorem addWindow_spec (l : List (Nat × Nat)) (pm : Rat) : (s.addWindow l pm).sensed = s.sensed
    ∧ (s.addWindow l pm).tiles = s.tiles ∧ (s.addWindow l pm).num 0x3020 0 = s.num 0x3020 0
    ∧ (s.addWindow l pm).drover
      = if s.drover.windowCount = 99 then (s.windowSums l pm).closeMean else s.windowSums l pm := by
  have count : (s.windowSums l pm).windowCount = s.drover.windowCount + 1 := rfl
  have millivolt : (s.windowSums l pm).millivoltTile = s.drover.millivoltTile := rfl
  unfold State.addWindow State.setF32
  dsimp only
  generalize s.windowSums l pm = d at *
  generalize (ratF32 _).toNat = mean
  by_cases full : s.drover.windowCount = 99
  · rw [if_pos full, if_pos (by rw [count, full])]
    obtain ⟨sensed, tiles, num⟩ := putMean_spec (d := d.closeMean) millivolt mean
    exact ⟨sensed, tiles, num, rfl⟩
  · rw [if_neg full, if_neg (by omega)]
    exact ⟨sensed_withDrover millivolt, rfl, rfl, rfl⟩

theorem drover_addWindow (l : List (Nat × Nat)) (pm : Rat) : (s.addWindow l pm).drover.metered = pm
    ∧ (s.addWindow l pm).drover.rein = s.drover.rein ∧ (s.addWindow l pm).drover.reinAt = s.drover.reinAt
    ∧ (s.addWindow l pm).drover.reinBelow = s.drover.reinBelow
    ∧ (s.drover.windowCount = 99 → (s.addWindow l pm).drover.mean = (s.drover.windowSum + pm) / 100
        ∧ (s.addWindow l pm).drover.windowCount = 0) := by
  obtain ⟨-, -, -, drover⟩ := addWindow_spec (s := s) l pm
  rw [drover]
  split
  · exact ⟨rfl, rfl, rfl, rfl, fun _ => ⟨rfl, rfl⟩⟩
  · next short => exact ⟨rfl, rfl, rfl, rfl, fun full => absurd full short⟩

theorem reins_congr (tiles : t.tiles = s.tiles) : t.reins = s.reins := by
  unfold State.reins State.tile
  rw [tiles]

theorem sumWindow_spec (l : List (Nat × Nat)) (pm : Rat) : (s.sumWindow l pm).sensed = s.sensed
    ∧ (s.sumWindow l pm).reins = s.reins ∧ (s.sumWindow l pm).num 0x3020 0 = s.num 0x3020 0
    ∧ (s.sumWindow l pm).drover = (s.addWindow l pm).drover := by
  obtain ⟨sensed, tiles, count, -⟩ := addWindow_spec (s := s) l pm
  rw [sumWindow_eq]
  exact ⟨(addFloors_keeps State.sensed (fun _ _ _ _ => rfl) l).trans sensed,
    (addFloors_keeps State.reins (fun _ t _ h => reins_modTile h t) l).trans (reins_congr tiles),
    (addFloors_keeps (State.num · 0x3020 0) (fun _ _ _ _ => rfl) l).trans count,
    addFloors_keeps State.drover (fun _ _ _ _ => rfl) l⟩

/-! ### Module rein (R160, R161) -/

/-- Every tile that no rein of its own holds is held from now on. -/
def State.stampHeld (s : State) : State :=
  upTo 64 s fun t s => if (s.tile t).rein then s else s.modTile t fun x => { x with heldAt := s.clock }

/-- The drover with module rein asserted. -/
def Drover.reined (d : Drover) (now : Nat) : Drover :=
  { d with rein := true, reinAt := now, reinBelow := 0, reinHeld := false }

/-- Module rein begins. -/
def State.beginRein (s : State) : State :=
  { s with
    drover := s.drover.reined s.clock
    tick := { s.tick with reinsInTread := s.tick.reinsInTread + 1 } }

theorem assertRein_eq (free : s.drover.rein = false) : s.assertRein = (s.count 0x3020 0 1).stampHeld.beginRein := by
  unfold State.assertRein State.beginRein State.stampHeld Drover.reined
  rw [if_neg (by simp [free])]

theorem assertRein_held (held : s.drover.rein = true) : s.assertRein = s := if_pos held

theorem stampHeld_keeps {β : Type} (g : State → β)
    (blind : ∀ v t (f : Tile → Tile), (∀ x, ((f x).tileOn, (f x).rein) = (x.tileOn, x.rein)) → g (v.modTile t f) = g v) :
    g s.stampHeld = g s := by
  unfold State.stampHeld
  refine upTo_keeps g fun t _ u => ?_
  split
  · rfl
  · exact blind u t _ fun _ => rfl

/-- Whatever does not look at what module rein begins with is kept. -/
theorem assertRein_keeps {β : Type} (g : State → β)
    (tiles : ∀ v t (f : Tile → Tile), (∀ x, ((f x).tileOn, (f x).rein) = (x.tileOn, x.rein)) → g (v.modTile t f) = g v)
    (count : ∀ v n, g (State.setNum v 0x3020 0 n) = g v) (begins : ∀ v, g (State.beginRein v) = g v) : g s.assertRein = g s := by
  cases free : s.drover.rein with
  | true => rw [assertRein_held free]
  | false =>
    rw [assertRein_eq free, begins, stampHeld_keeps g tiles, count_of_word (by decide), count]

theorem drover_assertRein (free : s.drover.rein = false) : s.assertRein.drover = s.drover.reined s.clock := by
  have drover : (s.count 0x3020 0 1).stampHeld.drover = s.drover :=
    (stampHeld_keeps State.drover fun _ _ _ _ => rfl).trans (State.count_drover ..)
  have clock : (s.count 0x3020 0 1).stampHeld.clock = s.clock :=
    (stampHeld_keeps State.clock fun _ _ _ _ => rfl).trans (State.count_clock ..)
  rw [assertRein_eq free, State.beginRein, drover, clock]

theorem sensed_assertRein : s.assertRein.sensed = s.sensed :=
  assertRein_keeps State.sensed (fun _ _ _ _ => rfl) (fun _ => sensed_setNum (by decide)) fun _ => rfl

theorem reins_assertRein : s.assertRein.reins = s.reins :=
  assertRein_keeps State.reins (fun _ t _ h => reins_modTile h t) (fun _ _ => rfl) fun _ => rfl

theorem assertRein_counts (free : s.drover.rein = false) :
    s.assertRein.num 0x3020 0 = (s.num 0x3020 0 + 1) % 2 ^ 32 := by
  have begun (v : State) : v.beginRein.num 0x3020 0 = v.num 0x3020 0 := rfl
  rw [assertRein_eq free, begun, stampHeld_keeps (State.num · 0x3020 0) fun _ _ _ _ => rfl, count_of_word (by decide),
    State.num_setNum_same]

/-- Below the release level of R161. -/
def State.belowRelease (s : State) (pm : Rat) : Prop :=
  pm < ((1000 * s.num 0x3002 0 : Nat) : Rat) - (1000 * s.gov 0x3007 0 : Nat)

/-- What a window does with module rein: assert it, let it go, or note how many windows lay below the release level. -/
theorem moduleRein_free (free : s.drover.rein = false) (pm : Rat) :
    s.moduleRein pm = if ((1000 * s.num 0x3002 0 : Nat) : Rat) < pm then s.assertRein else s := by
  rw [State.moduleRein]
  exact if_pos (by simp [free])

/-- The state after rein lets go. -/
def State.dropRein (s : State) : State :=
  (s.count 0x3021 0 ((s.clock - s.drover.reinAt) / 2)).withDrover
    { s.drover with rein := false, reinBelow := 0, reinHeld := false }

theorem moduleRein_held (held : s.drover.rein = true) (pm : Rat) :
    ((s.belowRelease pm ∧ 1 ≤ s.drover.reinBelow ∧ s.drover.reinAt + 2000 ≤ s.clock) ∧ s.moduleRein pm = s.dropRein)
    ∨ (¬ (s.belowRelease pm ∧ 1 ≤ s.drover.reinBelow ∧ s.drover.reinAt + 2000 ≤ s.clock)
      ∧ ∃ n, s.moduleRein pm = s.withDrover { s.drover with reinBelow := n }) := by
  unfold State.moduleRein
  dsimp only
  rw [held, if_neg (by decide)]
  by_cases below : s.belowRelease pm
  · rw [if_pos (c := pm < _) below]
    by_cases long : 1 ≤ s.drover.reinBelow ∧ s.drover.reinAt + 2000 ≤ s.clock
    · exact .inl ⟨⟨below, long⟩, if_pos ⟨by omega, long.2⟩⟩
    · refine .inr ⟨fun h => long h.2, _, if_neg fun h => long ⟨by omega, h.2⟩⟩
  · rw [if_neg (c := pm < _) below]
    exact .inr ⟨fun h => below h.1, _, if_neg fun h => by omega⟩

/-- What the drover keeps of its metering. -/
def Drover.meters (d : Drover) : Rat × Rat × Nat := (d.metered, d.mean, d.windowCount)

theorem tile_count (i j n k : Nat) : (s.count i j n).tile k = s.tile k := by
  unfold State.tile
  rw [State.count_tiles]

theorem dropRein_spec : s.dropRein.sensed = s.sensed ∧ s.dropRein.reins = s.reins
    ∧ s.dropRein.drover.meters = s.drover.meters ∧ s.dropRein.drover.rein = false := by
  unfold State.dropRein
  have millivolt (n : Nat) : (s.count 0x3021 0 n).drover.millivoltTile = s.drover.millivoltTile := by rw [State.count_drover]
  exact ⟨(sensed_withDrover (millivolt _).symm).trans (sensed_count (by decide) _), reins_congr (State.count_tiles ..), rfl, rfl⟩

/-- What a window leaves alone as it judges module rein. -/
theorem moduleRein_frame (pm : Rat) : (s.moduleRein pm).sensed = s.sensed ∧ (s.moduleRein pm).reins = s.reins
    ∧ (s.moduleRein pm).drover.meters = s.drover.meters := by
  cases held : s.drover.rein with
  | false =>
    rw [moduleRein_free held]
    split
    · exact ⟨sensed_assertRein, reins_assertRein, by rw [drover_assertRein held]; rfl⟩
    · exact ⟨rfl, rfl, rfl⟩
  | true =>
    obtain ⟨-, eq⟩ | ⟨-, n, eq⟩ := moduleRein_held held pm
    · obtain ⟨sensed, reins, meters, -⟩ := dropRein_spec (s := s)
      rw [eq]
      exact ⟨sensed, reins, meters⟩
    · rw [eq]
      exact ⟨sensed_withDrover rfl, rfl, rfl⟩

theorem moduleRein_asserts (free : s.drover.rein = false) (pm : Rat) :
    (s.moduleRein pm).drover.rein = decide (((1000 * s.num 0x3002 0 : Nat) : Rat) < pm)
    ∧ (s.moduleRein pm).num 0x3020 0 = if ((1000 * s.num 0x3002 0 : Nat) : Rat) < pm then (s.num 0x3020 0 + 1) % 2 ^ 32
        else s.num 0x3020 0 := by
  rw [moduleRein_free free]
  split
  · next above => exact ⟨by rw [drover_assertRein free, decide_eq_true above]; rfl, assertRein_counts free⟩
  · next within => exact ⟨by rw [free, decide_eq_false within], rfl⟩

theorem moduleRein_releases (held : s.drover.rein = true) (pm : Rat) : (s.moduleRein pm).drover.rein = false ↔
    s.belowRelease pm ∧ 1 ≤ s.drover.reinBelow ∧ s.drover.reinAt + 2000 ≤ s.clock := by
  obtain ⟨-, -, -, free⟩ := dropRein_spec (s := s)
  obtain ⟨ends, eq⟩ | ⟨stays, n, eq⟩ := moduleRein_held held pm <;> rw [eq]
  · exact iff_of_true free ends
  · exact iff_of_false (by simp [State.withDrover, held]) stays

/-! ### Tile rein (R161) -/

/-- What the rein of tiles leaves alone. -/
def State.driven (s : State) : SenseBase × Drover × Nat := (s.sensed, s.drover, s.num 0x3020 0)

theorem driven_count {i : Nat} (above : 0x3022 ≤ i) (j n : Nat) : (s.count i j n).driven = s.driven := by
  have own (k : Nat) (hk : k < 0x3022) : objKey k 0 ≠ objKey i j := by unfold objKey; omega
  unfold State.driven
  rw [sensed_count (fun k hk => own k (by simp at hk; omega)), State.count_drover, num_count_of_ne (own _ (by decide))]

theorem driven_tileRein (k : Nat) (p : Rat) : (s.tileRein k p).driven = s.driven := by
  unfold State.tileRein
  dsimp only
  split
  · split
    · exact Eq.trans (b := (s.count 0x3022 (k + 1) 1).driven) rfl (driven_count (by decide) ..)
    · rfl
  · rfl

theorem tile_tileRein_other {k j : Nat} (other : j ≠ k) (p : Rat) : (s.tileRein k p).tile j = s.tile j := by
  unfold State.tileRein
  dsimp only
  split
  · split
    · rw [State.tile_modTile, if_neg other, tile_count]
    · rfl
  · rw [State.tile_modTile, if_neg other]

/-- A free tile is held when its power lies above the ceiling. -/
theorem tileRein_asserts {k : Nat} (free : (s.tile k).rein = false) (p : Rat) :
    ((s.tileRein k p).tile k).rein = decide (((1000 * s.gov 0x3006 0 : Nat) : Rat) < p) := by
  unfold State.tileRein
  dsimp only
  rw [free, if_pos (by decide)]
  split
  · next above => rw [State.tile_modTile_same, decide_eq_true above]
  · next within => rw [free, decide_eq_false within]

/-- Every tile that is on is judged. -/
def State.reinTiles (s : State) (l : List (Nat × Nat)) : State :=
  upTo 64 s fun t s => if (s.tile t).tileOn then s.tileRein t (s.tilePower l t) else s

theorem reinTiles_spec (l : List (Nat × Nat)) : (s.reinTiles l).driven = s.driven
    ∧ ∀ k, k < 64 → (s.tile k).tileOn = true → (s.tile k).rein = false →
      ((s.reinTiles l).tile k).rein = decide (((1000 * s.gov 0x3006 0 : Nat) : Rat) < s.tilePower l k) := by
  have driven (t : Nat) (u : State) (same : u.driven = s.driven) :
      (if (u.tile t).tileOn then u.tileRein t (u.tilePower l t) else u).driven = s.driven := by
    split
    · exact (driven_tileRein ..).trans same
    · exact same
  refine ⟨upTo_induct (Q := fun u => u.driven = s.driven) rfl fun t _ => driven t, fun k hk on free => ?_⟩
  obtain ⟨u, same, before, after⟩ := upTo_own (fun k u => u.tile k) (Q := fun u => u.driven = s.driven) rfl
    (fun t _ => driven t) (fun t _ j other u => by split; exacts [tile_tileRein_other other _, rfl]) k hk
  have sensed : u.sensed = s.sensed := congrArg Prod.fst same
  refine (congrArg Tile.rein after).trans ?_
  rw [before, on, if_pos rfl, tileRein_asserts (by rw [before]; exact free), ceiling_of_sensed sensed,
    tilePower_of_sensed sensed]

/-- The stall time of every tile that rein begins or ceases to hold is noted. -/
def State.stampTiles (s before : State) : State := upTo 64 s fun t x => x.heldTime before t

theorem heldTime_keeps {β : Type} (g : State → β) (count : ∀ v t n, g (State.count v 0x704B t n) = g v)
    (tiles : ∀ v t (f : Tile → Tile), (∀ x, ((f x).tileOn, (f x).rein) = (x.tileOn, x.rein)) → g (v.modTile t f) = g v)
    (before : State) (t : Nat) : g (s.heldTime before t) = g s := by
  unfold State.heldTime
  split
  · exact tiles s t _ fun _ => rfl
  · split
    · exact count ..
    · rfl

theorem stampTiles_spec (before : State) : (s.stampTiles before).driven = s.driven ∧ (s.stampTiles before).reins = s.reins := by
  unfold State.stampTiles
  exact ⟨upTo_keeps State.driven fun t _ _ => heldTime_keeps State.driven (fun _ _ _ => driven_count (by decide) ..)
      (fun _ _ _ _ => rfl) before t,
    upTo_keeps State.reins fun t _ _ => heldTime_keeps State.reins (fun _ _ _ => reins_congr (State.count_tiles ..))
      (fun _ t _ h => reins_modTile h t) before t⟩

/-! ### A sense window (R154, R160, R161) -/

theorem exec_senseWindow_eq (l : List (Nat × Nat)) : exec (.senseWindow l) s
    = .next ((((s.sumWindow l (s.meter l)).moduleRein (s.meter l)).reinTiles l).stampTiles s) := rfl

theorem senseWindow_spec (l : List (Nat × Nat)) : Done (.senseWindow l) s fun t =>
    let pm := s.meter l
    let limit : Rat := (1000 * s.num 0x3002 0 : Nat)
    let below : Prop := pm < limit - (1000 * s.gov 0x3007 0 : Nat)
    t.drover.metered = pm ∧ t.mem = s.mem ∧ t.pens = s.pens
    ∧ (s.drover.rein = false → t.drover.rein = decide (limit < pm)
        ∧ (limit < pm → t.num 0x3020 0 = (s.num 0x3020 0 + 1) % 2 ^ 32)
        ∧ (¬ limit < pm → t.num 0x3020 0 = s.num 0x3020 0))
    ∧ (s.drover.rein = true → (t.drover.rein = false ↔ below ∧ 1 ≤ s.drover.reinBelow ∧ s.drover.reinAt + 2000 ≤ s.clock))
    ∧ (s.drover.windowCount = 99 → t.drover.mean = (s.drover.windowSum + pm) / 100 ∧ t.drover.windowCount = 0)
    ∧ ∀ k, k < 64 → (s.tile k).tileOn = true → (s.tile k).rein = false →
        (t.tile k).rein = decide (((1000 * s.gov 0x3006 0 : Nat) : Rat) < s.tilePower l k) := by
  refine ⟨_, exec_senseWindow_eq l, ?_⟩
  dsimp only
  generalize s.meter l = pm
  obtain ⟨sensed, reins, num, drover⟩ := sumWindow_spec (s := s) l pm
  obtain ⟨metered, rein, reinAt, reinBelow, mean⟩ := drover_addWindow (s := s) l pm
  rw [← drover] at metered rein reinAt reinBelow mean
  generalize s.sumWindow l pm = u at *
  obtain ⟨sensed', reins', meters⟩ := moduleRein_frame (s := u) pm
  have asserts := moduleRein_asserts (s := u) (pm := pm)
  have releases := moduleRein_releases (s := u) (pm := pm)
  generalize u.moduleRein pm = v at *
  obtain ⟨driven, tiles⟩ := reinTiles_spec (s := v) l
  obtain ⟨driven', stays⟩ := stampTiles_spec (s := v.reinTiles l) s
  generalize (v.reinTiles l).stampTiles s = w at *
  have all : w.sensed = s.sensed := (congrArg Prod.fst (driven'.trans driven)).trans (sensed'.trans sensed)
  have state : w.drover = v.drover := congrArg (·.2.1) (driven'.trans driven)
  have count : w.num 0x3020 0 = v.num 0x3020 0 := congrArg (·.2.2) (driven'.trans driven)
  have before : v.sensed = s.sensed := sensed'.trans sensed
  have clock : u.clock = s.clock := congrArg SenseBase.clock sensed
  rw [cap_of_sensed sensed, num, rein] at asserts
  rw [State.belowRelease, cap_of_sensed sensed, margin_of_sensed sensed, rein, reinAt, reinBelow, clock] at releases
  rw [state, count]
  refine ⟨(congrArg Prod.fst meters).trans metered, congrArg SenseBase.mem all, congrArg SenseBase.pens all, fun free => ?_,
    releases, fun full => ?_, fun k hk on free => ?_⟩
  · obtain ⟨held, counted⟩ := asserts free
    exact ⟨held, fun above => counted.trans (if_pos above), fun within => counted.trans (if_neg within)⟩
  · obtain ⟨closed, again⟩ := mean full
    exact ⟨(congrArg (·.2.1) meters).trans closed, (congrArg (·.2.2) meters).trans again⟩
  · obtain ⟨same, free'⟩ := Prod.mk.inj (congrFun (reins'.trans reins) k)
    have own := tiles k hk (same.trans on) (free'.trans free)
    rw [ceiling_of_sensed before, tilePower_of_sensed before] at own
    exact (Prod.mk.inj (congrFun stays k)).2.trans own

theorem reinHeldLimit_limits (held : s.drover.rein = true) (new : s.drover.reinHeld = false) :
    exec .reinHeldLimit s = .next { s.log 0x3005 srcHub 0 with
      drover := { s.drover with reinHeld := true, gminOnly := true } } := by
  rw [exec_reinHeldLimit, execReinHeldLimit, if_neg (by simp [held, new])]

/-- Settles O32, command by command. -/
theorem powerIsMeteredAndCapped : Obligations.PowerIsMeteredAndCapped := by
  unfold Obligations.PowerIsMeteredAndCapped
  exact fun s => ⟨inputReading_kept, tabFault_caps, tabFaultClear_caps, fun slot v accepts low high =>
    powerCapWrite_spec accepts low high, senseWindow_spec, reinHeldLimit_limits⟩

end Sys2Proof.Machine
end

section
/-! SUPPORT. Heat: the thermal model's update, the reference diodes, the shutdowns by heat and by input, and what brings the
module back (R153, R166–R168, R170, R171); and from that statement O33. -/

namespace Sys2Proof.Machine

variable {s t u : State}

/-! ## Objects that the updates write -/

/-- From s to t nothing but objects and the drover changed. -/
structure ModelOnly (s t : State) : Prop where
  parts : { t with objs := s.objs, drover := s.drover } = s

theorem ModelOnly.trans (h : ModelOnly s t) (h' : ModelOnly t u) : ModelOnly s u := by
  obtain ⟨parts⟩ := h
  obtain ⟨parts'⟩ := h'
  rw [← parts'] at parts
  exact ⟨parts⟩

/-- Whatever looks at neither is kept. -/
theorem ModelOnly.keeps {β : Type} (h : ModelOnly s t) (g : State → β)
    (blind : ∀ v o d, g { v with objs := o, drover := d } = g v) : g t = g s := by
  rw [← h.parts]
  exact (blind t _ _).symm

theorem drover_withDrover (d : Drover) : (s.withDrover d).drover = d := rfl
theorem withDrover_withDrover (d e : Drover) : (s.withDrover d).withDrover e = s.withDrover e := rfl
theorem modelOnly_withDrover (d : Drover) : ModelOnly s (s.withDrover d) := ⟨rfl⟩

theorem setInt_eq (i j : Nat) (v : Int) : ∃ n, s.setInt i j v = s.setNum i j n ∨ s.setInt i j v = s := by
  unfold State.setInt
  split
  · exact ⟨_, .inl rfl⟩
  · exact ⟨0, .inr rfl⟩

theorem num_setInt_of_ne {i j k l : Nat} (other : objKey k l ≠ objKey i j) (v : Int) :
    (s.setInt i j v).num k l = s.num k l := by
  obtain ⟨n, eq | eq⟩ := setInt_eq (s := s) i j v <;> rw [eq]
  exact num_setNum_of_ne other

theorem modelOnly_setInt (i j : Nat) (v : Int) : ModelOnly s (s.setInt i j v) := by
  obtain ⟨n, eq | eq⟩ := setInt_eq (s := s) i j v <;> rw [eq] <;> exact ⟨rfl⟩

/-- Entries put at the numbers below n read back. -/
theorem tabGet_fill {α : Type} [DecidableEq α] (d f : Nat → α) {n k : Nat} (hk : k < n) :
    tabGet d ((List.range n).foldl (fun t i => tabSet d t i (f i)) []) k = f k := by
  induction n with
  | zero => exact absurd hk (Nat.not_lt_zero k)
  | succ n ih =>
    rw [List.range_succ, List.foldl_append, List.foldl_cons, List.foldl_nil, tabGet_tabSet]
    by_cases last : k = n
    · rw [if_pos last, last]
    · rw [if_neg last, ih (by omega)]

/-! ## The estimates (R166) -/

/-- The table of the estimates of every node. -/
def tempTable (f : Nat → Rat) : Tab Rat := (List.range 126).foldl (fun t i => tabSet (fun _ => 0) t i (f i)) []

/-- The drover takes new estimates. -/
def State.withTemps (s : State) (l : Tab Rat) : State := s.withDrover { s.drover with temps := l }

theorem setTemps_eq (f : Nat → Rat) : s.setTemps f
    = upTo 126 (s.withTemps (tempTable f)) fun i s => s.setInt 0x4001 (i + 1) (16 * f i).floor := rfl

theorem objectRow_estimate {i : Nat} (hi : i < 126) :
    (objectRow 0x4001 (i + 1)).map (fun r => r.type.size) = some 2 := by
  have all : ∀ i : Fin 126, (objectRow 0x4001 (i + 1)).map (fun r => r.type.size) = some 2 := by decide
  exact all ⟨i, hi⟩

theorem setInt_of_half {i j : Nat} (h : (objectRow i j).map (fun r => r.type.size) = some 2) (v : Int) :
    s.setInt i j v = s.setNum i j (intBits 2 v) := by
  obtain ⟨row, found, size⟩ := Option.map_eq_some_iff.mp h
  rw [State.setInt, found]
  simp only [size]

theorem estimate_ne {i k : Nat} (other : k ≠ i) : objKey 0x4001 (k + 1) ≠ objKey 0x4001 (i + 1) := by
  unfold objKey
  omega

theorem drover_setTemps (f : Nat → Rat) : (s.setTemps f).drover = (s.withTemps (tempTable f)).drover := by
  rw [setTemps_eq]
  exact upTo_keeps State.drover fun _ _ _ => State.setInt_drover ..

theorem modelOnly_setTemps (f : Nat → Rat) : ModelOnly s (s.setTemps f) := by
  rw [setTemps_eq]
  exact upTo_induct (Q := ModelOnly s) (modelOnly_withDrover _) fun _ _ _ h => h.trans (modelOnly_setInt ..)

theorem temp_setTemps (f : Nat → Rat) {i : Nat} (hi : i < 126) : (s.setTemps f).temp i = f i := by
  rw [State.temp, drover_setTemps]
  exact tabGet_fill (fun _ => 0) f hi

theorem num_setTemps_estimate (f : Nat → Rat) {i : Nat} (hi : i < 126) :
    (s.setTemps f).num 0x4001 (i + 1) = intBits 2 (16 * f i).floor := by
  rw [setTemps_eq]
  obtain ⟨u, -, -, own⟩ := upTo_own (s := s.withTemps (tempTable f)) (n := 126)
    (f := fun i s => s.setInt 0x4001 (i + 1) (16 * f i).floor) (fun k u => u.num 0x4001 (k + 1)) (Q := fun _ => True) trivial (fun _ _ _ _ => trivial)
    (fun _ _ _ other _ => num_setInt_of_ne (estimate_ne other) _) i hi
  rw [own, setInt_of_half (objectRow_estimate hi), State.num_setNum_same]

theorem num_setTemps_other {i j : Nat} (other : ∀ k < 126, objKey i j ≠ objKey 0x4001 (k + 1)) (f : Nat → Rat) :
    (s.setTemps f).num i j = s.num i j := by
  rw [setTemps_eq]
  exact upTo_keeps (State.num · i j) fun k hk _ => num_setInt_of_ne (other k hk) _

/-! ### The powers of Table 07.4 -/

theorem nodePower_eq (rail : Nat → Rat) (i : Nat) : s.nodePower rail i =
    if i < 64 then rail i + rail (0x40 + i)
    else if i < 68 then (rail 0x80 + rail 0x81) * (tabGet (fun _ => 2500) s.nv.hubSplit (i - 64) : Nat) / 10000
    else if i < 80 then rail (0x90 + (i - 68))
    else if i < 92 then rail (0xA0 + (i - 80))
    else if i < 124 then rail (0xC0 + (i - 92))
    else 0 := by
  have out (low : ¬ (64 ≤ i ∧ i < 68)) : s.nodePower rail i = ratSum ((nodeRails i).map rail) := if_neg low
  by_cases tile : i < 64
  · rw [out (by omega), if_pos tile, nodeRails, if_pos tile]
    simp [ratSum]
  rw [if_neg tile]
  by_cases hub : i < 68
  · rw [if_pos hub, State.nodePower, if_pos (by omega), nodeRails, if_neg tile, if_pos hub]
    simp [ratSum]
  rw [out (by omega), if_neg hub, nodeRails, if_neg tile, if_neg hub]
  by_cases gallery : i < 80
  · rw [if_pos gallery, if_pos gallery]
    simp [ratSum]
  rw [if_neg gallery, if_neg gallery]
  by_cases engine : i < 92
  · rw [if_pos engine, if_pos engine]
    simp [ratSum]
  rw [if_neg engine, if_neg engine]
  by_cases memory : i < 124
  · rw [if_pos memory, if_pos memory]
    simp [ratSum]
  · rw [if_neg memory, if_neg memory]
    rfl

/-! ## The bands (R168) -/

/-- The drover takes new bands. -/
def State.withBands (s : State) (b : Tab (Option Nat)) : State := s.withDrover { s.drover with newBands := b }

/-- The band change that an estimate of x °C calls for, from the band now and the one that waits for the tick. -/
def bandDue (now : Nat) (waits : Option Nat) (x : Rat) : Option Nat :=
  let b := bandFrom (waits.getD now) x
  if b = now then none else some b

/-- What a node's estimate calls for, where a band waits for it. -/
def State.nodeBand (s : State) (i : Nat) (waits : Option Nat) : Option Nat := bandDue (s.num 0x4004 (i + 1)) waits (s.temp i)

theorem nodeBand_withBands (b : Tab (Option Nat)) (i : Nat) (waits : Option Nat) :
    (s.withBands b).nodeBand i waits = s.nodeBand i waits := rfl

/-- A node's band is noted. -/
def State.noteBand (s : State) (i : Nat) : State :=
  s.withBands (tabSet (fun _ => none) s.drover.newBands i (s.nodeBand i (tabGet (fun _ => none) s.drover.newBands i)))

theorem noteBands_eq : s.noteBands = upTo 126 s fun i s => s.noteBand i := rfl

theorem noteBands_spec : ∃ b, s.noteBands = s.withBands b
    ∧ ∀ i, i < 126 → tabGet (fun _ => none) b i = s.nodeBand i (tabGet (fun _ => none) s.drover.newBands i) := by
  have start : ∃ b, s = s.withBands b := ⟨s.drover.newBands, rfl⟩
  have step (i : Nat) (u : State) : (∃ b, u = s.withBands b) → ∃ b, u.noteBand i = s.withBands b := by
    rintro ⟨b, rfl⟩
    exact ⟨_, rfl⟩
  rw [noteBands_eq]
  obtain ⟨b, eq⟩ := upTo_induct (n := 126) (Q := fun u => ∃ b, u = s.withBands b) start fun i _ => step i
  refine ⟨b, eq, fun i hi => ?_⟩
  obtain ⟨u, ⟨c, rfl⟩, before, after⟩ := upTo_own (s := s) (n := 126) (Q := fun u => ∃ b, u = s.withBands b)
    (f := fun i s => s.noteBand i) (fun k u => tabGet (fun _ => none) u.drover.newBands k) start (fun i _ => step i)
    (fun i _ k other u => tabGet_tabSet_ne _ _ _ other) i hi
  rw [eq] at after
  refine after.trans ((tabGet_tabSet_same _ _ _ _).trans ?_)
  rw [before, nodeBand_withBands]

/-! ## The call for a shutdown (R170) -/

theorem reinDown_keeps {β : Type} (g : State → β)
    (tiles : ∀ v t (f : Tile → Tile), (∀ x, ((f x).tileOn, (f x).rein) = (x.tileOn, x.rein)) → g (v.modTile t f) = g v)
    (count : ∀ v n, g (State.setNum v 0x3020 0 n) = g v) (begins : ∀ v, g (State.beginRein v) = g v) : g s.reinDown = g s := by
  unfold State.reinDown
  split
  · exact assertRein_keeps g tiles count begins
  · rfl

/-- What the drover keeps as module rein begins. -/
theorem drover_reinDown {β : Type} (g : Drover → β) (blind : ∀ d now, g (Drover.reined d now) = g d) :
    g s.reinDown.drover = g s.drover :=
  reinDown_keeps (fun v => g v.drover) (fun _ _ _ _ => rfl) (fun _ _ => rfl) fun _ => blind _ _

theorem reinDown_reins (running : s.tick.running = true) : s.reinDown.drover.rein = true := by
  unfold State.reinDown
  rw [if_pos running]
  cases held : s.drover.rein with
  | true => rw [assertRein_held held, held]
  | false => rw [drover_assertRein held]; rfl

/-- The drover holds the record of a shutdown that is due. -/
def State.call (s : State) (r : ShutdownRecord) : State := s.withDrover { s.drover with shutDue := some r }

theorem callShutdown_calls (booted : s.boot.booted = true) (latch : s.drover.latch = false) (due : s.drover.shutDue = none)
    (cause node : Nat) : s.callShutdown cause node = s.reinDown.call (s.shutdownRecord cause node) := by
  unfold State.callShutdown
  exact if_neg (by simp [booted, latch, due])

theorem callShutdown_keeps {β : Type} (g : State → β)
    (tiles : ∀ v t (f : Tile → Tile), (∀ x, ((f x).tileOn, (f x).rein) = (x.tileOn, x.rein)) → g (v.modTile t f) = g v)
    (count : ∀ v n, g (State.setNum v 0x3020 0 n) = g v) (begins : ∀ v, g (State.beginRein v) = g v)
    (call : ∀ v r, g (State.call v r) = g v) (cause node : Nat) : g (s.callShutdown cause node) = g s := by
  unfold State.callShutdown
  split
  · rfl
  · exact (call s.reinDown _).trans (reinDown_keeps g tiles count begins)

theorem num_callShutdown {i j : Nat} (other : objKey i j ≠ objKey 0x3020 0) (cause node : Nat) :
    (s.callShutdown cause node).num i j = s.num i j :=
  callShutdown_keeps (State.num · i j) (fun _ _ _ _ => rfl) (fun _ _ => num_setNum_of_ne other) (fun _ => rfl) (fun _ _ => rfl)
    cause node

/-- What the drover keeps when a shutdown is called for. -/
theorem drover_callShutdown {β : Type} (g : Drover → β) (rein : ∀ d now, g (Drover.reined d now) = g d)
    (due : ∀ (d : Drover) r, g { d with shutDue := r } = g d) (cause node : Nat) :
    g (s.callShutdown cause node).drover = g s.drover :=
  callShutdown_keeps (fun v => g v.drover) (fun _ _ _ _ => rfl) (fun _ _ => rfl) (fun _ => rein _ _) (fun _ _ => due _ _)
    cause node

/-! ## THERMAL_UPDATE (R166, R168, R170) -/

/-- The estimate that an update gives a node: the coolant's anchor, or one step. -/
def State.nextTemp (s : State) (i : Nat) : Rat := if i = 125 then s.drover.anchor else s.stepNode i

/-- The means of the rails start again. -/
def State.clearRails (s : State) : State := s.withDrover { s.drover with railSum := [], railWindows := 0 }

/-- An update, but for the shutdown that it may call for. -/
def State.heat (s : State) : State := (s.setTemps s.nextTemp).noteBands.trim.clearRails

/-- The first node at the threshold calls for the shutdown. -/
def State.callHottest (s : State) : State := s.hotNode.elim s (s.callShutdown 1)

theorem exec_thermalUpdate_eq : exec .thermalUpdate s = .next s.heat.callHottest := by
  rw [exec_thermalUpdate]
  unfold execThermalUpdate State.callHottest State.heat State.clearRails State.withDrover State.nextTemp
  dsimp only
  generalize State.hotNode _ = node
  cases node <;> rfl

theorem callHottest_cool (cool : s.hotNode = none) : s.callHottest = s := by
  rw [State.callHottest, cool, Option.elim_none]

theorem callHottest_hot {i : Nat} (hot : s.hotNode = some i) : s.callHottest = s.callShutdown 1 i := by
  rw [State.callHottest, hot, Option.elim_some]

theorem trim_eq : ∃ tau, s.trim = s.withDrover { s.drover with tau := tau } := ⟨_, rfl⟩

/-- The drover after an update. -/
theorem heat_eq : ∃ b tau, s.heat = (s.setTemps s.nextTemp).withDrover
      { (s.setTemps s.nextTemp).drover with newBands := b, tau := tau, railSum := [], railWindows := 0 }
    ∧ ∀ i, i < 126 → tabGet (fun _ => none) b i
      = (s.setTemps s.nextTemp).nodeBand i (tabGet (fun _ => none) (s.setTemps s.nextTemp).drover.newBands i) := by
  obtain ⟨b, eq, bands⟩ := noteBands_spec (s := s.setTemps s.nextTemp)
  unfold State.heat
  rw [eq]
  generalize s.setTemps s.nextTemp = u at *
  obtain ⟨tau, trimmed⟩ := trim_eq (s := u.withBands b)
  rw [trimmed, State.clearRails, State.withBands, withDrover_withDrover, withDrover_withDrover, drover_withDrover,
    drover_withDrover]
  exact ⟨b, tau, rfl, bands⟩

/-- What an update establishes, whether or not it calls for a shutdown. -/
structure State.Heated (s t : State) : Prop where
  temps : ∀ i, i < 126 → t.temp i = s.nextTemp i
  rails : t.drover.railSum = [] ∧ t.drover.railWindows = 0
  estimates : ∀ i, i < 126 → t.num 0x4001 (i + 1) = intBits 2 (16 * s.nextTemp i).floor
  bands : ∀ i, i < 126 → tabGet (fun _ => none) t.drover.newBands i
    = bandDue (s.num 0x4004 (i + 1)) (tabGet (fun _ => none) s.drover.newBands i) (s.nextTemp i)

/-- What an update leaves alone. -/
structure State.HeatFrame (s t : State) : Prop where
  only : ModelOnly s t
  nums : ∀ i j, (∀ k < 126, objKey i j ≠ objKey 0x4001 (k + 1)) → t.num i j = s.num i j
  drover : ∃ l b tau, t.drover = { s.drover with temps := l, newBands := b, tau := tau, railSum := [], railWindows := 0 }

/-- What follows from the estimates and the bands for the drover that has taken them. -/
theorem heated_of_estimates {l : Tab Rat} {b : Tab (Option Nat)} {tau : Rat} (drover : u.drover = (s.withTemps l).drover)
    (only : ModelOnly s u) (temps : ∀ i, i < 126 → u.temp i = s.nextTemp i)
    (estimates : ∀ i, i < 126 → u.num 0x4001 (i + 1) = intBits 2 (16 * s.nextTemp i).floor)
    (nums : ∀ i j, (∀ k < 126, objKey i j ≠ objKey 0x4001 (k + 1)) → u.num i j = s.num i j)
    (bands : ∀ i, i < 126 → tabGet (fun _ => none) b i = u.nodeBand i (tabGet (fun _ => none) u.drover.newBands i)) :
    let t := u.withDrover { u.drover with newBands := b, tau := tau, railSum := [], railWindows := 0 }
    s.Heated t ∧ s.HeatFrame t := by
  intro t
  refine ⟨⟨temps, ⟨rfl, rfl⟩, estimates, fun i hi => (bands i hi).trans ?_⟩, only.trans (modelOnly_withDrover _), nums, ?_⟩
  · have now : u.num 0x4004 (i + 1) = s.num 0x4004 (i + 1) := nums _ _ fun k _ => by unfold objKey; omega
    rw [State.nodeBand, now, temps i hi, drover]
    rfl
  · rw [drover_withDrover, drover]
    exact ⟨l, b, tau, rfl⟩

theorem heat_spec : s.Heated s.heat ∧ s.HeatFrame s.heat := by
  obtain ⟨b, tau, eq, bands⟩ := heat_eq (s := s)
  rw [eq]
  exact heated_of_estimates (drover_setTemps _) (modelOnly_setTemps _) (fun i hi => temp_setTemps _ hi)
    (fun i hi => num_setTemps_estimate _ hi) (fun i j other => num_setTemps_other other _) bands

theorem State.Heated.callShutdown (h : s.Heated t) (cause node : Nat) : s.Heated (t.callShutdown cause node) := by
  obtain ⟨temps, ⟨sums, windows⟩, estimates, bands⟩ := h
  refine ⟨fun i hi => ?_, ⟨?_, ?_⟩, fun i hi => ?_, fun i hi => ?_⟩
  · rw [State.temp, drover_callShutdown Drover.temps (fun _ _ => rfl) fun _ _ => rfl]
    exact temps i hi
  · rw [drover_callShutdown Drover.railSum (fun _ _ => rfl) fun _ _ => rfl, sums]
  · rw [drover_callShutdown Drover.railWindows (fun _ _ => rfl) fun _ _ => rfl, windows]
  · rw [num_callShutdown (by unfold objKey; omega), estimates i hi]
  · rw [drover_callShutdown Drover.newBands (fun _ _ => rfl) fun _ _ => rfl, bands i hi]

theorem State.Heated.callHottest (h : s.Heated t) : s.Heated t.callHottest := by
  unfold State.callHottest
  cases t.hotNode with
  | none => exact h
  | some i => exact h.callShutdown 1 i

theorem hotNode_none (cool : ∀ i, i < 126 → s.temp i < (s.num 0x4003 0 : Nat)) : s.hotNode = none := by
  refine List.find?_range_eq_none.mpr fun i hi => ?_
  rw [Bool.not_eq_true', decide_eq_false_iff_not]
  exact not_le.mpr (cool i hi)

theorem hotNode_first {i : Nat} (hi : i < 126) (hot : ((s.num 0x4003 0 : Nat) : Rat) ≤ s.temp i)
    (first : ∀ j, j < i → s.temp j < (s.num 0x4003 0 : Nat)) : s.hotNode = some i := by
  refine List.find?_range_eq_some.mpr ⟨decide_eq_true hot, List.mem_range.mpr hi, fun j hj => ?_⟩
  rw [Bool.not_eq_true', decide_eq_false_iff_not]
  exact not_le.mpr (first j hj)

theorem hottest_congr (same : t.drover.diodes = s.drover.diodes) : t.hottest = s.hottest := by
  unfold State.hottest
  rw [same]

theorem shutDue_call (r : ShutdownRecord) : (s.call r).drover.shutDue = some r := rfl
theorem rein_call (r : ShutdownRecord) : (s.call r).drover.rein = s.drover.rein := rfl

/-- A shutdown called for holds its record, and module rein begins where treads run. -/
theorem callShutdown_due (booted : s.boot.booted = true) (latch : s.drover.latch = false) (due : s.drover.shutDue = none)
    (cause node : Nat) : (s.callShutdown cause node).drover.shutDue = some (s.shutdownRecord cause node)
      ∧ (s.tick.running = true → (s.callShutdown cause node).drover.rein = true) := by
  rw [callShutdown_calls booted latch due, shutDue_call, rein_call]
  exact ⟨rfl, reinDown_reins⟩

theorem test_shutdownRecord_estimate (node : Nat) : (s.shutdownRecord 1 node).test = (16 * s.temp node).floor := by
  rw [State.shutdownRecord, if_pos rfl]

theorem test_shutdownRecord_other {cause : Nat} (other : cause ≠ 1) (node : Nat) : (s.shutdownRecord cause node).test = 0 := by
  rw [State.shutdownRecord, if_neg other]

/-- An estimate at the threshold calls for the shutdown, with the record of what was found. -/
theorem heat_calls (booted : s.boot.booted = true) (latch : s.drover.latch = false) (due : s.drover.shutDue = none) {i : Nat}
    (hot : s.heat.hotNode = some i) : (∃ r, s.heat.callHottest.drover.shutDue = some r ∧ r.cause = 1 ∧ r.node = i
        ∧ r.epoch = s.epoch ∧ r.test = (16 * s.heat.temp i).floor ∧ r.dmax = s.hottest
        ∧ r.pin = (s.drover.mean / 1000).floor.toNat)
      ∧ (s.tick.running = true → s.heat.callHottest.drover.rein = true) := by
  obtain ⟨-, only, nums, l, b, tau, drover⟩ := heat_spec (s := s)
  have boot : s.heat.boot = s.boot := only.keeps State.boot fun _ _ _ => rfl
  have tick : s.heat.tick = s.tick := only.keeps State.tick fun _ _ _ => rfl
  have epoch : s.heat.epoch = s.epoch := nums _ _ fun k _ => by unfold objKey; omega
  obtain ⟨holds, reins⟩ := callShutdown_due (s := s.heat) (by rw [boot, booted]) (by rw [drover, latch]) (by rw [drover, due]) 1 i
  rw [callHottest_hot hot]
  refine ⟨⟨_, holds, rfl, rfl, epoch, test_shutdownRecord_estimate i, hottest_congr (by rw [drover]), ?_⟩,
    fun running => reins (by rw [tick, running])⟩
  rw [State.shutdownRecord, drover]

/-- One step of a node that is not the lid's coolant (R166). -/
theorem nextTemp_eq {i : Nat} (hi : i < 125) : s.nextTemp i = s.temp i + (s.nodePower s.railMean i
      - ratSum (s.nv.conduct.map fun c =>
          if c.1 = i then (c.2.2 : Rat) * (s.temp i - s.temp c.2.1)
          else if c.2.1 = i then (c.2.2 : Rat) * (s.temp i - s.temp c.1) else 0))
    / (100000 * (tabGet (fun _ => 1000) s.nv.heatCap i : Nat)) := by
  rw [State.nextTemp, if_neg (by omega), State.stepNode]

theorem thermalUpdate_spec {power : Nat → Rat} (powers : ∀ i, power i = s.nodePower s.railMean i) :
    Done .thermalUpdate s fun t =>
      (∀ i, i < 125 → t.temp i = s.temp i + (power i
          - ratSum (s.nv.conduct.map fun c =>
              if c.1 = i then (c.2.2 : Rat) * (s.temp i - s.temp c.2.1)
              else if c.2.1 = i then (c.2.2 : Rat) * (s.temp i - s.temp c.1) else 0))
        / (100000 * (tabGet (fun _ => 1000) s.nv.heatCap i : Nat)))
      ∧ t.temp 125 = s.drover.anchor ∧ t.drover.railSum = [] ∧ t.drover.railWindows = 0
      ∧ (∀ i, i < 126 → t.num 0x4001 (i + 1) = intBits 2 (16 * t.temp i).floor
          ∧ let now := s.num 0x4004 (i + 1)
            let b := bandFrom ((tabGet (fun _ => none) s.drover.newBands i).getD now) (t.temp i)
            tabGet (fun _ => none) t.drover.newBands i = if b = now then none else some b)
      ∧ ((∀ i, i < 126 → t.temp i < (s.num 0x4003 0 : Nat)) → { t with objs := s.objs, drover := s.drover } = s)
      ∧ (s.boot.booted = true → s.drover.latch = false → s.drover.shutDue = none →
          ∀ i, i < 126 → ((s.num 0x4003 0 : Nat) : Rat) ≤ t.temp i → (∀ j, j < i → t.temp j < (s.num 0x4003 0 : Nat)) →
            (∃ r, t.drover.shutDue = some r ∧ r.cause = 1 ∧ r.node = i ∧ r.epoch = s.epoch ∧ r.test = (16 * t.temp i).floor
              ∧ r.dmax = s.hottest ∧ r.pin = (s.drover.mean / 1000).floor.toNat)
            ∧ (s.tick.running = true → t.drover.rein = true)) := by
  obtain ⟨heated, only, nums, -⟩ := heat_spec (s := s)
  obtain ⟨temps, ⟨sums, windows⟩, estimates, bands⟩ := heated.callHottest
  have threshold : s.heat.num 0x4003 0 = s.num 0x4003 0 := nums _ _ fun k _ => by unfold objKey; omega
  have same (i : Nat) (hi : i < 126) : s.heat.callHottest.temp i = s.heat.temp i := (temps i hi).trans (heated.temps i hi).symm
  refine ⟨_, exec_thermalUpdate_eq, fun i hi => ?_, temps 125 (by decide), sums, windows, fun i hi => ⟨?_, ?_⟩, fun cool => ?_,
    fun booted latch due i hi hot first => ?_⟩
  · rw [temps i (by omega), nextTemp_eq hi, powers]
  · rw [estimates i hi, temps i hi]
  · rw [bands i hi, temps i hi]
    rfl
  · have none : s.heat.hotNode = none := hotNode_none fun i hi => by rw [threshold, ← same i hi]; exact cool i hi
    rw [callHottest_cool none]
    exact only.parts
  · rw [same i hi] at hot ⊢
    refine heat_calls booted latch due (hotNode_first hi (by rw [threshold]; exact hot) fun j hj => ?_)
    rw [threshold, ← same j (by omega)]
    exact first j hj

/-! ## DIODE_READ (R167, R170) -/

/-- What the drover holds of the model, apart from what an update writes alone. -/
def Drover.model (d : Drover) : Tab Rat × Rat × Nat × Nat × Bool := (d.temps, d.anchor, d.diff5, d.diff15, d.modelFailed)

def State.withAlert (s : State) (a : BitVec 8) : State := { s with alert := a }

theorem setDiodes_spec (l : List Int) : (s.setDiodes l).drover = { s.drover with diodes := l } ∧ (s.setDiodes l).boot = s.boot
    ∧ (s.setDiodes l).tick = s.tick ∧ (s.setDiodes l).epoch = s.epoch := by
  unfold State.setDiodes
  refine ⟨upTo_keeps State.drover fun _ _ _ => State.setInt_drover .., upTo_keeps State.boot fun _ _ _ => State.setInt_boot ..,
    upTo_keeps State.tick fun _ _ _ => State.setInt_tick .., upTo_keeps State.epoch fun k _ _ => num_setInt_of_ne ?_ _⟩
  unfold objKey
  omega

/-- The first diode at 120 °C calls for the shutdown. -/
def State.callDiode (s : State) (l : List Int) : State :=
  ((List.range 8).find? fun k => decide (l.getD k 0 ≥ 1920)).elim s (s.callShutdown 2)

theorem boot_callShutdown (cause node : Nat) : (s.callShutdown cause node).boot = s.boot :=
  callShutdown_keeps State.boot (fun _ _ _ _ => rfl) (fun _ _ => rfl) (fun _ => rfl) (fun _ _ => rfl) cause node

theorem exec_diodeRead_eq (l : List Int) (up : s.boot.hubUp = true) : ∃ a,
    exec (.diodeRead l) s = .next ((((s.setDiodes l).withAlert a).callDiode l).compareDiodes l) := by
  obtain ⟨-, boot, -, -⟩ := setDiodes_spec (s := s) l
  rw [exec_diodeRead]
  unfold execDiodeRead State.callDiode
  dsimp only
  generalize List.find? _ (List.range 8) = found
  cases found with
  | none => exact ⟨_, congrArg Host.Outcome.next (if_pos (by rw [boot, up]))⟩
  | some k => exact ⟨_, congrArg Host.Outcome.next (if_pos (by rw [boot_callShutdown, boot, up]))⟩

/-- No diode at 120 °C. -/
theorem callDiode_cool {l : List Int} (cool : ∀ k, k < 8 → l.getD k 0 < 1920) : s.callDiode l = s := by
  have none : ((List.range 8).find? fun k => decide (l.getD k 0 ≥ 1920)) = none :=
    List.find?_range_eq_none.mpr fun k hk => by simpa using cool k hk
  rw [State.callDiode, none, Option.elim_none]

theorem callDiode_hot {l : List Int} {k : Nat} (hk : k < 8) (hot : 1920 ≤ l.getD k 0) (first : ∀ j, j < k → l.getD j 0 < 1920) :
    s.callDiode l = s.callShutdown 2 k := by
  have found : ((List.range 8).find? fun k => decide (l.getD k 0 ≥ 1920)) = some k :=
    List.find?_range_eq_some.mpr ⟨decide_eq_true hot, List.mem_range.mpr hk, fun j hj => by simpa using first j hj⟩
  rw [State.callDiode, found, Option.elim_some]

/-- What a call for the shutdown keeps of the model and of the diodes. -/
theorem callDiode_keeps (l : List Int) : (s.callDiode l).drover.model = s.drover.model
    ∧ (s.callDiode l).drover.diodes = s.drover.diodes := by
  unfold State.callDiode
  cases List.find? _ (List.range 8) with
  | none => exact ⟨rfl, rfl⟩
  | some k => exact ⟨drover_callShutdown Drover.model (fun _ _ => rfl) (fun _ _ => rfl) ..,
      drover_callShutdown Drover.diodes (fun _ _ => rfl) (fun _ _ => rfl) ..⟩

/-! ### The comparison with the model (R167) -/

/-- How far each diode lies above the estimate of its place. -/
def State.diodeGaps (s : State) (l : List Int) : List Rat :=
  (List.range 8).map fun k => ((l.getD k 0 : Int) : Rat) / 16 - s.temp (diodeNode k)

/-- Some gap lies beyond x either way. -/
def anyBeyond (x : Rat) (gaps : List Rat) : Bool := gaps.any fun d => decide (d > x) || decide (d < -x)

theorem anyBeyond_iff {x : Rat} {gaps : List Rat} : anyBeyond x gaps = true ↔ ∃ v ∈ gaps, x < v ∨ v < -x := by
  simp [anyBeyond]

/-- Readings in a row so far. -/
def inRow (n : Nat) (far : Bool) : Nat := if far then n + 1 else 0

/-- The anchor moves by the mean gap at the third reading in a row. -/
def State.moveAnchor (s : State) (n : Nat) (gaps : List Rat) : State :=
  if n = 3 then (s.log 0x4005 srcKeeper 0).setAnchor (s.drover.anchor + ratSum gaps / 8) else s

/-- The model has failed at the third reading in a row. -/
def State.failModel (s : State) (n : Nat) : State :=
  if n = 3 then (s.log 0x4006 srcKeeper 0).withDrover { s.drover with modelFailed := true } else s

def State.noteInRow (s : State) (n5 n15 : Nat) : State := s.withDrover { s.drover with diff5 := n5 % 3, diff15 := n15 % 3 }

theorem compareDiodes_eq (l : List Int) : s.compareDiodes l =
    let n5 := inRow s.drover.diff5 (anyBeyond 5 (s.diodeGaps l))
    let n15 := inRow s.drover.diff15 (anyBeyond 15 (s.diodeGaps l))
    ((s.moveAnchor n5 (s.diodeGaps l)).failModel n15).noteInRow n5 n15 := by
  unfold State.compareDiodes State.noteInRow State.failModel State.moveAnchor State.withDrover inRow anyBeyond State.diodeGaps
  rfl

theorem drover_setAnchor (a : Rat) : (s.setAnchor a).drover = { s.drover with anchor := a } := rfl

theorem drover_moveAnchor (n : Nat) (gaps : List Rat) : (s.moveAnchor n gaps).drover
    = { s.drover with anchor := if n = 3 then s.drover.anchor + ratSum gaps / 8 else s.drover.anchor } := by
  unfold State.moveAnchor
  split
  · rw [drover_setAnchor, State.log_drover]
  · rfl

theorem drover_failModel (n : Nat) : (s.failModel n).drover
    = { s.drover with modelFailed := if n = 3 then true else s.drover.modelFailed } := by
  unfold State.failModel
  split <;> rfl

/-- The drover after a comparison. -/
theorem drover_compareDiodes (l : List Int) : (s.compareDiodes l).drover =
    let n5 := inRow s.drover.diff5 (anyBeyond 5 (s.diodeGaps l))
    let n15 := inRow s.drover.diff15 (anyBeyond 15 (s.diodeGaps l))
    { s.drover with
      anchor := if n5 = 3 then s.drover.anchor + ratSum (s.diodeGaps l) / 8 else s.drover.anchor
      modelFailed := if n15 = 3 then true else s.drover.modelFailed
      diff5 := n5 % 3, diff15 := n15 % 3 } := by
  rw [compareDiodes_eq]
  dsimp only
  rw [State.noteInRow, drover_withDrover, drover_failModel, drover_moveAnchor]

theorem newest_moveAnchor (gaps : List Rat) : ∃ e, (s.moveAnchor 3 gaps).events.head? = some e ∧ e.code = 0x4005 := by
  obtain ⟨e, newest, code, -⟩ := newest_log (s := s) 0x4005 srcKeeper 0
  refine ⟨e, ?_, code⟩
  rw [State.moveAnchor, if_pos rfl]
  exact (congrArg List.head? (State.setInt_events ..)).trans newest

theorem newest_mem_failModel {e : Event} (newest : s.events.head? = some e) (n : Nat) : e ∈ (s.failModel n).events := by
  unfold State.failModel
  split
  · exact newest_mem_log newest ..
  · exact List.mem_of_mem_head? newest

theorem events_noteInRow (n5 n15 : Nat) : (s.noteInRow n5 n15).events = s.events := rfl

theorem compareDiodes_logs {l : List Int} (third : inRow s.drover.diff5 (anyBeyond 5 (s.diodeGaps l)) = 3) :
    ∃ v ∈ (s.compareDiodes l).events, v.code = 0x4005 := by
  obtain ⟨e, newest, code⟩ := newest_moveAnchor (s := s) (s.diodeGaps l)
  rw [compareDiodes_eq]
  dsimp only
  rw [events_noteInRow, third]
  exact ⟨e, newest_mem_failModel newest _, code⟩

theorem compareDiodes_logs_failure {l : List Int} (third : inRow s.drover.diff15 (anyBeyond 15 (s.diodeGaps l)) = 3) :
    ∃ v ∈ (s.compareDiodes l).events, v.code = 0x4006 := by
  rw [compareDiodes_eq]
  dsimp only
  rw [events_noteInRow, third, State.failModel, if_pos rfl]
  exact ⟨_, List.mem_cons_self, rfl⟩

/-- What a comparison concludes, by how far the diodes lie from the model. -/
theorem compareDiodes_concludes (l : List Int) :
    let far (x : Rat) : Prop := ∃ v ∈ s.diodeGaps l, x < v ∨ v < -x
    let t := s.compareDiodes l
    (¬ far 5 → t.drover.anchor = s.drover.anchor ∧ t.drover.diff5 = 0)
    ∧ (far 5 → s.drover.diff5 = 2 → t.drover.anchor = s.drover.anchor + ratSum (s.diodeGaps l) / 8
        ∧ ∃ v ∈ t.events, v.code = 0x4005)
    ∧ (far 5 → s.drover.diff5 < 2 → t.drover.anchor = s.drover.anchor ∧ t.drover.diff5 = s.drover.diff5 + 1)
    ∧ (far 15 → s.drover.diff15 = 2 → t.drover.modelFailed = true ∧ ∃ v ∈ t.events, v.code = 0x4006)
    ∧ (¬ far 15 → t.drover.modelFailed = s.drover.modelFailed ∧ t.drover.diff15 = 0) := by
  intro far t
  have drover := drover_compareDiodes (s := s) l
  have logs := compareDiodes_logs (s := s) (l := l)
  have fails := compareDiodes_logs_failure (s := s) (l := l)
  have beyond (x : Rat) (h : far x) (n : Nat) : inRow n (anyBeyond x (s.diodeGaps l)) = n + 1 := if_pos (anyBeyond_iff.mpr h)
  have within (x : Rat) (h : ¬ far x) (n : Nat) : inRow n (anyBeyond x (s.diodeGaps l)) = 0 :=
    if_neg fun h' => h (anyBeyond_iff.mp h')
  refine ⟨fun near => ?_, fun off two => ?_, fun off few => ?_, fun off two => ?_, fun near => ?_⟩
  · rw [within 5 near] at drover
    rw [drover]
    exact ⟨rfl, rfl⟩
  · rw [beyond 5 off, two] at drover logs
    rw [drover]
    exact ⟨rfl, logs rfl⟩
  · rw [beyond 5 off] at drover
    rw [drover]
    exact ⟨if_neg (by omega), Nat.mod_eq_of_lt (by omega)⟩
  · rw [beyond 15 off, two] at drover fails
    rw [drover]
    exact ⟨rfl, fails rfl⟩
  · rw [within 15 near] at drover
    rw [drover]
    exact ⟨rfl, rfl⟩

/-! ### A reading -/

theorem diodeGaps_congr (temps : t.drover.temps = s.drover.temps) (l : List Int) : t.diodeGaps l = s.diodeGaps l := by
  unfold State.diodeGaps State.temp
  rw [temps]

theorem withAlert_drover (a : BitVec 8) : (s.withAlert a).drover = s.drover := rfl
theorem withAlert_boot (a : BitVec 8) : (s.withAlert a).boot = s.boot := rfl
theorem withAlert_epoch (a : BitVec 8) : (s.withAlert a).epoch = s.epoch := rfl

/-- What the readings give before they are compared with the model. -/
theorem callDiode_spec (l : List Int) (a : BitVec 8) : let v := ((s.setDiodes l).withAlert a).callDiode l
    v.drover.model = s.drover.model ∧ v.drover.diodes = l
    ∧ ((∀ k, k < 8 → l.getD k 0 < 1920) → v.drover.shutDue = s.drover.shutDue)
    ∧ (s.boot.booted = true → s.drover.latch = false → s.drover.shutDue = none → ∀ k, k < 8 → 1920 ≤ l.getD k 0 →
        (∀ j, j < k → l.getD j 0 < 1920) → ∃ r, v.drover.shutDue = some r ∧ r.cause = 2 ∧ r.node = k ∧ r.epoch = s.epoch
          ∧ r.test = 0 ∧ r.dmax = v.hottest) := by
  intro v
  obtain ⟨drover, boot, tick, epoch⟩ := setDiodes_spec (s := s) l
  rw [← withAlert_drover a] at drover
  rw [← withAlert_boot a] at boot
  rw [← withAlert_epoch a] at epoch
  obtain ⟨model, diodes⟩ := callDiode_keeps (s := (s.setDiodes l).withAlert a) l
  refine ⟨model.trans (by rw [drover]; rfl), diodes.trans (by rw [drover]), fun cool => ?_,
    fun booted latch due k hk hot first => ?_⟩
  · exact (congrArg (·.drover.shutDue) (callDiode_cool cool)).trans (by rw [drover])
  · obtain ⟨holds, -⟩ := callShutdown_due (s := (s.setDiodes l).withAlert a) (by rw [boot, booted]) (by rw [drover, latch])
      (by rw [drover, due]) 2 k
    refine ⟨_, (congrArg (·.drover.shutDue) (callDiode_hot hk hot first)).trans holds, rfl, rfl, epoch,
      test_shutdownRecord_other (by decide) k, (hottest_congr diodes).symm⟩

theorem diodeRead_spec (l : List Int) (up : s.boot.hubUp = true) :
    let diffs := (List.range 8).map fun k => ((l.getD k 0 : Int) : Rat) / 16 - s.temp (diodeNode k)
    let far (x : Rat) : Prop := ∃ v ∈ diffs, x < v ∨ v < -x
    Done (.diodeRead l) s fun t => t.drover.diodes = l ∧ t.drover.temps = s.drover.temps
      ∧ ((∀ k, k < 8 → l.getD k 0 < 1920) → t.drover.shutDue = s.drover.shutDue)
      ∧ (s.boot.booted = true → s.drover.latch = false → s.drover.shutDue = none → ∀ k, k < 8 → 1920 ≤ l.getD k 0 →
          (∀ j, j < k → l.getD j 0 < 1920) → ∃ r, t.drover.shutDue = some r ∧ r.cause = 2 ∧ r.node = k ∧ r.epoch = s.epoch
            ∧ r.test = 0 ∧ r.dmax = t.hottest)
      ∧ (¬ far 5 → t.drover.anchor = s.drover.anchor ∧ t.drover.diff5 = 0)
      ∧ (far 5 → s.drover.diff5 = 2 → t.drover.anchor = s.drover.anchor + ratSum diffs / 8 ∧ ∃ v ∈ t.events, v.code = 0x4005)
      ∧ (far 5 → s.drover.diff5 < 2 → t.drover.anchor = s.drover.anchor ∧ t.drover.diff5 = s.drover.diff5 + 1)
      ∧ (far 15 → s.drover.diff15 = 2 → t.drover.modelFailed = true ∧ ∃ v ∈ t.events, v.code = 0x4006)
      ∧ (¬ far 15 → t.drover.modelFailed = s.drover.modelFailed ∧ t.drover.diff15 = 0) := by
  obtain ⟨a, run⟩ := exec_diodeRead_eq l up
  obtain ⟨model, diodes, cool, hot⟩ := callDiode_spec (s := s) l a
  generalize ((s.setDiodes l).withAlert a).callDiode l = v at *
  obtain ⟨temps, anchor, diff5, diff15, failed⟩ : v.drover.temps = s.drover.temps ∧ v.drover.anchor = s.drover.anchor
      ∧ v.drover.diff5 = s.drover.diff5 ∧ v.drover.diff15 = s.drover.diff15 ∧ v.drover.modelFailed = s.drover.modelFailed := by
    simpa [Drover.model] using model
  have gaps : v.diodeGaps l = s.diodeGaps l := diodeGaps_congr temps l
  have concludes := compareDiodes_concludes (s := v) l
  rw [gaps, anchor, diff5, diff15, failed] at concludes
  have drover := drover_compareDiodes (s := v) l
  have same : (v.compareDiodes l).drover.diodes = v.drover.diodes := by rw [drover]
  have due : (v.compareDiodes l).drover.shutDue = v.drover.shutDue := by rw [drover]
  have hottest : (v.compareDiodes l).hottest = v.hottest := hottest_congr same
  refine ⟨_, run, same.trans diodes, (by rw [drover]; exact temps), ?_, ?_, concludes⟩
  · rw [due]
    exact cool
  · rw [due, hottest]
    exact hot

/-! ## THERMAL_SHUTDOWN (R170) -/

/-- The state of the keeper that goes on as the rails go down. -/
structure State.Wiped (s t : State) : Prop where
  parts : t.pens = [] ∧ t.tiles = [] ∧ t.lasers = []
  events : t.events = s.events
  rein : t.drover.rein = false
  latch : t.drover.latch = s.drover.latch
  records : t.drover.records = s.drover.records
  hub : t.boot.hubUp = false ∧ t.boot.v5On = false
  input : t.boot.inputOk = s.boot.inputOk

theorem wiped_wipe : s.Wiped s.wipe := ⟨⟨rfl, rfl, rfl⟩, rfl, rfl, rfl, rfl, ⟨rfl, rfl⟩, rfl⟩

theorem State.Wiped.of_reinDown (h : s.reinDown.saveLog.Wiped t) : s.Wiped t := by
  obtain ⟨parts, events, rein, latch, records, hub, input⟩ := h
  have events' : s.reinDown.events = s.events :=
    reinDown_keeps State.events (fun _ _ _ _ => rfl) (fun _ _ => rfl) fun _ => rfl
  have boot : s.reinDown.boot = s.boot := reinDown_keeps State.boot (fun _ _ _ _ => rfl) (fun _ _ => rfl) fun _ => rfl
  refine ⟨parts, events.trans events', rein, latch.trans ?_, records.trans ?_, hub, input.trans ?_⟩
  · exact drover_reinDown Drover.latch fun _ _ => rfl
  · exact drover_reinDown Drover.records fun _ _ => rfl
  · exact congrArg BootSt.inputOk boot

theorem wiped_setKeeper (h : s.Wiped t) (k : Nat) : s.Wiped (t.setKeeper k) := 
  ⟨h.parts, h.events, h.rein, h.latch, h.records, h.hub, h.input⟩
theorem wiped_toStage (h : s.Wiped t) (n : Nat) : s.Wiped (t.toStage n) := 
  ⟨h.parts, h.events, h.rein, h.latch, h.records, h.hub, h.input⟩

/-- The rails are down, and the keeper reports its state. -/
theorem powerDown_spec (k : Nat) : s.Wiped (s.powerDown k) ∧ (s.powerDown k).num 0x0F00 0 = k := by
  refine ⟨(wiped_toStage (wiped_setKeeper wiped_wipe k) 0).of_reinDown, ?_⟩
  have keeper (v : State) : (v.setKeeper k).num 0x0F00 0 = k := State.num_setNum_same ..
  rw [State.powerDown, num_toStage (by decide) (by decide), keeper]

theorem thermalShutdown_idle (none : s.drover.shutDue = none) : exec .thermalShutdown s = .next s := by
  rw [exec_thermalShutdown, execThermalShutdown, none]

/-- The drover with the latch set. -/
def State.latched (s : State) : State := s.withDrover { s.drover with latch := true, shutDue := none }

theorem num_latched (i j : Nat) : s.latched.num i j = s.num i j := rfl
theorem shutDown_latch (r : ShutdownRecord) : (s.shutDown r).drover.latch = s.drover.latch := rfl
theorem shutDown_records (r : ShutdownRecord) : (s.shutDown r).drover.records
    = ({ r with seq := s.drover.nextRecord } :: s.drover.records).take 4096 := rfl

theorem shutDown_event (r : ShutdownRecord) : ∃ v ∈ (s.shutDown r).events, v.code = 0x4007 ∧ v.detail = r.cause :=
  ⟨_, List.mem_cons_self, rfl, rfl⟩

theorem thermalShutdown_spec (r : ShutdownRecord) (due : s.drover.shutDue = some r) : Done .thermalShutdown s fun t =>
    t.drover.latch = true ∧ t.drover.shutDue = none ∧ t.boot.hubUp = false ∧ t.boot.v5On = false ∧ t.num 0x0F00 0 = 4
    ∧ t.pens = [] ∧ t.tiles = [] ∧ t.lasers = [] ∧ t.drover.rein = false
    ∧ t.drover.records = ({ r with seq := s.drover.nextRecord } :: s.drover.records).take 4096
    ∧ ∃ v ∈ t.events, v.code = 0x4007 ∧ v.detail = r.cause := by
  have run : exec .thermalShutdown s = .next ((s.shutDown r).powerDown 4).latched := by
    rw [exec_thermalShutdown, execThermalShutdown, due]
    rfl
  obtain ⟨⟨⟨pens, tiles, lasers⟩, events, rein, -, records, ⟨hub, v5⟩, -⟩, keeper⟩ := powerDown_spec (s := s.shutDown r) 4
  refine ⟨_, run, rfl, rfl, hub, v5, (num_latched ..).trans keeper, pens, tiles, lasers, rein, records.trans ?_, ?_⟩
  · exact shutDown_records r
  · obtain ⟨v, logged, what⟩ := shutDown_event (s := s) r
    exact ⟨v, events ▸ logged, what⟩

/-! ## THERMAL_REENABLE (R171) -/

/-- Bring-up is to run from stage 1. -/
theorem resetModule_spec (cause : Nat) : (s.resetModule cause).stage = 1 ∧ (s.resetModule cause).num 0x100A 0 = cause
    ∧ (s.resetModule cause).boot.booted = false ∧ (s.resetModule cause).boot.inputOk = s.boot.inputOk
    ∧ (s.resetModule cause).drover.latch = s.drover.latch ∧ (s.resetModule cause).pens = [] := by
  have wiped := (wiped_wipe (s := s.reinDown.saveLog)).of_reinDown
  unfold State.resetModule
  generalize s.reinDown.saveLog.wipe = v at wiped
  unfold State.restartKeeper
  refine ⟨?_, State.num_setNum_same .., rfl, wiped.input, wiped.latch, wiped.parts.1⟩
  rw [State.stage, num_setNum_of_ne (by decide), State.num_setNum_same]

theorem exec_thermalReenable_eq {slot : Nat} (accepts : Accepts s slot opCommand 0x0F20 0) (up : s.num 0x0F00 0 ≠ 0) :
    exec (.thermalReenable slot) s = .next (
      if ∃ v ∈ s.drover.diodes, ((16 * s.gov 0x0F23 0 : Nat) : Int) ≤ v then s.answer slot opCommand 0x0F20 0 0x40000010
      else if s.drover.latch = false then s.answer slot opCommand 0x0F20 0 0
      else (((s.keeperDone 0x0F20).withDrover { (s.keeperDone 0x0F20).drover with latch := false }).resetModule 5).answer
        slot opCommand 0x0F20 0 0) := by
  have hot : (s.drover.diodes.any fun d => decide (d ≥ 16 * (s.gov 0x0F23 0 : Int))) = true
      ↔ ∃ v ∈ s.drover.diodes, ((16 * s.gov 0x0F23 0 : Nat) : Int) ≤ v := by simp
  rw [exec_thermalReenable, execThermalReenable, State.keeperCommand, accepts.command, State.keeperState, if_neg up]
  by_cases high : ∃ v ∈ s.drover.diodes, ((16 * s.gov 0x0F23 0 : Nat) : Int) ≤ v
  · rw [if_pos high, if_pos (hot.mpr high)]
  · rw [if_neg high, if_neg fun h => high (hot.mp h)]
    cases latch : s.drover.latch with
    | false => rfl
    | true => rfl

theorem thermalReenable_spec (slot : Nat) (accepts : Accepts s slot opCommand 0x0F20 0) (up : s.num 0x0F00 0 ≠ 0) :
    ((∃ v ∈ s.drover.diodes, (16 * s.gov 0x0F23 0 : Nat) ≤ v) →
      Answers (.thermalReenable slot) s slot opCommand 0x0F20 0 0x40000010 fun u => u = s)
    ∧ (s.drover.latch = false → (∀ v ∈ s.drover.diodes, v < (16 * s.gov 0x0F23 0 : Nat)) →
      Answers (.thermalReenable slot) s slot opCommand 0x0F20 0 0 fun u => u = s)
    ∧ (s.drover.latch = true → (∀ v ∈ s.drover.diodes, v < (16 * s.gov 0x0F23 0 : Nat)) →
      Answers (.thermalReenable slot) s slot opCommand 0x0F20 0 0 fun u =>
        u.drover.latch = false ∧ u.stage = 1 ∧ u.num 0x100A 0 = 5 ∧ u.boot.booted = false) := by
  have run := exec_thermalReenable_eq accepts up
  have none (cool : ∀ v ∈ s.drover.diodes, v < (16 * s.gov 0x0F23 0 : Nat)) :
      ¬ ∃ v ∈ s.drover.diodes, ((16 * s.gov 0x0F23 0 : Nat) : Int) ≤ v := fun ⟨v, hv, hot⟩ => not_le.mpr (cool v hv) hot
  refine ⟨fun hot => ⟨s, run.trans (congrArg _ (if_pos hot)), rfl⟩, fun latch cool => ⟨s, ?_, rfl⟩, fun latch cool => ?_⟩
  · rw [run, if_neg (none cool), if_pos latch]
  · rw [if_neg (none cool), if_neg (by simp [latch])] at run
    obtain ⟨stage, cause, booted, -, same, -⟩ := resetModule_spec
      (s := (s.keeperDone 0x0F20).withDrover { (s.keeperDone 0x0F20).drover with latch := false }) 5
    exact ⟨_, run, same.trans (congrArg Drover.latch (drover_withDrover _)), stage, cause, booted⟩

/-! ## The input out of range, and its return (R153) -/

theorem inputOutOfRange_spec (high : Bool) (vk : s.boot.vkUp = true) (input : s.boot.inputOk = true)
    (booted : s.boot.booted = true) : Done (.inputOutOfRange high) s fun t =>
      t.boot.inputOk = false ∧ t.boot.hubUp = false ∧ t.drover.latch = s.drover.latch ∧ t.pens = []
      ∧ ∃ r, t.drover.records = (r :: s.drover.records).take 4096 ∧ r.cause = (if high then 4 else 3) ∧ r.node = 0xFFFF := by
  let r := s.shutdownRecord (if high then 4 else 3) 0xFFFF
  let u := (s.shutDown r).powerDown (if (s.shutDown r).drover.latch then 4 else 3)
  have run : exec (.inputOutOfRange high) s = .next { u with boot := { u.boot with inputOk := false } } := by
    rw [exec_inputOutOfRange, execInputOutOfRange, if_neg (by simp [vk, input]), if_pos booted]
    rfl
  obtain ⟨⟨⟨pens, -, -⟩, -, -, latch, records, ⟨hub, -⟩, -⟩, -⟩ :=
    powerDown_spec (s := s.shutDown r) (if (s.shutDown r).drover.latch then 4 else 3)
  exact ⟨_, run, rfl, hub, latch.trans (shutDown_latch r), pens, _, records.trans (shutDown_records r), rfl, rfl⟩

theorem inputReturn_spec (out : s.boot.inputOk = false) (vk : s.boot.vkUp = true) (latch : s.drover.latch = false)
    (on : s.boot.poweredOff = false) : Done .inputReturn s fun t =>
      t.boot.inputOk = true ∧ t.stage = 1 ∧ t.num 0x100A 0 = 4 ∧ t.pens = [] := by
  let u : State := { s with boot := { s.boot with inputOk := true } }
  have run : exec .inputReturn s = .next (u.resetModule 4) := by
    have stays : ¬ (u.drover.latch || u.boot.poweredOff) = true := by
      show ¬ (s.drover.latch || s.boot.poweredOff) = true
      simp [latch, on]
    rw [exec_inputReturn, execInputReturn, if_neg (by simp [out, vk])]
    exact congrArg Host.Outcome.next (if_neg stays)
  obtain ⟨stage, cause, -, input, -, pens⟩ := resetModule_spec (s := u) 4
  exact ⟨_, run, input, stage, cause, pens⟩

/-- Settles O33, command by command. -/
theorem heatAndInputShutDown : Obligations.HeatAndInputShutDown := by
  unfold Obligations.HeatAndInputShutDown
  exact fun s => ⟨thermalUpdate_spec fun i => (nodePower_eq s.railMean i).symm, diodeRead_spec, thermalShutdown_idle,
    thermalShutdown_spec, thermalReenable_spec, inputOutOfRange_spec, inputReturn_spec⟩

end Sys2Proof.Machine
end

section
/-! SUPPORT. Rings, lasers, calibration steps and lane moves: what work on lanes, moves and calibration steps leaves alone,
what each command establishes, and from that statement O34; and the state that refutes statement O35. -/

namespace Sys2Proof.Machine

variable {s t u : State}

/-! ## What work on the lanes of a fiber leaves alone -/

section
variable {β : Type} {g : State → β} {f : Nat}

/-- What work on the lanes of fiber f leaves alone: whatever the lanes, this fiber, its notices, the PRBS tests, the
objects that count on lanes and links and the requests to the OEs do not show. -/
structure LaneWork (f : Nat) (g : State → β) : Prop extends Unsent g where
  rx : ∀ (u : State) (line : Nat) (h : LaneSt → LaneSt), g (u.modRxLane f line h) = g u
  tx : ∀ (u : State) (line : Nat) (h : LaneSt → LaneSt), g (u.modTxLane f line h) = g u
  fiber : ∀ (u : State) (h : FiberSt → FiberSt), g (u.modFiber f h) = g u
  test : ∀ (u : State) (x : TestSt), g { u with test := x } = g u
  num : ∀ (u : State) (i j n : Nat), 0x5015 ≤ i → g (u.setNum i j n) = g u
  write : ∀ (u : State) (n : Nat), g (u.writeOe n) = g u

/-- Whatever the objects that count on lanes and links do not show, a counter among them does not change. -/
theorem count_of_num (num : ∀ (u : State) (i j n : Nat), 0x5015 ≤ i → g (u.setNum i j n) = g u) {i : Nat} (hi : 0x5015 ≤ i)
    (j n : Nat) : g (s.count i j n) = g s := by
  obtain ⟨v, eq | eq⟩ := count_eq (s := s) i j n <;> rw [eq]
  exact num s i j v hi

namespace LaneWork

theorem count (k : LaneWork f g) {i : Nat} (hi : 0x5015 ≤ i) (j n : Nat) : g (s.count i j n) = g s :=
  count_of_num k.num hi j n

theorem rxTo (k : LaneWork f g) (line st : Nat) : g (s.rxTo f line st) = g s := by
  unfold State.rxTo; exact k.rx _ _ _
theorem txTo (k : LaneWork f g) (line st : Nat) : g (s.txTo f line st) = g s := k.tx s line _
theorem rxRest (k : LaneWork f g) (line : Nat) : g (s.rxRest f line) = g s := k.rxTo line _
theorem txRest (k : LaneWork f g) (line : Nat) : g (s.txRest f line) = g s := k.txTo line _
theorem txCarry (k : LaneWork f g) (line st lane : Nat) : g (s.txCarry f line st lane) = g s := k.tx s line _

theorem rxHunt (k : LaneWork f g) (line : Nat) : g (s.rxHunt f line) = g s := by
  unfold State.rxHunt; split
  · exact k.rxTo line 1
  · rfl

theorem noteLock (k : LaneWork f g) : g (s.noteLock f) = g s := by
  unfold State.noteLock
  dsimp only
  rw [k.fiber]
  split
  · exact k.count (by decide) _ _
  · rfl

theorem notice (k : LaneWork f g) (type tok lane src dst reason seq : Nat) :
    g (s.notice f type tok lane src dst reason seq) = g s := k.enqueue f _

theorem token (k : LaneWork f g) : g (s.token f).2 = g s := 
  k.fiber s fun x => { x with nextToken := (x.nextToken + 1) % 65536 }

theorem prbsUnlock (k : LaneWork f g) (drop : Nat) : g (s.prbsUnlock drop) = g s := by
  unfold State.prbsUnlock; split
  · rfl
  · exact (k.test _ _).trans ((k.num _ _ _ _ (by decide)).trans ((k.count (by decide) _ _).trans (k.count (by decide) _ _)))

theorem endTest (k : LaneWork f g) (rx : Bool) (line : Nat) : g (s.endTest rx f line) = g s := by
  have unlock : g (if rx && s.test.checker == some (f, line) then s.prbsUnlock 0 else s) = g s := by
    split
    · exact k.prbsUnlock 0
    · rfl
  unfold State.endTest; split
  · cases rx
    · exact (k.txRest line).trans ((k.test _ _).trans unlock)
    · exact (k.rxRest line).trans ((k.test _ _).trans unlock)
  · rfl

theorem stopTest (k : LaneWork f g) (rx : Bool) (line : Nat) : g (s.stopTest rx f line) = g s := by
  unfold State.stopTest; split
  · exact (k.endTest rx line).trans (k.log s _ _ _)
  · rfl

theorem stopTests (k : LaneWork f g) (rx : Bool) (l : List Nat) : g (s.stopTests rx f l) = g s :=
  forEach_keeps g fun line _ _ => k.stopTest rx line

theorem restLanes (k : LaneWork f g) : g (s.restLanes f) = g s := by
  unfold State.restLanes
  rw [k.noteLock]
  refine upTo_keeps g fun line _ u => ?_
  have sender : g (if u.test.on false f line then u else u.txRest f line) = g u := by
    split
    · rfl
    · exact k.txRest line
  dsimp only
  generalize (if u.test.on false f line then u else u.txRest f line) = v at sender ⊢
  split
  · exact sender
  · exact (k.rxRest line).trans sender

theorem emptyQueues (k : LaneWork f g) : g (s.emptyQueues f) = g s := by
  unfold State.emptyQueues
  exact (k.link _ f _).trans ((k.lose f _).trans (forEach_keeps g fun _ _ _ => k.freePool _ _))

theorem loseLogged (k : LaneWork f g) (n : Nat) : g (s.loseLogged f n) = g s := by
  unfold State.loseLogged; split
  · rfl
  · exact (k.log _ _ _ _).trans (k.lose f n)

theorem dropPool (k : LaneWork f g) : g (s.dropPool f) = g s := upTo_keeps g fun e _ u => by
  dsimp only
  split
  · rfl
  · exact k.link u e _

theorem retireLink (k : LaneWork f g) : g (s.retireLink f) = g s := by
  unfold State.retireLink; split
  · rfl
  · exact k.restLanes.trans ((k.fiber _ _).trans ((k.link _ f _).trans ((k.num _ _ _ _ (by decide)).trans
      (k.dropPool.trans ((k.loseLogged _).trans (k.emptyQueues.trans (k.log s _ _ _)))))))

theorem retireDirection (k : LaneWork f g) (rx : Bool) : g (s.retireDirection f rx) = g s :=
  k.retireLink.trans ((k.fiber _ _).trans (k.log s _ _ _))

theorem dropExchange (k : LaneWork f g) : g (s.dropExchange f) = g s := by
  unfold State.dropExchange; split
  · rfl
  · refine (k.fiber _ _).trans ?_
    split
    · exact (k.write _ _).trans (k.txRest _)
    · rfl

theorem startMove (k : LaneWork f g) (lane dst reason : Nat) : g (s.startMove f lane dst reason) = g s :=
  (k.notice _ _ _ _ _ _ _).trans ((k.fiber _ _).trans ((k.write _ _).trans ((k.txCarry _ _ _).trans
    ((k.stopTests false _).trans k.token))))

theorem waitMove (k : LaneWork f g) (lane reason line : Nat) (front : Bool) :
    g (s.waitMove f lane reason line front) = g s := k.fiber s _

theorem thinOut (k : LaneWork f g) (lane reason : Nat) : g (s.thinOut f lane reason) = g s := by
  unfold State.thinOut
  dsimp only
  split
  · exact k.retireDirection false
  · exact (k.fiber _ _).trans ((k.notice _ _ _ _ _ _ _).trans (k.token.trans ((k.stopTests false _).trans (k.log s _ _ _))))

theorem leaveLine (k : LaneWork f g) (lane reason : Nat) : g (s.leaveLine f lane reason) = g s := by
  unfold State.leaveLine
  dsimp only
  split
  · rfl
  split
  · rfl
  split
  · exact k.waitMove _ _ _ _
  generalize s.fiber f = x
  have given : g (if x.exchTx.any fun e => e.lane == lane && e.fromLine == lineOf x.txMap lane then
      (s.log 0x5008 srcHub f).dropExchange f else s) = g s := by
    split
    · exact k.dropExchange.trans (k.log s _ _ _)
    · rfl
  generalize (if x.exchTx.any fun e => e.lane == lane && e.fromLine == lineOf x.txMap lane then
      (s.log 0x5008 srcHub f).dropExchange f else s) = v at given ⊢
  rw [← given]
  split
  · exact k.startMove _ _ _
  split
  · exact k.waitMove _ _ _ _
  split
  · exact k.log _ _ _ _
  · exact k.thinOut _ _

theorem startRestore (k : LaneWork f g) (lane line reason : Nat) : g (s.startRestore f lane line reason) = g s := by
  unfold State.startRestore; split
  · rfl
  · exact (k.fiber _ _).trans ((k.notice _ _ _ _ _ _ _).trans ((k.write _ _).trans ((k.txCarry _ _ _).trans
      ((k.stopTests false _).trans k.token))))

theorem ask (k : LaneWork f g) (lane src dst reason : Nat) : g (s.ask f lane src dst reason) = g s := by
  unfold State.ask
  exact (k.fiber _ _).trans ((k.notice _ _ _ _ _ _ _).trans (k.token.trans (k.stopTests true _)))

theorem askBack (k : LaneWork f g) (i line : Nat) : g (s.askBack f i line) = g s :=
  (k.fiber _ _).trans (k.ask _ _ _ _)

theorem forgetAway (k : LaneWork f g) (rx : Bool) (line : Nat) : g (s.forgetAway rx f line) = g s := by
  unfold State.forgetAway
  dsimp only
  generalize (if rx then (s.fiber f).rxAway else (s.fiber f).away) = away
  split
  · exact (k.fiber _ _).trans (k.log s _ _ _)
  · rfl

theorem serveAsk (k : LaneWork f g) (n : Notice) : g (s.serveAsk f n) = g s := by
  unfold State.serveAsk; split
  · exact k.startMove _ _ _
  split
  · exact k.thinOut _ _
  · exact k.notice _ _ _ _ _ _ _

end LaneWork
end

/-! ## What the moves of a calibration step leave alone (R191) -/

/-- What a step keeps from its start to its end of steering out: line, phase, start and whether it has a laser. -/
def CalStep.core (c : CalStep) : Nat × Nat × Nat × Bool := (c.line, c.phase, c.began, c.noLaser)

section
variable {β : Type} {g : State → β} {f n : Nat}

/-- What the moves of fiber f leave alone: what its lane work does, and what the notes of its OE's step do not show. -/
structure MoveWork (f : Nat) (g : State → β) : Prop extends LaneWork f g where
  notes : ∀ (u : State) (h : CalStep → CalStep), (∀ c, (h c).core = c.core) → g (u.modCal (f / 8) h) = g u

/-- In a calibration window no step waits for one. -/
theorem LaneWork.calOut (k : LaneWork f g) (window : s.inWindow = true) (lane : Nat) : g (s.calOut f lane) = g s := by
  unfold State.calOut
  dsimp only
  split
  · exact k.waitMove _ _ _ _
  split
  · exact k.startMove _ _ _
  · exact k.thinOut _ _

namespace MoveWork

theorem calOut (k : MoveWork f g) (lane : Nat) : g (s.calOut f lane) = g s := by
  unfold State.calOut
  dsimp only
  split
  · exact k.waitMove _ _ _ _
  split
  · exact k.startMove _ _ _
  split
  · exact k.thinOut _ _
  · exact (k.notes _ (fun c => { c with waitingWindow := true }) fun _ => rfl).trans (k.log s _ _ _)

theorem skipRing (k : MoveWork f g) (rx : Bool) (e : Nat) : g (s.skipRing (f / 8) rx e) = g s := k.notes s _ fun _ => rfl

theorem skipLogged (k : MoveWork f g) (line : Nat) (rx : Bool) (e : Nat) :
    g ((s.calEvent (f / 8) line 1).skipRing (f / 8) rx e) = g s := (k.skipRing rx e).trans (k.log s _ _ _)

theorem steerOutTx (k : MoveWork f g) (line : Nat) (noLaser : Bool) : g (s.steerOutTx (f / 8) line noLaser f) = g s := by
  unfold State.steerOutTx
  dsimp only
  split
  · exact k.skipRing false f
  split
  · exact k.skipLogged line false f
  split
  · rfl
  split
  · exact k.skipLogged line false f
  split
  · rfl
  · exact k.calOut _

theorem steerOutRx (k : MoveWork f g) (line : Nat) : g (s.steerOutRx (f / 8) line f) = g s := by
  unfold State.steerOutRx
  dsimp only
  split
  · exact k.skipRing true f
  split
  · exact k.skipLogged line true f
  split
  · rfl
  split
  · exact k.skipLogged line true f
  · exact (k.notes _ (fun c => { c with asked := c.asked ++ [f] }) fun _ => rfl).trans (k.ask _ _ _ _)

theorem oneMove (k : MoveWork f g) : g (s.oneMove f) = g s := by
  unfold State.oneMove
  split
  · rfl
  next lane reason line rest moves =>
    dsimp only
    split
    · rfl
    split
    · exact k.fiber s _
    split
    · exact (k.serveAsk _).trans (k.fiber s _)
    split
    · split
      · exact (k.startMove _ _ _).trans (k.fiber s _)
      · exact k.fiber s _
    split
    · exact (k.calOut _).trans (k.fiber s _)
    · exact (k.leaveLine _ _).trans (k.fiber s _)

theorem nextMove (k : MoveWork f g) : g (s.nextMove f) = g s := forEach_keeps g fun _ _ _ => k.oneMove

end MoveWork

/-- The OE of a fiber. -/
theorem oe_of_mem (h : f ∈ oeFibers n) : f / 8 = n := by
  obtain ⟨i, hi, rfl⟩ := List.mem_map.mp h
  have := List.mem_range.mp hi
  omega

/-- What the start of a ring that is not RETIRED does not show (R191 step 3). -/
def StartFree (g : State → β) : Prop :=
  ∀ (u : State) (j : Nat), (u.ring j).state ≠ 6 → g (u.modRing j fun x => { x with state := 1, heat := 0 }) = g u

/-- What the work of a calibration step of OE n leaves alone: what lane work on every fiber does, and what OE n does not
show. -/
structure StepWork (n : Nat) (g : State → β) : Prop where
  lanes : ∀ f, LaneWork f g
  oe : ∀ (u : State) (h : OeSt → OeSt), g (u.modOe n h) = g u

namespace StepWork

theorem moves (k : StepWork n g) (h : f ∈ oeFibers n) : MoveWork f g :=
  { k.lanes f with notes := fun u c _ => by rw [oe_of_mem h]; exact k.oe u _ }

theorem modCal (k : StepWork n g) (h : CalStep → CalStep) : g (s.modCal n h) = g s := k.oe s _

theorem steerBack (k : StepWork n g) (c : CalStep) : g (s.steerBack n c) = g s := by
  unfold State.steerBack
  dsimp only
  refine (forEach_keeps g fun m _ u => ?_).trans ((forEach_keeps g fun m _ u => ?_).trans
    ((forEach_keeps g fun m _ u => ?_).trans (k.modCal _)))
  · split
    · exact (k.lanes _).ask _ _ _ _
    · exact k.modCal _
  · split
    · exact (k.lanes _).startRestore _ _ _
    · exact k.modCal _
  · split
    · split
      · exact (k.lanes _).waitMove _ _ _ _
      · exact (k.lanes _).startMove _ _ _
    · exact (k.modCal _).trans ((k.lanes 0).log u _ _ _)

theorem calRingsDone (k : StepWork n g) : g (s.calRingsDone n) = g s := by
  unfold State.calRingsDone
  split
  · rfl
  split
  · exact k.steerBack _
  · rfl

theorem calBackDone (k : StepWork n g) : g (s.calBackDone n) = g s := by
  unfold State.calBackDone
  split
  · rfl
  split
  · exact (forEach_keeps g fun f hf _ => (k.moves hf).nextMove).trans ((k.oe _ _).trans ((k.lanes 0).log s _ _ _))
  · rfl

theorem acquireRings (k : StepWork n g)
    (ring : StartFree g)
    (c : CalStep) : g (s.acquireRings n c) = g s := by
  refine ((k.lanes 0).write _ _).trans ((forEach_keeps g fun r _ u => ?_).trans (k.modCal _))
  dsimp only
  split
  · rfl
  next lit =>
    split
    · exact (k.lanes r.2).noteLock.trans (((k.lanes r.2).rxTo _ _).trans (ring u _ lit))
    · exact ((k.lanes r.2).txTo _ _).trans (ring u _ lit)

theorem calOutDone (k : StepWork n g)
    (ring : StartFree g) :
    g (s.calOutDone n) = g s := by
  unfold State.calOutDone
  split
  · rfl
  split
  · split
    · exact k.acquireRings ring _
    · exact ((k.lanes 0).write _ _).trans (k.modCal _)
  · rfl

theorem calAdvance (k : StepWork n g)
    (ring : StartFree g) :
    g (s.calAdvance n) = g s :=
  k.calBackDone.trans (k.calRingsDone.trans (k.calOutDone ring))

end StepWork
end

/-! ## The parts that lane work leaves alone -/

section
variable {β γ : Type} {g : State → β} {f n m : Nat}

theorem writeOe_keeps (g : State → β)
    (oe : ∀ (u : State) (l : List (Nat × Nat × Nat)), g (u.modOe n fun o => { o with requests := o.requests ++ l }) = g u)
    (send : ∀ (u : State) (o : Out), g (u.send o) = g u) : g (s.writeOe n) = g s := by
  unfold State.writeOe; split
  · exact (send _ _).trans (oe s _)
  · rfl

theorem writeOe_rest : { s.writeOe n with oes := s.oes, sent := s.sent } = s := by
  unfold State.writeOe; split <;> rfl

theorem LaneWork.map (k : LaneWork f g) (p : β → γ) : LaneWork f fun u => p (g u) where
  link u e h := congrArg p (k.link u e h)
  lost u e n := congrArg p (k.lost u e n)
  log u c a d := congrArg p (k.log u c a d)
  rx u line h := congrArg p (k.rx u line h)
  tx u line h := congrArg p (k.tx u line h)
  fiber u h := congrArg p (k.fiber u h)
  test u x := congrArg p (k.test u x)
  num u i j n hi := congrArg p (k.num u i j n hi)
  write u n := congrArg p (k.write u n)

theorem LaneWork.pair {h : State → γ} (k : LaneWork f g) (l : LaneWork f h) : LaneWork f fun u => (g u, h u) where
  link u e x := congrArg₂ Prod.mk (k.link u e x) (l.link u e x)
  lost u e n := congrArg₂ Prod.mk (k.lost u e n) (l.lost u e n)
  log u c a d := congrArg₂ Prod.mk (k.log u c a d) (l.log u c a d)
  rx u line x := congrArg₂ Prod.mk (k.rx u line x) (l.rx u line x)
  tx u line x := congrArg₂ Prod.mk (k.tx u line x) (l.tx u line x)
  fiber u x := congrArg₂ Prod.mk (k.fiber u x) (l.fiber u x)
  test u x := congrArg₂ Prod.mk (k.test u x) (l.test u x)
  num u i j n hi := congrArg₂ Prod.mk (k.num u i j n hi) (l.num u i j n hi)
  write u n := congrArg₂ Prod.mk (k.write u n) (l.write u n)

/-- The rings, the lasers, the keeper's memory, and whether the tread lies in a calibration window. -/
def State.bench (s : State) : Tab RingSt × Tab LaserSt × NvSt × Bool := (s.rings, s.lasers, s.nv, s.inWindow)

theorem rings_of_bench (h : t.bench = s.bench) : t.rings = s.rings := congrArg (·.1) h
theorem lasers_of_bench (h : t.bench = s.bench) : t.lasers = s.lasers := congrArg (·.2.1) h
theorem nv_of_bench (h : t.bench = s.bench) : t.nv = s.nv := congrArg (·.2.2.1) h

/-- An OE but for its requests. -/
def State.engine (n : Nat) (s : State) : OeSt := { s.oe n with requests := [] }

theorem gov_setNum {i j k l v : Nat} (other : objKey k l ≠ objKey i j) : (s.setNum i j v).gov k l = s.gov k l := by
  unfold State.gov
  rw [State.num_setNum, if_neg other]
  rfl

theorem inWindow_setNum {i : Nat} (hi : 0x5015 ≤ i) (j v : Nat) : (s.setNum i j v).inWindow = s.inWindow := by
  have other {k : Nat} (hk : k ≤ 0x5003) : objKey k 0 ≠ objKey i j := by unfold objKey; omega
  unfold State.inWindow State.epoch
  rw [State.num_setNum, if_neg (other (by decide)), gov_setNum (other (by decide)), gov_setNum (other (by decide))]
  rfl

theorem bench_setNum {i : Nat} (hi : 0x5015 ≤ i) (j v : Nat) : (s.setNum i j v).bench = s.bench :=
  congrArg (fun w => (s.rings, s.lasers, s.nv, w)) (inWindow_setNum hi j v)

theorem laneWork_bench (f : Nat) : LaneWork f State.bench where
  link _ _ _ := rfl
  lost _ _ _ := count_of_num (fun _ _ _ _ hi => bench_setNum hi _ _) (by decide) _ _
  log _ _ _ _ := rfl
  rx _ _ _ := rfl
  tx _ _ _ := rfl
  fiber _ _ := rfl
  test _ _ := rfl
  num _ _ _ _ hi := bench_setNum hi _ _
  write _ _ := writeOe_keeps State.bench (fun _ _ => rfl) fun _ _ => rfl

theorem engine_modOe (h : OeSt → OeSt) : (s.modOe m h).engine n =
    if n = m then { h (s.oe m) with requests := [] } else s.engine n := by
  unfold State.engine
  rw [State.oe_modOe]
  split <;> rfl

theorem laneWork_engine (f n : Nat) : LaneWork f (State.engine n) where
  link _ _ _ := rfl
  lost _ _ _ := count_of_num (g := State.engine n) (fun _ _ _ _ _ => rfl) (by decide) _ _
  log _ _ _ _ := rfl
  rx _ _ _ := rfl
  tx _ _ _ := rfl
  fiber _ _ := rfl
  test _ _ := rfl
  num _ _ _ _ _ := rfl
  write _ m := writeOe_keeps (State.engine n) (fun _ _ => by
    rw [engine_modOe]
    split
    next same => subst same; rfl
    · rfl) fun _ _ => rfl

theorem laneWork_fiber {e : Nat} (other : e ≠ f) : LaneWork f fun u => u.fiber e where
  link _ _ _ := rfl
  lost _ _ _ := count_of_num (g := fun u => u.fiber e) (fun _ _ _ _ _ => rfl) (by decide) _ _
  log _ _ _ _ := rfl
  rx _ _ _ := rfl
  tx _ _ _ := rfl
  fiber _ _ := (State.fiber_modFiber _ _ _ _).trans (if_neg other)
  test _ _ := rfl
  num _ _ _ _ _ := rfl
  write _ m := writeOe_keeps (fun u => u.fiber e) (fun _ _ => rfl) fun _ _ => rfl

theorem moveWork_bench (f : Nat) : MoveWork f State.bench := { laneWork_bench f with notes := fun _ _ _ => rfl }

theorem stepWork_bench (n : Nat) : StepWork n State.bench := ⟨laneWork_bench, fun _ _ => rfl⟩

theorem stepWork_engine (other : m ≠ n) : StepWork n (State.engine m) :=
  ⟨fun f => laneWork_engine f m, fun _ _ => (engine_modOe _).trans (if_neg other)⟩

theorem StepWork.map (k : StepWork n g) (p : β → γ) : StepWork n fun u => p (g u) :=
  ⟨fun f => (k.lanes f).map p, fun u h => congrArg p (k.oe u h)⟩

/-- What steering out leaves alone of an OE: its step but for its notes, and its lists of lines. -/
def State.agenda (n : Nat) (s : State) : Option (Nat × Nat × Nat × Bool) × List Nat × List Nat :=
  ((s.oe n).cal.map CalStep.core, (s.oe n).flagged, (s.oe n).displaced)

theorem moveWork_agenda (f n : Nat) : MoveWork f (State.agenda n) :=
  { (laneWork_engine f n).map fun o : OeSt => (o.cal.map CalStep.core, o.flagged, o.displaced) with
    notes := fun u h core => by
      unfold State.agenda State.modCal
      rw [State.oe_modOe]
      split
      next same =>
        have cal : ((u.oe n).cal.map h).map CalStep.core = (u.oe n).cal.map CalStep.core := by
          rw [Option.map_map]; exact congrArg (Option.map · _) (funext core)
        subst same
        exact congrArg (·, (u.oe (f / 8)).flagged, (u.oe (f / 8)).displaced) cal
      · rfl }

end

/-! ## Ring lock (R179–R183, R198) -/

section
variable {r : Ring} {i : Instr}

/-- Of the rings only ring k changed, and it holds v. -/
def State.RingNow (s : State) (k : Nat) (v : RingSt) (t : State) : Prop :=
  t.ring k = v ∧ ∀ j, j ≠ k → t.ring j = s.ring j

theorem ring_of_rings (h : t.rings = s.rings) (k : Nat) : t.ring k = s.ring k :=
  congrArg (tabGet (fun _ => ({} : RingSt)) · k) h

theorem ringNow_modRing (k : Nat) (h : RingSt → RingSt) : s.RingNow k (h (s.ring k)) (s.modRing k h) :=
  ⟨(State.ring_modRing _ _ _ _).trans (if_pos rfl), fun _ other => (State.ring_modRing _ _ _ _).trans (if_neg other)⟩

theorem State.RingNow.of_rings {k : Nat} {v : RingSt} (h : s.RingNow k v t) (same : u.rings = t.rings) : s.RingNow k v u :=
  ⟨(ring_of_rings same k).trans h.1, fun j other => (ring_of_rings same j).trans (h.2 j other)⟩

/-- A ring changed twice. -/
theorem State.RingNow.trans {k : Nat} {v w : RingSt} (h : s.RingNow k v t) (h' : t.RingNow k w u) : s.RingNow k w u :=
  ⟨h'.1, fun j other => (h'.2 j other).trans (h.2 j other)⟩

/-- A dip is as near to c as another: nearer, or as near and not higher. -/
def AsNear (c : Int) (d e : Nat) : Prop :=
  ((d : Int) - c).natAbs < ((e : Int) - c).natAbs ∨ (((d : Int) - c).natAbs = ((e : Int) - c).natAbs ∧ d ≤ e)

/-- The nearer of the best dip so far and one more. -/
def nearer (c : Int) (b : Option Nat) (d : Nat) : Option Nat :=
  match b with
  | none => some d
  | some e =>
    let x := ((d : Int) - c).natAbs
    let y := ((e : Int) - c).natAbs
    if x < y ∨ (x = y ∧ d < e) then some d else some e

theorem nearest_eq_foldl (l : List Nat) (c : Int) : nearest l c = l.foldl (nearer c) none := rfl

theorem nearer_best {c : Int} {d e : Nat} (h : AsNear c d e) : nearer c (some d) e = some d :=
  if_neg (by unfold AsNear at h; omega)

theorem nearer_takes {c : Int} {d : Nat} {b : Option Nat} (h : ∀ e ∈ b, AsNear c d e) : nearer c b d = some d := by
  cases b with
  | none => rfl
  | some e =>
    have near := h e rfl
    unfold AsNear at near
    show (if _ then some d else some e) = some d
    split
    · rfl
    next far => exact congrArg some (by omega)

theorem nearer_mem {c : Int} {b : Option Nat} {a e : Nat} (h : e ∈ nearer c b a) : e = a ∨ e ∈ b := by
  cases b with
  | none => exact .inl (Option.some.inj h).symm
  | some x =>
    simp only [nearer] at h
    split at h
    · exact .inl (Option.some.inj h).symm
    · exact .inr h

/-- The nearest dip survives the fold, wherever it stands. -/
theorem foldl_nearer {c : Int} {d : Nat} {l : List Nat} {b : Option Nat} (there : b = some d ∨ d ∈ l)
    (best : ∀ e ∈ b, AsNear c d e) (least : ∀ e ∈ l, AsNear c d e) : l.foldl (nearer c) b = some d := by
  induction l generalizing b with
  | nil => exact there.resolve_right List.not_mem_nil
  | cons a l ih =>
    have near := least a List.mem_cons_self
    refine ih ?_ (fun e he => ?_) fun e he => least e (List.mem_cons_of_mem a he)
    · obtain rfl | here := there
      · exact .inl (nearer_best near)
      · obtain rfl | here := List.mem_cons.mp here
        · exact .inl (nearer_takes best)
        · exact .inr here
    · obtain rfl | old := nearer_mem he
      · exact near
      · exact best e old

theorem nearest_eq {l : List Nat} {c : Int} {d : Nat} (mem : d ∈ l) (least : ∀ e ∈ l, AsNear c d e) : nearest l c = some d :=
  (nearest_eq_foldl l c).trans (foldl_nearer (.inr mem) (fun _ h => absurd h (Option.not_mem_none _)) least)

/-- A command is a failure of ring r (R180): FAILS rises and NARROW searches a window, or the ring retires. -/
def RingFails (s : State) (r : Ring) (i : Instr) (tone : Nat) (centre : Int) (width : Nat) : Prop :=
  let x := s.ring (ringKey r)
  (x.fails < 2 → Done i s fun t =>
    s.RingNow (ringKey r) { x with tone := tone, state := 5, fails := x.fails + 1, centre := centre, width := width } t)
  ∧ (2 ≤ x.fails → Done i s fun t => (t.ring (ringKey r)).state = 6 ∧ ringKey r ∈ t.nv.retiredRings)

theorem ringFail_few (few : (s.ring (ringKey r)).fails < 2) (c : Int) (w : Nat) :
    s.ringFail r c w = s.modRing (ringKey r) fun x => { x with state := 5, fails := x.fails + 1, centre := c, width := w } :=
  if_neg (by omega)

/-- Whether a ring is RETIRED, and the keeper's memory. -/
def State.retirement (k : Nat) (s : State) : Bool × NvSt := (decide ((s.ring k).state = 6), s.nv)

theorem stepWork_retirement (n k : Nat) : StepWork n (State.retirement k) :=
  (stepWork_bench n).map fun b => (decide ((tabGet (fun _ => {}) b.1 k : RingSt).state = 6), b.2.2.1)

/-- A calibration step acquires no ring that is RETIRED. -/
theorem retirement_calAdvance (n k : Nat) : (s.calAdvance n).retirement k = s.retirement k :=
  (stepWork_retirement n k).calAdvance fun u j lit => by
    have ring : decide (((u.modRing j fun x => { x with state := 1, heat := 0 }).ring k).state = 6)
        = decide ((u.ring k).state = 6) := by
      rw [State.ring_modRing]
      split
      next same => subst same; exact (decide_eq_false (by decide : ¬ (1 = 6))).trans (decide_eq_false lit).symm
      · rfl
    exact congrArg (·, u.nv) ring

theorem ringFail_third (many : 2 ≤ (s.ring (ringKey r)).fails) (c : Int) (w : Nat) :
    ((s.ringFail r c w).ring (ringKey r)).state = 6 ∧ ringKey r ∈ (s.ringFail r c w).nv.retiredRings := by
  let v := ((s.log 0x5002 (srcOe (r.fiber / 8)) (ringKey r)).recordRing (ringKey r) true).modRing (ringKey r)
    fun x => { x with state := 6, heat := 0 }
  have k := (stepWork_retirement 0 (ringKey r)).lanes r.fiber
  have kept : (s.ringFail r c w).retirement (ringKey r) = v.retirement (ringKey r) := by
    unfold State.ringFail
    dsimp only
    rw [if_pos (show (s.ring (ringKey r)).fails + 1 ≥ 3 by omega), retirement_calAdvance]
    have dark : (if r.rx then (v.rxTo r.fiber r.line 0).noteLock r.fiber else v.txTo r.fiber r.line 0).retirement (ringKey r)
        = v.retirement (ringKey r) := by
      split
      · exact k.noteLock.trans (k.rxTo _ _)
      · exact k.txTo _ _
    refine Eq.trans ?_ ((k.forgetAway r.rx r.line).trans dark)
    split
    · split
      · rfl
      · exact k.leaveLine _ _
    · rfl
  have state : (v.ring (ringKey r)).state = 6 := congrArg RingSt.state (ringNow_modRing _ _).1
  have listed : ringKey r ∈ v.nv.retiredRings := List.mem_append_right _ List.mem_cons_self
  have nv : (s.ringFail r c w).nv = v.nv := congrArg (·.2) kept
  exact ⟨of_decide_eq_true ((congrArg (·.1) kept).trans (decide_eq_true state)), nv ▸ listed⟩

/-- A command that ends in a failure, from a state that differs in the ring's tone at most. -/
theorem RingFails.of_run {tone : Nat} {c : Int} {w : Nat} (run : exec i s = .next (u.ringFail r c w))
    (named : s.RingNow (ringKey r) { s.ring (ringKey r) with tone := tone } u) : RingFails s r i tone c w := by
  have fails : (u.ring (ringKey r)).fails = (s.ring (ringKey r)).fails := by rw [named.1]
  refine ⟨fun few => ⟨_, run, ?_⟩, fun many => ⟨_, run, ringFail_third (fails ▸ many) c w⟩⟩
  rw [ringFail_few (fails ▸ few)]
  have failed := named.trans (ringNow_modRing (s := u) (ringKey r)
    fun x => { x with state := 5, fails := x.fails + 1, centre := c, width := w })
  rwa [named.1] at failed

theorem RingFails.of_plain (run : exec i s = .next (s.ringFailPlain r)) :
    RingFails s r i (s.ring (ringKey r)).tone (s.ring (ringKey r)).expected 300 :=
  .of_run run ⟨rfl, fun _ _ => rfl⟩

/-- A command aims ring r at the dip nearest c (log entry 40). -/
def RingAims (s : State) (r : Ring) (i : Instr) (dips : List Nat) (c : Int) : Prop :=
  ∀ d ∈ dips, (∀ e ∈ dips, AsNear c d e) → Done i s fun t => s.RingNow (ringKey r) { s.ring (ringKey r) with state := 2, aim := d } t
    ∧ { t with rings := s.rings } = s

/-- A command that aims ring r at the nearest of some dips, and fails without one. -/
theorem ringAims_of_run {dips : List Nat} {c : Int} (run : exec i s = (nearest dips c).elim (.next (s.ringFailPlain r)) fun d =>
      .next (s.modRing (ringKey r) fun x => { x with state := 2, aim := d })) :
    RingAims s r i dips c
    ∧ (dips = [] → RingFails s r i (s.ring (ringKey r)).tone (s.ring (ringKey r)).expected 300) := by
  refine ⟨fun d mem least => ?_, fun none => .of_plain (by rw [run, none]; rfl)⟩
  rw [nearest_eq mem least] at run
  exact ⟨_, run, ringNow_modRing (ringKey r) fun x => { x with state := 2, aim := d }, rfl⟩

theorem ringAcquisition_spec (dark : (s.ring (ringKey r)).state = 0 ∨ ((s.ring (ringKey r)).state = 6 ∧ s.ready = false)) :
    Done (.ringAcquisition r) s fun t => s.RingNow (ringKey r) { s.ring (ringKey r) with state := 1, heat := 0 } t
      ∧ { t with rings := s.rings, oes := s.oes, sent := s.sent } = s := by
  have run : exec (.ringAcquisition r) s =
      .next ((s.modRing (ringKey r) fun x => { x with state := 1, heat := 0 }).writeOe (r.fiber / 8)) :=
    if_pos (dark.imp_right fun h => ⟨h.1, by rw [h.2]; rfl⟩)
  refine ⟨_, run, (ringNow_modRing _ _).of_rings (rings_of_bench ((laneWork_bench 0).write _ _)), ?_⟩
  exact congrArg (fun t : State => { t with rings := s.rings }) writeOe_rest

theorem ringSweepComplete_spec (swept : (s.ring (ringKey r)).state = 1) (dips : List Nat) :
    let good := dips.filter fun (d : Nat) => decide (800 ≤ d ∧ d < 800 + (s.ring (ringKey r)).fsr)
    RingAims s r (.ringSweepComplete r dips) good (s.ring (ringKey r)).expected
    ∧ (good = [] → RingFails s r (.ringSweepComplete r dips) (s.ring (ringKey r)).tone (s.ring (ringKey r)).expected 300) := by
  intro good
  have valid : dips.filter (fun (d : Nat) => (s.ring (ringKey r)).valid d) = good :=
    List.filter_congr fun d _ => by simp only [RingSt.valid, ← Bool.decide_and, decide_eq_decide]; omega
  refine ringAims_of_run ?_
  rw [exec_ringSweepComplete, execRingSweepComplete, if_neg (not_not_intro swept), valid]
  cases nearest good (s.ring (ringKey r)).expected <;> rfl

theorem ringAcquireComplete_spec (acquired : (s.ring (ringKey r)).state = 2) :
    (∀ h, Done (.ringAcquireComplete r (some h)) s fun t =>
      s.RingNow (ringKey r) { s.ring (ringKey r) with state := 3, heat := h } t ∧ { t with rings := s.rings } = s)
    ∧ RingFails s r (.ringAcquireComplete r none) (s.ring (ringKey r)).tone (s.ring (ringKey r)).expected 300 := by
  have run (c : Option Nat) : exec (.ringAcquireComplete r c) s = match c with
      | some h => .next (s.modRing (ringKey r) fun x => { x with state := 3, heat := h })
      | none => .next (s.ringFailPlain r) := if_neg (not_not_intro acquired)
  exact ⟨fun h => ⟨_, run (some h), ringNow_modRing _ _, rfl⟩, .of_plain (run none)⟩

theorem ringNarrowComplete_spec (narrow : (s.ring (ringKey r)).state = 5) (dips : List Nat) :
    let near := dips.filter fun (d : Nat) =>
      decide (((d : Int) - (s.ring (ringKey r)).centre).natAbs ≤ (s.ring (ringKey r)).width)
    RingAims s r (.ringNarrowComplete r dips) near (s.ring (ringKey r)).centre
    ∧ (near = [] → RingFails s r (.ringNarrowComplete r dips) (s.ring (ringKey r)).tone (s.ring (ringKey r)).expected 300) := by
  intro near
  refine ringAims_of_run ?_
  rw [exec_ringNarrowComplete, execRingNarrowComplete, if_neg (not_not_intro narrow)]
  cases nearest near (s.ring (ringKey r)).centre <;> rfl

/-- What a modulator ring's lock makes of its line's transmit lane. -/
def State.lockSends (s : State) (f line : Nat) : State :=
  if (s.txLane f line).state = 0 ∧ (s.laser (f / 8) line).state < 2 then
    if s.test.on false f line then s.txTo f line 6
    else match laneOn (s.fiber f).txMap line with
      | some i => if (s.link f).state = 3 then s.txServe f line i else s.txTo f line 5
      | none => s.txTo f line 5
  else s

/-- The return of a lane to the line of a modulator ring that was LOST (R188). -/
def State.lockReturns (s : State) (f line : Nat) : State :=
  match (s.fiber f).away.find? fun e => e.2 == line with
  | some (i, _) =>
    let s := s.modFiber f fun x => { x with away := x.away.filter fun e => e.2 != line }
    if lineOf (s.fiber f).txMap i = 255 then s.startRestore f i line 5
    else if (s.fiber f).exchTx.isSome then s.waitMove f i 2 line false
    else if lineOf (s.fiber f).txMap i = line then s
    else s.startMove f i line 2
  | none => s

/-- The ASK for a lane on the line of a drop ring that was LOST (R188). -/
def State.lockAsks (s : State) (f line : Nat) : State :=
  match (s.fiber f).rxAway.find? fun e => e.2 == line with
  | some (i, _) => if lineOf (s.fiber f).rxMap i = line then s else s.askBack f i line
  | none => s

theorem ringLocked_eq (r : Ring) : s.ringLocked r =
    (if r.rx then ((s.recordRing (ringKey r) false).rxHunt r.fiber r.line).lockAsks r.fiber r.line
      else ((s.recordRing (ringKey r) false).lockSends r.fiber r.line).lockReturns r.fiber r.line).calAdvance (r.fiber / 8) := rfl

theorem bench_lockSends (f line : Nat) : (s.lockSends f line).bench = s.bench := by
  have k := laneWork_bench f
  unfold State.lockSends
  split
  · split
    · exact k.txTo _ _
    split
    · split
      · exact k.txCarry _ _ _
      · exact k.txTo _ _
    · exact k.txTo _ _
  · rfl

theorem bench_lockReturns (f line : Nat) : (s.lockReturns f line).bench = s.bench := by
  have k := laneWork_bench f
  unfold State.lockReturns
  split
  next i _ _ =>
    dsimp only
    rw [← k.fiber s fun x => { x with away := x.away.filter fun e => e.2 != line }]
    generalize s.modFiber f _ = v
    split
    · exact k.startRestore _ _ _
    split
    · exact k.waitMove _ _ _ _
    split
    · rfl
    · exact k.startMove _ _ _
  · rfl

theorem bench_lockAsks (f line : Nat) : (s.lockAsks f line).bench = s.bench := by
  unfold State.lockAsks
  split
  · split
    · rfl
    · exact (laneWork_bench f).askBack _ _
  · rfl

/-- What follows a lock, up to the calibration step, changes no ring, and of the keeper's memory the ring's own record. -/
theorem ringLocked_spec (r : Ring) : ∃ u : State, s.ringLocked r = u.calAdvance (r.fiber / 8)
    ∧ u.bench = (s.recordRing (ringKey r) false).bench := by
  refine ⟨_, ringLocked_eq r, ?_⟩
  split
  · exact (bench_lockAsks _ _).trans ((laneWork_bench _).rxHunt _)
  · exact (bench_lockReturns _ _).trans (bench_lockSends _ _)

/-- Where a ring stands after RING_VERIFY_COMPLETE found a tone (R181). -/
theorem ringVerifyComplete_named (tone : Nat) : s.RingNow (ringKey r) { s.ring (ringKey r) with tone := tone }
    (s.modRing (ringKey r) fun x => { x with tone := tone }) := ringNow_modRing _ _

theorem ringVerifyComplete_locks (verify : (s.ring (ringKey r)).state = 3) (low : 800 ≤ (s.ring (ringKey r)).heat)
    (high : (s.ring (ringKey r)).heat < 800 + (s.ring (ringKey r)).fsr) :
    ∃ u : State, exec (.ringVerifyComplete r (some r.line)) s = .next (u.calAdvance (r.fiber / 8))
      ∧ s.RingNow (ringKey r) { s.ring (ringKey r) with
          tone := r.line, state := 4, fails := 0, expected := (s.ring (ringKey r)).heat } u
      ∧ ringKey r ∉ u.nv.retiredRings := by
  have valid : (s.ring (ringKey r)).valid (s.ring (ringKey r)).heat = true := by
    simp only [RingSt.valid, ← Bool.decide_and, decide_eq_true_eq]; omega
  let v := (s.modRing (ringKey r) fun x => { x with tone := r.line }).modRing (ringKey r) fun x =>
    { x with state := 4, fails := 0, expected := x.heat }
  obtain ⟨u, run, bench⟩ := ringLocked_spec (s := v) r
  have ring : s.RingNow (ringKey r) { s.ring (ringKey r) with
      tone := r.line, state := 4, fails := 0, expected := (s.ring (ringKey r)).heat } v := by
    have named := ringVerifyComplete_named (s := s) (r := r) r.line
    have locked := named.trans (ringNow_modRing (ringKey r) fun x => { x with state := 4, fails := 0, expected := x.heat })
    rwa [named.1] at locked
  have rings : u.rings = (v.recordRing (ringKey r) false).rings := rings_of_bench bench
  refine ⟨u, ?_, ring.of_rings rings, ?_⟩
  · rw [← run, exec_ringVerifyComplete, execRingVerifyComplete, if_neg (not_not_intro verify)]
    exact if_pos ⟨rfl, valid⟩
  · rw [nv_of_bench bench]
    exact fun mem => of_decide_eq_true (List.mem_filter.mp mem).2 rfl

/-- A verification that finds another tone, none, or its own outside the valid window (R182). -/
theorem ringVerifyComplete_fails (verify : (s.ring (ringKey r)).state = 3) (tone : Option (Fin 18))
    (wrong : ¬ (tone.map (·.val) = some r.line.val ∧ (s.ring (ringKey r)).valid (s.ring (ringKey r)).heat)) :
    let w := verifyWindow (s.ring (ringKey r)) r.line (tone.map (·.val))
    RingFails s r (.ringVerifyComplete r tone) ((tone.map (·.val)).getD 31) w.1 w.2 := by
  let v := s.modRing (ringKey r) fun x => { x with tone := (tone.map (·.val)).getD 31 }
  let w := verifyWindow (s.ring (ringKey r)) r.line (tone.map (·.val))
  have named : s.RingNow (ringKey r) _ v := ringVerifyComplete_named ((tone.map (·.val)).getD 31)
  have run : exec (.ringVerifyComplete r tone) s = .next ((tone.elim v fun j =>
      v.log 0x5001 (srcOe (r.fiber / 8)) (ringKey r + j * 2 ^ 16)).ringFail r w.1 w.2) := by
    rw [exec_ringVerifyComplete, execRingVerifyComplete, if_neg (not_not_intro verify)]
    cases tone <;> exact if_neg wrong
  cases tone with
  | none => exact .of_run run named
  | some j => exact .of_run run named

theorem ringVerifyComplete_spec (verify : (s.ring (ringKey r)).state = 3) :
    let x := s.ring (ringKey r)
    (800 ≤ x.heat → x.heat < 800 + x.fsr → ∃ u : State,
      exec (.ringVerifyComplete r (some r.line)) s = .next (u.calAdvance (r.fiber / 8))
      ∧ s.RingNow (ringKey r) { x with tone := r.line, state := 4, fails := 0, expected := x.heat } u
      ∧ ringKey r ∉ u.nv.retiredRings)
    ∧ (x.heat < 800 → RingFails s r (.ringVerifyComplete r (some r.line)) r.line ((x.heat : Int) + x.fsr) 100)
    ∧ (800 + x.fsr ≤ x.heat → RingFails s r (.ringVerifyComplete r (some r.line)) r.line ((x.heat : Int) - x.fsr) 100)
    ∧ RingFails s r (.ringVerifyComplete r none) 31 x.expected 300
    ∧ ∀ j : Fin 18, j ≠ r.line → let c := (x.heat : Int) + (lineGhz j - lineGhz r.line)
        RingFails s r (.ringVerifyComplete r (some j)) j
          (if c < 800 then c + x.fsr else if c < 800 + x.fsr then c else c - x.fsr) 100 := by
  intro x
  have own {a : Int} (outside : ¬ x.valid x.heat) (window : verifyWindow x r.line (some r.line.val) = (a, 100)) :
      RingFails s r (.ringVerifyComplete r (some r.line)) r.line a 100 := by
    have fails := ringVerifyComplete_fails verify (some r.line) fun h => outside h.2
    dsimp only [Option.map_some] at fails
    rwa [window] at fails
  have valid (h : Int) : x.valid h = true ↔ 800 ≤ h ∧ h < 800 + x.fsr := by simp [RingSt.valid]
  refine ⟨ringVerifyComplete_locks verify, fun low => own ?_ ?_, fun high => own ?_ ?_,
    ?_, fun j other => ?_⟩
  · rw [valid]; omega
  · simp [verifyWindow, show (x.heat : Int) < 800 by omega]
  · rw [valid]; omega
  · simp [verifyWindow, show ¬ (x.heat : Int) < 800 by omega]
  · exact ringVerifyComplete_fails verify none fun h => nomatch h.1
  · have differs : j.val ≠ r.line.val := fun same => other (Fin.ext same)
    have fails := ringVerifyComplete_fails verify (some j) fun h => differs (Option.some.inj h.1)
    have window : verifyWindow x r.line (some j.val) = (let c := (x.heat : Int) + (lineGhz j - lineGhz r.line)
        (if c < 800 then c + x.fsr else if c < 800 + x.fsr then c else c - x.fsr, 100)) := by
      simp only [verifyWindow, if_neg differs, valid, Prod.mk.injEq, and_true]
      split
      · rfl
      next reaches => simp only [Int.not_lt.mp reaches, true_and]
    dsimp only [Option.map_some] at fails
    rwa [window] at fails

end

/-! ## Tracking (R180, R183, R188) -/

section
variable {r : Ring}

/-- A lost ring is the only one that changes. -/
theorem ringLost_ringNow (r : Ring) : s.RingNow (ringKey r)
    { s.ring (ringKey r) with state := 5, centre := (s.ring (ringKey r)).heat, width := 100 } (s.ringLost r) := by
  have k := laneWork_bench r.fiber
  let v := (s.log 0x5003 (srcOe (r.fiber / 8)) (ringKey r)).modRing (ringKey r) fun x =>
    { x with state := 5, centre := x.heat, width := 100 }
  have kept : (s.ringLost r).bench = v.bench := by
    unfold State.ringLost
    dsimp only
    split
    · have dark : ((v.rxTo r.fiber r.line 0).noteLock r.fiber).bench = v.bench := k.noteLock.trans (k.rxTo _ _)
      split
      · exact (k.ask _ _ _ _).trans ((k.fiber _ _).trans dark)
      · exact dark
    · have dark : (v.txTo r.fiber r.line 0).bench = v.bench := k.txTo _ _
      split
      · exact (k.leaveLine _ _).trans ((k.fiber _ _).trans dark)
      · exact dark
  exact (ringNow_modRing (s := s.log 0x5003 (srcOe (r.fiber / 8)) (ringKey r)) (ringKey r) fun x =>
    { x with state := 5, centre := x.heat, width := 100 }).of_rings (rings_of_bench kept)

theorem ringAt_of_rx (drop : r.rx = true) : ringAt true r.fiber r.line = ringKey r := by
  unfold ringAt ringKey; rw [drop]

theorem state_rxTo (f line st l : Nat) : ((s.rxTo f line st).rxLane f l).state
    = if l = line then (if (s.fiber f).los then 0 else st) else (s.rxLane f l).state := by
  unfold State.rxTo
  rw [State.rxLane_modRxLane]
  by_cases same : l = line
  · rw [if_pos (by rw [same]), if_pos same]; rfl
  · rw [if_neg (by omega), if_neg same]

/-- What a receive lane and its ring's lock show of a state. -/
def State.receives (f line : Nat) (s : State) : LaneSt × Bool := (s.rxLane f line, s.locked true f line)

theorem receives_count (f line i j n : Nat) : (s.count i j n).receives f line = s.receives f line := by
  obtain ⟨v, eq | eq⟩ := count_eq (s := s) i j n <;> rw [eq]
  rfl

theorem receives_prbsUnlock (f line d : Nat) : (s.prbsUnlock d).receives f line = s.receives f line := by
  unfold State.prbsUnlock
  split
  · rfl
  · have bits := receives_count (s := s) f line 0xF055 0 (s.lockBits d)
    exact (receives_count (s := s.count 0xF055 0 (s.lockBits d)) f line 0xF054 0 (s.lockErrors (s.lockBits d))).trans bits

/-- A receive lane is DOWN and its ring not LOCKED. -/
def State.Down (s : State) (f line : Nat) : Prop := (s.receives f line).1.state = 0 ∧ (s.receives f line).2 = false

theorem State.Down.of_receives {f line : Nat} (h : s.Down f line) (same : t.receives f line = s.receives f line) :
    t.Down f line := by
  unfold State.Down; rwa [same]

theorem State.Down.rxRest {f line : Nat} (h : s.Down f line) (l : Nat) : (s.rxRest f l).Down f line := by
  have dark : s.locked true f line = false := h.2
  have lane : ((s.rxRest f l).rxLane f line).state = 0 := by
    unfold State.rxRest
    rw [state_rxTo]
    split
    next same => subst same; rw [dark]; exact ite_self 0
    · exact h.1
  exact ⟨lane, h.2⟩

/-- A receive lane that is DOWN with its ring not LOCKED stays so when a test of its fiber stops. -/
theorem State.Down.stopTest {f line : Nat} (h : s.Down f line) (l : Nat) : (s.stopTest true f l).Down f line := by
  have rested {v : State} (down : v.Down f line) (x : TestSt) : (({ v with test := x } : State).rxRest f l).Down f line :=
    State.Down.rxRest (s := { v with test := x }) down l
  unfold State.stopTest State.endTest
  split
  · have unlocked : (if true && (s.log 0x5016 srcHub (256 * f + l)).test.checker == some (f, l) then
        (s.log 0x5016 srcHub (256 * f + l)).prbsUnlock 0 else s.log 0x5016 srcHub (256 * f + l)).Down f line := by
      split
      · exact h.of_receives (receives_prbsUnlock (s := s.log 0x5016 srcHub (256 * f + l)) f line 0)
      · exact h
    split
    · exact rested unlocked _
    · exact h
  · exact h

theorem rxLanes_ask (f lane src dst reason : Nat) :
    (s.ask f lane src dst reason).rxLanes = (s.stopTests true f [src, dst]).rxLanes :=
  Unsent.enqueue (g := State.rxLanes) ⟨fun _ _ _ => rfl, fun u _ _ => u.count_rxLanes _ _ _, fun _ _ _ _ => rfl⟩ f _

theorem ringLost_lane (drop : r.rx = true) : ((s.ringLost r).rxLane r.fiber r.line).state = 0 := by
  let v := (s.log 0x5003 (srcOe (r.fiber / 8)) (ringKey r)).modRing (ringKey r) fun x =>
    { x with state := 5, centre := x.heat, width := 100 }
  have down : ((v.rxTo r.fiber r.line 0).noteLock r.fiber).Down r.fiber r.line := by
    have lane : ((v.rxTo r.fiber r.line 0).rxLane r.fiber r.line).state = 0 := by
      rw [state_rxTo, if_pos rfl, ite_self]
    have dark : v.locked true r.fiber r.line = false := by
      unfold State.locked
      rw [ringAt_of_rx drop, (ringNow_modRing (s := s.log 0x5003 (srcOe (r.fiber / 8)) (ringKey r)) (ringKey r) _).1]
      rfl
    refine State.Down.of_receives (s := v.rxTo r.fiber r.line 0) ⟨lane, dark⟩ ?_
    unfold State.noteLock
    dsimp only
    split
    · exact receives_count _ _ _ _ _
    · rfl
  unfold State.ringLost
  dsimp only
  rw [if_pos drop]
  split
  next i _ =>
    unfold State.rxLane
    rw [rxLanes_ask]
    have kept := forEach_induct (l := [r.line.val, 255].filter (· ≤ 17)) (f := fun line s => s.stopTest true r.fiber line)
      (Q := fun u : State => u.Down r.fiber r.line)
      (s := ((v.rxTo r.fiber r.line 0).noteLock r.fiber).modFiber r.fiber fun x =>
        { x with rxAway := x.rxAway ++ [(i, r.line.val)] })
      down fun l _ u hu => hu.stopTest l
    exact kept.1
  · exact down.1

theorem ringTrack_spec (locked : (s.ring (ringKey r)).state = 4) :
    let x := s.ring (ringKey r)
    (∀ h, Done (.ringTrack r (some h)) s fun t =>
      s.RingNow (ringKey r) { x with heat := h, expected := if 800 ≤ h ∧ h < 800 + x.fsr then h else x.expected } t
      ∧ (h < 200 ∨ 5400 < h → 200 ≤ x.heat → x.heat ≤ 5400 → r.line.val ∈ (t.oe (r.fiber / 8)).flagged)
      ∧ { t with rings := s.rings, oes := s.oes, events := s.events, nextSeq := s.nextSeq } = s)
    ∧ Done (.ringTrack r none) s fun t => s.RingNow (ringKey r) { x with state := 5, centre := x.heat, width := 100 } t
        ∧ (r.rx = true → (t.rxLane r.fiber r.line).state = 0) := by
  intro x
  have lost : exec (.ringTrack r none) s = .next (s.ringLost r) := if_neg (not_not_intro locked)
  refine ⟨fun h => ?_, s.ringLost r, lost, ringLost_ringNow r, ringLost_lane⟩
  have expected : (if x.valid h then h else x.expected) = if 800 ≤ h ∧ h < 800 + x.fsr then h else x.expected := by
    have valid : x.valid h = true ↔ 800 ≤ h ∧ h < 800 + x.fsr := by
      simp only [RingSt.valid, ← Bool.decide_and, decide_eq_true_eq]; omega
    simp only [valid]
  have ring := ringNow_modRing (s := s) (ringKey r) fun x => { x with heat := h, expected := if x.valid h then h else x.expected }
  rw [show (if (s.ring (ringKey r)).valid h then h else (s.ring (ringKey r)).expected) = _ from expected] at ring
  let v := s.modRing (ringKey r) fun x => { x with heat := h, expected := if x.valid h then h else x.expected }
  have run : exec (.ringTrack r (some h)) s =
      if (decide (h < 200) || decide (h > 5400)) && !(decide (x.heat < 200) || decide (x.heat > 5400)) then
        .next ((v.log 0x500E (srcOe (r.fiber / 8)) (ringKey r)).modOe (r.fiber / 8) fun o =>
          { o with flagged := o.flagged.filter (· ≠ r.line.val) ++ [r.line.val] })
      else .next v := if_neg (not_not_intro locked)
  split at run
  · refine ⟨_, run, ring, fun _ _ _ => ?_, by simp [v, State.log]⟩
    rw [State.oe_modOe, if_pos rfl]
    exact List.mem_append_right _ List.mem_cons_self
  next quiet => exact ⟨_, run, ring, fun out _ _ => absurd (by simp; omega) quiet, rfl⟩

end

/-! ## Lasers (R178, R193–R195) -/

section
variable {n line : Nat} {i : Instr} {v : LaserSt}

theorem laser_modLaser_same (h : LaserSt → LaserSt) : (s.modLaser n line h).laser n line = h (s.laser n line) :=
  (State.laser_modLaser _ _ _ _ _ _).trans (if_pos rfl)

theorem laser_of_lasers (h : t.lasers = s.lasers) (n line : Nat) : t.laser n line = s.laser n line :=
  congrArg (fun l => tabGet (fun _ => ({} : LaserSt)) l (18 * n + line)) h

/-- One modulator ring goes to DARK with its laser, and its lane DOWN. -/
def State.darkenOne (s : State) (line f : Nat) : State :=
  let s := s.modRing (ringAt false f line) fun r => if r.state = 6 then r else { r with state := 0, heat := 0 }
  (s.stopTest false f line).txTo f line 0

theorem darken_eq : s.darken n line = (forEach (oeFibers n) s fun f s => s.darkenOne line f).writeOe n := rfl

theorem ring_darkenOne (line f k : Nat) : (s.darkenOne line f).ring k =
    if k = ringAt false f line ∧ (s.ring k).state ≠ 6 then { s.ring k with state := 0, heat := 0 } else s.ring k := by
  have w := laneWork_bench f
  unfold State.darkenOne
  rw [ring_of_rings (rings_of_bench ((w.txTo line 0).trans (w.stopTest false line))), State.ring_modRing]
  by_cases same : k = ringAt false f line
  · subst same
    by_cases retired : (s.ring (ringAt false f line)).state = 6 <;> simp [retired]
  · rw [if_neg same, if_neg (fun h => same h.1)]

/-- A laser's modulator rings that are not RETIRED go to DARK. -/
theorem darken_rings : ∀ f ∈ oeFibers n, (s.ring (ringAt false f line)).state ≠ 6 →
    ((s.darken n line).ring (ringAt false f line)).state = 0 := by
  have each := forEach_each (l := oeFibers n) (s := s) (f := fun f s => s.darkenOne line f)
    (Q := fun u => ∀ k, (s.ring k).state ≠ 6 → (u.ring k).state ≠ 6)
    (P := fun f u => (s.ring (ringAt false f line)).state ≠ 6 → (u.ring (ringAt false f line)).state = 0)
    (fun _ lit => lit)
    (fun f _ u lit => ⟨fun k ok => by rw [ring_darkenOne]; split <;> simp [lit k ok],
      fun ok => by rw [ring_darkenOne, if_pos ⟨rfl, lit _ ok⟩]⟩)
    (fun f _ e _ u lit dark ok => by rw [ring_darkenOne]; split <;> simp [dark ok])
  intro f mem ok
  rw [darken_eq, ring_of_rings (rings_of_bench ((laneWork_bench 0).write _ _))]
  exact each f mem ok

theorem bench_leaveLines (l : List (Nat × Nat)) (reason : Nat) :
    (forEach l s fun e s => s.leaveLine e.1 e.2 reason).bench = s.bench :=
  forEach_keeps State.bench fun e _ _ => (laneWork_bench e.1).leaveLine _ _

/-- A laser at its failure, before its lanes leave (R178). -/
def State.laserOut (s : State) (n line : Nat) : State :=
  let u := (s.log 0x500B (srcOe n) line).modLaser n line fun l => { l with state := 3 }
  ({ u with nv := { u.nv with failedLasers := u.nv.failedLasers ++ [18 * n + line] } } : State).darken n line

theorem failLaser_bench (lit : (s.laser n line).state < 2) : (s.failLaser n line).bench = (s.laserOut n line).bench := by
  have run : s.failLaser n line = forEach (s.lanesOf n line)
      (if (s.lanesOf n line).isEmpty ∧ line ≥ 16 then (s.laserOut n line).log 0x500F (srcOe n) line else s.laserOut n line)
      fun e s => s.leaveLine e.1 e.2 6 := if_neg (Nat.not_le.mpr lit)
  rw [run, bench_leaveLines]
  split
  · exact (laneWork_bench 0).log _ _ _ _
  · rfl

/-- A command fails a laser (R178, R188): it holds v but for its state, and its modulator rings are DARK. -/
def LaserFails (s : State) (n line : Nat) (i : Instr) (v : LaserSt) : Prop :=
  Done i s fun t => t.laser n line = { v with state := 3 } ∧ (18 * n + line) ∈ t.nv.failedLasers
    ∧ ∀ f ∈ oeFibers n, (s.ring (ringAt false f line)).state ≠ 6 → (t.ring (ringAt false f line)).state = 0

theorem laserFails_of_run (run : exec i s = .next (u.failLaser n line)) (holds : u.laser n line = v) (lit : v.state < 2)
    (rings : u.rings = s.rings) : LaserFails s n line i v := by
  have bench := failLaser_bench (holds ▸ lit : (u.laser n line).state < 2)
  let w := (u.log 0x500B (srcOe n) line).modLaser n line fun l => { l with state := 3 }
  let x : State := { w with nv := { w.nv with failedLasers := w.nv.failedLasers ++ [18 * n + line] } }
  have optics : (u.laserOut n line).optics = x.optics := optics_darken n line
  refine ⟨_, run, ?_, ?_, fun f mem ok => ?_⟩
  · rw [laser_of_lasers ((lasers_of_bench bench).trans (lasers_of_optics optics)), ← holds]
    exact laser_modLaser_same (s := u.log 0x500B (srcOe n) line) fun l => { l with state := 3 }
  · rw [nv_of_bench bench, failedLasers_of_base (base_of_optics optics)]
    exact List.mem_append_right _ List.mem_cons_self
  · rw [ring_of_rings (rings_of_bench bench)]
    exact darken_rings (s := x) f mem (by rwa [ring_of_rings (show x.rings = s.rings from rings)])

theorem failLaser_out (out : 2 ≤ (s.laser n line).state) : s.failLaser n line = s := if_pos out

/-- A command warns of a laser's fade (R193): without a lane the laser is switched off. -/
def LaserFades (s : State) (n line : Nat) (i : Instr) (v : LaserSt) : Prop :=
  Done i s fun t => (t.laser n line).warned = true
    ∧ (t.laser n line).state = (if s.lanesOf n line = [] then 2 else v.state) ∧ (t.laser n line).d = v.d

theorem switchOffFaded_laser (warned : (s.laser n line).warned = true) (lit : (s.laser n line).state < 2)
    (free : s.lanesOf n line = []) : (s.switchOffFaded n line).laser n line = { s.laser n line with state := 2 } := by
  have off : s.switchOffFaded n line =
      ({ s.modLaser n line fun l => { l with state := 2 } with
        nv := { s.nv with fadedLasers := s.nv.fadedLasers ++ [18 * n + line] } } : State).darken n line :=
    if_pos (by simp [warned, lit, free])
  rw [off, laser_of_lasers (lasers_of_optics (optics_darken n line))]
  exact laser_modLaser_same fun l => { l with state := 2 }

theorem fadeWarning_laser (fresh : (s.laser n line).warned = false) (lit : (s.laser n line).state < 2) :
    (s.fadeWarning n line).laser n line =
      { s.laser n line with warned := true, state := if s.lanesOf n line = [] then 2 else (s.laser n line).state } := by
  let w := (s.log 0x5004 (srcOe n) line).modLaser n line fun l => { l with warned := true }
  have holds : w.laser n line = { s.laser n line with warned := true } :=
    laser_modLaser_same (s := s.log 0x5004 (srcOe n) line) fun l => { l with warned := true }
  have run : s.fadeWarning n line = if (s.lanesOf n line).isEmpty then
        (if line ≥ 16 then w.log 0x500F (srcOe n) line else w).switchOffFaded n line
      else forEach (s.lanesOf n line) w fun e s => s.leaveLine e.1 e.2 3 := if_neg (by simp [fresh, lit])
  rw [run]
  by_cases free : s.lanesOf n line = []
  · have off {x : State} (same : x.laser n line = w.laser n line) (lanes : x.lanesOf n line = s.lanesOf n line) :
        (x.switchOffFaded n line).laser n line = { s.laser n line with warned := true, state := 2 } := by
      rw [switchOffFaded_laser (by rw [same, holds]) (by rw [same, holds]; exact lit) (lanes.trans free), same, holds]
    rw [if_pos (List.isEmpty_iff.mpr free), if_pos free]
    split
    · exact off rfl rfl
    · exact off rfl rfl
  · rw [if_neg (fun h => free (List.isEmpty_iff.mp h)), if_neg free,
      laser_of_lasers (lasers_of_bench (bench_leaveLines _ _)), holds]

theorem laserFades_of_run (run : exec i s = .next (u.fadeWarning n line)) (holds : u.laser n line = v) (fresh : v.warned = false)
    (lit : v.state < 2) (lanes : u.lanesOf n line = s.lanesOf n line) : LaserFades s n line i v := by
  have laser := fadeWarning_laser (s := u) (n := n) (line := line) (by rw [holds, fresh]) (by rw [holds]; exact lit)
  rw [holds, lanes] at laser
  exact ⟨_, run, by rw [laser], by rw [laser], by rw [laser]⟩

end

theorem mpdSample_spec (n : Fin 12) (line : Fin 18) (reading : Nat) (low : Bool) :
    let l := s.laser n line
    let i := Instr.mpdSample n line reading low
    let v := { l with mpd := reading, dCount := l.dCount + 1
                      dSum := l.dSum + if reading = 0 then Config.dbOfZero else decibels reading (s.mpdRef n line) }
    (low = true → 10 * reading < s.mpdRef n line → l.state < 2 → LaserFails s n line i v)
    ∧ (low = false ∨ s.mpdRef n line ≤ 10 * reading ∨ 2 ≤ l.state → Done i s fun t => t.laser n line = v
        ∧ { t with lasers := s.lasers } = s) := by
  intro l i v
  let w := s.sampleMpd n line reading
  have holds : w.laser n line = v := laser_modLaser_same _
  have run : exec i s =
      if low && decide (10 * reading < s.mpdRef n line) then .next (w.failLaser n line) else .next w := rfl
  refine ⟨fun held below lit => laserFails_of_run (run.trans (if_pos ?_)) holds lit rfl, fun fine => ?_⟩
  · rw [held, decide_eq_true below]; rfl
  · refine ⟨w, run.trans ?_, holds, rfl⟩
    by_cases fails : low && decide (10 * reading < s.mpdRef n line)
    · obtain ⟨held, below⟩ := Bool.and_eq_true_iff.mp fails
      have below := of_decide_eq_true below
      have out : 2 ≤ l.state := by
        obtain h | h | h := fine
        · rw [h] at held; cases held
        · omega
        · exact h
      rw [if_pos fails, failLaser_out (by rw [holds]; exact out)]
    · exact if_neg fails

theorem laserDailyMean_spec (n : Fin 12) (line : Fin 18) :
    let l := s.laser n line
    let i := Instr.laserDailyMean n line
    let d := if l.dCount = 0 then l.d else nearestQuotient l.dSum l.dCount
    let days := (d :: l.days).take 30
    let v := { l with d := d, trend := leastSquares days, dSum := 0, dCount := 0, days := days }
    (d ≤ -300 → l.state < 2 → LaserFails s n line i v)
    ∧ (-300 < d → (10 * s.gov 0x5004 0 : Nat) ≤ -d → l.state < 2 → l.warned = false → LaserFades s n line i v)
    ∧ (-300 < d → -d < (10 * s.gov 0x5004 0 : Nat) → Done i s fun t => t.laser n line = v ∧ { t with lasers := s.lasers } = s) := by
  intro l i d days v
  let w := s.modLaser n line LaserSt.endDay
  have holds : w.laser n line = v := laser_modLaser_same _
  have run : exec i s = if v.d ≤ -300 then .next (w.failLaser n line)
      else if -v.d ≥ (10 * s.gov 0x5004 0 : Nat) then .next (w.fadeWarning n line) else .next w := by
    rw [← holds]; rfl
  refine ⟨fun lost lit => laserFails_of_run (run.trans (if_pos lost)) holds lit rfl, fun kept faded lit fresh => ?_,
    fun kept fine => ?_⟩
  · exact laserFades_of_run (run.trans ((if_neg (Int.not_le.mpr kept)).trans (if_pos faded))) holds fresh lit rfl
  · exact ⟨w, run.trans ((if_neg (Int.not_le.mpr kept)).trans (if_neg (Int.not_le.mpr fine))), holds, rfl⟩

theorem marginWarningExpiry_spec (n : Fin 12) (line : Fin 18)
    (low : ∃ e ∈ s.lanesOf n line, (s.txLane e.1 line).margin ≠ 255 ∧ (s.txLane e.1 line).margin < s.gov 0x5005 0)
    (lit : (s.laser n line).state < 2) (fresh : (s.laser n line).warned = false) :
    LaserFades s n line (.marginWarningExpiry n line) (s.laser n line) := by
  obtain ⟨e, mem, known, below⟩ := low
  have any : ((s.lanesOf n line).any fun e =>
      (s.txLane e.1 line).margin != 255 && decide ((s.txLane e.1 line).margin < s.gov 0x5005 0)) = true :=
    List.any_eq_true.mpr ⟨e, mem, by simp [known, below]⟩
  exact laserFades_of_run (if_pos any) rfl fresh lit rfl

/-! ## Calibration steps (R190–R192) -/

section
variable {n line : Nat} {c : CalStep}

theorem cal_of_engine {x : Option CalStep} (h : (s.engine n).cal = x) : (s.oe n).cal = x := h

theorem engine_modOe_same (h : OeSt → OeSt) : (s.modOe n h).engine n = { h (s.oe n) with requests := [] } :=
  (engine_modOe _).trans (if_pos rfl)

theorem calRingsDone_other (cal : (s.oe n).cal = some c) (other : c.phase ≠ 2) : s.calRingsDone n = s := by
  unfold State.calRingsDone
  rw [cal]
  exact if_neg fun h => other h.1

theorem calBackDone_other (cal : (s.oe n).cal = some c) (other : c.phase ≠ 3) : s.calBackDone n = s := by
  unfold State.calBackDone
  rw [cal]
  exact if_neg fun h => other h.1

theorem calOutDone_other (cal : (s.oe n).cal = some c) (other : c.phase ≠ 0) : s.calOutDone n = s := by
  unfold State.calOutDone
  rw [cal]
  exact if_neg fun h => other h.1

theorem calOutDone_lit (cal : (s.oe n).cal = some c) (start : c.phase = 0) (lit : c.noLaser = false) :
    ∃ p ≤ 1, (s.calOutDone n).engine n = { s.engine n with cal := some { c with phase := p } } := by
  unfold State.calOutDone
  rw [cal]
  dsimp only
  split
  · refine ⟨1, le_rfl, ?_⟩
    rw [if_neg (by simp [lit]), (laneWork_engine 0 n).write]
    unfold State.modCal
    rw [engine_modOe_same, cal]
    rfl
  · refine ⟨0, Nat.zero_le 1, ?_⟩
    unfold State.engine
    rw [← start, ← cal]

/-- A step with a laser that steers out stays a step on its line: at most it goes on to the laser (R191). -/
theorem calAdvance_lit (cal : (s.oe n).cal = some c) (start : c.phase = 0) (lit : c.noLaser = false) :
    ∃ p, ((s.calAdvance n).oe n).cal = some { c with phase := p } ∧ ((s.calAdvance n).oe n).flagged = (s.oe n).flagged
      ∧ ((s.calAdvance n).oe n).displaced = (s.oe n).displaced := by
  obtain ⟨p, early, out⟩ := calOutDone_lit cal start lit
  have now : ((s.calOutDone n).oe n).cal = some { c with phase := p } := cal_of_engine (by rw [out])
  have rest : s.calAdvance n = s.calOutDone n := by
    unfold State.calAdvance
    rw [calRingsDone_other now (show p ≠ 2 by omega), calBackDone_other now (show p ≠ 3 by omega)]
  have flagged : ((s.calOutDone n).engine n).flagged = (s.engine n).flagged := by rw [out]
  have displaced : ((s.calOutDone n).engine n).displaced = (s.engine n).displaced := by rw [out]
  rw [rest]
  exact ⟨p, now, flagged, displaced⟩

theorem agenda_steerOut (noLaser : Bool) : (s.steerOut n line noLaser).agenda n = s.agenda n :=
  forEach_keeps (State.agenda n) fun f mem u => by
    have oe := oe_of_mem mem
    have k := moveWork_agenda f n
    subst oe
    exact (k.steerOutRx line).trans (k.steerOutTx line noLaser)

/-- A step as CALIBRATION_STEP_TIME begins it on an OE. -/
def State.beginStep (s : State) (n line : Nat) : State :=
  let noLaser := decide ((s.laser n line).state ≥ 2)
  let s := s.modOe n fun o => { o with cal := some { line := line, began := s.epoch, noLaser := noLaser } }
  (s.steerOut n line noLaser).calAdvance n

theorem beginStep_spec (lit : (s.laser n line).state < 2) :
    ((s.beginStep n line).oe n).cal.map (fun c => (c.line, c.began)) = some (line, s.epoch)
    ∧ ((s.beginStep n line).oe n).flagged = (s.oe n).flagged
    ∧ ((s.beginStep n line).oe n).displaced = (s.oe n).displaced := by
  have dark : decide ((s.laser n line).state ≥ 2) = false := decide_eq_false (Nat.not_le.mpr lit)
  unfold State.beginStep
  rw [dark]
  dsimp only
  let w := s.modOe n fun o => { o with cal := some { line := line, began := s.epoch, noLaser := false } }
  have begun : w.agenda n = (some (line, 0, s.epoch, false), (s.oe n).flagged, (s.oe n).displaced) := by
    unfold State.agenda
    rw [State.oe_modOe, if_pos rfl]
    rfl
  generalize hv : w.steerOut n line false = v
  have kept : v.agenda n = (some (line, 0, s.epoch, false), (s.oe n).flagged, (s.oe n).displaced) :=
    hv ▸ (agenda_steerOut false).trans begun
  obtain ⟨cal, lists⟩ := Prod.mk.inj kept
  obtain ⟨flagged, displaced⟩ := Prod.mk.inj lists
  obtain ⟨c, cal, core⟩ := Option.map_eq_some_iff.mp cal
  obtain ⟨hline, rest⟩ := Prod.mk.inj core
  obtain ⟨phase, rest⟩ := Prod.mk.inj rest
  obtain ⟨began, laser⟩ := Prod.mk.inj rest
  obtain ⟨p, now, first, next⟩ := calAdvance_lit cal phase laser
  exact ⟨by rw [now, ← hline, ← began]; rfl, first.trans flagged, next.trans displaced⟩

theorem calibrationStepTime_spec (k : Fin 216) (here : k.val % 12 = n) (on : s.gov 0x5008 0 ≠ 0)
    (admitted : (s.oe n).admitted = true) (idle : (s.oe n).cal = none) (alone : (s.oe n).displaced = []) :
    ((s.oe n).flagged = [] → (s.laser n (k.val / 12)).state < 2 → Done (.calibrationStepTime k) s fun t =>
      (t.oe n).cal.map (fun c => (c.line, c.began)) = some (k.val / 12, s.epoch))
    ∧ (∀ a r, (s.oe n).flagged = a :: r → (s.laser n a).state < 2 → Done (.calibrationStepTime k) s fun t =>
        (t.oe n).cal.map (fun c => (c.line, c.began)) = some (a, s.epoch)
        ∧ (t.oe n).flagged = r ∧ (t.oe n).displaced = [k.val / 12]) := by
  subst here
  have allowed : ¬ (s.gov 0x5008 0 = 0 ∨ (!(s.oe (k.val % 12)).admitted) = true) := by simp [on, admitted]
  have begins {line : Nat} {h : OeSt → OeSt} (run : exec (.calibrationStepTime k) s = .next
      ((s.modOe (k.val % 12) h).beginStep (k.val % 12) line)) (lit : (s.laser (k.val % 12) line).state < 2) :
      Done (.calibrationStepTime k) s fun t =>
        (t.oe (k.val % 12)).cal.map (fun c => (c.line, c.began)) = some (line, s.epoch)
        ∧ (t.oe (k.val % 12)).flagged = (h (s.oe (k.val % 12))).flagged
        ∧ (t.oe (k.val % 12)).displaced = (h (s.oe (k.val % 12))).displaced := by
    obtain ⟨cal, flagged, displaced⟩ := beginStep_spec (s := s.modOe (k.val % 12) h) lit
    rw [State.oe_modOe, if_pos rfl] at flagged displaced
    exact ⟨_, run, cal, flagged, displaced⟩
  have free : ¬ (s.oe (k.val % 12)).cal.isSome = true := by simp [idle]
  refine ⟨fun unflagged lit => ?_, fun a r flagged lit => ?_⟩
  · obtain ⟨t, run, cal, -⟩ := begins (line := k.val / 12)
      (h := fun o => { o with flagged := o.flagged.tail, displaced := [] })
      ((if_neg allowed).trans ((if_neg free).trans (by rw [unflagged, alone]; rfl))) lit
    exact ⟨t, run, cal⟩
  · obtain ⟨t, run, cal, rest, queue⟩ := begins (line := a)
      (h := fun o => { o with flagged := o.flagged.tail, displaced := [k.val / 12] })
      ((if_neg allowed).trans ((if_neg free).trans (by rw [flagged, alone]; rfl))) lit
    exact ⟨t, run, cal, rest.trans (congrArg List.tail flagged), queue⟩

/-- One OE at CALIBRATION_WINDOW_START. -/
def State.enterWindow (n : Nat) (s : State) : State :=
  match (s.oe n).cal with
  | some c =>
    if c.waitingWindow then
      let s := s.modCal n fun c => { c with waitingWindow := false }
      let s := forEach (s.lanesOf n c.line) s fun e s =>
        let x := s.fiber e.1
        if x.txState = 0 ∧ !x.shutterClosed ∧ x.modeDue.isNone ∧ !(x.exchTx.any fun g => g.lane == e.2 && g.fromLine == c.line)
          ∧ !(x.moves.any fun m => m.1 == e.2 && m.2.1 == 1) then s.calOut e.1 e.2 else s
      s.calAdvance n
    else s
  | none => s

theorem exec_calibrationWindowStart_eq : exec .calibrationWindowStart s = .next (upTo 12 s State.enterWindow) := rfl

theorem mem_oeFibers_of_lanesOf {e : Nat × Nat} (h : e ∈ s.lanesOf n line) : e.1 ∈ oeFibers n := by
  obtain ⟨f, mem, lane⟩ := List.mem_filterMap.mp h
  obtain ⟨i, -, rfl⟩ := Option.map_eq_some_iff.mp lane
  exact mem

/-- An OE's entry into a window is its own step's work. -/
theorem StepWork.enterWindow {β : Type} {g : State → β} (k : StepWork n g)
    (ring : StartFree g) :
    g (s.enterWindow n) = g s := by
  unfold State.enterWindow
  split
  · split
    · refine (k.calAdvance ring).trans ((forEach_keeps g fun e mem u => ?_).trans (k.modCal _))
      dsimp only
      split
      · exact (k.moves (mem_oeFibers_of_lanesOf mem)).calOut _
      · rfl
    · rfl
  · rfl

/-- In the window the step's lanes leave, and it waits no more. -/
theorem enterWindow_waits (window : s.inWindow = true) (cal : (s.oe n).cal = some c) (lit : c.noLaser = false)
    (start : c.phase = 0) (waits : c.waitingWindow = true) :
    ((s.enterWindow n).oe n).cal.map (fun c => (c.line, c.waitingWindow)) = some (c.line, false) := by
  unfold State.enterWindow
  rw [cal]
  dsimp only
  rw [if_pos waits]
  generalize hv : forEach _ (s.modCal n _) _ = v
  have kept : v.inWindow = true ∧ v.engine n = (s.modCal n fun c => { c with waitingWindow := false }).engine n := by
    rw [← hv]
    refine forEach_induct (Q := fun u => u.inWindow = true
      ∧ u.engine n = (s.modCal n fun c => { c with waitingWindow := false }).engine n) ⟨window, rfl⟩ fun e _ u ⟨hw, he⟩ => ?_
    split
    · have bench := (laneWork_bench e.1).calOut hw e.2
      exact ⟨(congrArg (·.2.2.2) bench).trans hw, ((laneWork_engine e.1 n).calOut hw e.2).trans he⟩
    · exact ⟨hw, he⟩
  have now : (v.oe n).cal = some { c with waitingWindow := false } := by
    refine cal_of_engine ?_
    rw [kept.2]
    unfold State.modCal
    rw [engine_modOe_same, cal]
    rfl
  obtain ⟨p, next, -⟩ := calAdvance_lit now start lit
  rw [next]
  rfl

theorem calibrationWindowStart_spec (hn : n < 12) (window : s.inWindow = true) (cal : (s.oe n).cal = some c)
    (lit : c.noLaser = false) (start : c.phase = 0) (waits : c.waitingWindow = true) :
    Done .calibrationWindowStart s fun t =>
      (t.oe n).cal.map (fun c => (c.line, c.waitingWindow)) = some (c.line, false) := by
  refine ⟨_, exec_calibrationWindowStart_eq, ?_⟩
  have keepsWindow (m : Nat) (u : State) : (u.enterWindow m).inWindow = u.inWindow :=
    ((stepWork_bench m).map (·.2.2.2)).enterWindow fun _ _ _ => rfl
  obtain ⟨u, there, before, after⟩ := upTo_own State.engine (Q := fun u => u.inWindow = true) window
    (fun m _ u hu => (keepsWindow m u).trans hu)
    (fun m _ j other u => (stepWork_engine other).enterWindow fun _ _ _ => rfl) n hn
  have result : ((upTo 12 s State.enterWindow).engine n).cal = ((u.enterWindow n).engine n).cal := by rw [after]
  have same : (u.engine n).cal = (s.engine n).cal := by rw [before]
  beta_reduce
  rw [cal_of_engine result]
  exact enterWindow_waits there (cal_of_engine (same.trans cal)) lit start waits

theorem calibrationStepTimeout_spec {n : Fin 12} (cal : (s.oe n).cal = some c) :
    Done (.calibrationStepTimeout n) s fun t => (t.oe n).cal = none ∧ t.lasers = s.lasers := by
  let w := (s.calEvent n c.line 2).modOe n fun o => { o with cal := none }
  have run : exec (.calibrationStepTimeout n) s = .next (forEach (oeFibers n) w fun f s =>
      (s.modFiber f fun x => { x with moves := x.moves.filter fun m => !c.owns f x m }).nextMove f) := by
    rw [exec_calibrationStepTimeout, execCalibrationStepTimeout, cal]
  generalize hv : forEach (oeFibers n) w _ = v at run
  have kept {β : Type} {g : State → β} (k : ∀ f, MoveWork f g) : g v = g w := by
    rw [← hv]
    exact forEach_keeps g fun f _ _ => (k f).nextMove.trans ((k f).fiber _ _)
  have ended : (v.agenda n).1 = none := by
    rw [kept fun f => moveWork_agenda f n]
    unfold State.agenda
    rw [State.oe_modOe, if_pos rfl]
    rfl
  exact ⟨v, run, Option.map_eq_none_iff.mp ended, lasers_of_bench (kept moveWork_bench)⟩

/-- One ring of a step goes to SWEEP, but for a RETIRED one. -/
def State.startRing (s : State) (line : Nat) (r : Bool × Nat) : State :=
  let k := ringAt r.1 r.2 line
  if (s.ring k).state = 6 then s
  else
    let s := s.modRing k fun x => { x with state := 1, heat := 0 }
    if r.1 then (s.rxTo r.2 line 0).noteLock r.2 else s.txTo r.2 line 0

theorem acquireRings_eq (c : CalStep) : s.acquireRings n c = (forEach (calRings n c)
    (s.modCal n fun c => { c with phase := 2, discarded := false }) fun r s => s.startRing c.line r).writeOe n := rfl

/-- What is left of a ring's start once its lane is DOWN. -/
theorem LaneWork.startRing {β : Type} {g : State → β} {r : Bool × Nat} (k : LaneWork r.2 g)
    (lit : (s.ring (ringAt r.1 r.2 line)).state ≠ 6) :
    g (s.startRing line r) = g (s.modRing (ringAt r.1 r.2 line) fun x => { x with state := 1, heat := 0 }) := by
  unfold State.startRing
  dsimp only
  rw [if_neg lit]
  split
  · exact k.noteLock.trans (k.rxTo _ _)
  · exact k.txTo _ _

theorem ring_startRing (r : Bool × Nat) (k : Nat) : (s.startRing line r).ring k =
    if k = ringAt r.1 r.2 line ∧ (s.ring k).state ≠ 6 then { s.ring k with state := 1, heat := 0 } else s.ring k := by
  by_cases retired : (s.ring (ringAt r.1 r.2 line)).state = 6
  · unfold State.startRing
    dsimp only
    rw [if_pos retired, if_neg]
    rintro ⟨rfl, lit⟩
    exact lit retired
  · rw [ring_of_rings (rings_of_bench ((laneWork_bench r.2).startRing retired)), State.ring_modRing]
    by_cases same : k = ringAt r.1 r.2 line
    · subst same; simp [retired]
    · rw [if_neg same, if_neg fun h => same h.1]

theorem acquireRings_rings {rx : Bool} {f : Nat} (mem : (rx, f) ∈ calRings n c)
    (lit : (s.ring (ringAt rx f c.line)).state ≠ 6) :
    (s.acquireRings n c).ring (ringAt rx f c.line) = { s.ring (ringAt rx f c.line) with state := 1, heat := 0 } := by
  let w := s.modCal n fun c => { c with phase := 2, discarded := false }
  have each := forEach_each (l := calRings n c) (s := w) (f := fun r s => s.startRing c.line r)
    (Q := fun u => ∀ k, (s.ring k).state ≠ 6 → u.ring k = s.ring k ∨ u.ring k = { s.ring k with state := 1, heat := 0 })
    (P := fun r u => (s.ring (ringAt r.1 r.2 c.line)).state ≠ 6 →
      u.ring (ringAt r.1 r.2 c.line) = { s.ring (ringAt r.1 r.2 c.line) with state := 1, heat := 0 })
    (fun _ _ => .inl rfl)
    (fun r _ u begun => ⟨fun k ok => by
        rw [ring_startRing]
        obtain old | new := begun k ok
        · rw [old]; split <;> simp
        · rw [new]; simp,
      fun ok => by
        rw [ring_startRing]
        obtain old | new := begun _ ok
        · rw [old, if_pos ⟨rfl, ok⟩]
        · rw [new]; simp⟩)
    (fun r _ q _ u _ begun ok => by rw [ring_startRing, begun ok]; simp)
  rw [acquireRings_eq, ring_of_rings (rings_of_bench ((laneWork_bench 0).write _ _))]
  exact each _ mem lit

theorem acquireRings_cal (cal : (s.oe n).cal = some c) :
    ((s.acquireRings n c).oe n).cal = some { c with phase := 2, discarded := false } := by
  have kept : (s.acquireRings n c).engine n = (s.modCal n fun c => { c with phase := 2, discarded := false }).engine n := by
    rw [acquireRings_eq, (laneWork_engine 0 n).write]
    refine forEach_keeps (State.engine n) fun r _ u => ?_
    by_cases retired : (u.ring (ringAt r.1 r.2 c.line)).state = 6
    · exact congrArg (State.engine n) (if_pos retired)
    · exact (laneWork_engine r.2 n).startRing retired
  refine cal_of_engine ?_
  rw [kept]
  unfold State.modCal
  rw [engine_modOe_same, cal]
  rfl

theorem mem_calRings {rx : Bool} {f : Nat} (mem : f ∈ oeFibers n) (taken : (rx, f) ∉ c.skipped) : (rx, f) ∈ calRings n c := by
  refine List.mem_filter.mpr ⟨List.mem_flatMap.mpr ⟨f, mem, ?_⟩, by simpa using taken⟩
  cases rx <;> simp

theorem calibrationMeasurementComplete_spec {n : Fin 12} (cal : (s.oe n).cal = some c) (laser : c.phase = 1) (reading : Nat) :
    ((s.oe n).ramp = true → Done (.calibrationMeasurementComplete n reading) s fun t =>
      (t.oe n).cal = some { c with discarded := true } ∧ { t with oes := s.oes } = s)
    ∧ ((s.oe n).ramp = false → Done (.calibrationMeasurementComplete n reading) s fun t =>
      (t.laser n c.line).check = reading ∧ ∀ rx, ∀ f ∈ oeFibers n, (rx, f) ∉ c.skipped →
        let x := s.ring (ringAt rx f c.line)
        x.state ≠ 6 → t.ring (ringAt rx f c.line) = { x with state := 1, heat := 0 }) := by
  let w := s.modLaser n c.line fun l => { l with check := reading }
  have run : exec (.calibrationMeasurementComplete n reading) s =
      if (s.oe n).ramp then .next (s.modCal n fun c => { c with discarded := true })
      else .next ((w.acquireRings n c).calAdvance n) := by
    rw [exec_calibrationMeasurementComplete, execCalibrationMeasurementComplete, cal]
    exact if_neg (not_not_intro laser)
  refine ⟨fun ramp => ⟨_, run.trans (if_pos ramp), ?_, rfl⟩, fun steady => ?_⟩
  · unfold State.modCal
    rw [State.oe_modOe, if_pos rfl, cal]
    rfl
  · refine ⟨_, run.trans (if_neg (by simp [steady])), ?_, fun rx f mem taken lit => ?_⟩
    · have lasers : ((w.acquireRings n c).calAdvance n).lasers = w.lasers :=
        ((stepWork_bench n).map (·.2.1)).calAdvance (fun _ _ _ => rfl) |>.trans
          (((stepWork_bench n).map (·.2.1)).acquireRings (fun _ _ _ => rfl) c)
      rw [laser_of_lasers lasers, laser_modLaser_same]
    · have k := (stepWork_bench n).map (·.1)
      have rings : ((w.acquireRings n c).calAdvance n).rings = (w.acquireRings n c).rings := by
        unfold State.calAdvance
        rw [calOutDone_other (acquireRings_cal (s := w) cal) (show 2 ≠ 0 by decide)]
        exact k.calBackDone.trans k.calRingsDone
      rw [ring_of_rings rings]
      exact acquireRings_rings (s := w) (mem_calRings mem taken) lit

theorem laserBiasRampEnd_spec (n : Fin 12) : Done (.laserBiasRampEnd n) s fun t =>
    (t.oe n).ramp = false ∧ { t with oes := s.oes } = s ∧ ∀ c, (t.oe n).cal = some c → c.discarded = false := by
  let t := (s.modOe n fun o => { o with ramp := false }).modCal n fun c => { c with discarded := false }
  have oe : t.oe n = { s.oe n with ramp := false, cal := (s.oe n).cal.map fun c => { c with discarded := false } } := by
    rw [show t.oe n = _ from State.oe_modOe _ _ _ _, if_pos rfl, State.oe_modOe, if_pos rfl]
  refine ⟨t, rfl, by rw [oe], by simp [t, State.modCal], fun c cal => ?_⟩
  rw [oe] at cal
  obtain ⟨_, _, rfl⟩ := Option.map_eq_some_iff.mp cal
  rfl

end

/-! ## Manual moves (R196) -/

section
variable {n line f lane dst reason : Nat}

/-- A part that only one step of a fold changes is at the end as that step makes it of what it was. -/
theorem forEach_own {α β : Type} (part : State → β) {P : β → Prop} {l : List α} {s : State} {f : α → State → State} {a : α}
    (mem : a ∈ l) (distinct : l.Nodup) (own : ∀ u, part u = part s → P (part (f a u)))
    (others : ∀ b ∈ l, b ≠ a → ∀ u, part (f b u) = part u) : P (part (forEach l s f)) := by
  induction l generalizing s with
  | nil => exact absurd mem List.not_mem_nil
  | cons b l ih =>
    obtain ⟨out, distinct⟩ := List.nodup_cons.mp distinct
    obtain rfl | later := List.mem_cons.mp mem
    · have rest : part (forEach l (f a s) f) = part (f a s) := forEach_keeps part fun b hb =>
        others b (List.mem_cons_of_mem _ hb) fun same => out (same ▸ hb)
      exact rest ▸ own s rfl
    · have first := others b List.mem_cons_self (fun same => out (same ▸ later)) s
      exact ih later distinct (fun u hu => own u (hu.trans first)) fun c hc => others c (List.mem_cons_of_mem _ hc)

/-- What a standby is chosen by (R184, R185): the fiber, the rings and the lasers. -/
def State.standbys (f : Nat) (s : State) : FiberSt × Tab RingSt × Tab LaserSt × NvSt × Bool := (s.fiber f, s.bench)

theorem laneWork_standbys {e : Nat} (other : e ≠ f) : LaneWork f (State.standbys e) :=
  (laneWork_fiber other).pair (laneWork_bench f)

theorem fiber_of_standbys (h : t.standbys f = s.standbys f) : t.fiber f = s.fiber f := congrArg Prod.fst h

theorem standby_of_standbys (h : t.standbys f = s.standbys f) (order : List Nat) : t.standby f order = s.standby f order := by
  have fiber := fiber_of_standbys h
  have rings : t.rings = s.rings := congrArg (·.2.1) h
  have lasers : t.lasers = s.lasers := congrArg (·.2.2.1) h
  unfold State.standby
  congr 1
  funext line
  unfold State.standbyFree State.locked
  rw [fiber, ring_of_rings rings, laser_of_lasers lasers]

theorem fibers_notice (type tok lane src dst reason seq : Nat) :
    (s.notice f type tok lane src dst reason seq).fibers = s.fibers :=
  Unsent.enqueue (g := State.fibers) ⟨fun _ _ _ => rfl, fun u _ _ => u.count_fibers _ _ _, fun _ _ _ _ => rfl⟩ f _

theorem exchTx_startMove : ((s.startMove f lane dst reason).fiber f).exchTx =
    some ⟨(s.fiber f).nextToken, lane, lineOf (s.fiber f).txMap lane, dst, reason,
      (((((s.token f).2.stopTests false f [lineOf (s.fiber f).txMap lane, dst]).txCarry f dst 7 lane).writeOe (f / 8))).epoch,
      true, false⟩ := by
  unfold State.startMove State.fiber
  dsimp only
  rw [fibers_notice]
  exact congrArg FiberSt.exchTx ((State.fiber_modFiber _ _ _ _).trans (if_pos rfl))

/-- A lane with a standby and no exchange in its fiber moves there, but for a retired direction. -/
theorem leaveLine_moves (alive : (s.fiber f).txState ≠ 2) (idle : (s.fiber f).exchTx = none)
    (free : s.standby f permanentOrder = some dst) : s.leaveLine f lane reason = s.startMove f lane dst reason := by
  unfold State.leaveLine
  simp [alive, idle, free]

theorem lanesOf_nodup : (s.lanesOf n line).Nodup := by
  have fibers : (oeFibers n).Nodup := List.nodup_range.map fun i j same => Nat.add_left_cancel same
  refine fibers.filterMap fun f g e hf hg => ?_
  obtain ⟨i, -, rfl⟩ := Option.map_eq_some_iff.mp (Option.mem_def.mp hf)
  obtain ⟨j, -, same⟩ := Option.map_eq_some_iff.mp (Option.mem_def.mp hg)
  exact (congrArg Prod.fst same).symm

theorem laneOn_of_lanesOf {e : Nat × Nat} (h : e ∈ s.lanesOf n line) : laneOn (s.fiber e.1).txMap line = some e.2 := by
  obtain ⟨f, -, lane⟩ := List.mem_filterMap.mp h
  obtain ⟨i, on, rfl⟩ := Option.map_eq_some_iff.mp lane
  exact on

theorem lineOf_laneOn {m : List Nat} {i : Nat} (h : laneOn m line = some i) : lineOf m i = line :=
  eq_of_beq (List.find?_some h :)

/-- Every lane of a line that has a standby begins its exchange, and no other fiber's exchange touches it. -/
theorem leaveLines_move {e : Nat × Nat} (mem : e ∈ s.lanesOf n line) (alive : (s.fiber e.1).txState ≠ 2)
    (idle : (s.fiber e.1).exchTx = none) (free : s.standby e.1 permanentOrder ≠ none) :
    ((forEach (s.lanesOf n line) s fun e s => s.leaveLine e.1 e.2 reason).fiber e.1).exchTx.map
      (fun x => (x.lane, x.fromLine, some x.toLine, x.reason)) = some (e.2, line, s.standby e.1 permanentOrder, reason) := by
  refine forEach_own (State.standbys e.1) (P := fun p => p.1.exchTx.map
    (fun x => (x.lane, x.fromLine, some x.toLine, x.reason)) = some (e.2, line, s.standby e.1 permanentOrder, reason))
    mem lanesOf_nodup (fun u same => ?_) fun d hd other u => ?_
  · obtain ⟨dst, free⟩ := Option.ne_none_iff_exists'.mp free
    have fiber := fiber_of_standbys same
    have moves := leaveLine_moves (s := u) (f := e.1) (lane := e.2) (reason := reason) (dst := dst)
      (by rw [fiber]; exact alive) (by rw [fiber]; exact idle) (by rw [standby_of_standbys same, free])
    have line : lineOf (s.fiber e.1).txMap e.2 = line := lineOf_laneOn (laneOn_of_lanesOf mem)
    show ((u.leaveLine e.1 e.2 reason).fiber e.1).exchTx.map _ = _
    rw [moves, exchTx_startMove, fiber, line, free]
    rfl
  · refine (laneWork_standbys fun same => other ?_).leaveLine _ _
    have here := laneOn_of_lanesOf hd
    rw [← same, laneOn_of_lanesOf mem] at here
    exact Prod.ext same.symm (Option.some.inj here).symm

theorem manualMove_spec {slot : Nat} (accepts : Accepts s slot opCommand 0x5007 0) :
    let v := s.gov 0x5006 0
    let k := v / 256
    let lanes := s.lanesOf k (v % 256)
    let moving : Prop := (s.oe k).cal ≠ none ∨ ∃ f ∈ oeFibers k, (s.fiber f).exchTx ≠ none ∨ (s.fiber f).exchRx ≠ none
    let refused (ab : Nat) : Prop := Answers (.manualMove slot) s slot opCommand 0x5007 0 ab fun u => u = s
    (11 < k ∨ 17 < v % 256 → refused 0x50000011)
    ∧ (k ≤ 11 → v % 256 ≤ 17 → ((∃ e ∈ lanes, s.standby e.1 permanentOrder = none) → refused 0x50000010)
      ∧ ((∀ e ∈ lanes, s.standby e.1 permanentOrder ≠ none) → (moving → refused 0x50000012)
        ∧ (¬ moving → Answers (.manualMove slot) s slot opCommand 0x5007 0 0 fun u => ∀ e ∈ lanes,
            (s.fiber e.1).txState ≠ 2 → ((u.fiber e.1).exchTx.map fun x => (x.lane, x.fromLine, some x.toLine, x.reason)) =
              some (e.2, v % 256, s.standby e.1 permanentOrder, 7)))) := by
  intro v k lanes moving refused
  have run : exec (.manualMove slot) s = .next
      (let r := if s.manualRule k (v % 256) ≠ 0 then (s, s.manualRule k (v % 256))
        else (forEach lanes s fun e s => s.leaveLine e.1 e.2 7, 0)
      r.1.answer slot opCommand 0x5007 0 r.2) := congrArg Host.Outcome.next (accepts.command _)
  have refuses {ab : Nat} (rule : s.manualRule k (v % 256) = ab) (some : ab ≠ 0) : refused ab := by
    rw [rule, if_pos some] at run
    exact ⟨s, run, rfl⟩
  have stuck : ((lanes.any fun e => (s.standby e.1 permanentOrder).isNone) = true) ↔
      ∃ e ∈ lanes, s.standby e.1 permanentOrder = none := by simp
  have busy : (((s.oe k).cal.isSome
      || (oeFibers k).any fun f => (s.fiber f).exchTx.isSome || (s.fiber f).exchRx.isSome) = true) ↔ moving := by simp [moving, Option.isSome_iff_ne_none]
  refine ⟨fun beyond => refuses (if_pos beyond) (by decide), fun oe line => ?_⟩
  have known : ¬ (k > 11 ∨ v % 256 > 17) := by omega
  refine ⟨fun lacking => refuses ((if_neg known).trans (if_pos (stuck.mpr lacking))) (by decide), fun free => ?_⟩
  have unstuck := fun h => let ⟨e, mem, lacks⟩ := stuck.mp h; free e mem lacks
  refine ⟨fun moves => refuses ((if_neg known).trans ((if_neg unstuck).trans (if_pos (busy.mpr moves)))) (by decide),
    fun still => ?_⟩
  have rule : s.manualRule k (v % 256) = 0 :=
    (if_neg known).trans ((if_neg unstuck).trans (if_neg fun h => still (busy.mp h)))
  rw [rule, if_neg (not_not_intro rfl)] at run
  refine ⟨_, run, fun e mem alive => leaveLines_move mem alive (not_not.mp fun exchanging => ?_) (free e mem)⟩
  exact still (.inr ⟨e.1, mem_oeFibers_of_lanesOf mem, .inl exchanging⟩)

end

/-! ## Shutters (R199) -/

/-- Only fiber f changes, besides the OE's registers and the log. -/
theorem shutter_next {i : Instr} {f : Fin 96} {h : FiberSt → FiberSt} (fibers : u.fibers = s.fibers) (links : u.links = s.links)
    (rings : u.rings = s.rings) (lanes : u.txLanes = s.txLanes)
    (run : exec i s = .next ((u.modFiber f h).writeOe (f / 8))) : Done i s fun t => t.fiber f = h (s.fiber f)
      ∧ (∀ g, g ≠ f.val → t.fiber g = s.fiber g) ∧ t.links = s.links ∧ t.rings = s.rings ∧ t.txLanes = s.txLanes := by
  have same (k : Nat) : u.fiber k = s.fiber k := congrArg (fun l => tabGet (fun _ => ({} : FiberSt)) l k) fibers
  have kept {β : Type} {g : State → β} (oe : ∀ (u : State) (l : List (Nat × Nat × Nat)),
      g (u.modOe (f / 8) fun o => { o with requests := o.requests ++ l }) = g u)
      (send : ∀ (u : State) (o : Out), g (u.send o) = g u) :
      g ((u.modFiber f h).writeOe (f / 8)) = g (u.modFiber f h) := writeOe_keeps g oe send
  have fiber (k : Nat) : (((u.modFiber f h).writeOe (f / 8)).fiber k) = if k = f.val then h (s.fiber f) else s.fiber k := by
    rw [kept (g := fun t => t.fiber k) (fun _ _ => rfl) fun _ _ => rfl, State.fiber_modFiber, same, same]
  exact ⟨_, run, (fiber f).trans (if_pos rfl), fun k other => (fiber k).trans (if_neg other),
    (kept (g := State.links) (fun _ _ => rfl) fun _ _ => rfl).trans links,
    (kept (g := State.rings) (fun _ _ => rfl) fun _ _ => rfl).trans rings,
    (kept (g := State.txLanes) (fun _ _ => rfl) fun _ _ => rfl).trans lanes⟩

theorem shutters_spec (f : Fin 96) :
    let x := s.fiber f
    let now (i : Instr) (v : FiberSt) : Prop := Done i s fun t => t.fiber f = v ∧ (∀ g, g ≠ f.val → t.fiber g = s.fiber g)
      ∧ t.links = s.links ∧ t.rings = s.rings ∧ t.txLanes = s.txLanes
    (x.los = true → x.shutterClosed = false → x.probing = false → now (.shutterClose f) { x with shutterClosed := true })
    ∧ (x.shutterClosed = true → now (.shutterProbeOpen f) { x with shutterClosed := false, probing := true })
    ∧ (x.probing = true → now (.shutterProbeClose f) { x with shutterClosed := true, probing := false }) := by
  intro x now
  refine ⟨fun los opened idle => ?_, fun closed => ?_, fun probing => ?_⟩
  · exact shutter_next (u := s.log 0x500C srcHub f) (h := fun x => { x with shutterClosed := true }) rfl rfl rfl rfl
      (if_neg (by
        rw [show (s.fiber f).los = true from los, show (s.fiber f).shutterClosed = false from opened,
          show (s.fiber f).probing = false from idle]
        decide))
  · exact shutter_next (h := fun x => { x with shutterClosed := false, probing := true }) rfl rfl rfl rfl (if_pos closed)
  · exact shutter_next (h := fun x => { x with shutterClosed := true, probing := false }) rfl rfl rfl rfl (if_pos probing)

/-- Settles O34, command by command: each lemma says what its command establishes, and the lane work, moves and step work that
follow leave that alone. -/
theorem ringsLasersAndCalibration : Obligations.RingsLasersAndCalibration := by
  unfold Obligations.RingsLasersAndCalibration
  refine ⟨fun r s => ⟨ringAcquisition_spec, ringSweepComplete_spec, ringAcquireComplete_spec, ringVerifyComplete_spec,
    ringNarrowComplete_spec, ringTrack_spec⟩, fun s n line => ⟨mpdSample_spec n line, laserDailyMean_spec n line,
    marginWarningExpiry_spec n line, calibrationStepTime_spec, ?_, ?_, ?_, laserBiasRampEnd_spec n, ?_, shutters_spec⟩⟩
  · exact fun c window cal lit start waits => calibrationWindowStart_spec n.isLt window cal lit start waits
  · exact fun c cal => calibrationStepTimeout_spec cal
  · exact fun c reading cal laser => calibrationMeasurementComplete_spec cal laser reading
  · exact fun slot accepts => manualMove_spec accepts

/-! ## A stray exchange (R186 step 4) -/

/-- An exchange that leaves a line beyond the 18 of a fiber: by its key, lane 18 of fiber 0 is lane 0 of fiber 1. -/
def strayExchange : Exchange := { token := 0, lane := 0, fromLine := 18, toLine := 0, reason := 5, epoch := 0 }

/-- Fiber 1 moves lane 0 by that exchange to line 0, whose ring is LOCKED and whose laser is lit; the laser that line 18
names has had its fade warning. -/
def strayMove : State :=
  { rings := [(18, { state := 4 })], txLanes := [(18, { state := 7 })], lasers := [(18, { warned := true })]
    fibers := [(1, { exchTx := some strayExchange })] }

/-- The SWITCHED notice that ends it. -/
def straySwitched : Notice := { token := 0, reason := 5, toLine := 0, fromLine := 18, lane := 0, fiber := 1, type := 0x41 }

/-- The faded laser is switched off once its line carries no lane (R194), and the lane just moved goes DOWN with it. -/
theorem strayMove_darkens : ((strayMove.onSwitched 1 straySwitched).txLane 1 0).state = 0 := by decide

/-- Refutes O35: its clause on SWITCHED does not bound the line that the exchange leaves, and a line of 18 lets the
switching off of a faded laser take the new lane DOWN although its own ring is LOCKED and its laser lit. -/
theorem not_steeringExchangesMoveLanes : ¬ Obligations.SteeringExchangesMoveLanes := by
  unfold Obligations.SteeringExchangesMoveLanes
  intro holds
  obtain ⟨-, -, -, -, switched, -⟩ := holds 1 straySwitched strayMove
  obtain ⟨t, run, -, calm⟩ := (switched strayExchange rfl rfl rfl).1 (by decide)
  have lit : strayMove.txLit 1 strayExchange.toLine = true := by decide
  have serves : (t.txLane 1 0).state = 4 := (((calm ⟨rfl, rfl⟩).2 (by decide)).1 lit).1
  cases run
  exact absurd (strayMove_darkens.symm.trans serves) (by decide)

end Sys2Proof.Machine
end
